-- ==== Sys2Proof/Word.lean ====
section
/-! DEFINITION. The word types of the BZ4096: bytes, double words, beat values (spec/00_scope.md §00.4). -/

namespace Sys2Proof

/-- One byte on any path of the device. -/
abbrev Byte := BitVec 8

/-- One double word: a register of a BAR0 window, an engine register, a program word. -/
abbrev Dw := BitVec 32

/-- A value of the 64-bit beat counter (R157). -/
abbrev Beat := BitVec 64

end Sys2Proof
end

