-- ==== Sys2Proof/Syntax.lean ====
section
/-! DEFINITION. The commands of the block: one constructor per row of spec/opcode_table.json, in the table's order.
Every command carries first `b`, the elapsed beat at which it takes place (log 14); then its operands. -/

namespace Sys2Proof

/-- One memory write TLP: the DW-aligned BAR0 offset of its first DW, its DWs, the byte enables of the first and the
last DW (for one DW only `beFirst` counts), and whether it is poisoned. Middle DWs are fully enabled. -/
structure MemWrite where
  off : Nat
  data : List Dw
  beFirst : BitVec 4
  beLast : BitVec 4
  poisoned : Bool
  deriving DecidableEq, Repr

/-- One memory read TLP: the DW-aligned BAR0 offset, the length in DWs, and the byte enables. -/
structure MemRead where
  off : Nat
  dws : Nat
  beFirst : BitVec 4
  beLast : BitVec 4
  deriving DecidableEq, Repr

/-- The PCIe capabilities that Table 11-2 names. -/
inductive PcieCap where
  | powerManagement
  | express
  | msix
  | aer
  | ari
  | sriov
  | serial
  | msi
  | ats
  | pri
  | pasid
  | tph
  | atomicCompleter
  | ltr
  | l1Substates
  | resizableBar
  deriving DecidableEq, Repr

/-- A field of configuration space that the spec names: the header's (R2, R254, R259), a capability's presence, and the fields
of the capabilities (Table 11-2, R190, R255, R277). `bar k` and `vfBar k` are DW k of the six. -/
inductive CfgField where
  | classCode
  | subsystemVendor
  | subsystemId
  | interruptPin
  | expansionRom
  | busMaster
  | bar (k : Nat)
  | vfBar (k : Nat)
  | present (c : PcieCap)
  | pmState
  | pmeEn
  | mpsSupported
  | mps
  | flrCapable
  | extendedTags
  | tenBitCompleter
  | aspmSupport
  | aspmControl
  | msixControl
  | msixTable
  | msixPba
  | aerStatus
  | totalVfs
  | initialVfs
  | firstVfOffset
  | vfStride
  | numVfs
  | vfEnable
  | serialNumber (hi : Bool)
  deriving DecidableEq, Repr

/-- What a PCIe configuration request does that the block's behaviour depends on. -/
inductive CfgOp where
  /-- A read of a field. -/
  | read (f : CfgField)
  /-- A write of DW k of BAR0 (R259). -/
  | barWrite (k : Nat) (v : Dw)
  /-- A write of DW k of the SR-IOV capability's VF BAR0 (R259). -/
  | vfBarWrite (k : Nat) (v : Dw)
  /-- A write of Max_Payload_Size (Table 11-2). -/
  | mpsWrite (v : BitVec 3)
  /-- ASPM Control enables L1 on the link, or not (R255, R358). -/
  | aspmControl (l1 : Bool)
  /-- A write of 1s to the AER status bits of R258. -/
  | aerClear (ur poisoned : Bool)
  /-- A read of the Device ID, Vendor ID and Revision ID. -/
  | readId
  /-- A write of MSI-X Enable and Function Mask. -/
  | msixControl (enable mask : Bool)
  /-- A write of PME_En (physical function). -/
  | pmeEnable (v : Bool)
  /-- Any other request. -/
  | other
  deriving DecidableEq, Repr

/-- A crown frame of 40 edges or more, but for its opcode: ADDRESS, DATA, CRC, and whether edges followed the 40th. -/
structure CrownFrame where
  addr : Byte
  data : BitVec 16
  crc : Byte
  extra : Bool
  deriving DecidableEq, Repr

/-- The header and trailer of a received lane frame (Table 16-3): TYPE, FLAGS, LEN, LSEQ, CREDIT, CRC. A TYPE other than that of
the command's row is one that is not in Table 16-4. -/
structure LaneHdr where
  kind : Byte
  flags : Byte
  len : Nat
  lseq : Dw
  credit : BitVec 16
  crc : Dw
  deriving DecidableEq, Repr

/-- What a received pair frame carries beside its TYPE (Table 16-5): SFD, FLAGS, SESSION, ARG, CRC. -/
structure PairFrame where
  sfd : Byte
  flags : Byte
  session : Dw
  arg : Dw
  crc : BitVec 16
  deriving DecidableEq, Repr

/-- A mirror entry (Table 16-7). -/
structure MirrorEntry where
  src : Nat
  code : Nat
  repend : Bool
  deriving DecidableEq, Repr

/-- What the scrubber or a reader finds in one word of a protected array (Table 17-2). -/
inductive ScrubErr where
  | clean
  | corrected
  | copyBad
  | uncorrectable
  deriving DecidableEq, Repr

/-- The commands. -/
inductive Instr where
  /-- BANK_SUPPLY_LOSS (R22): the bank is VIOB (else VIOA). -/
  | bankSupplyLoss (b : Nat) (viob : Bool)
  /-- GLITCH_FILTER_CHANGE (R23): the synchronized samples of IRQ_IN[n] have shown `level` from beat `since` to beat b. -/
  | glitchFilterChange (b : Nat) (n : Nat) (level : Bool) (since : Nat := 0)
  /-- STORM_WINDOW_CLOSE (R119). -/
  | stormWindowClose (b : Nat) (src : Nat)
  /-- ALARM_FIRE (R34): alarm An. -/
  | alarmFire (b : Nat) (n : Nat)
  /-- ALARM_COMPARE_WRITE (R35): principal (0 Owner, n Tenant Tn), alarm, value. -/
  | alarmCompareWrite (b : Nat) (pr : Nat) (n : Nat) (v : Nat)
  /-- ALARM_PERIOD_WRITE (R35): as ALARM_COMPARE_WRITE. -/
  | alarmPeriodWrite (b : Nat) (pr : Nat) (n : Nat) (v : Nat)
  /-- ALARM_ARM_WRITE (R33): as ALARM_COMPARE_WRITE. -/
  | alarmArmWrite (b : Nat) (pr : Nat) (n : Nat) (v : Nat)
  /-- TOD_LOAD (R159): the value loaded. -/
  | todLoad (b : Nat) (v : Beat)
  /-- PEND_SET (R38): DW k of the function's array. -/
  | pendSet (b : Nat) (fn : Nat) (k : Nat) (mask : Dw)
  /-- PEND_CLR (R39): DW k of the function's array. -/
  | pendClr (b : Nat) (fn : Nat) (k : Nat) (mask : Dw)
  /-- ENABLE_SET (R124): DW k of the function's array. -/
  | enableSet (b : Nat) (fn : Nat) (k : Nat) (mask : Dw)
  /-- ENABLE_CLR (R124): DW k of the function's array. -/
  | enableClr (b : Nat) (fn : Nat) (k : Nat) (mask : Dw)
  /-- SET_PENDING (R38): dictionary action 0xF008. -/
  | setPending (b : Nat) (pr : Nat) (el : Nat) (v : Nat)
  /-- CLEAR_PENDING (R39): dictionary action 0xF009. -/
  | clearPending (b : Nat) (pr : Nat) (el : Nat) (v : Nat)
  /-- DOORBELL_WRITE (R43): one memory write TLP into the doorbell window. -/
  | doorbellWrite (b : Nat) (fn : Nat) (w : MemWrite)
  /-- DOORBELL_ARRIVAL (R45): the oldest accepted doorbell's bytes are all in its buffer. -/
  | doorbellArrival (b : Nat)
  /-- DOORBELL_READ (R44): one memory read in the doorbell window. -/
  | doorbellRead (b : Nat) (fn : Nat) (r : MemRead)
  /-- PAYLOAD_READ (R56): one memory read in the payload read window. -/
  | payloadRead (b : Nat) (fn : Nat) (r : MemRead)
  /-- FREE (R67): a handle written to FREE of a mailbox page. -/
  | free (b : Nat) (fn : Nat) (page : Nat) (h : Dw)
  /-- COMPLETE_FREE_PAIR (R118): the 64-bit pair at 0x008. -/
  | completeFreePair (b : Nat) (fn : Nat) (page : Nat) (d : Dw) (h : Dw)
  /-- CLAIM (R113): a 32-bit read of CLAIM; mm: the two results of a coupled pair differ. -/
  | claim (b : Nat) (fn : Nat) (page : Nat) (mm : Bool)
  /-- CLAIM64 (R267): a 64-bit read of CLAIM. -/
  | claim64 (b : Nat) (fn : Nat) (page : Nat) (mm : Bool)
  /-- COMPLETE (R115): a descriptor written to COMPLETE. -/
  | complete (b : Nat) (fn : Nat) (page : Nat) (d : Dw)
  /-- THRESHOLD_WRITE (R114): a write of THRESHOLD. -/
  | thresholdWrite (b : Nat) (fn : Nat) (page : Nat) (v : BitVec 8) (mm : Bool)
  /-- SOURCE_QUARANTINE (R120): QUARANTINE 1. -/
  | sourceQuarantine (b : Nat) (pr : Nat) (el : Nat)
  /-- SOURCE_RELEASE (R120): QUARANTINE 0. -/
  | sourceRelease (b : Nat) (pr : Nat) (el : Nat)
  /-- ESCAPEMENT_ISSUE (R139): an issue decision of escapement e. -/
  | escapementIssue (b : Nat) (e : Nat) (mm : Bool)
  /-- DECISION_RETRY (R153): the pair's recomputation; mm: it mismatches again. -/
  | decisionRetry (b : Nat) (e : Nat) (mm : Bool)
  /-- MIGRATION_END (R154): even escapement of the failed pair. -/
  | migrationEnd (b : Nat) (e : Nat)
  /-- SYNC_RELEASE (R137): the release decision of escapement e. -/
  | syncRelease (b : Nat) (e : Nat) (mm : Bool)
  /-- CLAIM_TIMEOUT (R147): the delivery under tag at the target. -/
  | claimTimeout (b : Nat) (tgt : Nat) (tag : Nat) (mm : Bool)
  /-- TGT_ENABLE_WRITE (R126): TGT_ENABLE. -/
  | tgtEnableWrite (b : Nat) (pr : Nat) (el : Nat) (v : Nat)
  /-- TARGET_QUARANTINE (R149): TGT_QUARANTINE 1. -/
  | targetQuarantine (b : Nat) (el : Nat) (mm : Bool)
  /-- TARGET_RELEASE (R149): TGT_QUARANTINE 0. -/
  | targetRelease (b : Nat) (el : Nat)
  /-- WHOLE_SECOND (R161). -/
  | wholeSecond (b : Nat)
  /-- PPS_OUT_PULSE_END (R161). -/
  | ppsOutPulseEnd (b : Nat)
  /-- PPS_EDGE (R163): the synchronized edge is seen at beat b. -/
  | ppsEdge (b : Nat)
  /-- PPS_SIGNAL_LOSS (R168). -/
  | ppsSignalLoss (b : Nat)
  /-- BALANCE_TICK (R169). -/
  | balanceTick (b : Nat)
  /-- BAL_SPAN_END (R170): the 32,768th tick after the span's first. -/
  | balSpanEnd (b : Nat)
  /-- STEERING_PERIOD_BOUNDARY (R175). -/
  | steeringPeriodBoundary (b : Nat)
  /-- REGULATOR_UPDATE (R180): mm: the comparison of a coupled pair differs for its quarantines. -/
  | regulatorUpdate (b : Nat) (mm : Bool)
  /-- FEAT_ACCEPT_WRITE (R199): FEAT_ACCEPT_LO or _HI under byte enables. -/
  | featAcceptWrite (b : Nat) (fn : Nat) (hi : Bool) (be : BitVec 4) (v : Dw)
  /-- FEATURES_OK_REQUEST (R200): a 1 written to FEATURES_OK. -/
  | featuresOkRequest (b : Nat) (fn : Nat)
  /-- BUS_MASTER_ENABLE_CHANGE (R192). -/
  | busMasterEnableChange (b : Nat) (fn : Nat) (v : Bool)
  /-- FLR (R201). -/
  | flr (b : Nat) (fn : Nat)
  /-- VF_ENABLE_CHANGE (R201): VF Enable and NumVFs as written. -/
  | vfEnableChange (b : Nat) (en : Bool) (num : Nat)
  /-- TEN_RESET_QUIESCE (R202): TEN_RESET 1 at element n. -/
  | tenResetQuiesce (b : Nat) (n : Nat)
  /-- TEN_RESET_ISOLATE (R201): TEN_RESET 2 at element n. -/
  | tenResetIsolate (b : Nat) (n : Nat)
  /-- TENANT_RESET_BEAT (R204). -/
  | tenantResetBeat (b : Nat) (n : Nat)
  /-- TENANT_RESET_END (R203). -/
  | tenantResetEnd (b : Nat) (n : Nat)
  /-- DICT_GET (R225): DICT_CMD op 1. -/
  | dictGet (b : Nat) (fn : Nat) (seq : Byte)
  /-- DICT_SET (R225): DICT_CMD op 2; `mm`: a coupled pair's results differ on the decision that the write asks for (R153), a
  pair frame it sends collides (R378), a page program fails (R324). -/
  | dictSet (b : Nat) (fn : Nat) (seq : Byte) (mm : Bool := false)
  /-- DICT_GET_DRAFT (R225): DICT_CMD op 3. -/
  | dictGetDraft (b : Nat) (fn : Nat) (seq : Byte)
  /-- DICT_DONE (R226). -/
  | dictDone (b : Nat) (fn : Nat)
  /-- WIND (R215): by the principal; page: through the global page. -/
  | wind (b : Nat) (pr : Nat) (page : Bool)
  /-- WIND_BEAT (R219): the wind being checked ends. -/
  | windBeat (b : Nat)
  /-- DRAFT_DISCARD (R221). -/
  | draftDiscard (b : Nat) (pr : Nat) (v : Nat)
  /-- DRAFT_DEFAULTS (R221). -/
  | draftDefaults (b : Nat) (pr : Nat) (v : Nat)
  /-- SAVE_SETTINGS (R337). -/
  | saveSettings (b : Nat) (v : Nat)
  /-- SAVE_DONE (R337): the flash accepted every erase and program. -/
  | saveDone (b : Nat) (ok : Bool)
  /-- REQUEST (R245): the address and port it came from and went to, and the UDP payload. -/
  | request (b : Nat) (addr : Nat) (frame : List Byte) (dst : Nat := 0)
  /-- NR_GET (R245): client entry c. -/
  | nrGet (b : Nat) (c : Nat) (idx : Nat) (el : Nat)
  /-- NR_SET (R246). -/
  | nrSet (b : Nat) (c : Nat) (idx : Nat) (el : Nat) (v : List Byte)
  /-- NR_ACTION (R246). -/
  | nrAction (b : Nat) (c : Nat) (idx : Nat) (el : Nat) (v : List Byte)
  /-- NR_GET_DRAFT (R245). -/
  | nrGetDraft (b : Nat) (c : Nat) (idx : Nat) (el : Nat)
  /-- SUBSCRIBE (R248). -/
  | subscribe (b : Nat) (c : Nat) (addr : Nat) (idx : Nat) (el : Nat) (v : List Byte)
  /-- UNSUBSCRIBE (R248). -/
  | unsubscribe (b : Nat) (c : Nat) (idx : Nat) (el : Nat)
  /-- PING (R244): as REQUEST. -/
  | ping (b : Nat) (addr : Nat) (frame : List Byte) (dst : Nat := 0)
  /-- WAKE (R244): as REQUEST. -/
  | wake (b : Nat) (addr : Nat) (frame : List Byte) (dst : Nat := 0)
  /-- RESET (R244): as REQUEST. -/
  | reset (b : Nat) (addr : Nat) (frame : List Byte) (dst : Nat := 0)
  /-- REPORT_TICK (R250). -/
  | reportTick (b : Nat)
  /-- GASP_ROUND (R351). -/
  | gaspRound (b : Nat)
  /-- ARP_REQUEST (R234): the address asked for; the asking MAC address. -/
  | arpRequest (b : Nat) (target : Nat) (sender : Nat)
  /-- ARP_REPLY (R234). -/
  | arpReply (b : Nat) (ip : Nat) (mac : Nat)
  /-- NEIGHBOUR_SOLICITATION (R234): 128-bit address asked for; the asking MAC address. -/
  | neighbourSolicitation (b : Nat) (target : Nat) (sender : Nat)
  /-- NEIGHBOUR_ADVERTISEMENT (R235). -/
  | neighbourAdvertisement (b : Nat) (target : Nat) (mac : Nat)
  /-- ECHO_REQUEST (R234): the address it came from and went to, and its data. -/
  | echoRequest (b : Nat) (addr : Nat) (data : List Byte) (dst : Nat := 0)
  /-- UNHANDLED_FRAME (R234). -/
  | unhandledFrame (b : Nat)
  /-- DIAL_PEND_SET (R265). -/
  | dialPendSet (b : Nat) (fn : Nat) (hi : Bool) (v : Dw)
  /-- DIAL_PEND_CLR (R265). -/
  | dialPendClr (b : Nat) (fn : Nat) (hi : Bool) (v : Dw)
  /-- DIAL_EN_SET (R264). -/
  | dialEnSet (b : Nat) (fn : Nat) (hi : Bool) (v : Dw)
  /-- DIAL_EN_CLR (R264). -/
  | dialEnClr (b : Nat) (fn : Nat) (hi : Bool) (v : Dw)
  /-- MSIX_PENDING_SEND (R279). -/
  | msixPendingSend (b : Nat) (fn : Nat) (vec : Nat)
  /-- REGISTER_WRITE (R269): one memory write TLP to a BAR0 offset. -/
  | registerWrite (b : Nat) (fn : Nat) (w : MemWrite)
  /-- ATOMICOP_REQUEST (R258). -/
  | atomicopRequest (b : Nat) (fn : Nat)
  /-- LOCKED_READ (R258). -/
  | lockedRead (b : Nat) (fn : Nat)
  /-- CONFIGURATION_REQUEST (R296). -/
  | configurationRequest (b : Nat) (fn : Nat) (op : CfgOp)
  /-- PERST_ASSERT (R283). -/
  | perstAssert (b : Nat)
  /-- HOT_RESET (R283). -/
  | hotReset (b : Nat)
  /-- LINK_DOWN (R283). -/
  | linkDown (b : Nat)
  /-- D3HOT_ENTRY (R354). -/
  | d3hotEntry (b : Nat)
  /-- POWER_ON (R280): PORST_N low (held), or a main supply outside its window. -/
  | powerOn (b : Nat) (held : Bool)
  /-- RAIL_BROWNOUT (R346). -/
  | railBrownout (b : Nat)
  /-- RESET_PIN (R438): RESET_N low for that many units of 10 ns so far. -/
  | resetPin (b : Nat) (low : Nat)
  /-- CLOCK_FAIL (R280). -/
  | clockFail (b : Nat)
  /-- RESET_REQ_L2_COLD (R281). -/
  | resetReqL2Cold (b : Nat)
  /-- RESET_REQ_L2_WARM (R281). -/
  | resetReqL2Warm (b : Nat)
  /-- RESET_REQ_L3 (R281). -/
  | resetReqL3 (b : Nat)
  /-- LEVEL_RESET_START (R281). -/
  | levelResetStart (b : Nat)
  /-- WDOG_TIMEOUT_WRITE (R284). -/
  | wdogTimeoutWrite (b : Nat) (v : Nat)
  /-- WDOG_KICK (R284). -/
  | wdogKick (b : Nat) (v : Nat)
  /-- WATCHDOG (R284). -/
  | watchdog (b : Nat)
  /-- REG_LOCKUP (R285). -/
  | regLockup (b : Nat)
  /-- REG_LOCKUPS_CLEAR (R285). -/
  | regLockupsClear (b : Nat)
  /-- BLK_RESET_QUIESCE (R290): element of Table 12-5; mm: the two results of a coupled pair differ for its revocations. -/
  | blkResetQuiesce (b : Nat) (el : Nat) (mm : Bool := false)
  /-- BLK_RESET_ISOLATE (R290): as BLK_RESET_QUIESCE. -/
  | blkResetIsolate (b : Nat) (el : Nat) (mm : Bool := false)
  /-- QUIESCE_DRAINED (R291). -/
  | quiesceDrained (b : Nat) (el : Nat)
  /-- BLK_TIMEOUT (R291); `mm`: the coupled pairs' results differ on the revocations of forwards (R153). -/
  | blkTimeout (b : Nat) (el : Nat) (mm : Bool := false)
  /-- BLOCK_RESET_END (R292). -/
  | blockResetEnd (b : Nat) (el : Nat)
  /-- SUPPLY_GOOD (R295). -/
  | supplyGood (b : Nat)
  /-- PLL_LOCK (R295): the strap balls as sampled. -/
  | pllLock (b : Nat) (straps : BitVec 5)
  /-- OPTION_LOAD (R307). -/
  | optionLoad (b : Nat)
  /-- SRAM_BIST (R301). -/
  | sramBist (b : Nat) (ok : Bool)
  /-- DDR_TRAINING (R299): 0 no device answers, 512 or 1024; 1 a training failure. -/
  | ddrTraining (b : Nat) (mib : Nat)
  /-- STATE_TABLE_INIT (R295). -/
  | stateTableInit (b : Nat)
  /-- TAIL_RECOVERY (R411). -/
  | tailRecovery (b : Nat)
  /-- REGULATOR_BOOT (R300); `flash`: the flash passes the checks of R324. -/
  | regulatorBoot (b : Nat) (flash : Bool := true)
  /-- SETTINGS_LOAD (R297). -/
  | settingsLoad (b : Nat)
  /-- READY (R295). -/
  | ready (b : Nat)
  /-- START_TIMEOUT (R301). -/
  | startTimeout (b : Nat)
  /-- START_FAILED_RESET (R302). -/
  | startFailedReset (b : Nat)
  /-- EXTEST (R305). -/
  | extest (b : Nat)
  /-- SAMPLE_PRELOAD (R305). -/
  | samplePreload (b : Nat)
  /-- IDCODE (R305). -/
  | idcode (b : Nat)
  /-- CLAMP (R305). -/
  | clamp (b : Nat)
  /-- HIGHZ (R305). -/
  | highz (b : Nat)
  /-- BYPASS (R305), by its code or by one that Table 12-12 does not list. -/
  | bypass (b : Nat) (code : Byte := 0xFF)
  /-- CORE_RESET (R305). -/
  | coreReset (b : Nat)
  /-- FLASH_SPI (R305): FLASH_XFER at Update-DR; what SPI_IO1 carries. -/
  | flashSpi (b : Nat) (xfer : BitVec 16) (miso : Byte)
  /-- NOP (R316). -/
  | nop (b : Nat) (f : CrownFrame)
  /-- READ (R317). -/
  | read (b : Nat) (f : CrownFrame)
  /-- UNLOCK_A (R318). -/
  | unlockA (b : Nat) (f : CrownFrame)
  /-- UNLOCK_B (R318). -/
  | unlockB (b : Nat) (f : CrownFrame)
  /-- LATCH_SET (R320). -/
  | latchSet (b : Nat) (f : CrownFrame)
  /-- LATCH_CLR (R320). -/
  | latchClr (b : Nat) (f : CrownFrame)
  /-- CROWN_SHORT_FRAME (R316): the rising edges and the bits sampled at them, first bit highest. -/
  | crownShortFrame (b : Nat) (edges : Nat) (bits : BitVec 40 := 0)
  /-- VBAK_LOSS (R310). -/
  | vbakLoss (b : Nat)
  /-- MAIN_SUPPLY_LEAVES_WINDOW (R312). -/
  | mainSupplyLeavesWindow (b : Nat)
  /-- FW_CONFIRM (R330). -/
  | fwConfirm (b : Nat) (v : Nat)
  /-- FW_REJECT (R331). -/
  | fwReject (b : Nat) (v : Nat)
  /-- FW_STAGE_OPEN (R339). -/
  | fwStageOpen (b : Nat)
  /-- FW_STAGE_DATA (R339); `bad`: the page program fails (R324). -/
  | fwStageData (b : Nat) (k : Nat) (v : List Byte) (bad : Bool := false)
  /-- FW_STAGE_CLOSE (R339). -/
  | fwStageClose (b : Nat)
  /-- FW_STAGE_ABORT (R339). -/
  | fwStageAbort (b : Nat)
  /-- STAGE_ERASE_DONE (R339). -/
  | stageEraseDone (b : Nat) (ok : Bool)
  /-- STAGE_VERIFY_DONE (R339). -/
  | stageVerifyDone (b : Nat)
  /-- FW_ACTIVATE_TRIAL (R340). -/
  | fwActivateTrial (b : Nat)
  /-- FW_ACTIVATE_DEFAULTS (R340). -/
  | fwActivateDefaults (b : Nat)
  /-- TRIAL_WINDOW_END (R329). -/
  | trialWindowEnd (b : Nat)
  /-- TRIAL_NOT_RUNNING (R331). -/
  | trialNotRunning (b : Nat)
  /-- SETTINGS_MIGRATION_DONE (R336). -/
  | settingsMigrationDone (b : Nat) (ok : Bool)
  /-- ADC_CONVERSION (R344): the 12-bit code converted. -/
  | adcConversion (b : Nat) (code : Nat)
  /-- SUPPLY_ALARM (R347): 0 FEED_HIGH, 1 IBV_LOW, 2 IBV_HIGH, established or cleared; the comparator input's code nearest the
  reference since beat `since`. -/
  | supplyAlarm (b : Nat) (k : Nat) (on : Bool) (level since : Nat := 0)
  /-- FEED_WARNING (R348): the highest code of SNS_FEED since beat `since`. -/
  | feedWarning (b : Nat) (level since : Nat := 0)
  /-- FEED_RECOVERY (R349): the lowest code of SNS_FEED since beat `since`. -/
  | feedRecovery (b : Nat) (level since : Nat := 0)
  /-- GASP_COMMIT (R350). -/
  | gaspCommit (b : Nat)
  /-- GASP_REARM (R352): the lowest code of SNS_FEED since beat `since`. -/
  | gaspRearm (b : Nat) (level since : Nat := 0)
  /-- QUIET_ENTER (R354). -/
  | quietEnter (b : Nat) (v : Nat)
  /-- QUIET_ENTRY_BEGIN (R355). -/
  | quietEntryBegin (b : Nat)
  /-- QUIET_DRAIN_END (R355); mm: the two results of a coupled pair differ for its withdrawals; r4, r9: the PHY's advertisement,
  registers 4 and 9, as the device reads them (R359). -/
  | quietDrainEnd (b : Nat) (mm : Bool := false) (r4 r9 : BitVec 16 := 0)
  /-- QUIET_WAKE (R361): bit of WAKE_CAUSE, and the waking source for bit 0. -/
  | quietWake (b : Nat) (cause : Nat) (src : Nat)
  /-- WAKE_RESUME (R357). -/
  | wakeResume (b : Nat)
  /-- LANE_RETRAIN (R366). -/
  | laneRetrain (b : Nat)
  /-- LANE_LOSS (R367): 16 invalid sync headers within 64 blocks, or (`silent`) no frame for 4 × HB_PERIOD;
  mm: the two results of a coupled pair differ for its revocations. -/
  | laneLoss (b : Nat) (silent mm : Bool := false)
  /-- HELLO (R376). -/
  | hello (b : Nat) (h : LaneHdr) (session : Dw) (txNext : Dw) (rxLast : Dw) (rxSession : Dw) (flags : Byte)
  /-- HEARTBEAT (R380). -/
  | heartbeat (b : Nat) (h : LaneHdr) (session : Dw) (flags : Byte)
  /-- NAK (R374). -/
  | nak (b : Nat) (h : LaneHdr) (expected : Dw)
  /-- FORWARD (R369). -/
  | forward (b : Nat) (h : LaneHdr) (src : Nat) (tag : BitVec 16) (len : Nat) (keep : Bool) (payload : List Byte)
  /-- MIRROR_STATE (R387). -/
  | mirrorState (b : Nat) (h : LaneHdr) (e : MirrorEntry)
  /-- SYNC_BEGIN (R387). -/
  | syncBegin (b : Nat) (h : LaneHdr)
  /-- SYNC_ENTRIES (R387). -/
  | syncEntries (b : Nat) (h : LaneHdr) (es : List MirrorEntry)
  /-- SYNC_END (R387). -/
  | syncEnd (b : Nat) (h : LaneHdr)
  /-- GASP (R382). -/
  | gasp (b : Nat) (h : LaneHdr) (resetCount : Dw) (holdoff : BitVec 16)
  /-- ACK (R372). -/
  | ack (b : Nat) (h : LaneHdr)
  /-- RETRANSMIT_TIMEOUT (R374); mm: as LANE_LOSS. -/
  | retransmitTimeout (b : Nat) (mm : Bool := false)
  /-- HEARTBEAT_SEND (R379). -/
  | heartbeatSend (b : Nat)
  /-- PAIR_HEARTBEAT_SEND (R379): a mismatch is found while sending. -/
  | pairHeartbeatSend (b : Nat) (collide : Bool)
  /-- PAIR_HEARTBEAT (R380). -/
  | pairHeartbeat (b : Nat) (sfd : Byte) (session : Dw) (flags : Byte) (arg : Dw := 0) (crc : BitVec 16 := 0)
  /-- PAIR_WAKE (R383). -/
  | pairWake (b : Nat) (sfd : Byte) (session : Dw) (flags : Byte) (arg : Dw := 0) (crc : BitVec 16 := 0)
  /-- PAIR_GASP (R382). -/
  | pairGasp (b : Nat) (sfd : Byte) (session : Dw) (flags : Byte) (arg : Dw) (crc : BitVec 16 := 0)
  /-- PAIR_BACKOFF_END (R378). -/
  | pairBackoffEnd (b : Nat) (collide : Bool)
  /-- PARTNER_LOSS (R380). -/
  | partnerLoss (b : Nat)
  /-- TANDEM_PROMOTE (R388). -/
  | tandemPromote (b : Nat) (v : Nat)
  /-- TANDEM_WAKE (R383); collide: the frame meets a mismatch on the pair (R378). -/
  | tandemWake (b : Nat) (v : Nat) (collide : Bool := false)
  /-- MIRROR_RESYNC (R386). -/
  | mirrorResync (b : Nat)
  /-- SCRUB (R394): what is found at word a (and k) of the array. -/
  | scrub (b : Nat) (array : Nat) (err : ScrubErr) (a : Nat) (k : Nat)
  /-- RANK_REBUILD_END (R397). -/
  | rankRebuildEnd (b : Nat) (tgt : Nat)
  /-- FAULT_CLEAR (R400). -/
  | faultClear (b : Nat) (v : Nat)
  /-- CHR_WRITE (R407). -/
  | chrWrite (b : Nat)
  /-- CHR_FLUSH (R413). -/
  | chrFlush (b : Nat) (v : Nat)
  /-- CHR_FLUSH_DONE (R413). -/
  | chrFlushDone (b : Nat)
  /-- CHR_NEW_RING (R410). -/
  | chrNewRing (b : Nat) (v : Nat)
  /-- CHR_MARK (R408). -/
  | chrMark (b : Nat) (v : Nat)
  /-- CHR_READ_SEQ_WRITE (R412). -/
  | chrReadSeqWrite (b : Nat) (v : Nat)
  /-- CHR_CURSOR_WRITE (R416). -/
  | chrCursorWrite (b : Nat) (pr : Nat) (el : Nat) (v : Nat)
  /-- CHR_WINDOW_REFILL (R416). -/
  | chrWindowRefill (b : Nat) (scope : Nat)
  /-- ENG_RUN_START (R90). -/
  | engRunStart (b : Nat) (n : Nat)
  /-- ENG_RUN_STOP (R83). -/
  | engRunStop (b : Nat) (n : Nat)
  /-- ENG_SWAP_CANCEL (R92). -/
  | engSwapCancel (b : Nat) (n : Nat)
  /-- ENG_SWAP_REQUEST (R92). -/
  | engSwapRequest (b : Nat) (n : Nat)
  /-- ENG_SWAP_FORCE (R93). -/
  | engSwapForce (b : Nat) (n : Nat)
  /-- ENG_DOORBELL (R86). -/
  | engDoorbell (b : Nat) (n : Nat) (v : Dw)
  /-- PROG_WRITE (R91): element 512e + 256b + a. -/
  | progWrite (b : Nat) (el : Nat) (v : Dw)
  /-- ENGINE_EVENT_ENTRY (R87). -/
  | engineEventEntry (b : Nat) (n : Nat)
  /-- HOLD_TIMEOUT (R86). -/
  | holdTimeout (b : Nat) (n : Nat)
  /-- LOAD (R78): engine Ln executes the word at its PC. -/
  | load (b : Nat) (n : Nat)
  /-- SHIFT (R78): DIN at the successive rising edges; the beat since which XPn_HOLD stands asserted, if it does; the command
  reaches to the bit boundary after at most k bits. -/
  | shift (b : Nat) (n : Nat) (din : BitVec 128) (k : Nat) (hold : Option Nat := none)
  /-- HOLDW (R78): the synchronized HOLD. -/
  | holdw (b : Nat) (n : Nat) (hold : Bool)
  /-- WAITB (R78): synchronized DIN and HOLD. -/
  | waitb (b : Nat) (n : Nat) (pins : BitVec 2)
  /-- MOVI (R78). -/
  | movi (b : Nat) (n : Nat)
  /-- ADD (R78). -/
  | add (b : Nat) (n : Nat) (pins : BitVec 2)
  /-- AND (R78). -/
  | and (b : Nat) (n : Nat) (pins : BitVec 2)
  /-- XOR (R78). -/
  | xor (b : Nat) (n : Nat) (pins : BitVec 2)
  /-- CMP (R78). -/
  | cmp (b : Nat) (n : Nat) (pins : BitVec 2)
  /-- BRCC (R78). -/
  | brcc (b : Nat) (n : Nat) (pins : BitVec 2)
  /-- JMP (R78). -/
  | jmp (b : Nat) (n : Nat)
  /-- OUT (R78). -/
  | out (b : Nat) (n : Nat) (pins : BitVec 2)
  /-- FRAME (R81). -/
  | frame (b : Nat) (n : Nat)
  /-- EVT (R78). -/
  | evt (b : Nat) (n : Nat)
  /-- STP (R94). -/
  | stp (b : Nat) (n : Nat) (pins : BitVec 2)
  /-- RETI (R88). -/
  | reti (b : Nat) (n : Nat)
  /-- HALT (R78). -/
  | halt (b : Nat) (n : Nat)
  /-- ENGINE_ILLEGAL (R79). -/
  | engineIllegal (b : Nat) (n : Nat)
  /-- BANK_SUPPLY_RETURN (R70). -/
  | bankSupplyReturn (b : Nat) (viob : Bool)
  /-- VBAK_RESTORE (R427). -/
  | vbakRestore (b : Nat)
  /-- RESET_PIN_RELEASE (R281): PORST_N (else RESET_N) rises. -/
  | resetPinRelease (b : Nat) (porst : Bool)
  /-- PERST_DEASSERT (R363). -/
  | perstDeassert (b : Nat)
  /-- D3HOT_EXIT (R360). -/
  | d3hotExit (b : Nat)
  /-- PCIE_LINK_UP (R255). -/
  | pcieLinkUp (b : Nat)
  /-- MGMT_LINK_CHANGE (R233): 0 10 Mb/s, 1 100 Mb/s, 2 1000 Mb/s. -/
  | mgmtLinkChange (b : Nat) (up : Bool) (speed : Nat)
  /-- LANE_BLOCK_LOCK (R366). -/
  | laneBlockLock (b : Nat)
  /-- HELLO_SEND (R366). -/
  | helloSend (b : Nat)
  /-- PAIR_GASP_COPY (R382); collide: as TANDEM_WAKE. -/
  | pairGaspCopy (b : Nat) (collide : Bool := false)
  /-- GASP_COPY_DISCARD (R351). -/
  | gaspCopyDiscard (b : Nat)
  /-- HOLD_RELEASED (R75): as SHIFT, for the bits still to shift. -/
  | holdReleased (b : Nat) (n : Nat) (din : BitVec 128) (k : Nat) (hold : Option Nat := none)
  /-- CROWN_UNDEFINED_OPCODE (R316). -/
  | crownUndefinedOpcode (b : Nat) (op : Byte) (f : CrownFrame)
  /-- SELF_REFRESH_EXIT (R361). -/
  | selfRefreshExit (b : Nat)
  /-- REGULATOR_RESUME (R99). -/
  | regulatorResume (b : Nat)
  deriving DecidableEq, Repr

end Sys2Proof
end

