-- ==== Sys2Proof/Machine/Map.lean ====
section
/-! DEFINITION. Sparse maps in ONE canonical form: keys strictly rising, and no entry equal to what an unlisted key
reads as. Equal maps are equal lists. The default is a function of the key, given at every operation. -/

namespace Sys2Proof.Machine

/-- A sparse map from natural-number keys. -/
abbrev SMap (α : Type) := List (Nat × α)

/-- The value at `k`; an unlisted key reads `d k`. -/
def smGet {α : Type} (d : Nat → α) : SMap α → Nat → α
  | [], k => d k
  | (k', v) :: t, k => if k' = k then v else smGet d t k

/-- The map without `k`. -/
def smErase {α : Type} : SMap α → Nat → SMap α
  | [], _ => []
  | (k', v) :: t, k => if k' = k then smErase t k else (k', v) :: smErase t k

/-- The map with `v` listed at `k`, keys kept rising. -/
def smPut {α : Type} : SMap α → Nat → α → SMap α
  | [], k, v => [(k, v)]
  | (k', v') :: t, k, v =>
    if k < k' then (k, v) :: (k', v') :: t
    else if k = k' then (k, v) :: t
    else (k', v') :: smPut t k v

/-- Write `v` at `k`; writing the default removes the entry. -/
def smSet {α : Type} [DecidableEq α] (d : Nat → α) (m : SMap α) (k : Nat) (v : α) : SMap α :=
  if v = d k then smErase m k else smPut m k v

/-- Keys strictly rising, all above `lo`. -/
def smRising {α : Type} : Nat → SMap α → Bool
  | _, [] => true
  | lo, (k, _) :: t => decide (lo ≤ k) && smRising (k + 1) t

/-- The canonical form. -/
def smWf {α : Type} [DecidableEq α] (d : Nat → α) (m : SMap α) : Bool :=
  smRising 0 m && m.all (fun e => decide (e.2 ≠ d e.1))

/-- Apply `f` at every listed entry and keep the form. -/
def smMap {α : Type} [DecidableEq α] (d : Nat → α) (f : Nat → α → α) (m : SMap α) : SMap α :=
  m.filterMap (fun e => let v := f e.1 e.2; if v = d e.1 then none else some (e.1, v))

/-- Keep only the entries whose key `p` holds of. -/
def smKeep {α : Type} (p : Nat → Bool) (m : SMap α) : SMap α := m.filter (fun e => p e.1)

/-- Apply `f k` for `k = lo, …, lo + n - 1`, in ascending order. -/
def loop {σ : Type} (f : Nat → σ → σ) : Nat → Nat → σ → σ
  | _, 0, s => s
  | lo, n + 1, s => loop f (lo + 1) n (f lo s)

/-- Apply `f` for every element of a list, in order. -/
def each {α σ : Type} (f : α → σ → σ) : List α → σ → σ
  | [], s => s
  | a :: t, s => each f t (f a s)

/-- Little-endian bytes of a number. -/
def leBytes : Nat → Nat → List Byte
  | 0, _ => []
  | n + 1, v => BitVec.ofNat 8 v :: leBytes n (v / 256)

/-- The number of little-endian bytes. -/
def leVal : List Byte → Nat
  | [] => 0
  | b :: t => b.toNat + 256 * leVal t

/-- Big-endian bytes of a number. -/
def beBytes (n v : Nat) : List Byte := (leBytes n v).reverse

/-- The number of big-endian bytes. -/
def beVal (l : List Byte) : Nat := leVal l.reverse

/-- A byte string as one number: its bytes little-endian under a closing 1 (so that length is kept). -/
def blobEnc : List Byte → Nat
  | [] => 1
  | b :: t => b.toNat + 256 * blobEnc t

/-- The byte string of a number of `blobEnc`, at most `fuel` bytes. -/
def blobDec : Nat → Nat → List Byte
  | 0, _ => []
  | f + 1, v => if v ≤ 1 then [] else BitVec.ofNat 8 v :: blobDec f (v / 256)

/-- Bit `k` of a number. -/
def bitOf (v k : Nat) : Bool := v.testBit k

/-- 1 for true. -/
def b2n (x : Bool) : Nat := if x then 1 else 0

/-- The field of `v` at `[lo + w - 1 : lo]`. -/
def field (v lo w : Nat) : Nat := v / 2 ^ lo % 2 ^ w

/-- Saturating increase of a counter of `w` bits. -/
def satAdd (w a n : Nat) : Nat := min (2 ^ w - 1) (a + n)

/-- The signed value of a 32-bit pattern held as a number (I32 objects). -/
def toI32 (v : Nat) : Int := (BitVec.ofNat 32 v).toInt

/-- The 32-bit pattern of an integer (I32 objects). -/
def ofI32 (v : Int) : Nat := (BitVec.ofInt 32 v).toNat

/-- Round a quotient to nearest, halves away from zero (R165). -/
def roundDiv (a : Int) (d : Nat) : Int :=
  if 0 ≤ a then Int.ofNat ((2 * a.toNat + d) / (2 * d)) else - Int.ofNat ((2 * (-a).toNat + d) / (2 * d))

/-- Clamp to ±`l`. -/
def clampI (l a : Int) : Int := max (-l) (min l a)

end Sys2Proof.Machine
end

