-- ==== Sys2Proof/Config.lean ====
section
/-! DEFINITION. What one part fixes for good and what the spec leaves open: opaque constants, of which nothing
can be proved, and the few fixed numbers of the device. -/

namespace Sys2Proof.Config

/-- R2: Bluarn's PCI-SIG-assigned Vendor ID; the spec gives no number.
(DESIGN CHOICE, log 24.) -/
opaque vendorId : BitVec 16

/-- R305: Bluarn's JEDEC manufacturer identity (11 bits); the spec gives no number.
(DESIGN CHOICE, log 24.) -/
opaque jedecId : BitVec 11

/-- R378: the random draw behind a back-off of 1 to 8 slots; applied to the free-value counter.
(DESIGN CHOICE, log 20.) -/
opaque freeDraw : Nat → Nat

/-- R438: whether a RESET_N pulse between 1.00 µs and 1.01 µs resets; applied to the free-value counter.
(DESIGN CHOICE, log 21.) -/
opaque freeResets : Nat → Bool

/-- R344: millivolts of rail `k` (0 VDD … 6 VBAK) for the ADC code `c`; the spec gives no scale of the rails.
(DESIGN CHOICE, log 22.) -/
opaque railMillivolts : Nat → Nat → Nat

/-- Table 04-4: XPn_DOUT for a bit at position 128, which W8–W11 do not hold; applied to the free-value counter.
(DESIGN CHOICE, log 25.) -/
opaque freeDout : Nat → Bool

/-- Table 18-11: whether a HOLD asserted 6 ns to 14 ns before a scheduled edge withholds it; applied to the free-value counter.
(DESIGN CHOICE, log 128.) -/
opaque freeHold : Nat → Bool

/-- Table 13-2: the ADDRESS reported of a frame that ended before its 40th edge; applied to the free-value counter.
(DESIGN CHOICE, log 26.) -/
opaque freeCrownAddr : Nat → Byte

/-- R324, R326: beats that an update of the boot record takes; applied to the free-value counter.
(DESIGN CHOICE, log 143.) -/
opaque freeFlashTime : Nat → Nat

/-- R226: beats by which a Regulator-served operation completes; applied to the free-value counter.
(DESIGN CHOICE, log 49.) -/
opaque freeServe : Nat → Nat

/-- R324: what a page whose program has failed holds: the byte at its offset; applied to the free-value counter.
(DESIGN CHOICE, log 144.) -/
opaque freeFlash : Nat → Nat → Byte

/-- R336: the slot body of schema `a` converted to schema `b`; the conversion is the firmware's own.
(DESIGN CHOICE, log 23.) -/
opaque migrateBody : Nat → Nat → List Byte → List Byte

/-- A whole second of the counter (R161). -/
def wholeSecond : Nat := 800000000

/-- R197: the device capability of rev A1. -/
def capability : Nat := 0x3FFF

end Sys2Proof.Config
end

