-- ==== Sys2Proof/Machine/Objects.lean ====
section
/-! DEFINITION. The object dictionary's tables as ONE list (R207–R210, R228–R231): type, access, principals, default,
reset entry, persistence and element numbering of every object, from the object tables of chapters 02 to 17. -/

namespace Sys2Proof.Machine

/-- Table 09-3. -/
inductive Acc where
  | ro
  | rwd
  | rwi
  | woa
  deriving DecidableEq, Repr

/-- What the element of an object numbers (Table 09-9): which dense numbering a Tenant principal uses for it. -/
inductive ElKind where
  | plain
  | src
  | tgt
  | grp
  | ten
  | alarm
  | member
  | stamps
  | snap
  | dense
  deriving DecidableEq, Repr

/-- One row (or segment) of an object table: index, first and last element, type code (Table 09-2), access, principals
(`tenant`: 0 not listed, 1 reads its own element, 2 listed), default, reset entry (Table 09-11 RESET codes) with BLK,
persistence, elements listed singly, numbering. -/
structure Obj where
  idx : Nat
  lo : Nat
  hi : Nat
  ty : Nat
  acc : Acc
  owner : Bool
  tenant : Nat
  crown : Bool
  dflt : Nat
  rst : Nat
  blk : Bool
  persist : Bool
  sparse : Bool
  kind : ElKind
  deriving DecidableEq, Repr

/-- Objects 0x0000 to 0x0100. -/
def objRows0a : List Obj :=
  [⟨0x0000, 0x0000, 0x0000, 2, .ro, true, 2, false, 0, 0, false, false, false, .plain⟩ /- VENDOR_ID -/,
   ⟨0x0001, 0x0000, 0x0000, 2, .ro, true, 2, false, 16534, 0, false, false, false, .plain⟩ /- DEVICE_ID -/,
   ⟨0x0002, 0x0000, 0x0000, 1, .ro, true, 2, false, 1, 0, false, false, false, .plain⟩ /- REVISION -/,
   ⟨0x0003, 0x0000, 0x0000, 11, .ro, true, 2, false, 0, 0, false, false, false, .plain⟩ /- PART_NAME -/,
   ⟨0x0004, 0x0000, 0x0000, 4, .ro, true, 2, false, 0, 0, false, false, false, .plain⟩ /- DIE_ID -/,
   ⟨0x0005, 0x0000, 0x0000, 9, .ro, true, 2, false, 16383, 0, false, false, false, .plain⟩ /- CAPABILITY -/,
   ⟨0x0006, 0x0000, 0x0000, 2, .ro, true, 2, false, 1, 0, false, false, false, .plain⟩ /- DICT_LAYOUT -/,
   ⟨0x0007, 0x0000, 0x0000, 9, .ro, true, 2, false, 585472349671788544, 0, false, false, false, .plain⟩ /- RESOURCE_COUNTS -/,
   ⟨0x0100, 0x0000, 0xFFFF, 9, .ro, true, 2, false, 0, 0, false, false, false, .plain⟩ /- TYPE_DESC -/]

/-- Objects 0x1000 to 0x1102. -/
def objRows1a : List Obj :=
  [⟨0x1000, 0x0000, 0x0000, 1, .woa, true, 0, false, 0, 0, false, false, false, .plain⟩ /- RESET_REQ -/,
   ⟨0x1001, 0x0000, 0x0000, 7, .rwd, true, 0, false, 1, 2, false, true, false, .plain⟩ /- RSTN_FLAVOUR -/,
   ⟨0x1002, 0x0000, 0x0000, 3, .rwi, true, 0, false, 0, 4, false, false, false, .plain⟩ /- WDOG_TIMEOUT -/,
   ⟨0x1003, 0x0000, 0x0000, 1, .woa, true, 0, false, 0, 0, false, false, false, .plain⟩ /- WDOG_KICK -/,
   ⟨0x1004, 0x0000, 0x0000, 7, .rwd, true, 0, false, 0, 2, false, true, false, .plain⟩ /- WDOG_LEVEL -/,
   ⟨0x1005, 0x0000, 0x0000, 3, .rwd, true, 0, false, 80000, 2, false, true, false, .plain⟩ /- BLK_TIMEOUT -/,
   ⟨0x1006, 0x0000, 0x0007, 1, .woa, true, 0, false, 0, 0, false, false, true, .plain⟩ /- BLK_RESET -/,
   ⟨0x1006, 0x0010, 0x0017, 1, .woa, true, 0, false, 0, 0, false, false, true, .plain⟩ /- BLK_RESET -/,
   ⟨0x1006, 0x0020, 0x0023, 1, .woa, true, 0, false, 0, 0, false, false, true, .plain⟩ /- BLK_RESET -/,
   ⟨0x1006, 0x0040, 0x005F, 1, .woa, true, 0, false, 0, 0, false, false, true, .plain⟩ /- BLK_RESET -/,
   ⟨0x1007, 0x0000, 0x0007, 7, .ro, true, 0, false, 0, 3, false, false, true, .plain⟩ /- BLK_STATE -/,
   ⟨0x1007, 0x0010, 0x0017, 7, .ro, true, 0, false, 0, 3, false, false, true, .plain⟩ /- BLK_STATE -/,
   ⟨0x1007, 0x0020, 0x0023, 7, .ro, true, 0, false, 0, 3, false, false, true, .plain⟩ /- BLK_STATE -/,
   ⟨0x1007, 0x0040, 0x005F, 7, .ro, true, 0, false, 0, 3, false, false, true, .plain⟩ /- BLK_STATE -/,
   ⟨0x1008, 0x0000, 0x0007, 3, .ro, true, 0, false, 0, 4, false, false, true, .plain⟩ /- BLK_RESETS -/,
   ⟨0x1008, 0x0010, 0x0017, 3, .ro, true, 0, false, 0, 4, false, false, true, .plain⟩ /- BLK_RESETS -/,
   ⟨0x1008, 0x0020, 0x0023, 3, .ro, true, 0, false, 0, 4, false, false, true, .plain⟩ /- BLK_RESETS -/,
   ⟨0x1008, 0x0040, 0x005F, 3, .ro, true, 0, false, 0, 4, false, false, true, .plain⟩ /- BLK_RESETS -/,
   ⟨0x1010, 0x0000, 0x0000, 3, .ro, true, 0, true, 0, 6, false, false, false, .plain⟩ /- RESET_COUNT -/,
   ⟨0x1011, 0x0000, 0x000F, 3, .ro, true, 0, true, 0, 6, false, false, false, .plain⟩ /- RESET_HISTORY -/,
   ⟨0x1012, 0x0000, 0x0000, 7, .ro, true, 2, false, 0, 0, false, false, false, .plain⟩ /- START_STATE -/,
   ⟨0x1013, 0x0000, 0x0000, 8, .ro, true, 0, true, 0, 6, false, false, false, .plain⟩ /- START_FAILS -/,
   ⟨0x1014, 0x0000, 0x0000, 1, .ro, true, 0, true, 0, 6, false, false, false, .plain⟩ /- START_LAST_STEP -/,
   ⟨0x1015, 0x0000, 0x0000, 1, .ro, true, 0, false, 0, 4, false, false, false, .plain⟩ /- REG_LOCKUPS -/,
   ⟨0x1016, 0x0000, 0x0000, 8, .ro, true, 0, true, 0, 0, false, false, false, .plain⟩ /- STRAPS -/,
   ⟨0x1017, 0x0000, 0x0000, 2, .ro, true, 0, true, 0, 6, false, false, false, .plain⟩ /- CROWN_LATCH -/,
   ⟨0x1018, 0x0000, 0x0000, 2, .ro, true, 0, true, 0, 6, false, false, false, .plain⟩ /- FRAME_ERRORS -/,
   ⟨0x1100, 0x0000, 0x0000, 8, .ro, true, 0, true, 0, 1, false, false, false, .plain⟩ /- OPT_STATUS -/,
   ⟨0x1101, 0x0000, 0x0000, 1, .ro, true, 0, true, 0, 6, false, false, false, .plain⟩ /- OPT_ATTEMPTS -/,
   ⟨0x1102, 0x0000, 0x0001, 1, .ro, true, 0, false, 0, 1, false, false, false, .plain⟩ /- OPT_GEN -/]

/-- Objects 0x1103 to 0x130B. -/
def objRows1b : List Obj :=
  [⟨0x1103, 0x0000, 0x0007, 3, .ro, true, 0, false, 0, 1, false, false, false, .plain⟩ /- OPT_ACTIVE -/,
   ⟨0x1200, 0x0000, 0x0000, 10, .ro, true, 2, false, 0, 2, false, false, false, .plain⟩ /- BEAT_NOW -/,
   ⟨0x1201, 0x0000, 0x0000, 10, .woa, true, 0, false, 0, 0, false, false, false, .plain⟩ /- TOD_LOAD -/,
   ⟨0x1202, 0x0000, 0x0000, 7, .rwd, true, 0, false, 0, 2, false, true, false, .plain⟩ /- PPS_MODE -/,
   ⟨0x1203, 0x0000, 0x0000, 5, .rwd, true, 0, false, 0, 2, false, true, false, .plain⟩ /- PPS_IN_OFFSET -/,
   ⟨0x1204, 0x0000, 0x0000, 3, .rwd, true, 0, false, 800, 2, false, true, false, .plain⟩ /- PPS_STEP_LIMIT -/,
   ⟨0x1205, 0x0000, 0x0000, 3, .rwd, true, 0, false, 80000, 2, false, true, false, .plain⟩ /- PPS_OUT_WIDTH -/,
   ⟨0x1206, 0x0000, 0x0000, 8, .ro, true, 0, false, 0, 2, false, false, false, .plain⟩ /- PPS_STATUS -/,
   ⟨0x1207, 0x0000, 0x0000, 5, .ro, true, 0, false, 0, 2, false, false, false, .plain⟩ /- PPS_PHASE_ERR -/,
   ⟨0x1208, 0x0000, 0x0000, 5, .ro, true, 0, false, 0, 2, false, false, false, .plain⟩ /- RATE_PPB -/,
   ⟨0x1209, 0x0000, 0x0000, 5, .ro, true, 0, false, 0, 2, false, false, false, .plain⟩ /- PPS_FREQ -/,
   ⟨0x120A, 0x0000, 0x0000, 3, .ro, true, 0, false, 0, 4, false, false, false, .plain⟩ /- PPS_STEPS -/,
   ⟨0x120B, 0x0000, 0x0000, 3, .ro, true, 0, false, 0, 4, false, false, false, .plain⟩ /- PPS_SPURIOUS -/,
   ⟨0x120C, 0x0000, 0x0000, 3, .ro, true, 0, false, 1600000000, 2, false, false, false, .plain⟩ /- BAL_RATIO -/,
   ⟨0x120D, 0x0000, 0x0000, 5, .ro, true, 0, false, 0, 2, false, false, false, .plain⟩ /- QUIET_WAKE_ERR -/,
   ⟨0x1210, 0x0000, 0x000F, 10, .rwi, true, 2, false, 0, 4, false, false, false, .alarm⟩ /- ALARM_COMPARE -/,
   ⟨0x1211, 0x0000, 0x000F, 10, .rwi, true, 2, false, 0, 4, false, false, false, .alarm⟩ /- ALARM_PERIOD -/,
   ⟨0x1212, 0x0000, 0x000F, 6, .rwi, true, 2, false, 0, 4, false, false, false, .alarm⟩ /- ALARM_ARM -/,
   ⟨0x1213, 0x0000, 0x000F, 3, .ro, true, 2, false, 0, 4, false, false, false, .alarm⟩ /- ALARM_MISSED -/,
   ⟨0x1300, 0x0000, 0x0000, 2, .rwd, true, 0, false, 0, 1, false, true, false, .plain⟩ /- FEED_WARN -/,
   ⟨0x1301, 0x0000, 0x0000, 2, .rwd, true, 0, false, 64, 1, false, true, false, .plain⟩ /- FEED_HYST -/,
   ⟨0x1302, 0x0000, 0x0000, 2, .rwd, true, 0, false, 0, 1, false, true, false, .plain⟩ /- FEED_HIGH -/,
   ⟨0x1303, 0x0000, 0x0000, 2, .rwd, true, 0, false, 0, 1, false, true, false, .plain⟩ /- IBV_LOW -/,
   ⟨0x1304, 0x0000, 0x0000, 2, .rwd, true, 0, false, 0, 1, false, true, false, .plain⟩ /- IBV_HIGH -/,
   ⟨0x1305, 0x0000, 0x0001, 2, .rwd, true, 0, false, 1600, 1, false, true, false, .plain⟩ /- SNS_FILTER -/,
   ⟨0x1306, 0x0000, 0x0000, 3, .rwd, true, 0, false, 40000, 1, false, true, false, .plain⟩ /- GASP_HOLDOFF -/,
   ⟨0x1308, 0x0000, 0x0000, 8, .ro, true, 0, true, 0, 1, false, false, false, .plain⟩ /- SUPPLY_STATUS -/,
   ⟨0x1309, 0x0000, 0x0000, 2, .ro, true, 0, true, 0, 1, false, false, false, .plain⟩ /- FEED_CODE -/,
   ⟨0x130A, 0x0000, 0x0000, 2, .ro, true, 0, true, 0, 1, false, false, false, .plain⟩ /- IBV_CODE -/,
   ⟨0x130B, 0x0000, 0x0006, 2, .ro, true, 0, false, 0, 1, false, false, false, .plain⟩ /- RAIL_MV -/]

/-- Objects 0x1310 to 0x1510. -/
def objRows1c : List Obj :=
  [⟨0x1310, 0x0000, 0x0000, 3, .ro, true, 0, true, 0, 6, false, false, false, .plain⟩ /- DIP_COUNT -/,
   ⟨0x1311, 0x0000, 0x0000, 3, .ro, true, 0, true, 0, 6, false, false, false, .plain⟩ /- GASP_COUNT -/,
   ⟨0x1312, 0x0000, 0x0000, 2, .ro, true, 0, true, 0, 6, false, false, false, .plain⟩ /- DIP_LAST_DEPTH -/,
   ⟨0x1313, 0x0000, 0x0000, 2, .ro, true, 0, true, 0, 6, false, false, false, .plain⟩ /- DIP_LAST_TIME -/,
   ⟨0x1314, 0x0000, 0x0000, 2, .ro, true, 0, true, 0, 6, false, false, false, .plain⟩ /- DIP_LAST_RESET -/,
   ⟨0x1315, 0x0000, 0x0000, 3, .ro, true, 0, false, 0, 4, false, false, false, .plain⟩ /- SUPPLY_ALARMS -/,
   ⟨0x1400, 0x0000, 0x0000, 1, .woa, true, 0, false, 0, 0, false, false, false, .plain⟩ /- QUIET_ENTER -/,
   ⟨0x1401, 0x0000, 0x0000, 7, .ro, true, 2, false, 0, 3, false, false, false, .plain⟩ /- QUIET_STATE -/,
   ⟨0x1402, 0x0000, 0x0000, 1, .rwd, true, 0, false, 0, 2, false, true, false, .plain⟩ /- QUIET_WAKE_MIN -/,
   ⟨0x1403, 0x0000, 0x0000, 3, .rwd, true, 0, false, 80000, 2, false, true, false, .plain⟩ /- QUIET_DRAIN_TIMEOUT -/,
   ⟨0x1404, 0x0000, 0x0000, 6, .rwd, true, 0, false, 0, 2, false, true, false, .plain⟩ /- QUIET_ON_D3 -/,
   ⟨0x1405, 0x0000, 0x0000, 1, .rwd, true, 0, false, 255, 2, false, true, false, .plain⟩ /- QUIET_PHY_ADDR -/,
   ⟨0x1406, 0x0000, 0x0000, 8, .ro, true, 0, false, 0, 3, false, false, false, .plain⟩ /- WAKE_CAUSE -/,
   ⟨0x1407, 0x0000, 0x0000, 10, .ro, true, 0, false, 0, 3, false, false, false, .plain⟩ /- WAKE_BEAT -/,
   ⟨0x1408, 0x0000, 0x0000, 3, .ro, true, 0, false, 0, 4, false, false, false, .plain⟩ /- QUIET_ENTRIES -/,
   ⟨0x1409, 0x0000, 0x0000, 3, .ro, true, 0, false, 0, 4, false, false, false, .plain⟩ /- QUIET_WITHDRAWN -/,
   ⟨0x1500, 0x0000, 0x0000, 7, .ro, true, 0, false, 0, 0, false, false, false, .plain⟩ /- FW_BANK -/,
   ⟨0x1501, 0x0000, 0x0000, 7, .ro, true, 0, false, 0, 0, false, false, false, .plain⟩ /- FW_STATE -/,
   ⟨0x1502, 0x0000, 0x0001, 12, .ro, true, 0, false, 0, 0, false, false, false, .plain⟩ /- FW_HEADER -/,
   ⟨0x1503, 0x0000, 0x0000, 3, .ro, true, 0, false, 0, 0, false, false, false, .plain⟩ /- FW_TRIAL_LEFT -/,
   ⟨0x1504, 0x0000, 0x0000, 7, .rwd, true, 0, false, 0, 2, false, true, false, .plain⟩ /- FW_CONFIRM_MODE -/,
   ⟨0x1505, 0x0000, 0x0000, 1, .woa, true, 0, false, 0, 0, false, false, false, .plain⟩ /- FW_CONFIRM -/,
   ⟨0x1506, 0x0000, 0x0000, 1, .woa, true, 0, false, 0, 0, false, false, false, .plain⟩ /- FW_REJECT -/,
   ⟨0x1507, 0x0000, 0x0000, 1, .woa, true, 0, false, 0, 0, false, false, false, .plain⟩ /- FW_STAGE -/,
   ⟨0x1508, 0x0000, 0x3FFF, 12, .woa, true, 0, false, 0, 0, false, false, false, .plain⟩ /- FW_STAGE_DATA -/,
   ⟨0x1509, 0x0000, 0x0000, 8, .ro, true, 0, false, 0, 0, false, false, false, .plain⟩ /- FW_STAGE_STATUS -/,
   ⟨0x150A, 0x0000, 0x0000, 1, .woa, true, 0, false, 0, 0, false, false, false, .plain⟩ /- FW_ACTIVATE -/,
   ⟨0x150B, 0x0000, 0x0000, 3, .ro, true, 0, false, 0, 0, false, false, false, .plain⟩ /- FW_ROLLBACKS -/,
   ⟨0x150C, 0x0000, 0x0000, 7, .ro, true, 0, false, 0, 0, false, false, false, .plain⟩ /- FW_LAST_ROLLBACK -/,
   ⟨0x1510, 0x0000, 0x0000, 8, .ro, true, 0, false, 0, 0, false, false, false, .plain⟩ /- SET_STATUS -/]

/-- Objects 0x1511 to 0x1802. -/
def objRows1d : List Obj :=
  [⟨0x1511, 0x0000, 0x0001, 3, .ro, true, 0, false, 0, 0, false, false, false, .plain⟩ /- SET_GEN -/,
   ⟨0x1512, 0x0000, 0x0001, 2, .ro, true, 0, false, 0, 0, false, false, false, .plain⟩ /- SET_SCHEMA -/,
   ⟨0x1513, 0x0000, 0x0000, 7, .ro, true, 0, false, 0, 0, false, false, false, .plain⟩ /- SET_SAVE_STATE -/,
   ⟨0x1600, 0x0000, 0x0001, 12, .ro, true, 0, false, 0, 2, false, false, false, .plain⟩ /- FAULT_SLOT -/,
   ⟨0x1601, 0x0000, 0x0000, 3, .woa, true, 0, false, 0, 0, false, false, false, .plain⟩ /- FAULT_CLEAR -/,
   ⟨0x1602, 0x0000, 0x0000, 3, .ro, true, 0, false, 0, 2, false, false, false, .plain⟩ /- FAULT_SEQ -/,
   ⟨0x1603, 0x0000, 0x0003, 3, .ro, true, 0, false, 0, 2, false, false, false, .plain⟩ /- FAULT_COUNT -/,
   ⟨0x1604, 0x0000, 0x000A, 3, .ro, true, 0, false, 0, 4, false, false, false, .plain⟩ /- ECC_CORRECTED -/,
   ⟨0x1605, 0x0000, 0x001F, 3, .ro, true, 1, false, 0, 4, false, false, false, .ten⟩ /- ACCESS_FAULT -/,
   ⟨0x1700, 0x0000, 0x0000, 2, .rwd, true, 0, false, 0, 2, false, true, false, .plain⟩ /- CHR_BASE -/,
   ⟨0x1701, 0x0000, 0x0000, 2, .rwd, true, 0, false, 512, 2, false, true, false, .plain⟩ /- CHR_SIZE -/,
   ⟨0x1702, 0x0000, 0x0000, 3, .rwd, true, 0, false, 0, 2, false, true, false, .plain⟩ /- CHR_THRESHOLD -/,
   ⟨0x1703, 0x0000, 0x0000, 8, .ro, true, 0, false, 0, 2, false, false, false, .plain⟩ /- CHR_STATUS -/,
   ⟨0x1704, 0x0000, 0x0000, 2, .ro, true, 0, false, 0, 2, false, false, false, .plain⟩ /- CHR_RING_ID -/,
   ⟨0x1705, 0x0000, 0x0000, 3, .ro, true, 0, false, 0, 2, false, false, false, .plain⟩ /- CHR_NEXT_SEQ -/,
   ⟨0x1706, 0x0000, 0x0000, 3, .rwi, true, 0, false, 0, 2, false, false, false, .plain⟩ /- CHR_READ_SEQ -/,
   ⟨0x1707, 0x0000, 0x0000, 3, .ro, true, 0, false, 0, 2, false, false, false, .plain⟩ /- CHR_FILL -/,
   ⟨0x1708, 0x0000, 0x0000, 2, .ro, true, 0, false, 0, 2, false, false, false, .plain⟩ /- CHR_DRAM_MIB -/,
   ⟨0x1709, 0x0000, 0x0000, 1, .rwi, true, 0, false, 0, 2, false, false, false, .plain⟩ /- CHR_APERTURE -/,
   ⟨0x170A, 0x0000, 0x0000, 1, .woa, true, 0, false, 0, 0, false, false, false, .plain⟩ /- CHR_NEW_RING -/,
   ⟨0x170B, 0x0000, 0x0000, 1, .woa, true, 0, false, 0, 0, false, false, false, .plain⟩ /- CHR_FLUSH -/,
   ⟨0x170C, 0x0000, 0x0000, 4, .woa, true, 0, false, 0, 0, false, false, false, .plain⟩ /- CHR_MARK -/,
   ⟨0x1710, 0x0000, 0x001F, 3, .rwi, true, 2, false, 0, 2, false, false, false, .ten⟩ /- CHR_CURSOR -/,
   ⟨0x1711, 0x0000, 0x0000, 12, .ro, true, 2, false, 0, 0, false, false, false, .plain⟩ /- CHR_WINDOW -/,
   ⟨0x1720, 0x0000, 0x0000, 3, .ro, true, 0, false, 0, 4, false, false, false, .plain⟩ /- CHR_WRITTEN -/,
   ⟨0x1721, 0x0000, 0x0000, 3, .ro, true, 0, false, 0, 4, false, false, false, .plain⟩ /- CHR_DROPPED -/,
   ⟨0x1722, 0x0000, 0x0000, 3, .ro, true, 0, false, 0, 4, false, false, false, .plain⟩ /- CHR_OVERRUN -/,
   ⟨0x1800, 0x0000, 0x0000, 7, .rwd, true, 0, false, 0, 2, false, true, false, .plain⟩ /- MGMT_MODE -/,
   ⟨0x1801, 0x0000, 0x0000, 4, .ro, true, 0, false, 0, 0, false, false, false, .plain⟩ /- MAC_ADDR -/,
   ⟨0x1802, 0x0000, 0x0000, 3, .rwd, true, 0, false, 0, 2, false, true, false, .plain⟩ /- IPV4_ADDR -/]

/-- Objects 0x1803 to 0x1910. -/
def objRows1e : List Obj :=
  [⟨0x1803, 0x0000, 0x0000, 1, .rwd, true, 0, false, 24, 2, false, true, false, .plain⟩ /- IPV4_PREFIX -/,
   ⟨0x1804, 0x0000, 0x0000, 3, .rwd, true, 0, false, 0, 2, false, true, false, .plain⟩ /- IPV4_GW -/,
   ⟨0x1805, 0x0000, 0x0000, 12, .rwd, true, 0, false, 1, 2, false, true, false, .plain⟩ /- IPV6_ADDR -/,
   ⟨0x1806, 0x0000, 0x0000, 1, .rwd, true, 0, false, 64, 2, false, true, false, .plain⟩ /- IPV6_PREFIX -/,
   ⟨0x1807, 0x0000, 0x0000, 12, .rwd, true, 0, false, 1, 2, false, true, false, .plain⟩ /- IPV6_GW -/,
   ⟨0x1808, 0x0000, 0x0000, 2, .rwd, true, 0, false, 9414, 2, false, true, false, .plain⟩ /- UDP_PORT -/,
   ⟨0x1809, 0x0000, 0x0000, 8, .ro, true, 0, false, 0, 3, false, false, false, .plain⟩ /- NR_STATUS -/,
   ⟨0x180A, 0x0000, 0x0000, 3, .ro, true, 0, false, 0, 0, false, false, false, .plain⟩ /- NR_SESSION -/,
   ⟨0x1810, 0x0000, 0x000F, 2, .rwd, true, 0, false, 0, 2, false, true, false, .plain⟩ /- NR_CLIENT_ID -/,
   ⟨0x1811, 0x0000, 0x000F, 1, .rwd, true, 0, false, 0, 2, false, true, false, .plain⟩ /- NR_PRINCIPAL -/,
   ⟨0x1812, 0x0000, 0x000F, 12, .rwd, true, 0, false, 1, 2, false, true, false, .plain⟩ /- NR_KEY -/,
   ⟨0x1813, 0x0000, 0x000F, 8, .rwd, true, 0, false, 0, 2, false, true, false, .plain⟩ /- NR_FLAGS -/,
   ⟨0x1820, 0x0000, 0x0000, 3, .ro, true, 0, false, 0, 3, false, false, false, .plain⟩ /- NR_RX -/,
   ⟨0x1821, 0x0000, 0x0000, 3, .ro, true, 0, false, 0, 3, false, false, false, .plain⟩ /- NR_DROPPED -/,
   ⟨0x1822, 0x0000, 0x0000, 3, .ro, true, 0, false, 0, 3, false, false, false, .plain⟩ /- NR_DUPLICATES -/,
   ⟨0x1823, 0x0000, 0x0000, 3, .ro, true, 0, false, 0, 3, false, false, false, .plain⟩ /- NR_REFUSED -/,
   ⟨0x1824, 0x0000, 0x0000, 3, .ro, true, 0, false, 0, 3, false, false, false, .plain⟩ /- NR_OVERFLOW -/,
   ⟨0x1900, 0x0000, 0x0000, 6, .rwd, true, 0, false, 0, 2, false, true, false, .plain⟩ /- TDM_ENABLE -/,
   ⟨0x1901, 0x0000, 0x0000, 7, .rwd, true, 0, false, 0, 2, false, true, false, .plain⟩ /- PROMOTE_MODE -/,
   ⟨0x1902, 0x0000, 0x0000, 3, .rwd, true, 0, false, 80000, 2, false, true, false, .plain⟩ /- HB_PERIOD -/,
   ⟨0x1903, 0x0000, 0x0000, 3, .rwd, true, 0, false, 8000000, 2, false, true, false, .plain⟩ /- PAIR_HB_PERIOD -/,
   ⟨0x1904, 0x0000, 0x0000, 1, .rwd, true, 0, false, 3, 2, false, true, false, .plain⟩ /- PARTNER_MISSES -/,
   ⟨0x1905, 0x0000, 0x0000, 6, .rwd, true, 0, false, 1, 2, false, true, false, .plain⟩ /- FWD_WAKE -/,
   ⟨0x1906, 0x0000, 0x0000, 1, .woa, true, 0, false, 0, 0, false, false, false, .plain⟩ /- TANDEM_PROMOTE -/,
   ⟨0x1907, 0x0000, 0x0000, 1, .woa, true, 0, false, 0, 0, false, false, false, .plain⟩ /- TANDEM_WAKE -/,
   ⟨0x1908, 0x0000, 0x0000, 8, .ro, true, 0, false, 0, 3, false, false, false, .plain⟩ /- TDM_STATUS -/,
   ⟨0x1909, 0x0000, 0x0000, 3, .ro, true, 0, false, 0, 0, false, false, false, .plain⟩ /- TDM_SESSION -/,
   ⟨0x190A, 0x0000, 0x0000, 3, .ro, true, 0, false, 0, 3, false, false, false, .plain⟩ /- PARTNER_SESSION -/,
   ⟨0x190B, 0x0000, 0x0000, 10, .ro, true, 0, false, 0, 3, false, false, false, .plain⟩ /- PROMOTE_BEAT -/,
   ⟨0x1910, 0x0000, 0x0FFF, 6, .rwd, true, 2, false, 0, 2, false, true, false, .src⟩ /- MIRROR_EN -/]

/-- Objects 0x1911 to 0x194B. -/
def objRows1f : List Obj :=
  [⟨0x1911, 0x0000, 0x0FFF, 2, .rwd, true, 0, false, 0, 2, false, true, false, .plain⟩ /- REPLAY_MAP -/,
   ⟨0x1912, 0x0000, 0x0FFF, 8, .ro, true, 0, false, 0, 3, false, false, false, .plain⟩ /- MIRROR_IN -/,
   ⟨0x1920, 0x0000, 0x03FF, 3, .ro, true, 2, false, 0, 4, false, false, false, .grp⟩ /- FWD_RTT_LAST -/,
   ⟨0x1921, 0x0000, 0x03FF, 3, .ro, true, 2, false, 0, 4, false, false, false, .grp⟩ /- FWD_RTT_MAX -/,
   ⟨0x1940, 0x0000, 0x0000, 3, .ro, true, 0, false, 0, 4, false, false, false, .plain⟩ /- TDM_CRC_ERRORS -/,
   ⟨0x1941, 0x0000, 0x0000, 3, .ro, true, 0, false, 0, 4, false, false, false, .plain⟩ /- TDM_RETRANSMITS -/,
   ⟨0x1942, 0x0000, 0x0000, 3, .ro, true, 0, false, 0, 4, false, false, false, .plain⟩ /- TDM_DUP_DROPPED -/,
   ⟨0x1943, 0x0000, 0x0000, 3, .ro, true, 0, false, 0, 4, false, false, false, .plain⟩ /- TDM_GAP_DROPPED -/,
   ⟨0x1944, 0x0000, 0x0000, 3, .ro, true, 0, false, 0, 4, false, false, false, .plain⟩ /- TDM_PARTNER_LOSSES -/,
   ⟨0x1945, 0x0000, 0x0000, 3, .ro, true, 0, false, 0, 4, false, false, false, .plain⟩ /- TDM_PAIR_COLLISIONS -/,
   ⟨0x1946, 0x0000, 0x0000, 3, .ro, true, 0, false, 0, 4, false, false, false, .plain⟩ /- TDM_PROMOTIONS -/,
   ⟨0x1947, 0x0000, 0x0000, 3, .ro, true, 0, false, 0, 4, false, false, false, .plain⟩ /- TDM_REPLAYED -/,
   ⟨0x1948, 0x0000, 0x0000, 3, .ro, true, 0, false, 0, 4, false, false, false, .plain⟩ /- TDM_REPLAY_REFUSED -/,
   ⟨0x1949, 0x0000, 0x0000, 3, .ro, true, 0, false, 0, 4, false, false, false, .plain⟩ /- TDM_REPLAY_UNMAPPED -/,
   ⟨0x194A, 0x0000, 0x0000, 3, .ro, true, 0, false, 0, 4, false, false, false, .plain⟩ /- TDM_FWD_RESOLVED -/,
   ⟨0x194B, 0x0000, 0x0000, 3, .ro, true, 0, false, 0, 4, false, false, false, .plain⟩ /- TDM_MIRROR_RESYNCS -/]

/-- Objects 0x2000 to 0x2010. -/
def objRows2a : List Obj :=
  [⟨0x2000, 0x0000, 0x0FFF, 1, .rwd, true, 1, false, 0, 2, false, true, false, .src⟩ /- TENANT -/,
   ⟨0x2001, 0x0000, 0x0FFF, 1, .rwd, true, 2, false, 0, 2, false, true, false, .src⟩ /- PRIORITY -/,
   ⟨0x2002, 0x0000, 0x0FFF, 2, .rwd, true, 2, false, 0, 2, false, true, false, .src⟩ /- ROUTE_GROUP -/,
   ⟨0x2003, 0x0000, 0x0FFF, 7, .rwd, true, 2, false, 0, 2, false, true, false, .src⟩ /- CLASS -/,
   ⟨0x2004, 0x0000, 0x001F, 7, .ro, true, 2, true, 0, 0, false, false, false, .src⟩ /- SENSE internal -/,
   ⟨0x2004, 0x0020, 0x047F, 7, .rwd, true, 2, false, 0, 2, false, true, false, .src⟩ /- SENSE -/,
   ⟨0x2004, 0x0480, 0x0FFF, 7, .ro, true, 2, false, 0, 0, false, false, false, .src⟩ /- SENSE message -/,
   ⟨0x2005, 0x0020, 0x007F, 1, .rwd, true, 2, false, 2, 2, false, true, false, .src⟩ /- GLITCH -/,
   ⟨0x2006, 0x0000, 0x0FFF, 6, .rwi, true, 2, false, 0, 2, true, false, false, .src⟩ /- ENABLE -/,
   ⟨0x2007, 0x0000, 0x0FFF, 2, .rwd, true, 2, false, 0, 2, false, true, false, .src⟩ /- STORM_LIMIT -/,
   ⟨0x2008, 0x0000, 0x0FFF, 3, .rwd, true, 2, false, 800000, 2, false, true, false, .src⟩ /- STORM_WINDOW -/,
   ⟨0x2009, 0x0000, 0x0FFF, 1, .woa, true, 2, false, 0, 0, false, false, false, .src⟩ /- QUARANTINE -/,
   ⟨0x200A, 0x0000, 0x0FFF, 8, .ro, true, 2, false, 0, 2, true, false, false, .src⟩ /- SRC_STATE -/,
   ⟨0x200B, 0x0000, 0x0FFF, 10, .ro, true, 2, false, 0, 2, true, false, false, .src⟩ /- RANK_STAMP -/,
   ⟨0x200C, 0x0000, 0x0FFF, 6, .rwd, true, 2, false, 1, 2, false, true, false, .src⟩ /- JOURNAL_EN -/,
   ⟨0x2010, 0x0480, 0x0FFF, 2, .ro, true, 2, false, 0, 4, false, false, false, .src⟩ /- LAST_DB_TAG -/]

/-- Objects 0x3000 to 0x3802. -/
def objRows3a : List Obj :=
  [⟨0x3000, 0x0000, 0x03FF, 1, .rwd, true, 1, false, 0, 2, false, true, false, .tgt⟩ /- TGT_TENANT -/,
   ⟨0x3001, 0x0000, 0x03FF, 4, .rwd, true, 2, false, 0, 2, false, true, false, .tgt⟩ /- TGT_ADDR -/,
   ⟨0x3002, 0x0000, 0x03FF, 3, .rwd, true, 2, false, 0, 2, false, true, false, .tgt⟩ /- TGT_DATA -/,
   ⟨0x3003, 0x0000, 0x03FF, 7, .rwd, true, 2, false, 0, 2, false, true, false, .tgt⟩ /- TGT_MODE -/,
   ⟨0x3004, 0x0000, 0x03FF, 1, .rwd, true, 0, false, 0, 2, false, true, false, .tgt⟩ /- TGT_ESC -/,
   ⟨0x3005, 0x0000, 0x03FF, 6, .rwi, true, 2, false, 0, 2, true, false, false, .tgt⟩ /- TGT_ENABLE -/,
   ⟨0x3006, 0x0000, 0x03FF, 3, .rwd, true, 2, false, 80000, 2, false, true, false, .tgt⟩ /- CLAIM_TIMEOUT -/,
   ⟨0x3007, 0x0000, 0x03FF, 1, .rwd, true, 2, false, 1, 2, false, true, false, .tgt⟩ /- NOTIFY_MAX -/,
   ⟨0x3008, 0x0000, 0x03FF, 1, .rwd, true, 0, false, 16, 2, false, true, false, .tgt⟩ /- SLOT_MAX -/,
   ⟨0x3009, 0x0000, 0x03FF, 1, .woa, true, 0, false, 0, 0, false, false, false, .tgt⟩ /- TGT_QUARANTINE -/,
   ⟨0x300A, 0x0000, 0x03FF, 8, .ro, true, 2, false, 0, 3, true, false, false, .tgt⟩ /- TGT_STATUS -/,
   ⟨0x3400, 0x0000, 0x03FF, 1, .rwd, true, 1, false, 0, 2, false, true, false, .grp⟩ /- GRP_TENANT -/,
   ⟨0x3401, 0x0000, 0x03FF, 7, .rwd, true, 2, false, 0, 2, false, true, false, .grp⟩ /- GRP_POLICY -/,
   ⟨0x3402, 0x0000, 0x03FF, 1, .rwd, true, 2, false, 0, 2, false, true, false, .grp⟩ /- GRP_COUNT -/,
   ⟨0x3403, 0x0000, 0x3FFF, 2, .rwd, true, 2, false, 0, 2, false, true, false, .member⟩ /- GRP_MEMBER -/,
   ⟨0x3404, 0x0000, 0x3FFF, 2, .rwi, true, 0, false, 256, 2, false, false, false, .member⟩ /- GRP_WEIGHT -/,
   ⟨0x3405, 0x0000, 0x03FF, 3, .rwd, true, 2, false, 0, 2, false, true, false, .grp⟩ /- RELEASE_DELAY -/,
   ⟨0x3406, 0x0000, 0x03FF, 2, .rwd, true, 0, false, 0, 2, false, true, false, .grp⟩ /- REMOTE_SOURCE -/,
   ⟨0x3407, 0x0000, 0x03FF, 1, .rwd, true, 0, false, 0, 2, false, true, false, .grp⟩ /- FWD_ESC -/,
   ⟨0x3408, 0x0000, 0x03FF, 1, .ro, true, 2, false, 0, 3, false, false, false, .grp⟩ /- RR_NEXT -/,
   ⟨0x3409, 0x0000, 0x03FF, 2, .ro, true, 2, false, 0, 3, true, false, false, .grp⟩ /- GRP_HELD -/,
   ⟨0x3800, 0x0000, 0x0000, 6, .rwd, true, 0, false, 0, 2, false, true, true, .plain⟩ /- ESC_COUPLED -/,
   ⟨0x3800, 0x0002, 0x0002, 6, .rwd, true, 0, false, 0, 2, false, true, true, .plain⟩ /- ESC_COUPLED -/,
   ⟨0x3800, 0x0004, 0x0004, 6, .rwd, true, 0, false, 0, 2, false, true, true, .plain⟩ /- ESC_COUPLED -/,
   ⟨0x3800, 0x0006, 0x0006, 6, .rwd, true, 0, false, 0, 2, false, true, true, .plain⟩ /- ESC_COUPLED -/,
   ⟨0x3801, 0x0000, 0x0000, 1, .rwd, true, 0, false, 255, 2, false, true, true, .plain⟩ /- ESC_SPARE -/,
   ⟨0x3801, 0x0002, 0x0002, 1, .rwd, true, 0, false, 255, 2, false, true, true, .plain⟩ /- ESC_SPARE -/,
   ⟨0x3801, 0x0004, 0x0004, 1, .rwd, true, 0, false, 255, 2, false, true, true, .plain⟩ /- ESC_SPARE -/,
   ⟨0x3801, 0x0006, 0x0006, 1, .rwd, true, 0, false, 255, 2, false, true, true, .plain⟩ /- ESC_SPARE -/,
   ⟨0x3802, 0x0000, 0x0007, 8, .ro, true, 0, false, 0, 5, false, false, false, .plain⟩ /- ESC_STATUS -/]

/-- Objects 0x4000 to 0x4100. -/
def objRows4a : List Obj :=
  [⟨0x4000, 0x0000, 0x0007, 1, .rwd, true, 0, false, 0, 2, false, true, false, .plain⟩ /- CHAIN_LEN -/,
   ⟨0x4001, 0x0000, 0x0007, 1, .rwd, true, 0, false, 4, 2, false, true, false, .plain⟩ /- SCK_DIV -/,
   ⟨0x4002, 0x0000, 0x0007, 3, .rwd, true, 0, false, 100000, 2, false, true, false, .plain⟩ /- HOLD_TIMEOUT -/,
   ⟨0x4003, 0x0000, 0x0007, 8, .rwd, true, 0, false, 0, 2, false, true, false, .plain⟩ /- EVT_EN -/,
   ⟨0x4004, 0x0000, 0x0007, 1, .rwd, true, 0, false, 255, 2, false, true, false, .plain⟩ /- ALARM_SEL -/,
   ⟨0x4005, 0x0000, 0x0007, 6, .rwd, true, 0, false, 0, 2, false, true, false, .plain⟩ /- AUTORUN -/,
   ⟨0x4006, 0x0000, 0x0007, 6, .rwd, true, 0, false, 0, 2, false, true, false, .plain⟩ /- QUIET_ON -/,
   ⟨0x4008, 0x0000, 0x0007, 1, .woa, true, 0, false, 0, 0, false, false, false, .plain⟩ /- ENG_RUN -/,
   ⟨0x4009, 0x0000, 0x0007, 1, .woa, true, 0, false, 0, 0, false, false, false, .plain⟩ /- ENG_SWAP -/,
   ⟨0x400A, 0x0000, 0x0007, 3, .woa, true, 0, false, 0, 0, false, false, false, .plain⟩ /- ENG_DOORBELL -/,
   ⟨0x4010, 0x0000, 0x0007, 8, .ro, true, 0, false, 0, 5, false, false, false, .plain⟩ /- ENG_STATUS -/,
   ⟨0x4011, 0x0000, 0x0007, 1, .ro, true, 0, false, 0, 5, false, false, false, .plain⟩ /- ENG_PC -/,
   ⟨0x4012, 0x0000, 0x0007, 1, .ro, true, 0, false, 0, 5, false, false, false, .plain⟩ /- ENG_RC -/,
   ⟨0x4013, 0x0000, 0x0007, 3, .ro, true, 0, false, 0, 5, false, false, false, .plain⟩ /- ENG_OUT -/,
   ⟨0x4014, 0x0000, 0x001F, 3, .ro, true, 0, false, 0, 3, false, false, false, .plain⟩ /- ENG_PUBLISHED -/,
   ⟨0x4015, 0x0000, 0x007F, 3, .ro, true, 0, false, 0, 5, false, false, false, .plain⟩ /- ENG_W -/,
   ⟨0x4016, 0x0000, 0x0007, 1, .ro, true, 0, false, 0, 5, false, false, false, .plain⟩ /- ENG_FAULT_PC -/,
   ⟨0x4020, 0x0000, 0x0007, 3, .ro, true, 0, false, 0, 3, false, false, false, .plain⟩ /- FRAMES -/,
   ⟨0x4021, 0x0000, 0x0007, 3, .ro, true, 0, false, 0, 3, false, false, false, .plain⟩ /- STALE_FRAMES -/,
   ⟨0x4022, 0x0000, 0x0007, 3, .ro, true, 0, false, 0, 3, false, false, false, .plain⟩ /- HOLD_TIMEOUTS -/,
   ⟨0x4023, 0x0000, 0x0007, 3, .ro, true, 0, false, 0, 3, false, false, false, .plain⟩ /- EVT_MERGED -/,
   ⟨0x4024, 0x0000, 0x0007, 3, .ro, true, 0, false, 0, 3, false, false, false, .plain⟩ /- OVERSHIFT -/,
   ⟨0x4100, 0x0000, 0x0FFF, 3, .rwi, true, 0, false, 0, 3, false, true, false, .plain⟩ /- PROG -/]

/-- Objects 0x5000 to 0x5021. -/
def objRows5a : List Obj :=
  [⟨0x5000, 0x0000, 0x001F, 9, .rwd, true, 0, false, 16383, 2, false, true, false, .ten⟩ /- TEN_OFFER_MASK -/,
   ⟨0x5001, 0x0000, 0x001F, 9, .ro, true, 2, false, 0, 5, false, false, false, .ten⟩ /- TEN_ACCEPTED -/,
   ⟨0x5002, 0x0000, 0x001F, 8, .ro, true, 2, false, 0, 3, false, false, false, .ten⟩ /- TEN_STATUS -/,
   ⟨0x5003, 0x0000, 0x001F, 1, .woa, true, 0, false, 0, 0, false, false, false, .ten⟩ /- TEN_RESET -/,
   ⟨0x5004, 0x0000, 0x001F, 2, .ro, true, 2, false, 0, 2, false, false, false, .ten⟩ /- SRC_COUNT -/,
   ⟨0x5005, 0x0000, 0x001F, 2, .ro, true, 2, false, 0, 2, false, false, false, .ten⟩ /- TGT_COUNT -/,
   ⟨0x5006, 0x0000, 0x001F, 2, .ro, true, 2, false, 0, 2, false, false, false, .ten⟩ /- GRP_COUNT -/,
   ⟨0x5008, 0x0000, 0x0FFF, 2, .ro, false, 2, false, 0, 0, false, false, false, .dense⟩ /- VIEW_SOURCE -/,
   ⟨0x5009, 0x0000, 0x0FFF, 2, .ro, true, 0, false, 0, 0, false, false, false, .plain⟩ /- DENSE_SOURCE -/,
   ⟨0x500A, 0x0000, 0x03FF, 2, .ro, false, 2, false, 0, 0, false, false, false, .dense⟩ /- VIEW_TARGET -/,
   ⟨0x500B, 0x0000, 0x03FF, 2, .ro, true, 0, false, 0, 0, false, false, false, .plain⟩ /- DENSE_TARGET -/,
   ⟨0x500C, 0x0000, 0x03FF, 2, .ro, false, 2, false, 0, 0, false, false, false, .dense⟩ /- VIEW_GROUP -/,
   ⟨0x500D, 0x0000, 0x03FF, 2, .ro, true, 0, false, 0, 0, false, false, false, .plain⟩ /- DENSE_GROUP -/,
   ⟨0x5010, 0x0000, 0x001F, 3, .ro, true, 2, false, 0, 4, false, false, false, .ten⟩ /- TEN_RESETS -/,
   ⟨0x5020, 0x0000, 0x001F, 2, .rwd, true, 1, false, 256, 2, false, true, false, .ten⟩ /- PAYLOAD_QUOTA -/,
   ⟨0x5021, 0x0000, 0x001F, 2, .ro, true, 2, false, 0, 2, true, false, false, .ten⟩ /- PAYLOAD_IN_USE -/]

/-- Objects 0x6000 to 0x6014. -/
def objRows6a : List Obj :=
  [⟨0x6000, 0x0000, 0x0000, 6, .rwd, true, 0, false, 1, 2, false, true, false, .plain⟩ /- STEER_ENABLE -/,
   ⟨0x6001, 0x0000, 0x0000, 3, .rwd, true, 0, false, 80000, 2, false, true, false, .plain⟩ /- STEER_PERIOD -/,
   ⟨0x6002, 0x0000, 0x0000, 1, .rwd, true, 0, false, 3, 2, false, true, false, .plain⟩ /- EWMA_SHIFT -/,
   ⟨0x6003, 0x0000, 0x0000, 2, .rwd, true, 0, false, 16, 2, false, true, false, .plain⟩ /- WEIGHT_MIN -/,
   ⟨0x6004, 0x0000, 0x0000, 6, .rwd, true, 0, false, 1, 2, false, true, false, .plain⟩ /- AUTO_QUARANTINE -/,
   ⟨0x6005, 0x0000, 0x0000, 3, .rwd, true, 0, false, 8000000, 2, false, true, false, .plain⟩ /- QUARANTINE_HOLD -/,
   ⟨0x6006, 0x0000, 0x0000, 7, .ro, true, 0, false, 0, 0, false, false, false, .plain⟩ /- REG_STATE -/,
   ⟨0x6007, 0x0000, 0x0000, 10, .ro, true, 0, false, 0, 4, false, false, false, .plain⟩ /- LAST_UPDATE -/,
   ⟨0x6008, 0x0000, 0x0000, 3, .ro, true, 0, false, 0, 4, false, false, false, .plain⟩ /- STEER_OVERRUN -/,
   ⟨0x6010, 0x0000, 0x03FF, 3, .ro, true, 2, false, 0, 4, false, false, false, .tgt⟩ /- AVG_CLAIM_LAT -/,
   ⟨0x6011, 0x0000, 0x03FF, 3, .ro, true, 2, false, 0, 4, false, false, false, .tgt⟩ /- AVG_SERVICE -/,
   ⟨0x6012, 0x0000, 0x03FF, 7, .ro, true, 2, false, 0, 3, true, false, false, .tgt⟩ /- TGT_QSRC -/,
   ⟨0x6013, 0x0000, 0x03FF, 10, .ro, true, 2, false, 0, 3, true, false, false, .tgt⟩ /- TGT_QSTAMP -/,
   ⟨0x6014, 0x0000, 0x03FF, 3, .ro, true, 2, false, 0, 4, false, false, false, .tgt⟩ /- QUARANTINE_DECLINED -/]

/-- Objects 0x7010 to 0x7067. -/
def objRows7a : List Obj :=
  [⟨0x7010, 0x0000, 0x0FFF, 3, .ro, true, 2, false, 0, 4, false, false, false, .src⟩ /- COALESCED -/,
   ⟨0x7011, 0x0000, 0x0FFF, 3, .ro, true, 2, false, 0, 4, false, false, false, .src⟩ /- DISCARDED -/,
   ⟨0x7012, 0x0000, 0x0FFF, 3, .ro, true, 2, false, 0, 4, false, false, false, .src⟩ /- WITHDRAWN -/,
   ⟨0x7013, 0x0000, 0x03FF, 3, .ro, true, 2, false, 0, 4, false, false, false, .tgt⟩ /- SUPERSEDED -/,
   ⟨0x7014, 0x0000, 0x03FF, 3, .ro, true, 2, false, 0, 4, false, false, false, .tgt⟩ /- STRAY_COMPLETE_TGT -/,
   ⟨0x7015, 0x0000, 0x001F, 3, .ro, true, 2, false, 0, 4, false, false, false, .ten⟩ /- STRAY_COMPLETE -/,
   ⟨0x7020, 0x0000, 0x03FF, 3, .ro, true, 2, false, 0, 4, false, false, false, .tgt⟩ /- ISSUED -/,
   ⟨0x7021, 0x0000, 0x03FF, 3, .ro, true, 2, false, 0, 4, false, false, false, .tgt⟩ /- CLAIM_TIMEOUTS -/,
   ⟨0x7022, 0x0000, 0x03FF, 3, .ro, true, 2, false, 0, 4, false, false, false, .tgt⟩ /- RESTEERED_OUT -/,
   ⟨0x7023, 0x0000, 0x03FF, 3, .ro, true, 2, false, 0, 4, false, false, false, .tgt⟩ /- ISOLATED -/,
   ⟨0x7030, 0x0000, 0x001F, 3, .ro, true, 2, false, 0, 4, false, false, false, .ten⟩ /- PAYLOAD_TRUNCATED -/,
   ⟨0x7031, 0x0000, 0x001F, 3, .ro, true, 2, false, 0, 4, false, false, false, .ten⟩ /- PAYLOAD_REPLACED -/,
   ⟨0x7032, 0x0000, 0x001F, 3, .ro, true, 2, false, 0, 4, false, false, false, .ten⟩ /- PAYLOAD_DISCARDED -/,
   ⟨0x7033, 0x0000, 0x001F, 3, .ro, true, 2, false, 0, 4, false, false, false, .ten⟩ /- PAYLOAD_LOST -/,
   ⟨0x7034, 0x0000, 0x001F, 3, .ro, true, 2, false, 0, 4, false, false, false, .ten⟩ /- DOUBLE_FREE -/,
   ⟨0x7035, 0x0000, 0x001F, 3, .ro, true, 2, false, 0, 4, false, false, false, .ten⟩ /- FOREIGN_FREE -/,
   ⟨0x7036, 0x0000, 0x001F, 3, .ro, true, 2, false, 0, 4, false, false, false, .ten⟩ /- FOREIGN_READ -/,
   ⟨0x7040, 0x0000, 0x0007, 3, .ro, true, 0, false, 0, 4, false, false, false, .plain⟩ /- DECISION_MISMATCH -/,
   ⟨0x7041, 0x0000, 0x0007, 3, .ro, true, 0, false, 0, 4, false, false, false, .plain⟩ /- DECISION_RETRIED -/,
   ⟨0x7042, 0x0000, 0x0007, 3, .ro, true, 0, false, 0, 4, false, false, false, .plain⟩ /- PAIR_FAILED -/,
   ⟨0x7050, 0x0000, 0x03FF, 3, .ro, true, 2, false, 0, 4, false, false, false, .grp⟩ /- SYNC_LATE -/,
   ⟨0x7051, 0x0000, 0x03FF, 3, .ro, true, 2, false, 0, 4, false, false, false, .grp⟩ /- BCAST_SKIPPED -/,
   ⟨0x7060, 0x0000, 0x03FF, 3, .ro, true, 2, false, 0, 4, false, false, false, .tgt⟩ /- CLAIMS -/,
   ⟨0x7061, 0x0000, 0x03FF, 3, .ro, true, 2, false, 0, 4, false, false, false, .tgt⟩ /- SAMPLES -/,
   ⟨0x7062, 0x0000, 0x03FF, 4, .ro, true, 2, false, 0, 4, false, false, false, .tgt⟩ /- CLAIM_LAT_SUM -/,
   ⟨0x7063, 0x0000, 0x03FF, 4, .ro, true, 2, false, 0, 4, false, false, false, .tgt⟩ /- SERVICE_SUM -/,
   ⟨0x7064, 0x0000, 0x03FF, 3, .ro, true, 2, false, 0, 4, false, false, false, .tgt⟩ /- CLAIM_LAT_MAX -/,
   ⟨0x7065, 0x0000, 0x03FF, 3, .ro, true, 2, false, 0, 4, false, false, false, .tgt⟩ /- SERVICE_MAX -/,
   ⟨0x7066, 0x0000, 0x03FF, 3, .ro, true, 2, false, 0, 4, false, false, false, .tgt⟩ /- STAMP_DISCONT -/,
   ⟨0x7067, 0x0000, 0x0BFF, 10, .ro, true, 2, false, 0, 4, false, false, false, .stamps⟩ /- LAST_STAMPS -/]

/-- Objects 0x7068 to 0x7068. -/
def objRows7b : List Obj :=
  [⟨0x7068, 0x0000, 0x0FFF, 3, .ro, true, 2, false, 0, 4, false, false, false, .snap⟩ /- PERIOD_SNAPSHOT -/]

/-- Objects 0xF000 to 0xF015. -/
def objRowsFa : List Obj :=
  [⟨0xF000, 0x0000, 0x0000, 1, .woa, true, 2, false, 0, 0, false, false, false, .plain⟩ /- WIND -/,
   ⟨0xF001, 0x0000, 0x0000, 1, .woa, true, 2, false, 0, 0, false, false, false, .plain⟩ /- DRAFT_DISCARD -/,
   ⟨0xF002, 0x0000, 0x0000, 1, .woa, true, 2, false, 0, 0, false, false, false, .plain⟩ /- DRAFT_DEFAULTS -/,
   ⟨0xF003, 0x0000, 0x0000, 1, .woa, true, 0, false, 0, 0, false, false, false, .plain⟩ /- SAVE_SETTINGS -/,
   ⟨0xF008, 0x0000, 0x0FFF, 1, .woa, true, 2, false, 0, 0, false, false, false, .src⟩ /- SET_PENDING -/,
   ⟨0xF009, 0x0000, 0x0FFF, 1, .woa, true, 2, false, 0, 0, false, false, false, .src⟩ /- CLEAR_PENDING -/,
   ⟨0xF010, 0x0000, 0x0000, 3, .ro, true, 2, false, 0, 2, false, false, false, .plain⟩ /- WIND_EPOCH -/,
   ⟨0xF011, 0x0000, 0x001F, 8, .ro, true, 2, false, 0, 4, false, false, false, .ten⟩ /- WIND_RESULT -/,
   ⟨0xF012, 0x0000, 0x001F, 3, .ro, true, 2, false, 0, 4, false, false, false, .ten⟩ /- WIND_FAIL_AT -/,
   ⟨0xF013, 0x0000, 0x001F, 2, .ro, true, 2, false, 0, 4, true, false, false, .ten⟩ /- DRAFT_COUNT -/,
   ⟨0xF014, 0x0000, 0x001F, 3, .ro, true, 2, false, 0, 2, false, false, false, .ten⟩ /- WIND_SCOPE_EPOCH -/,
   ⟨0xF015, 0x0000, 0x001F, 3, .ro, true, 2, false, 0, 4, false, false, false, .ten⟩ /- WIND_REFUSALS -/]

/-- Every object of every object table of the spec, in ascending order of index. -/
def objRows : List Obj :=
  objRows0a ++ objRows1a ++ objRows1b ++ objRows1c ++ objRows1d ++ objRows1e ++ objRows1f ++ objRows2a ++ objRows3a ++ objRows4a ++ objRows5a ++ objRows6a ++ objRows7a ++ objRows7b ++ objRowsFa

/-- The defaults that are not 0 and do not depend on the element. -/
def dfltRows : List (Nat × Nat) :=
  [(0x0001, 0x4096), (0x0002, 1), (0x0005, 0x3FFF), (0x0006, 1), (0x0007, 0x0820040004001000)] ++
  [(0x1001, 1), (0x1005, 80000), (0x1204, 800), (0x1205, 80000), (0x120C, 1600000000), (0x1301, 64), (0x1305, 1600), (0x1306, 40000), (0x1403, 80000), (0x1405, 255), (0x1701, 512), (0x1803, 24), (0x1805, 1), (0x1806, 64), (0x1807, 1), (0x1808, 9414), (0x1812, 1), (0x1902, 80000), (0x1903, 8000000), (0x1904, 3)] ++
  [(0x1905, 1), (0x2005, 2), (0x2008, 800000), (0x200C, 1), (0x3006, 80000), (0x3007, 1), (0x3008, 16), (0x3404, 256), (0x3801, 255), (0x4001, 4), (0x4002, 100000), (0x4004, 255), (0x5000, 16383), (0x5020, 256), (0x6000, 1), (0x6001, 80000), (0x6002, 3), (0x6003, 16), (0x6004, 1), (0x6005, 8000000)]

/-- The rows of one index. -/
def objSegs (idx : Nat) : List Obj := objRows.filter (fun o => o.idx == idx)

/-- The row that holds an element, if the object has it. -/
def objAt (idx el : Nat) : Option Obj := objRows.find? (fun o => o.idx == idx && o.lo ≤ el && el ≤ o.hi)

/-- The key of a parameter. -/
def pkey (idx el : Nat) : Nat := idx * 65536 + el

/-- The default of a parameter by key: Table 06-2 (TGT_ESC), Table 16-8 (REPLAY_MAP), Table 02-5 (SENSE of S0), else the
table's number. -/
def dfltKey (k : Nat) : Nat :=
  let i := k / 65536
  let e := k % 65536
  if i = 0x3004 then e / 128
  else if i = 0x1911 then e
  else if i = 0x2004 then (if e = 0 then 3 else 0)
  else smGet (fun _ => 0) dfltRows i

/-- Bytes of a fixed-size type; STR and BLOB carry their length with the value (Table 09-2). -/
def typeSize (ty : Nat) : Nat :=
  if ty = 1 ∨ ty = 6 ∨ ty = 7 then 1
  else if ty = 2 then 2
  else if ty = 3 ∨ ty = 5 ∨ ty = 8 then 4
  else if ty = 4 ∨ ty = 9 ∨ ty = 10 then 8
  else 0

/-- R212 (Table 09-8): objects answered by the Regulator. -/
def regServed (idx : Nat) : Bool :=
  (0x1500 ≤ idx && idx ≤ 0x15FF) || (0x1800 ≤ idx && idx ≤ 0x18FF) || idx == 0xF003

/-- Does a reset at the rank (1 L1, 2 L2 cold, 3 L2 warm, 4 L3) restore an object's default (R10)? An entry of BLK alone
is decided by the block (R287); VBAK never. -/
def restoredBy (rank : Nat) (o : Obj) : Bool := 1 ≤ o.rst && o.rst ≤ 4 && rank ≤ o.rst

/-- Indexes whose defaults a reset of the rank restores. -/
def restoredIdx (rank : Nat) : List Nat := ((objRows.filter (restoredBy rank)).map (·.idx)).dedup

/-- R231: the descriptor of Table 09-11. -/
def typeDesc (idx : Nat) : Nat :=
  match objSegs idx with
  | [] => 0
  | o :: rest =>
    let segs := o :: rest
    let rank (a : Acc) : Nat := match a with | .rwd => 3 | .rwi => 2 | .woa => 1 | .ro => 0
    let w := segs.foldl (fun m x => if rank x.acc > rank m.acc then x else m) o
    let accCode : Nat := match w.acc with | .ro => 0 | .rwd => 1 | .rwi => 2 | .woa => 3
    let last := segs.foldl (fun m x => max m x.hi) 0
    let differ := segs.any (fun x => x.acc != o.acc || x.owner != o.owner || x.tenant != o.tenant || x.crown != o.crown
      || x.rst != o.rst || x.blk != o.blk || x.persist != o.persist)
    w.ty + accCode * 2 ^ 8 + b2n (segs.any (·.owner)) * 2 ^ 10 + b2n (segs.any (fun x => x.tenant != 0)) * 2 ^ 11
      + b2n (segs.any (·.crown)) * 2 ^ 12 + b2n w.persist * 2 ^ 13 + b2n (regServed idx) * 2 ^ 14 + b2n w.sparse * 2 ^ 15
      + o.lo * 2 ^ 16 + last * 2 ^ 32 + w.rst * 2 ^ 48 + b2n w.blk * 2 ^ 52 + b2n differ * 2 ^ 53

end Sys2Proof.Machine
end

