-- ==== Sys2Proof/Machine/State.lean ====
section
/-! DEFINITION. The state of the block: every register, buffer, queue, table, counter, mode and pin the spec gives it,
as plain data; and the state after reset. INVENTORY.md lists each with its rule. Dictionary objects that hold a plain
value stand in `State.obj`, one canonical map keyed by index × 65536 + element (R207), whose defaults are those of the
object tables (Machine/Objects.lean); everything with a structure of its own is a field. -/

namespace Sys2Proof.Machine

/-- Why the machine stops. -/
inductive Fault where
  /-- Raised by every meaning for a command whose operands name no resource of the device (`Instr.wf` fails): no sender
  can produce it. Safe: the model stops where there is no hardware behaviour. -/
  | illFormed
  deriving DecidableEq, Repr

/-- Why a command has no meaning. -/
inductive Refusal where
  /-- Raised only by an arm of `exec` for a command that has no meaning yet. Safe. -/
  | notModelled (mnemonic : String)
  deriving DecidableEq, Repr

/-! ## Sources (05) -/

/-- Table 05-2. -/
inductive SrcState where
  | idle
  | pending
  | inFlight
  | active
  | completed
  | quarantined
  deriving DecidableEq, Repr

/-- What a waiting arrival or a delivery reports of its doorbell (Table 03-6), the LEN of its header (Table 03-2), whether it is replayed (R390), and the
buffer it holds. -/
structure Arrival where
  dbTag : BitVec 16
  hdrLen : Nat
  len : Nat
  trunc : Bool
  lost : Bool
  replaced : Bool
  sw : Bool
  replayed : Bool
  keepFirst : Bool
  buf : Option Nat
  deriving DecidableEq, Repr

/-- No doorbell: an edge, a level, a set-pending or a release (R63: SW_SET). -/
def Arrival.none : Arrival := ⟨0, 0, 0, false, false, false, true, false, false, Option.none⟩

/-- An open storm window (R119): the elapsed beat at which it closes, and its count. -/
structure Storm where
  closeAt : Nat
  count : Nat
  deriving DecidableEq, Repr

/-- A broadcast member delivery not yet issued (R135): its target, the beat from which it is ranked there, and
whether its synchronized release (R137) is still to come. -/
structure Member where
  tgt : Nat
  rankedAt : Nat
  due : Bool
  deriving DecidableEq, Repr

/-- One source: state and flags (Tables 05-2, 05-3), stamps (R101), the selected target (R132), what its arrival and its
REPEND arrival report, the beats of its last hardware arrival (with its stamp) and of its last clear-pending or
its tenant's reset end (R30, R40, R41, R205), the storm window, the broadcast member deliveries, and the priority and route group of its last selection (R112). -/
structure Source where
  st : SrcState
  repend : Bool
  qreq : Bool
  qpend : Bool
  lvl : Bool
  stamp : Beat
  rependStamp : Beat
  rankedAt : Nat
  target : Option Nat
  info : Arrival
  rep : Arrival
  hwAt : Option Nat
  hwStamp : Beat
  clrAt : Option Nat
  storm : Option Storm
  members : List Member
  bcast : Bool
  issued : Bool
  release : Option Nat
  keptLseq : Option Dw
  prio : Nat
  grp : Nat
  deriving DecidableEq, Repr

def Source.init : Source :=
  { st := .idle, repend := false, qreq := false, qpend := false, lvl := false, stamp := 0, rependStamp := 0, rankedAt := 0,
    target := none, info := .none, rep := .none, hwAt := none, hwStamp := 0, clrAt := none, storm := none,
    members := [], bcast := false, issued := false, release := none, keptLseq := none, prio := 0, grp := 0 }

/-- The glitch filter of one wired input (R23): its filtered value, the level its synchronized samples show, and the first
beat whose sample counts towards that level (R28 restarts the count). -/
structure Filt where
  value : Bool
  sample : Bool
  since : Nat
  deriving DecidableEq, Repr

/-- (DESIGN CHOICE, log 5.) -/
def Filt.init : Filt := ⟨false, false, 0⟩

/-! ## Deliveries, targets, escapements (06) -/

/-- One held delivery in an escapement slot (R139): `grp` is its route group, `tgt` is none for a forward (R138). `start` is the start beat of the
claim latency (R172), `expire` the elapsed beat of its claim timeout (R147). -/
structure Delivery where
  grp : Nat
  esc : Nat
  slot : Nat
  tgt : Option Nat
  src : Nat
  tag : Nat
  prio : Nat
  active : Bool
  arrival : Beat
  start : Beat
  accept : Beat
  issuedAt : Nat
  expire : Option Nat
  info : Arrival
  bcast : Bool
  lseq : Option Dw
  deriving DecidableEq, Repr

/-- One target: tag counter (R129), service flags (Table 06-3) with the escapement whose reset or failure withdrew it, the registers of its mailbox page (Table 11-6) and the
figures of the open steering period (R175). -/
structure Target where
  tagNext : Nat
  quarantined : Bool
  withdrawn : Bool
  withdrawnBy : Option Nat
  migratedTo : Option Nat
  rebuilding : Bool
  threshold : BitVec 8
  claimStamp : Dw
  msgInfo : Dw
  lastHandle : Dw
  special : Dw
  doubleFree : Nat
  foreignFree : Nat
  pageFaults : Nat
  pSamples : Nat
  pLat : Nat
  pSvc : Nat
  pClaims : Nat
  pTimeouts : Nat
  closedTimeouts : Nat
  claimsAtQ : Nat
  hasAvg : Bool
  deriving DecidableEq, Repr

def Target.init : Target :=
  ⟨1, false, false, none, none, false, 0, 0, 0, 0, 0, 0, 0, 0, 0, 0, 0, 0, 0, 0, 0, false⟩

/-- One escapement: the target it last issued to (R140; 1024 stands for its forwards), its forward tag counter (R138), a coupled pair's failure,
the pair it serves as spare (R154), the commands whose decisions are to be recomputed with the beats at which they are
(R153), a migration under way to a spare, and the beats of its last claim decision and its last issue decision (R140). -/
structure Esc where
  lastTgt : Nat
  fwdTag : Nat
  failed : Bool
  engagedFor : Option Nat
  retry : List (Nat × Instr)
  migrating : Option Nat
  claimAt : Option Nat
  issueAt : Option Nat
  deriving DecidableEq, Repr

def Esc.init : Esc := ⟨1024, 1, false, none, [], none, none, none⟩

/-! ## Payload pool (03) -/

/-- The four states of §03.4. -/
inductive BufState where
  | free
  | staged
  | inTransit
  | owned
  deriving DecidableEq, Repr

/-- One payload buffer: state, generation (R55), bytes, the tenant it counts against (R52), its holders (R60, R62), the
targets whose FREEs this holding period accepted, the record of R67, and PAYLOAD_UE's mark. -/
structure Buf where
  st : BufState
  gen : BitVec 8
  bytes : List Byte
  tenant : Nat
  holders : List Nat
  freed : List Nat
  record : Option (BitVec 8 × List Nat)
  bad : Bool
  deriving DecidableEq, Repr

def Buf.init : Buf := ⟨.free, 0, [], 0, [], [], none, false⟩

/-- An accepted doorbell whose bytes are not yet all in its buffer (R43, R45): its source, header fields (Table 03-2)
and the bytes present. -/
structure Doorbell where
  src : Nat
  tag : BitVec 16
  len : Nat
  keepFirst : Bool
  bytes : List Byte
  deriving DecidableEq, Repr

/-! ## PCIe functions (08, 09, 11) -/

/-- One MSI-X vector (R277). -/
structure Vec where
  addr : BitVec 64
  data : Dw
  masked : Bool
  pba : Bool
  deriving DecidableEq, Repr

/-- (PRESUMED, log 7.) -/
def Vec.init : Vec := ⟨0, 0, true, false⟩

/-- What an accepted window command will complete with (R225); `wind` while it waits for its wind; `reg` if the Regulator
serves it (R212); `delays` the index of an object whose delay the command began, which runs from its completion (R281, R340,
R354), 0 if none. -/
structure WinResult where
  status : Nat
  value : Option (List Byte)
  draft : Bool
  seq : Byte
  wind : Bool
  reg : Bool
  delays : Nat
  deriving DecidableEq, Repr

/-- The dictionary window (Table 09-7). -/
structure Window where
  addr : Dw
  len : BitVec 9
  data : SMap Byte
  done : Bool
  collided : Bool
  draftPresent : Bool
  status : Byte
  seq : Byte
  irqEn : Bool
  busy : Option WinResult
  deriving DecidableEq, Repr

def Window.init : Window := ⟨0, 0, [], false, false, false, 0, 0, false, none⟩

/-- A tenant reset: none, the wait phase of a QUIESCE with its timeout beat (R202), or the reset phase (R203). -/
inductive TenReset where
  | none
  | quiescing (until_ : Nat)
  | resetting
  deriving DecidableEq, Repr

/-- A Dial block within a beat (R265, R278): DIAL_SUMMARY at the beat's start; whether the beat applied a DIAL_PEND_CLR or a
DIAL_EN_SET; the events of the beat, and those whose first occurrence in it counted DIAL_LOST; the bits that a DIAL_PEND_SET
of the beat named, and those of them that nothing else has set. -/
structure DialBeat where
  was : Bool
  again : Bool
  events : BitVec 64
  lost : BitVec 64
  named : BitVec 64
  fresh : BitVec 64
  deriving DecidableEq, Repr

def DialBeat.init : DialBeat := ⟨false, false, 0, 0, 0, 0⟩

/-- One PCIe function with its tenant: Bus Master Enable (R192), MSI-X (R277–R279), dictionary window, negotiation
(Table 08-6), Dial block (Table 11-5), tenant reset, and the configuration registers the spec names: BAR0 and (physical
function) VF BAR0 (R259), Max_Payload_Size (0, 1, 2: 128, 256, 512), the link's ASPM L1 control (R255), and the AER status of
R258. -/
structure Func where
  bme : Bool
  msixEn : Bool
  fmask : Bool
  v0 : Vec
  v1 : Vec
  win : Window
  accept : BitVec 64
  ok : Bool
  accepted : BitVec 64
  refused : Bool
  reason : Nat
  bit : Nat
  dialPend : BitVec 64
  dialEn : BitVec 64
  dialLost : Nat
  dialB : DialBeat
  rst : TenReset
  bar : BitVec 64
  vfBar : BitVec 64
  mps : Nat
  aspm : Bool
  aerUr : Bool
  aerPoisoned : Bool
  deriving DecidableEq, Repr

/-- (PRESUMED, log 7.) -/
def Func.init : Func :=
  ⟨false, false, false, .init, .init, .init, 0, false, 0, false, 0, 0, 0, 0, 0, .init, .none, 0, 0, 0, false, false, false⟩

/-- A requested wind: its scope, the snapshot of the scope's drafts by parameter key, whether DRAFT_DEFAULTS was
marked, and the parameters drafted again since (R215, R221). -/
structure WindReq where
  scope : Nat
  snap : SMap (Option Nat)
  defaults : Bool
  rewritten : List Nat
  deriving DecidableEq, Repr

/-! ## Engines (04) -/

/-- Table 04-8 [2:0]. -/
inductive EngRun where
  | stopped
  | running
  | halted
  | faulted
  deriving DecidableEq, Repr

/-- One Luilte engine (§04.2, Table 04-8). `susp` is the DO bit of a suspended SHIFT, `shifting` that of a SHIFT with
bits left to shift: its next edge is withheld (`waitHold`), or it goes on (`resume`); `holdSince` is the beat from which a wait
counts its asserted HOLD (R86); `fetched` is the prefetched word, `fetchedBad` its parity (R445); `dout` is XPn_DOUT;
`doneAt` the elapsed beat at which the last instruction ended; `atFrame` that it was a FRAME outside a handler (R92);
`frameLen`, `frameDiv` what LOAD latched. -/
structure Engine where
  run : EngRun
  w : SMap Dw
  rc : Nat
  cp : Nat
  pc : Nat
  z : Bool
  n : Bool
  c : Bool
  t : Bool
  cap : BitVec 128
  dbarg : Dw
  bank : Bool
  inHandler : Bool
  retPc : Nat
  svZ : Bool
  svN : Bool
  svC : Bool
  svT : Bool
  susp : Option Bool
  shifting : Option Bool
  resume : Bool
  waitHold : Bool
  waitBeat : Bool
  waitUntil : Option Nat
  swapPending : Bool
  evHold : Bool
  evAlarm : Bool
  evBell : Bool
  stale : Bool
  frame : Bool
  aborted : Bool
  frameLen : Nat
  frameDiv : Nat
  overshot : Bool
  pub : BitVec 128
  holdSince : Nat
  fetched : Option Dw
  fetchedBad : Bool
  doneAt : Nat
  dout : Bool
  atFrame : Bool
  deriving DecidableEq, Repr

/-- (DESIGN CHOICE, log 114.) -/
def Engine.init : Engine :=
  { run := .stopped, w := [], rc := 0, cp := 0, pc := 0, z := false, n := false, c := false, t := false, cap := 0,
    dbarg := 0, bank := false, inHandler := false, retPc := 0, svZ := false, svN := false, svC := false, svT := false,
    susp := none, shifting := none, resume := false, waitHold := false, waitBeat := false, waitUntil := none,
    swapPending := false, evHold := false, evAlarm := false, evBell := false, stale := false, frame := false,
    aborted := false, frameLen := 0, frameDiv := 4, overshot := false, pub := 0, holdSince := 0, fetched := none, fetchedBad := false, doneAt := 0,
    dout := false, atFrame := false }

/-! ## Time (07) -/

/-- How the counter counts: per beat, by balance ticks (R169), by eights during a relock (R158), or not at all. -/
inductive ClockMode where
  | stopped
  | perBeat
  | relock
  | quiet
  deriving DecidableEq, Repr

/-- The beat counter and its discipline (R157–R171): the rate accumulator in units of 10⁻⁹ beat, the balance
accumulator's fraction, `load` the value a load or step gives the counter at the next beat (R159, R164), the span of BAL_RATIO with its advance
(none: no span runs) and the ticks in it, the advance of a span that has ended (R170), whole seconds, 1PPS_OUT, 1PPS_IN, the
steering-period boundary, and the Dial summary as it stood at the end of the beat before (R29). -/
structure Time where
  counter : Beat
  s0 : Bool
  load : Option Beat
  mode : ClockMode
  relockAt : Nat
  rateAcc : Int
  balFrac : Nat
  spanAdv : Option Nat
  spanTicks : Nat
  spanFull : Option Nat
  resumeAtTick : Bool
  watched : Bool
  nextSecond : Nat
  ppsOutUntil : Option Nat
  ppsLast : Option Nat
  ppsFirst : Bool
  ppsGood : Nat
  ppsWake : Bool
  nextPeriod : Nat
  toUpdate : Bool
  deriving DecidableEq, Repr

/-- (DESIGN CHOICE, log 3, 4.) -/
def Time.init : Time :=
  { counter := 0, s0 := false, load := none, mode := .stopped, relockAt := 0, rateAcc := 0, balFrac := 0, spanAdv := none, spanTicks := 0, spanFull := none, resumeAtTick := false,
    watched := false, nextSecond := 0, ppsOutUntil := none, ppsLast := none, ppsFirst := true, ppsGood := 0,
    ppsWake := false, nextPeriod := 80000, toUpdate := false }

/-! ## Resets, start, backup domain, crown, JTAG (12, 13) -/

/-- The level resets (R280). -/
inductive Level where
  | l1
  | l2c
  | l2w
  | l3
  deriving DecidableEq, Repr

/-- A requested level reset (R281); `defaults` if FW_ACTIVATE 2 asked for it (R340). -/
structure ResetReq where
  level : Level
  cause : Nat
  escalated : Bool
  due : Nat
  defaults : Bool
  deriving DecidableEq, Repr

/-- The start in progress or finished (R295): the highest step completed, its column, when step 2 ended, when it failed and the
reset that R302 gives for it (its level, ESCALATED); START_STATE (1 READY, 2 MINIMAL, 3 BRINGUP, 0 none yet); the pins that hold
a reset. -/
structure Start where
  step : Nat
  level : Level
  stateCode : Nat
  minimal : Bool
  bringup : Bool
  boundFrom : Option Nat
  failedAt : Option Nat
  failNext : Level × Bool
  useDefaults : Bool
  holdPorst : Bool
  holdRstn : Bool
  dictBarUntil : Nat
  optionsDone : Bool
  lostRecords : Nat
  deriving DecidableEq, Repr

def Start.init : Start :=
  { step := 0, level := .l1, stateCode := 0, minimal := false, bringup := false, boundFrom := none, failedAt := none,
    failNext := (.l2c, false), useDefaults := false, holdPorst := false, holdRstn := false, dictBarUntil := 0,
    optionsDone := false, lostRecords := 0 }

/-- A block reset in progress (R290–R292): waiting until its timeout beat, or in its reset phase. -/
inductive BlkPhase where
  | waiting (until_ : Nat)
  | resetting
  deriving DecidableEq, Repr

/-- The backup domain (Table 13-3). -/
structure Backup where
  resetCount : Dw
  history : List Dw
  warmFails : Nat
  coldFails : Nat
  minimalEntered : Bool
  lastStep : Nat
  optAttempts : Nat
  optStatusLast : Dw
  strapsCold : BitVec 5
  dipCount : Dw
  gaspCount : Dw
  dipDepth : Nat
  dipTime : Nat
  dipReset : Nat
  supplyLive : Dw
  feedLive : Nat
  ibvLive : Nat
  mainGood : Bool
  latch : BitVec 16
  frameErrors : Nat
  fresh : Bool
  present : Bool
  deriving DecidableEq, Repr

/-- R310: every item cleared to 0 and VBAK_FRESH set. -/
def Backup.cleared (present : Bool) : Backup :=
  { resetCount := 0, history := List.replicate 16 0, warmFails := 0, coldFails := 0, minimalEntered := false,
    lastStep := 0, optAttempts := 0, optStatusLast := 0, strapsCold := 0, dipCount := 0, gaspCount := 0, dipDepth := 0,
    dipTime := 0, dipReset := 0, supplyLive := 0, feedLive := 0, ibvLive := 0, mainGood := false, latch := 0,
    frameErrors := 0, fresh := true, present := present }

/-- The crown port between frames (R313–R318): the previous frame's RESULT and ADDRESS, the address it READ, how far an
unlock has come (1 after UNLOCK_A, 2 unlocked), the 32-bit captures by even address, and the last frame shifted out. -/
structure Crown where
  result : Byte
  addr : Byte
  reading : Option Nat
  unlock : Nat
  caps : SMap Dw
  sdo : BitVec 40
  deriving DecidableEq, Repr

def Crown.init : Crown := ⟨0xFF, 0, none, 0, [], 0⟩

/-- The IEEE 1149.1 port (R305): instruction register, SPI_CS_N low, the byte received and DONE; the bytes sent to the
flash since SPI_CS_N fell (latest first) and whether it is write-enabled (Table 14-4). -/
structure Jtag where
  ir : Byte
  csLow : Bool
  rx : Byte
  xferDone : Bool
  spi : List Byte
  wel : Bool
  deriving DecidableEq, Repr

/-! ## Firmware and settings (14) -/

/-- The firmware run and the flash work under way (Table 14-8): REG_STATE (and that of before Quiet mode), running bank,
FW_STATE (0 CONFIRMED, 1 TRIAL, 2 FORCED), the beat at which the Regulator's boot began, since when it runs, its last
heartbeat at the latest; the end of the trial window; the running trial has been rolled back; staging; SET_SAVE_STATE with
the snapshot, the slot written and its generation; a migration due; the slot in use (0 none, 1 A, 2 B); SET_STATUS [9:2] by bit;
the beat at which FW_ACTIVATE 1 reboots; the boot-record copy being written and the beat by which it is (R326). -/
structure Firmware where
  regState : Nat
  regBackTo : Nat
  bank : Nat
  fwState : Nat
  bootFrom : Nat
  runningFrom : Option Nat
  lastBeatOfHeart : Nat
  trialEnd : Option Nat
  rolledBack : Bool
  stage : Nat
  stageBank : Nat
  chunks : List Nat
  save : Nat
  saveSnap : SMap Nat
  saveSlot : Nat
  saveGen : Nat
  migrateDue : Bool
  slot : Nat
  setFlags : Nat
  rebootAt : Option Nat
  bootWrite : Option (Nat × Nat)
  deriving DecidableEq, Repr

/-- (DESIGN CHOICE, log 8.) -/
def Firmware.init : Firmware :=
  { regState := 4, regBackTo := 4, bank := 0, fwState := 0, bootFrom := 0, runningFrom := none, lastBeatOfHeart := 0,
    trialEnd := none, rolledBack := false, stage := 0, stageBank := 1, chunks := [], save := 0, saveSnap := [], saveSlot := 0,
    saveGen := 0, migrateDue := false, slot := 0, setFlags := 0, rebootAt := none, bootWrite := none }

/-! ## Supply, gasp, quiet (15) -/

/-- The supply monitor (Tables 15-2, 15-3): FEED_LOW, GASP_STATE (0 ARMED, 1 HOLDOFF, 2 COMMITTED), the hold-off's end
and length, the warning beat, the lowest sample since, the alarm bits, the re-arm time and the ADC slot. -/
structure Supply where
  running : Bool
  feedLow : Bool
  gaspState : Nat
  holdEnd : Nat
  holdLen : Nat
  warnAt : Nat
  dipMin : Nat
  feedHigh : Bool
  ibvLow : Bool
  ibvHigh : Bool
  adcSlot : Nat
  deriving DecidableEq, Repr

def Supply.init : Supply := ⟨false, false, 0, 0, 0, 0, 0, false, false, false, 0⟩

/-- The last gasp (R251, R350, R351, R382): prepared, the commit beat, the values its frames carry, the destinations
with their report numbers, rounds sent, whether copies remain, pair copies left. -/
structure Gasp where
  prepared : Bool
  commitAt : Nat
  commitBeat : Beat
  feedCode : Nat
  holdUs : Nat
  dests : List (Nat × Nat)
  rounds : Nat
  sending : Bool
  pairLeft : Nat
  deriving DecidableEq, Repr

def Gasp.init : Gasp := ⟨false, 0, 0, 0, 0, [], 3, false, 0⟩

/-- An arrival latched while quiet (R357): its source, its coarse stamp and how many came after it. -/
structure Latched where
  src : Nat
  stamp : Beat
  more : Nat
  deriving DecidableEq, Repr

/-- Quiet mode (Tables 15-4, 15-6): QUIET_STATE (0 ACTIVE, 1 ENTERING, 2 QUIET, 3 WAKING), the beat at which entry is to
begin, the drain limit, whether steps 3–8 were performed, the latched arrivals, the PCIe requests held, a promotion, the PHY
with the advertisement saved of it (registers 4 and 9, R359), the D3hot bar of R363 and the engines stopped at entry. -/
structure Quiet where
  code : Nat
  beginAt : Option Nat
  d3Waits : Bool
  drainUntil : Nat
  stepsDone : Bool
  issueStop : Bool
  latch : List Latched
  held : List Instr
  promote : Bool
  ddrAsleep : Bool
  adv : Option (Nat × BitVec 16 × BitVec 16)
  sleptAt : Nat
  d3Bar : Bool
  engStopped : List Nat
  deriving DecidableEq, Repr

def Quiet.init : Quiet := ⟨0, none, false, 0, false, false, [], [], false, false, none, 0, false, []⟩

/-! ## Tandem link (16) -/

/-- A request the device sends on the lanes (Table 16-4). `loc` is the local source whose delivery a FORWARD is. -/
inductive TdmReq where
  | forward (loc : Nat) (src : Nat) (tag : BitVec 16) (len : Nat) (keep : Bool) (payload : List Byte)
  | mirror (e : MirrorEntry)
  | syncBegin
  | syncEntries (es : List MirrorEntry)
  | syncEnd
  | gasp (resetCount : Dw) (holdUs : Nat)
  deriving DecidableEq, Repr

/-- A request sent and not acknowledged (R372, R374). -/
structure Sent where
  lseq : Dw
  req : TdmReq
  tries : Nat
  lastAt : Nat
  deriving DecidableEq, Repr

/-- An inbound mirror entry (R387). -/
structure InEntry where
  valid : Bool
  code : Nat
  repend : Bool
  deriving DecidableEq, Repr

def InEntry.init : InEntry := ⟨false, 0, false⟩

/-- The tandem link (Table 16-8, §16.2): lanes (0 DOWN, 1 TRAINING, 2 UP), pair and partner flags, sessions, sequence
numbers, credits, requests, the mirror queue and sync, the inbound table with what its
unlisted entries hold of VALID, the mirrored sources that changed in this beat (R384), the beats of the last HELLO since
TRAINING began, of the last lane and pair HEARTBEAT (R366, R379), the beat from which the pair is idle, the pair frames (TYPE, ARG)
that wait for it (R378), and the pair's other timers. -/
structure Tandem where
  lanes : Nat
  downAt : Nat
  blockLock : Bool
  seen : Bool
  pairOk : Bool
  present : Bool
  pQuiet : Bool
  pGasp : Bool
  pPromoted : Bool
  mirrorInValid : Bool
  syncingIn : Bool
  promoted : Bool
  frozenIn : Bool
  overflow : Bool
  clash : Bool
  session : Dw
  pSession : Dw
  linkResets : Nat
  txNext : Dw
  expected : Dw
  sinceUp : Nat
  creditRx : BitVec 16
  executed : BitVec 16
  unacked : List Sent
  queue : List TdmReq
  syncing : Bool
  heardAt : Nat
  laneHeardAt : Nat
  inTable : SMap InEntry
  allIn : Bool
  dirty : List Nat
  helloAt : Option Nat
  hbAt : Nat
  pairAt : Option Nat
  pairFrom : Nat
  pairWait : List (Nat × Dw)
  backoff : Option Nat
  wakeSentAt : Option Nat
  gaspSession : Option Dw
  deriving DecidableEq, Repr

def Tandem.init : Tandem :=
  { lanes := 0, downAt := 0, blockLock := false, seen := false, pairOk := false, present := false, pQuiet := false,
    pGasp := false, pPromoted := false, mirrorInValid := false, syncingIn := false, promoted := false, frozenIn := false,
    overflow := false, clash := false, session := 0, pSession := 0, linkResets := 0, txNext := 1, expected := 1,
    sinceUp := 0, creditRx := 0, executed := 0, unacked := [], queue := [], syncing := false, heardAt := 0,
    laneHeardAt := 0, inTable := [], allIn := false, dirty := [], helloAt := none, hbAt := 0,
    pairAt := none, pairFrom := 0, pairWait := [], backoff := none, wakeSentAt := none, gaspSession := none }

/-! ## Narind (10) -/

/-- A subscription (R248–R250): the parameter, its interval in ticks, ON_CHANGE, ticks since the last report and the last
value reported. -/
structure Sub where
  idx : Nat
  el : Nat
  interval : Nat
  onChange : Bool
  since : Nat
  last : Option (List Byte)
  deriving DecidableEq, Repr

/-- One client entry's running state (R240, R242, R250): last-known address, H, the reply cache newest first, the report
number, whether it has authenticated in this session, the address of its latest SUBSCRIBE, its subscriptions. -/
structure Client where
  addr : Option Nat
  high : Option Dw
  cache : List (Dw × List Byte)
  reportNo : Nat
  seen : Bool
  subAddr : Nat
  subs : List Sub
  deriving DecidableEq, Repr

def Client.init : Client := ⟨none, none, [], 0, false, 0, []⟩

/-- One operation of a body (Table 10-4): its header, its value, and whether its reserved byte and pad bytes are 0. -/
structure NrOp where
  op : Nat
  idx : Nat
  el : Nat
  val : List Byte
  clean : Bool
  deriving DecidableEq, Repr

/-- What the port has taken in (R245): client entry, source and destination address, and the frame, or (`row`) one operation of a
row of its own. -/
structure NrIn where
  client : Nat
  addr : Nat
  dst : Nat
  row : Bool
  bytes : List Byte
  deriving DecidableEq, Repr

/-- The REQUEST in progress (R245): what was taken in and its principal, the operations still to complete, STOP_ON_ERROR met, the
result records so far, what the first of the operations will complete with once it has been applied, the beat from which the next
may complete, and the objects whose delay runs from the reply (R340, R354). -/
structure NrJob where
  src : NrIn
  pr : Nat
  ops : List NrOp
  halted : Bool
  recs : List (List Byte)
  pend : Option WinResult
  due : Nat
  later : List Nat
  deriving DecidableEq, Repr

/-- The management port (R233–R235, R241): up, link, speed, conflicts, block resets since the last L1 or L2 reset, the
session, clients, the addresses resolved, echo replies in the current second, the beat of the last 10 ms tick (R249), the input
queue oldest first and the REQUEST in progress (R245). -/
structure Port where
  up : Bool
  link : Bool
  speed : Nat
  llConflict : Bool
  glConflict : Bool
  blkResets : Nat
  session : Dw
  clients : SMap Client
  arp : SMap (Option Nat)
  echoFrom : Nat
  echoCount : Nat
  tickAt : Nat
  queue : List NrIn
  job : Option NrJob
  deriving DecidableEq, Repr

def Port.init : Port := ⟨false, false, 0, false, false, 0, 0, [], [], 0, 0, 0, [], none⟩

/-! ## Faults and chronograph (17) -/

/-- A fault as a slot holds it (Table 17-4). -/
structure FaultRec where
  seq : Dw
  code : Nat
  cls : Nat
  info : Nat
  beat : Beat
  deriving DecidableEq, Repr

/-- A chronograph record before its SEQ is assigned (R407): beat, TYPE, ATTR and the 14 body bytes. -/
structure ChrRec where
  beat : Beat
  kind : Nat
  attr : Nat
  body : List Byte
  deriving DecidableEq, Repr

/-- The faults of the beat so far (R399, R400), each with its code and INFO, in the order in which they are numbered; and what
FAULT_SEQ and the slots held before them, the clears of the beat applied. No faults: the rest is unread. -/
structure FaultBeat where
  list : List (Nat × Nat)
  seq : Nat
  first : Option FaultRec
  multi : Bool
  worst : Option FaultRec
  deriving DecidableEq, Repr

def FaultBeat.init : FaultBeat := ⟨[], 0, none, false, none⟩

/-- The chronograph (R406–R416): queue oldest first, how many records of this beat stand at its end, records dropped since the
last LOST record, status bits, ring identity and positions, rings begun since the reset, the records a flush still owes. -/
structure Chrono where
  queue : List ChrRec
  fresh : Nat
  lost : Nat
  trained : Bool
  selfRefresh : Bool
  recovered : Bool
  flushing : Bool
  wrapped : Bool
  ringId : Nat
  rings : Nat
  nextSeq : Dw
  readSeq : Dw
  lapArmed : Bool
  flushOwes : Nat
  dramMib : Nat
  deriving DecidableEq, Repr

def Chrono.init : Chrono :=
  { queue := [], fresh := 0, lost := 0, trained := false, selfRefresh := false, recovered := false, flushing := false,
    wrapped := false, ringId := 0, rings := 0, nextSeq := 0, readSeq := 0, lapArmed := true, flushOwes := 0,
    dramMib := 0 }

/-- A scope's staged CHR_WINDOW (R416): the BLOB and whether a refill is owed. -/
structure ChrWin where
  blob : List Byte
  stale : Bool
  deriving DecidableEq, Repr

def ChrWin.init : ChrWin := ⟨List.replicate 8 0, false⟩

/-! ## What leaves the device -/

/-- A write's role among the outbound posted writes (R11). -/
inductive Role where
  | notify
  | push
  | msix (vec : Nat)
  deriving DecidableEq, Repr

/-- One thing that leaves the device. -/
inductive Out where
  /-- A posted memory write with the Requester ID of function `fn` (R12, R142, R143, R279). -/
  | posted (role : Role) (fn : Nat) (addr : BitVec 64) (data : List Dw)
  /-- A completion with data: Successful, or Unsupported Request when `ur`. -/
  | cpl (fn : Nat) (ur : Bool) (data : List Byte)
  /-- A completion of a configuration request: Request Retry Status when `rrs`. -/
  | cfgCpl (fn : Nat) (rrs : Bool) (value : Nat)
  /-- An error logged through AER (R258). -/
  | aer (fn : Nat) (poisoned : Bool)
  /-- A PME message (R363). -/
  | pme
  /-- A UDP datagram with its checksum (R234) and a Narind frame, from one of the device's addresses to an address, by the next hop
  `hop` (R235, R236, R250, R251). -/
  | udp (src addr hop : Nat) (frame : List Byte)
  /-- The result record of a Narind operation sent as a row of its own, for a client entry (Table 10-4). -/
  | nrRecord (client : Nat) (record : List Byte)
  /-- An ARP request and a neighbour solicitation (R234): the address asked for; a probe of duplicate address detection. -/
  | arpRequest (ip : Nat)
  | ndSolicit (target : Nat)
  | dadProbe (target : Nat)
  /-- ARP and NDP answers (R234): the address, the MAC address it has, the asker; echo answers. -/
  | arpReply (ip mac dest : Nat)
  | ndAdvert (target mac dest : Nat)
  | echoReply (src addr hop : Nat) (data : List Byte)
  /-- A lane frame (Table 16-3). -/
  | lane (frame : List Byte)
  /-- A pair frame (Table 16-5). -/
  | pair (frame : List Byte)
  /-- The bits of CRN_SDO up to the last rising edge of a frame (Table 13-2, R313). -/
  | crown (bits : List Bool)
  /-- What a scan of the IEEE 1149.1 port shifts out, after Capture-IR or Capture-DR: `width` bits, bit 0 first (R305). -/
  | tdo (width value : Nat)
  /-- An edge of an expander ball at beat `beat` (R73): `ball` 0 SCK, 1 LOAD, 2 DOUT of port `port`. -/
  | ball (port ball : Nat) (level : Bool) (beat : Nat)
  /-- A byte on the flash interface (R305). -/
  | spi (mosi : Byte)
  /-- A PHY management write (R359): PHY address, Clause 22 register, value. -/
  | mdio (phy reg : Nat) (value : BitVec 16)
  deriving DecidableEq, Repr

/-! ## The state -/

/-- The block's state. -/
structure State where
  /-- The commands waiting, first in first out. -/
  pending : List Instr
  /-- Elapsed core-clock beats (R160). -/
  now : Nat
  /-- The first beat at which the next software request is applied (R40, R273). -/
  nextSw : Nat
  /-- What the last command answered: a dictionary status code (Table 09-5). -/
  status : Nat
  time : Time
  /-- Every plain dictionary object: key index × 65536 + element. -/
  obj : SMap Nat
  /-- Drafts: key scope × 2³² + index × 65536 + element (R213). -/
  drafts : SMap (Option Nat)
  /-- Scopes marked by DRAFT_DEFAULTS (R221). -/
  marks : List Nat
  /-- Winds requested, the one being checked first (R216). -/
  winds : List WindReq
  src : SMap Source
  /-- The glitch filters of IRQ_IN[95:0] (R23). -/
  filtered : SMap Filt
  bankA : Bool
  bankB : Bool
  sensing : Bool
  /-- Arrivals to apply at row 2 of the next beat, with the stamps they carry (R29). -/
  late : List (Nat × Beat)
  /-- Arrivals of row 2 of this beat that are not yet applied: a wind of this beat stands before them (Table 05-5). -/
  row2 : List (Nat × Beat)
  /-- Object writes that take effect on the next beat (R35), by key. -/
  nextObj : List (Nat × Nat)
  dlv : List Delivery
  tgt : SMap Target
  esc : SMap Esc
  /-- Claims and COMPLETEs held by a migration (by even escapement) or a rebuild (R154, R397), in order of arrival. -/
  heldOps : List Instr
  buf : SMap Buf
  /-- The pool's order (R444): buffers never yet allocated start here … -/
  poolNext : Nat
  /-- … and these follow, in the order in which they came back: by beat, then index. -/
  poolBack : List (Nat × Nat)
  doorbells : List Doorbell
  func : SMap Func
  vfEnable : Bool
  numVfs : Nat
  pfD3 : Bool
  pmeEn : Bool
  perst : Bool
  wakeLow : Bool
  linkL0 : Bool
  /-- Posted writes decided while the link is not in L0 (R361). -/
  txWait : List Out
  eng : SMap Engine
  /-- Bad parity: program words by PROG element, working registers by 0x10000 + ENG_W element (R445). -/
  badParity : List Nat
  start : Start
  resetReq : Option ResetReq
  /-- An ISOLATE block reset of the management port waits out a gasp (R294). -/
  portDeferred : Bool
  wdogFrom : Option Nat
  /-- Block resets in progress by element of Table 12-5 (tenants aside). -/
  blk : SMap (Option BlkPhase)
  backup : Backup
  crown : Crown
  straps : BitVec 5
  fuseA : BitVec 272
  fuseB : BitVec 272
  shadow : BitVec 256
  jtag : Jtag
  /-- NOR flash (R323); an unlisted byte reads 0xFF. -/
  flash : List Host.Cell
  fw : Firmware
  supply : Supply
  gasp : Gasp
  quiet : Quiet
  tdm : Tandem
  port : Port
  first : Option FaultRec
  multi : Bool
  worst : Option FaultRec
  faultB : FaultBeat
  chr : Chrono
  /-- DDR4 contents (R411, R415); an unlisted byte reads 0. -/
  dram : List Host.Cell
  chrWin : SMap ChrWin
  /-- What has left the device, newest first (log 6). -/
  sent : List Out
  /-- The counter behind the free values of Config (log 13). -/
  free : Nat
  deriving DecidableEq, Repr

/-- R308: every field 0 and every trim at its midpoint. -/
def safeOptions : BitVec 256 :=
  BitVec.ofNat 256 (0x808080808080808080808080 * 2 ^ 128)

/-- The machine right after an L1 reset with an empty backup domain, counted as R286 says, before step 1 of the start
(R295). (DESIGN CHOICE, log 5, 9, 10.) (DEDUCED, log 15.) (PRESUMED, log 17.) -/
def State.reset : State where
  pending := []
  now := 0
  nextSw := 0
  status := 0
  time := .init
  obj := []
  drafts := []
  marks := []
  winds := []
  src := []
  filtered := []
  bankA := true
  bankB := true
  sensing := false
  late := []
  row2 := []
  nextObj := []
  dlv := []
  tgt := []
  esc := []
  heldOps := []
  buf := []
  poolNext := 0
  poolBack := []
  doorbells := []
  func := []
  vfEnable := false
  numVfs := 0
  pfD3 := false
  pmeEn := false
  perst := false
  wakeLow := false
  linkL0 := false
  txWait := []
  eng := []
  badParity := []
  start := .init
  resetReq := none
  portDeferred := false
  wdogFrom := none
  blk := []
  backup := { Backup.cleared true with resetCount := 1, history := 0x00011101 :: List.replicate 15 0, fresh := false }
  crown := .init
  straps := 0
  fuseA := 0
  fuseB := 0
  shadow := safeOptions
  jtag := ⟨0x02, false, 0, false, [], false⟩
  flash := []
  fw := .init
  supply := .init
  gasp := .init
  quiet := .init
  tdm := .init
  port := .init
  first := none
  multi := false
  worst := none
  faultB := .init
  chr := { Chrono.init with queue := [⟨0, 3, 0x20, leBytes 4 0x00011101 ++ leBytes 4 1 ++ leBytes 2 0⟩] }
  dram := []
  chrWin := []
  sent := []
  free := 0

end Sys2Proof.Machine
end

