-- ==== Sys2Proof/Machine/Ops.lean ====
section
/-! DEFINITION. The named operations over the state that every family shares: objects and tables, the tenants' dense
views, what leaves the device, chronograph records, the Dial and its MSI-X messages, faults. -/

namespace Sys2Proof.Machine

open Sys2Proof

/-- A command's outcome: its next state, or the fault of a command whose operands name nothing in the device.
(DESIGN CHOICE, log 14.) -/
def run (ok : Bool) (s' : State) : Host.Outcome State Fault Refusal := if ok then .next s' else .fault .illFormed

/-! ## Objects and tables -/

/-- The value of a plain dictionary object. -/
def State.o (s : State) (idx el : Nat) : Nat := smGet dfltKey s.obj (pkey idx el)

/-- Write a plain dictionary object. -/
def State.setO (idx el v : Nat) (s : State) : State := { s with obj := smSet dfltKey s.obj (pkey idx el) v }

/-- Count on a saturating 32-bit counter object. -/
def State.bump (idx el n : Nat) (s : State) : State := s.setO idx el (satAdd 32 (s.o idx el) n)

def State.srcAt (s : State) (n : Nat) : Source := smGet (fun _ => Source.init) s.src n
def State.setSrc (n : Nat) (x : Source) (s : State) : State := { s with src := smSet (fun _ => Source.init) s.src n x }
def State.tgtAt (s : State) (t : Nat) : Target := smGet (fun _ => Target.init) s.tgt t
def State.setTgt (t : Nat) (x : Target) (s : State) : State := { s with tgt := smSet (fun _ => Target.init) s.tgt t x }
def State.escAt (s : State) (e : Nat) : Esc := smGet (fun _ => Esc.init) s.esc e
def State.setEsc (e : Nat) (x : Esc) (s : State) : State := { s with esc := smSet (fun _ => Esc.init) s.esc e x }
def State.bufAt (s : State) (i : Nat) : Buf := smGet (fun _ => Buf.init) s.buf i
def State.setBuf (i : Nat) (x : Buf) (s : State) : State := { s with buf := smSet (fun _ => Buf.init) s.buf i x }
def State.fn (s : State) (n : Nat) : Func := smGet (fun _ => Func.init) s.func n
def State.setFn (n : Nat) (x : Func) (s : State) : State := { s with func := smSet (fun _ => Func.init) s.func n x }
def State.engAt (s : State) (n : Nat) : Engine := smGet (fun _ => Engine.init) s.eng n
def State.setEng (n : Nat) (x : Engine) (s : State) : State := { s with eng := smSet (fun _ => Engine.init) s.eng n x }

/-- The value of the beat counter (R157). -/
def State.cnt (s : State) : Beat := s.time.counter

/-- The status the command answers (Table 09-5). -/
def State.answer (st : Nat) (s : State) : State := { s with status := st }

/-- One free value: the counter's number, and the counter advanced. (DESIGN CHOICE, log 13.) -/
def State.draw (s : State) : Nat × State := (s.free, { s with free := s.free + 1 })

/-- The keys of an object's listed elements that `p` accepts, in ascending order. -/
def State.elems (s : State) (idx : Nat) (p : Nat → Bool) : List Nat :=
  (s.obj.filter (fun e => e.1 / 65536 == idx && p e.2)).map (fun e => e.1 % 65536)

/-- Ascending list without repeats. -/
def insertNat (n : Nat) : List Nat → List Nat
  | [] => [n]
  | m :: t => if n < m then n :: m :: t else if n = m then m :: t else m :: insertNat n t

/-- The elements of a list in ascending order, once each. -/
def ascending (l : List Nat) : List Nat := l.foldr insertNat []

/-! ## The backup domain -/

/-- A write of the backup domain; lost while VBAK is absent (R427). -/
def State.bk (f : Backup → Backup) (s : State) : State := if s.backup.present then { s with backup := f s.backup } else s

/-! ## Tenants -/

/-- The tenant of a source; S0–S15 are T0's (R29). -/
def State.srcTen (s : State) (n : Nat) : Nat := if n < 16 then 0 else s.o 0x2000 n
def State.tgtTen (s : State) (t : Nat) : Nat := s.o 0x3000 t
def State.grpTen (s : State) (g : Nat) : Nat := s.o 0x3400 g

/-- R17: FEATURES_OK is granted with the bit accepted. -/
def State.hasFeat (s : State) (ten bit : Nat) : Bool := (s.fn ten).ok && (s.fn ten).accepted.getLsbD bit

/-- R191: the function of tenant `n` is present. -/
def State.present (s : State) (n : Nat) : Bool := n == 0 || (s.straps.getLsbD 4 && s.vfEnable && n ≤ s.numVfs)

/-- R203: the tenant is in its reset phase. -/
def State.resetting (s : State) (ten : Nat) : Bool := (s.fn ten).rst == .resetting

/-- R202, R203: a reset of the tenant is in progress. -/
def State.inReset (s : State) (ten : Nat) : Bool := (s.fn ten).rst != .none

/-- The Owner numbers of the resources of a kind (0x2000 sources, 0x3000 targets, 0x3400 groups) that a tenant owns, in
ascending order, for T1–T31. -/
def State.owned (s : State) (kindIdx ten : Nat) : List Nat := s.elems kindIdx (· == ten)

/-- How many resources of a kind the Owner has. -/
def kindSize (kindIdx : Nat) : Nat := if kindIdx = 0x2000 then 4096 else 1024

/-- SRC_COUNT, TGT_COUNT and GRP_COUNT (Table 08-2). -/
def State.viewCount (s : State) (kindIdx ten : Nat) : Nat :=
  if ten = 0 then kindSize kindIdx else (s.owned kindIdx ten).length

/-- The Owner number of dense resource `k` of the function's view (R193). -/
def State.fromView (s : State) (kindIdx ten k : Nat) : Option Nat :=
  if ten = 0 then (if k < kindSize kindIdx then some k else none) else (s.owned kindIdx ten)[k]?

/-- The number of a resource in its tenant's view (R193). -/
def State.toView (s : State) (kindIdx ten n : Nat) : Nat :=
  if ten = 0 then n else ((s.owned kindIdx ten).filter (· < n)).length

/-! ## What leaves the device -/

/-- (DESIGN CHOICE, log 6.) -/
def State.emit (o : Out) (s : State) : State := { s with sent := o :: s.sent }

/-- A TLP the device decides: sent in the order of decision (R274); it waits while the link is not in L0.
(DESIGN CHOICE, log 6.) (PRESUMED, log 77.) -/
def State.post (o : Out) (s : State) : State :=
  if s.linkL0 then s.emit o else { s with txWait := s.txWait ++ [o] }

/-- The header fields of R256. -/
structure TlpHdr where
  trafficClass : Nat
  relaxedOrdering : Bool
  noSnoop : Bool
  idOrdering : Bool
  prefix_ : Bool
  hints : Bool
  dws : Nat
  deriving DecidableEq, Repr

/-- R256: the header of a TLP that leaves the device. A completion has three DWs, a message four (PRESUMED, log 136). -/
def Out.tlp : Out → Option TlpHdr
  | .posted _ _ addr _ => some ⟨0, false, false, false, false, false, if addr.toNat < 2 ^ 32 then 3 else 4⟩
  | .cpl .. | .cfgCpl .. => some ⟨0, false, false, false, false, false, 3⟩
  | .aer .. | .pme => some ⟨0, false, false, false, false, false, 4⟩
  | _ => none

/-! ## Tandem frames (R7, R368, R377) -/

/-- The first 12 bytes of a lane frame (Table 16-3). -/
def laneHead (kind flags : Byte) (len : Nat) (lseq : Dw) (credit : BitVec 16) : List Byte :=
  [kind, flags] ++ beBytes 2 len ++ beBytes 4 lseq.toNat ++ beBytes 2 credit.toNat ++ [0, 0]

/-- A lane frame: header, body, CRC-32. -/
def laneFrame (kind flags : Byte) (lseq : Dw) (credit : BitVec 16) (body : List Byte) : List Byte :=
  let m := laneHead kind flags body.length lseq credit ++ body
  m ++ beBytes 4 (crc32 m).toNat

/-- A mirror entry (Table 16-7). -/
def mirrorBytes (e : MirrorEntry) : List Byte := beBytes 2 e.src ++ [BitVec.ofNat 8 (e.code + 8 * b2n e.repend), 0]

/-- The bodies of Table 16-4. -/
def helloBody (session txNext rxLast rxSession : Dw) (flags : Byte) : List Byte :=
  beBytes 4 session.toNat ++ beBytes 4 txNext.toNat ++ beBytes 4 rxLast.toNat ++ beBytes 4 rxSession.toNat ++ [flags, 0, 0, 0]
def heartbeatBody (session : Dw) (flags : Byte) : List Byte := beBytes 4 session.toNat ++ [flags, 0, 0, 0]
def forwardBody (src : Nat) (tag : BitVec 16) (len : Nat) (keep : Bool) (payload : List Byte) : List Byte :=
  beBytes 2 src ++ [0, 0] ++ beBytes 2 tag.toNat ++ [BitVec.ofNat 8 len, BitVec.ofNat 8 (b2n keep), 0, 0, 0, 0] ++ payload
def entriesBody (es : List MirrorEntry) : List Byte := [BitVec.ofNat 8 es.length, 0, 0, 0] ++ es.flatMap mirrorBytes
def gaspBody (resetCount : Dw) (us : Nat) : List Byte := beBytes 4 resetCount.toNat ++ beBytes 2 us ++ [0, 0]

/-- TYPE and body of a request. -/
def TdmReq.body : TdmReq → Byte × List Byte
  | .forward _ src tag len keep payload => (0x10, forwardBody src tag len keep payload)
  | .mirror e => (0x11, mirrorBytes e)
  | .syncBegin => (0x12, [])
  | .syncEntries es => (0x13, entriesBody es)
  | .syncEnd => (0x14, [])
  | .gasp rc us => (0x15, gaspBody rc us)

/-- A request as it is sent. -/
def TdmReq.frame (lseq : Dw) (credit : BitVec 16) (r : TdmReq) : List Byte := laneFrame r.body.1 0 lseq credit r.body.2

/-- Bytes 3 to 13 of a pair frame (Table 16-5). -/
def pairMid (kind : Nat) (flags : Byte) (session arg : Dw) : List Byte :=
  [BitVec.ofNat 8 kind, flags] ++ beBytes 4 session.toNat ++ beBytes 4 arg.toNat ++ [0]

/-- A pair frame: preamble, SFD, bytes 3 to 13, CRC-16. -/
def pairFrame (kind : Nat) (flags : Byte) (session arg : Dw) : List Byte :=
  let m := pairMid kind flags session arg
  [0x55, 0x55, 0xD5] ++ m ++ beBytes 2 (crc16Bytes m).toNat

/-! ## Chronograph records (R406–R408) -/

/-- CHR_SIZE fits CHR_DRAM_MIB (R414). -/
def State.ringFits (s : State) : Bool := s.o 0x1700 0 + s.o 0x1701 0 ≤ s.chr.dramMib

/-- CHR_STATUS.AVAILABLE (R414). -/
def State.chrAvail (s : State) : Bool := s.chr.trained && s.chr.dramMib != 0 && s.ringFits

/-- COARSE of a record raised now. -/
def State.coarse (s : State) : Bool := s.time.mode == .quiet

/-- DIAL_SUMMARY of a function's block (Table 11-5). (DESIGN CHOICE, log 116.) -/
def Func.summary (f : Func) : Bool := f.dialPend &&& f.dialEn != 0

/-- R192: does the function's Bus Master Enable allow its writes? -/
def State.busMaster (s : State) (n : Nat) : Bool := (s.fn n).bme

/-- R277: vector `v` of a function. -/
def Func.vec (f : Func) (v : Nat) : Vec := if v = 0 then f.v0 else f.v1
def Func.setVec (v : Nat) (x : Vec) (f : Func) : Func := if v = 0 then { f with v0 := x } else { f with v1 := x }

/-- R279: may the vector be sent now? -/
def Func.vecReady (f : Func) (v : Nat) : Bool := f.msixEn && !f.fmask && !(f.vec v).masked && f.bme

/-- R363: after a wake in D3hot nothing is sent until the function returns to D0. -/
def State.vecGo (s : State) (n v : Nat) : Bool := (s.fn n).vecReady v && !s.quiet.d3Bar

/-- R278, R279: a function's vector is raised; raised again while its PBA bit is set it stays one pending message.
(DEDUCED, log 76.) -/
def State.raiseVec (n v : Nat) (s : State) : State :=
  let f := s.fn n
  if s.resetting n || !f.msixEn then s
  else if s.vecGo n v && !(f.vec v).pba then s.post (.posted (.msix v) n (f.vec v).addr [(f.vec v).data])
  else s.setFn n (f.setVec v { f.vec v with pba := true })

/-- One Dial block latches an event (R265): lost if its bit is pending, but for one that only a DIAL_PEND_SET of this beat has set,
which the event precedes. -/
def Func.latch (k : Nat) (f : Func) : Func :=
  let m := BitVec.twoPow 64 k
  let d := f.dialB
  if f.dialPend.getLsbD k && !d.fresh.getLsbD k then
    { f with
      dialLost := satAdd 32 f.dialLost 1
      dialB := if d.events.getLsbD k then d else { d with events := d.events ||| m, lost := d.lost ||| m } }
  else { f with dialPend := f.dialPend ||| m, dialB := { d with events := d.events ||| m, fresh := d.fresh &&& ~~~ m } }

def State.latchDial (n k : Nat) (s : State) : State := s.setFn n ((s.fn n).latch k)

/-- R278: the end of a beat for function `n`'s Dial block: DIAL is raised if the summary is 1 and was 0 at the beat's start, or the
beat applied a DIAL_PEND_CLR or a DIAL_EN_SET. -/
def State.dialTurn (n : Nat) (s : State) : State :=
  let f := s.fn n
  let s := s.setFn n { f with dialB := { DialBeat.init with was := f.summary } }
  if f.summary && (!f.dialB.was || f.dialB.again) then s.raiseVec n 1 else s

/-- R258: an error is logged through AER: its status bit, and the message. -/
def State.aerLog (n : Nat) (poisoned : Bool) (s : State) : State :=
  let f := s.fn n
  (s.setFn n (if poisoned then { f with aerPoisoned := true } else { f with aerUr := true })).post (.aer n poisoned)

/-- Dial event `k` attributed to tenant `ten` (R402, R404). -/
def State.dial (k ten : Nat) (s : State) : State :=
  let s := s.latchDial 0 k
  if k < 8 && ten != 0 then s.latchDial ten k else s

/-- The number in a record's body (Table 17-8): of a TRANSITION its source, of a FAULT its SEQ, of a QUARANTINE its source or
target. -/
def ChrRec.number (r : ChrRec) : Nat :=
  match r.kind with
  | 1 => leVal (r.body.take 2)
  | 2 => leVal (r.body.take 4)
  | 5 => leVal ((r.body.drop 2).take 2)
  | _ => 0

/-- R406: records of one beat stand in ascending order of TYPE, then of the number in the body. -/
def ChrRec.after (a r : ChrRec) : Bool := r.kind < a.kind || r.kind == a.kind && r.number < a.number

/-- A record of the beat takes its place among those of the beat. -/
def placeRec (r : ChrRec) : List ChrRec → List ChrRec
  | [] => [r]
  | a :: t => if a.after r then r :: a :: t else a :: placeRec r t

/-- The records of the beats before this one, and those of this one (R406). -/
def Chrono.older (c : Chrono) : List ChrRec := c.queue.take (c.queue.length - c.fresh)
def Chrono.newer (c : Chrono) : List ChrRec := c.queue.drop (c.queue.length - c.fresh)

/-- Place a record of this beat while there is room; drop and count the last one otherwise (R406). -/
def State.chrAppend (r : ChrRec) (s : State) : State :=
  let q := s.chr.older ++ placeRec r s.chr.newer
  if s.chr.queue.length < 4096 then { s with chr := { s.chr with queue := q, fresh := s.chr.fresh + 1 } }
  else ({ s with chr := { s.chr with queue := q.take s.chr.queue.length, lost := s.chr.lost + 1 } }.bump 0x1721 0 1).dial 18 0

/-- The LOST record of R406, once the queue has room. -/
def State.chrLost (s : State) : State :=
  if s.chr.lost == 0 || 4096 ≤ s.chr.queue.length then s
  else { s with chr := { s.chr with
    queue := s.chr.queue ++ [⟨s.cnt, 0x0B, 0x20 + b2n s.coarse * 64, leBytes 4 s.chr.lost⟩], fresh := 0, lost := 0 } }

/-- A block raises a record of a TYPE (Table 17-8), attributed to a tenant or (none) to the device. While the chronograph
is unavailable, or in its reset phase, it is dropped and counted (R414, R292). -/
def State.chrPut (kind : Nat) (ten : Option Nat) (body : List Byte) (s : State) : State :=
  let attr := (match ten with | none => 0x20 | some n => n) + b2n s.coarse * 64
  if s.chr.trained && !s.chrAvail || smGet (fun _ => none) s.blk 0x23 == some .resetting then
    ({ s with chr := { s.chr with lost := s.chr.lost + 1 } }.bump 0x1721 0 1).dial 18 0
  else s.chrLost.chrAppend ⟨s.cnt, kind, attr, body⟩

/-! ## Faults (R395, R399) -/

/-- R30: an occurrence of source `n` of this beat has been signalled. -/
def State.occurred (s : State) (n : Nat) : Bool :=
  s.late.any (fun e => e.1 == n && e.2 == s.cnt) || s.row2.any (fun e => e.1 == n && e.2 == s.cnt)
    || (s.srcAt n).hwAt == some s.now && (s.srcAt n).hwStamp == s.cnt

/-- An internal source's condition signalled after row 2 of this beat: applied at row 2 of the next (R29). -/
def State.raiseLate (n : Nat) (s : State) : State :=
  if s.occurred n then s else { s with late := s.late ++ [(n, s.cnt)] }

/-- The class of a fault code (Table 17-3). -/
def faultClass (code : Nat) : Nat :=
  if code < 0x10 then 1 else if code < 0x20 then 2 else if code < 0x30 then 3 else 4

/-- R399: the FAULT_SEQ after one, skipping 0. -/
def nextSeq (q : Nat) : Nat := if (q + 1) % 2 ^ 32 = 0 then 1 else (q + 1) % 2 ^ 32

/-- R399: a fault takes its place among the faults of the beat, in ascending order of code, then of INFO. -/
def placeFault (f : Nat × Nat) : List (Nat × Nat) → List (Nat × Nat)
  | [] => [f]
  | a :: t => if f.1 < a.1 || f.1 == a.1 && f.2 < a.2 then f :: a :: t else a :: placeFault f t

/-- R399, steps 1 and 2, for one fault. -/
def FaultBeat.take (r : FaultRec) (b : FaultBeat) : FaultBeat :=
  { b with
    seq := r.seq.toNat
    first := if b.first.isNone then some r else b.first
    multi := b.multi || b.first.isSome
    worst := match b.worst with | none => some r | some w => if w.cls < r.cls then some r else some w }

/-- The faults of a beat recorded one after the other (R399): what FAULT_SEQ and the slots come to, and the faults numbered. -/
def faultRun (cnt : Beat) : List (Nat × Nat) → FaultBeat → FaultBeat × List FaultRec
  | [], b => (b, [])
  | f :: t, b =>
    let r : FaultRec := ⟨BitVec.ofNat 32 (nextSeq b.seq), f.1, faultClass f.1, f.2, cnt⟩
    let x := faultRun cnt t (b.take r)
    (x.1, r :: x.2)

/-- FAULT_SEQ and the slots before the faults of this beat, with those faults. -/
def State.faultBase (s : State) : FaultBeat :=
  if s.faultB.list.isEmpty then ⟨[], s.o 0x1602 0, s.first, s.multi, s.worst⟩ else s.faultB

/-- The slots as the faults of the beat leave them. -/
def State.faultSlots (b : FaultBeat) (s : State) : State :=
  let t := (faultRun s.cnt b.list b).1
  { s with faultB := if b.list.isEmpty then .init else b, first := t.first, multi := t.multi, worst := t.worst }

/-- The body of a FAULT record (Table 17-8). -/
def FaultRec.body (r : FaultRec) : List Byte := leBytes 4 r.seq.toNat ++ leBytes 1 r.code ++ leBytes 1 r.cls ++ leBytes 4 r.info

/-- The FAULT records of the beat take the bodies of its faults, in their order. -/
def renumber : List FaultRec → List ChrRec → List ChrRec
  | _, [] => []
  | [], t => t
  | r :: rs, a :: t => if a.kind = 2 then { a with body := r.body } :: renumber rs t else a :: renumber (r :: rs) t

/-- Record a fault: FAULT_SEQ, FIRST and MULTI, WORST, FAULT_COUNT, the FAULT record (R399), the Dial events and S15
(R403). Of several faults of one beat each takes its number. (DEDUCED, log 152.) -/
def State.fault (code info : Nat) (s : State) : State :=
  let cls := faultClass code
  let b := { s.faultBase with list := placeFault (code, info) s.faultBase.list }
  let run := faultRun s.cnt b.list b
  let s := (s.faultSlots b).setO 0x1602 0 run.1.seq
  let s := s.bump 0x1603 (cls - 1) 1
  let s := s.chrPut 2 none (FaultRec.body ⟨BitVec.ofNat 32 run.1.seq, code, cls, info, s.cnt⟩)
  let s := { s with chr := { s.chr with queue := s.chr.older ++ renumber run.2 s.chr.newer } }
  let s := s.dial (7 + cls) 0
  let s := if code = 0x15 ∨ code = 0x16 then s.dial 12 0 else s
  let s := if code = 0x21 ∨ code = 0x22 then s.dial 16 0 else s
  if cls = 4 then s.raiseLate 15 else s

/-- ACCESS_FAULT for a function's tenant (R270). -/
def State.accessFault (fn : Nat) (s : State) : State := (s.bump 0x1605 fn 1).dial 0 fn

/-- ACCESS_FAULT through mailbox page of target `t` (R270). -/
def State.pageFault (fn t : Nat) (s : State) : State :=
  let x := s.tgtAt t
  (s.setTgt t { x with pageFaults := satAdd 32 x.pageFaults 1 }).accessFault fn

/-- R381: S14 once in each beat in which the link or partner state changes. The spec does not say whether the tandem link
signals before row 2 of its beat or after it; here it signals after it, so that S14 is applied at row 2 of the next beat with
the beat of the change as its stamp (R29). (DESIGN CHOICE, log 124.) -/
def State.tandemChanged (s : State) : State := s.raiseLate 14

end Sys2Proof.Machine
end

