-- ==== Sys2Proof/Machine/Sources.lean ====
section
/-! DEFINITION. Sources: the payload pool (03), target selection (06 §06.2), the state table of Table 05-4 with its
journal and mirror, arrivals, quarantine and level conditions. -/

namespace Sys2Proof.Machine

open Sys2Proof

/-! ## The payload pool (R51–R56, R444) -/

/-- PAYLOAD_IN_USE. -/
def State.inUse (s : State) (ten : Nat) : Nat :=
  (s.buf.filter (fun e => e.2.st != .free && e.2.tenant == ten)).length

/-- Join the end of the pool's order; of several in one beat the lower index first (R444). -/
def insertPool (b i : Nat) : List (Nat × Nat) → List (Nat × Nat)
  | [] => [(b, i)]
  | e :: t => if e.1 = b ∧ i < e.2 then (b, i) :: e :: t else e :: insertPool b i t

/-- Allocate a buffer for a source of tenant `ten` (R51, R444), staged with its bytes. -/
def State.allocBuf (ten : Nat) (bytes : List Byte) (s : State) : Option Nat × State :=
  let take (i : Nat) (s : State) : Option Nat × State :=
    (some i, s.setBuf i { s.bufAt i with
      st := .staged, bytes := bytes, tenant := ten, holders := [], freed := [], bad := false })
  if s.o 0x5020 ten ≤ s.inUse ten then (none, s)
  else if s.poolNext < 8192 then take s.poolNext { s with poolNext := s.poolNext + 1 }
  else match s.poolBack with
    | [] => (none, s)
    | e :: t => take e.2 { s with poolBack := t }

/-- A buffer returns to the pool: its generation increases (R55); `period` ends a holding period that R67 records.
(DEDUCED, log 33.) -/
def State.returnBuf (i : Nat) (period : Bool) (s : State) : State :=
  let x := s.bufAt i
  if x.st = .free then s
  else
    let rec' := if period || x.freed != [] then some (x.gen, x.freed) else x.record
    let s := s.setBuf i { x with
      st := .free, gen := x.gen + 1, bytes := [], tenant := 0, holders := [], freed := [], record := rec', bad := false }
    { s with poolBack := insertPool s.now i s.poolBack }

/-- A staged payload is discarded: its buffer returns and PAYLOAD_DISCARDED counts for the source's tenant (R59, R105). -/
def State.discardBuf (n : Nat) (b : Option Nat) (s : State) : State :=
  match b with
  | none => s
  | some i => (s.returnBuf i false).bump 0x7032 (s.srcTen n) 1

/-- R62: can a member delivery still accept buffer `i`? (DEDUCED, log 33.) -/
def State.mayAccept (s : State) (i : Nat) : Bool :=
  s.dlv.any (fun d => d.info.buf == some i && !d.active)
    || s.src.any (fun e => e.2.bcast && e.2.members != [] && e.2.info.buf == some i)

/-- A returned buffer is bound to no delivery and to no broadcast any more: what is left of them carries no payload. -/
def State.forget (i : Nat) (s : State) : State :=
  { s with
    dlv := s.dlv.map (fun d => if d.info.buf = some i then { d with info := { d.info with buf := none, len := 0 } } else d)
    src := smMap (fun _ => Source.init)
      (fun _ x => if x.bcast && x.info.buf == some i then { x with info := { x.info with buf := none, len := 0 } } else x) s.src }

/-- R62, Table 03-7: the buffer returns when no holder and no member that could still accept it remains. -/
def State.checkBuf (b : Option Nat) (s : State) : State :=
  match b with
  | none => s
  | some i =>
    let x := s.bufAt i
    if (x.st == .owned || x.st == .inTransit) && x.holders == [] && !s.mayAccept i then (s.returnBuf i true).forget i else s

/-- R60: target `t` becomes a holder of the delivery's buffer. -/
def State.ownBuf (b : Option Nat) (t : Nat) (s : State) : State :=
  match b with
  | none => s
  | some i => let x := s.bufAt i; s.setBuf i { x with st := .owned, holders := x.holders ++ [t] }

/-- Set the state of a delivery's buffer. -/
def State.bufSt (b : Option Nat) (st : BufState) (s : State) : State :=
  match b with
  | none => s
  | some i => s.setBuf i { s.bufAt i with st := st }

/-- R61: a revocation raises the generation and clears owner and record. -/
def State.revokeBuf (b : Option Nat) (st : BufState) (s : State) : State :=
  match b with
  | none => s
  | some i => let x := s.bufAt i
              s.setBuf i { x with st := st, gen := x.gen + 1, holders := [], freed := [], record := none }

/-! ## Journal and mirror of source changes -/

/-- The code of a state (Table 05-2). -/
def SrcState.code : SrcState → Nat
  | .idle => 0
  | .pending => 1
  | .inFlight => 2
  | .active => 3
  | .completed => 4
  | .quarantined => 5

/-- SRC_STATE[6:0] (Table 05-7). -/
def Source.bits (x : Source) : Nat :=
  x.st.code + 8 * b2n x.repend + 16 * b2n x.qreq + 32 * b2n x.qpend + 64 * b2n x.lvl

/-- What a TRANSITION record says beside the two states (Table 17-8). -/
structure Ev where
  code : Nat
  tgt : Option Nat := none
  tag : Nat := 0
  sw : Bool := false
  replayed : Bool := false
  force : Bool := false

/-- R384: the source is mirrored. -/
def State.mirrored (s : State) (n : Nat) : Bool :=
  s.o 0x1910 n == 1 && s.hasFeat (s.srcTen n) 7 && s.tdm.lanes == 2

/-- A source changed from `old`: its TRANSITION record (R408) and its mirror entry of this beat (R384). -/
def State.note (ev : Ev) (n : Nat) (old : Source) (s : State) : State :=
  let x := s.srcAt n
  let a := old.bits
  let c := x.bits
  let tgt := (ev.tgt <|> x.target).getD 0xFFFF
  let s := if (a != c || ev.force) && s.o 0x200C n == 1 then
      s.chrPut 1 (some (s.srcTen n)) (leBytes 2 n ++ leBytes 1 a ++ leBytes 1 c ++ leBytes 1 ev.code
        ++ leBytes 1 (b2n ev.replayed + 2 * b2n ev.sw) ++ leBytes 2 tgt ++ leBytes 2 ev.tag)
    else s
  if (old.st != x.st || old.repend != x.repend) && s.mirrored n then
    { s with tdm := { s.tdm with dirty := insertNat n s.tdm.dirty } }
  else s

/-! ## Groups, eligibility and selection (R131–R135, R178) -/

def State.grpOf (s : State) (n : Nat) : Nat := s.o 0x2002 n

/-- The members of a group: (index, target). -/
def State.membersOf (s : State) (g : Nat) : List (Nat × Nat) :=
  (List.range (s.o 0x3402 g)).map (fun m => (m, s.o 0x3403 (16 * g + m)))

/-- The policy in effect (R133). -/
def State.policy (s : State) (g : Nat) : Nat :=
  let p := s.o 0x3401 g
  if p = 2 ∧ s.hasFeat (s.grpTen g) 4 = false then 1
  else if p = 3 ∧ s.hasFeat (s.grpTen g) 5 = false then 0
  else p

/-- R132: the target is enabled, not quarantined and not withdrawn. -/
def State.eligible (s : State) (t : Nat) : Bool :=
  s.o 0x3005 t == 1 && !(s.tgtAt t).quarantined && !(s.tgtAt t).withdrawn

/-- Deliveries a target holds (TGT_STATUS.HELD). -/
def State.held (s : State) (t : Nat) : Nat := (s.dlv.filter (fun d => d.tgt == some t)).length

/-- R178: PENDING sources whose chosen target is `t`. A BROADCAST source chooses none: it has a member delivery at each of its
targets. (DEDUCED, log 134.) -/
def State.pendingAt (s : State) (t : Nat) : Nat :=
  (s.src.filter (fun e => e.2.st == .pending && !e.2.bcast && e.2.target == some t)).length

/-- R178: the LEAST_LOAD score of member `m` of group `g`. -/
def State.score (s : State) (g : Nat) (m : Nat × Nat) : Nat :=
  (s.held m.2 + s.pendingAt m.2 + 1) * 65536 / s.o 0x3404 (16 * g + m.1)

/-- The element of least value; the first of equals. -/
def leastBy (f : Nat × Nat → Nat) : List (Nat × Nat) → Option (Nat × Nat)
  | [] => none
  | a :: t => match leastBy f t with
    | none => some a
    | some b => if f a ≤ f b then some a else some b

/-- Choose among members by the group's policy (Table 06-5), members given in index order. -/
def State.choose (g : Nat) (cands : List (Nat × Nat)) (s : State) : Option Nat × State :=
  let p := s.policy g
  if p = 1 then
    let nxt := s.o 0x3408 g
    match (cands.filter (fun m => nxt ≤ m.1) ++ cands).head? with
    | none => (none, s)
    | some m => (some m.2, s.setO 0x3408 g ((m.1 + 1) % s.o 0x3402 g))
  else if p = 2 then ((leastBy (s.score g) cands).map (·.2), s)
  else (cands.head?.map (·.2), s)

/-- R132, R134, R135: a PENDING source takes its target or its member deliveries, or is held without a target. It is
ranked 24 beats later (R110), under the priority and the route group wound now (R112). -/
def State.select (n : Nat) (s : State) : State :=
  let x := { s.srcAt n with
    target := none, members := [], bcast := false, issued := false, release := none, rankedAt := s.now + 24
    prio := s.o 0x2001 n, grp := s.grpOf n }
  let s := s.setSrc n x
  let g := x.grp
  let ms := s.membersOf g
  let el := ms.filter (fun m => s.eligible m.2)
  if s.policy g = 4 then s
  else if el.isEmpty then s
  else if s.policy g = 3 then
    let d := s.o 0x3405 g
    (s.setSrc n { x with
      target := el.head?.map (·.2), members := el.map (fun m => ⟨m.2, s.now + 24, d != 0⟩), bcast := true,
      release := if d = 0 then none else some (s.now + d) }).bump 0x7051 g (ms.length - el.length)
  else
    let (t, s) := s.choose g el
    s.setSrc n { x with target := t }

/-- Held without a target (R134). -/
def State.heldSrc (s : State) (n : Nat) (x : Source) : Bool :=
  x.st == .pending && !x.bcast && x.target == none && (s.policy (s.grpOf n) != 4 || s.tdm.lanes != 2)

/-- Target `t` became eligible: held sources of its groups are reselected (R134) in ascending order, and sources that
wait at it are ranked anew (R110). -/
def State.becameEligible (t : Nat) (s : State) : State :=
  each (fun e s =>
    let x := s.srcAt e.1
    if s.heldSrc e.1 x then
      if (s.membersOf (s.grpOf e.1)).any (fun m => m.2 == t) then
        s.select e.1
      else s
    else if x.st == .pending && x.target == some t && !x.bcast then s.setSrc e.1 { x with rankedAt := s.now + 24 }
    else if x.bcast then s.setSrc e.1 { x with
      members := x.members.map (fun m => if m.tgt = t then { m with rankedAt := s.now + 24 } else m) }
    else s) s.src s

/-- A source's eligibility changed (enable, priority): ranked 24 beats later (R110). -/
def State.rerank (n : Nat) (s : State) : State :=
  let x := s.srcAt n
  s.setSrc n { x with rankedAt := s.now + 24, members := x.members.map (fun m => { m with rankedAt := s.now + 24 }) }

/-! ## Entry to PENDING, the end of a delivery -/

/-- Enter PENDING with a ranking stamp (R101, R111). -/
def State.toPending (n : Nat) (stamp : Beat) (lvl : Bool) (info : Arrival) (s : State) : State :=
  let x := s.srcAt n
  (s.setSrc n { x with st := .pending, stamp := stamp, lvl := lvl, info := info }).select n

/-- Return to IDLE with nothing waiting, flags but QREQ and QPEND apart. -/
def Source.toIdle (x : Source) : Source :=
  { x with st := .idle, lvl := false, repend := false, target := none, members := [], bcast := false, issued := false,
           release := none, info := .none, rep := .none, keptLseq := none }

/-- Table 02-3 and Table 02-5: the sense of a source. -/
def State.sense (s : State) (n : Nat) : Nat := if n < 0x480 then s.o 0x2004 n else 0

/-- The glitch filter of IRQ_IN[n]. -/
def State.filtAt (s : State) (n : Nat) : Filt := smGet (fun _ => Filt.init) s.filtered n

/-- The value a level condition is judged on: the Dial summary at the end of the beat before (S0, R29), the filtered input,
the published bit. -/
def State.lineValue (s : State) (n : Nat) : Bool :=
  if n = 0 then s.time.s0
  else if n < 128 then (s.filtAt (n - 32)).value
  else (s.engAt ((n - 128) / 128)).pub.getLsbD ((n - 128) % 128)

/-- R19, Table 02-3: a level-sensed source whose condition is asserted. -/
def State.asserted (s : State) (n : Nat) : Bool :=
  (n == 0 || (32 ≤ n && n < 1152 && s.sensing))
    && (s.sense n == 3 && s.lineValue n || s.sense n == 4 && !s.lineValue n)

/-- R103: ONESHOT in effect. -/
def State.oneshot (s : State) (n : Nat) : Bool := s.o 0x2003 n == 1 && s.hasFeat (s.srcTen n) 6

/-- Table 05-9: the outcome of the last delivery's end (R116, R135). -/
def State.outcome (n : Nat) (s : State) : State :=
  let x := s.srcAt n
  if x.qreq then
    let qp := x.qpend || x.repend || s.asserted n
    let s := s.discardBuf n x.rep.buf
    s.setSrc n { x.toIdle with st := .quarantined, qreq := false, qpend := qp }
  else if s.oneshot n then
    let s := s.discardBuf n x.rep.buf
    s.setSrc n { x.toIdle with st := .completed }
  else if x.repend then
    (s.setSrc n x.toIdle).toPending n x.rependStamp false x.rep
  else if s.asserted n then
    (s.setSrc n x.toIdle).toPending n s.cnt true .none
  else s.setSrc n x.toIdle

/-- R446: the REPEND arrival merges into the arrival a returning delivery held. -/
def State.mergeRepend (n : Nat) (old new : Arrival) (s : State) : Arrival × State :=
  let rep := old.replayed || new.replayed
  match new.buf, old.buf with
  | some j, some i =>
    if new.keepFirst then ({ old with replayed := rep }, s.discardBuf n (some j))
    else ({ new with replaced := true, replayed := rep }, (s.returnBuf i false).bump 0x7031 (s.srcTen n) 1)
  | some _, none => ({ new with replaced := false, replayed := rep }, s)
  | none, _ => ({ old with replayed := rep }, s)

/-- A delivery of a source (not a member of a broadcast) returns it to PENDING with its stamp kept (R111, R446); `info`
is what the delivery held, its buffer already put back in STAGED. -/
def State.backToPending (n : Nat) (info : Arrival) (s : State) : State :=
  let x := s.srcAt n
  if x.repend then
    let (a, s) := s.mergeRepend n info x.rep
    let s := s.bump 0x7010 n 1
    (s.setSrc n { x.toIdle with keptLseq := x.keptLseq }).toPending n x.stamp false a
  else (s.setSrc n { x.toIdle with keptLseq := x.keptLseq }).toPending n x.stamp false info

/-- A broadcast whose notifies are all withdrawn enters PENDING again: its members wait at their targets, under the priority
wound now; a group wound meanwhile makes it select anew (R112, R135). -/
def State.bcastAgain (n : Nat) (s : State) : State :=
  let x := s.srcAt n
  if s.grpOf n = x.grp then s.setSrc n { x with prio := s.o 0x2001 n } else s.select n

/-- R135: the state of a broadcast source that has not been accepted, from its member deliveries. -/
def State.bcastState (n : Nat) (s : State) : State :=
  let x := s.srcAt n
  if x.st == .active then s
  else if s.dlv.any (fun d => d.src == n) then s.setSrc n { x with st := .inFlight }
  else
    let s := s.bufSt x.info.buf .staged
    if x.repend then
      let (a, s) := s.mergeRepend n x.info x.rep
      ((s.setSrc n { x with st := .pending, repend := false, rep := .none, info := a }).bump 0x7010 n 1).bcastAgain n
    else (s.setSrc n { x with st := .pending }).bcastAgain n

/-- R135: a member delivery of source `n` has ended; with none left the source is held (nothing issued) or takes the
outcome of Table 05-9. The spec has a held source reselected in the beat in which a member becomes eligible and does not say
what holds where one is eligible already: here the source selects at once, and is held only where none is.
(DESIGN CHOICE, log 125.) -/
def State.memberEnded (n : Nat) (s : State) : State :=
  let x := s.srcAt n
  if x.members != [] || s.dlv.any (fun d => d.src == n) then s.bcastState n
  else if x.issued then
    let b := x.info.buf
    (s.outcome n).checkBuf b
  else s.select n

/-- R135: the member delivery of broadcast source `n` for target `t`, not yet issued, ends. -/
def State.loseMember (n t : Nat) (s : State) : State :=
  let x := s.srcAt n
  let s := s.setSrc n { x with members := x.members.filter (fun m => m.tgt != t) }
  let s := (s.bump 0x7051 x.grp 1).memberEnded n
  (s.checkBuf x.info.buf).note { code := 10, tgt := some t } n x

/-- R134, R135: target `t` is lost to sources that chose it and are not yet issued. -/
def State.leaveTarget (t : Nat) (s : State) : State :=
  each (fun e s =>
    let n := e.1
    let x := s.srcAt n
    if x.bcast then
      if x.members.any (fun m => m.tgt == t) then s.loseMember n t else s
    else if x.st == .pending && x.target == some t then s.select n
    else s) s.src s

/-! ## Quarantine and release (R119, R120) -/

/-- QUARANTINE record (Table 17-8). -/
def State.chrQuar (isTgt release : Bool) (by_ num ten : Nat) (s : State) : State :=
  s.chrPut 5 (some ten) (leBytes 1 (b2n isTgt + 2 * b2n release) ++ leBytes 1 by_ ++ leBytes 2 num)

/-- Quarantine a source (Table 05-4); `by_`: 0 storm guard, 1 command. -/
def State.quarantine (n by_ : Nat) (s : State) : State :=
  let x := s.srcAt n
  let rec' (s : State) : State := (s.note { code := 11 } n x).chrQuar false false by_ n (s.srcTen n)
  match x.st with
  | .idle | .completed => rec' (s.setSrc n { x with st := .quarantined })
  | .pending =>
    let s := s.discardBuf n x.info.buf
    rec' (s.setSrc n { x.toIdle with st := .quarantined, qpend := x.qpend || !x.lvl })
  | .inFlight | .active =>
    if x.qreq && !x.repend then s
    else
      let s := s.discardBuf n x.rep.buf
      rec' (s.setSrc n { x with qreq := true, qpend := x.qpend || x.repend, repend := false, rep := .none })
  | .quarantined => s

/-- Count an arrival into the storm window (R119); every counted arrival above the limit quarantines, also one that finds a
quarantine still pending under QREQ. (DESIGN CHOICE, log 126.) -/
def State.stormCount (n : Nat) (s : State) : State :=
  let l := s.o 0x2007 n
  if l = 0 then s
  else
    let x := s.srcAt n
    let w : Storm := match x.storm with
      | some w => if s.now < w.closeAt then { w with count := w.count + 1 } else ⟨s.now + s.o 0x2008 n, 1⟩
      | none => ⟨s.now + s.o 0x2008 n, 1⟩
    let s := s.setSrc n { x with storm := some w }
    if l < w.count then ((s.quarantine n 0).dial 3 (s.srcTen n)) else s

/-! ## Arrivals (Table 05-4, Table 03-5) -/

/-- R357: the source table is stopped, with arrivals latched. -/
def State.asleep (s : State) : Bool := s.quiet.stepsDone && (s.quiet.code == 2 || s.quiet.code == 3)

/-- R357: latch an arrival with its coarse stamp; further ones of the source are counted at wake. -/
def latchIn (n : Nat) (stamp : Beat) : List Latched → List Latched
  | [] => [⟨n, stamp, 0⟩]
  | l :: t => if l.src = n then { l with more := l.more + 1 } :: t
              else if n < l.src then ⟨n, stamp, 0⟩ :: l :: t
              else l :: latchIn n stamp t

/-- Stage a new payload for an arrival that holds none (R51, R53). (DEDUCED, log 34.) -/
def State.stage (n : Nat) (a : Arrival) (pay : Option (List Byte)) (s : State) : Arrival × State :=
  match pay with
  | none => (a, s)
  | some bytes =>
    match s.allocBuf (s.srcTen n) bytes with
    | (some i, s) => ({ a with buf := some i, lost := false }, s)
    | (none, s) =>
      ({ a with buf := none, lost := true }, (s.bump 0x7033 (s.srcTen n) 1).dial 1 (s.srcTen n))

/-- Merge an arrival into the one that waits (Table 03-5, R58, R390). (DEDUCED, log 32.) -/
def State.mergeArrival (n : Nat) (old a : Arrival) (pay : Option (List Byte)) (s : State) : Arrival × State :=
  let old := { old with replayed := old.replayed || a.replayed }
  match pay with
  | none => (old, s)
  | some bytes =>
    if old.buf.isNone && !old.lost then
      s.stage n { a with replaced := false, replayed := old.replayed } pay
    else if a.keepFirst then (old, s.bump 0x7032 (s.srcTen n) 1)
    else
      let s := s.bump 0x7031 (s.srcTen n) 1
      let a := { a with replaced := true, replayed := old.replayed }
      match old.buf with
      | some i => ({ a with buf := some i }, s.setBuf i { s.bufAt i with bytes := bytes })
      | none => s.stage n a pay

/-- A payload the state table discards (Table 03-5). -/
def State.dropPay (n : Nat) (pay : Option (List Byte)) (s : State) : State :=
  if pay.isSome then s.bump 0x7032 (s.srcTen n) 1 else s

/-- R361–R363: a wake cause (bit of WAKE_CAUSE; the source for bit 0). The first one starts the wake, or abandons an entry;
later ones add their bits. (DEDUCED, log 93.) -/
def State.wake (cause src : Nat) (s : State) : State :=
  let bits := 2 ^ cause + (if cause = 0 then src * 65536 else 0)
  if s.quiet.code = 2 then
    let s := (s.setO 0x1406 0 bits).setO 0x1407 0 s.cnt.toNat
    let s := { s with quiet := { s.quiet with code := 3, d3Bar := s.pfD3 }, wakeLow := s.perst }
    if s.pfD3 && cause != 3 && s.pmeEn then s.post .pme else s
  else if s.quiet.code = 3 then
    let x := s.o 0x1406 0
    if bitOf x cause then s else s.setO 0x1406 0 (x + bits)
  else if s.quiet.code = 1 then
    let s := (s.setO 0x1406 0 (bits + 32)).setO 0x1407 0 s.cnt.toNat
    { s with quiet := { s.quiet with code := 0, issueStop := false }, wakeLow := s.perst }
  else s

/-- R360: the source wakes a quiet device. -/
def State.wakes (s : State) (n : Nat) : Bool :=
  s.o 0x1402 0 != 0 && s.o 0x2006 n == 1 && s.o 0x1402 0 ≤ s.o 0x2001 n

/-- One arrival at source `n` with its stamp (R19, Table 05-4); `hw` marks a hardware arrival (R40). Before the end of step
10 the source table is not in service and nothing is applied (R353). -/
def State.arrive (n : Nat) (stamp : Beat) (hw : Bool) (a : Arrival) (pay : Option (List Byte)) (s : State) : State :=
  let x := s.srcAt n
  let ten := s.srcTen n
  if !s.sensing then s
  else if s.asleep then
    let s := { s with quiet := { s.quiet with latch := latchIn n stamp s.quiet.latch } }
    if s.wakes n then s.wake 0 n else s
  else
  let s := if a.trunc then s.bump 0x7030 ten 1 else s
  let x := if hw then { x with hwAt := some s.now, hwStamp := stamp } else x
  if s.resetting ten then (s.setSrc n x).bump 0x7011 n 1
  else
    let ev : Ev := { code := 1, sw := a.sw && !hw, replayed := a.replayed }
    let old := s.srcAt n
    let s := s.setSrc n x
    match x.st with
    | .idle =>
      let (i, s) := s.stage n a pay
      ((s.toPending n stamp false i).note ev n old).stormCount n
    | .pending =>
      let (i, s) := s.mergeArrival n x.info a pay
      let s := s.setSrc n { s.srcAt n with lvl := false, info := i }
      ((s.bump 0x7010 n 1).note ev n old).stormCount n
    | .inFlight | .active =>
      if x.repend then
        let (i, s) := s.mergeArrival n x.rep a pay
        let s := s.setSrc n { s.srcAt n with rep := i }
        (s.bump 0x7010 n 1).stormCount n
      else
        let (i, s) := s.stage n a pay
        let s := s.setSrc n { s.srcAt n with repend := true, rependStamp := stamp, rep := i }
        (s.note ev n old).stormCount n
    | .completed => (s.bump 0x7011 n 1).dropPay n pay
    | .quarantined =>
      let s := (s.bump 0x7011 n 1).dropPay n pay
      (s.setSrc n { s.srcAt n with qpend := true }).note ev n old

/-- An edge arrival of a wired, expander, internal or alarm source at this beat. -/
def State.edge (n : Nat) (s : State) : State := s.arrive n s.cnt true .none none

/-- An internal source is raised, once for the occurrences of one beat (R30). -/
def State.raiseInt (n : Nat) (s : State) : State :=
  if s.occurred n then s else s.edge n

/-- R38, R40: a software set-pending, absorbed by a hardware arrival of the same beat. -/
def State.setPending (n : Nat) (s : State) : State :=
  if (s.srcAt n).hwAt == some s.now then s else s.arrive n s.cnt false .none none

/-- R39, Table 05-4: a software clear-pending. -/
def State.clearPending (n : Nat) (s : State) : State :=
  let x := s.srcAt n
  match x.st with
  | .pending =>
    ((s.discardBuf n x.info.buf).setSrc n { x.toIdle with clrAt := some s.now }).note { code := 4, sw := true } n x
  | .inFlight | .active =>
    (((s.discardBuf n x.rep.buf).setSrc n { x with repend := false, rep := .none })).note { code := 4, sw := true } n x
  | .completed => (s.setSrc n { x.toIdle with clrAt := some s.now }).note { code := 4, sw := true } n x
  | .quarantined => (s.setSrc n { x with qpend := false }).note { code := 4, sw := true } n x
  | .idle => s

/-- Level on and level off (Table 05-4), evaluated for one source at this beat; a source cleared in this beat is PENDING again
at the next (R41). Asserted, a source that wakes the device wakes it, or abandons its entry to Quiet mode (R360, R362).
(DEDUCED, log 111.) -/
def State.evalLevel (n : Nat) (s : State) : State :=
  let s := if s.quiet.code == 1 && s.sensing && s.wakes n && s.asserted n then s.wake 0 n else s
  let x := s.srcAt n
  if !s.sensing || s.resetting (s.srcTen n) then s
  else if s.asleep then (if s.asserted n && s.wakes n then s.wake 0 n else s)
  else if x.st == .idle && s.asserted n && x.clrAt != some s.now then
    (s.toPending n s.cnt true .none).note { code := 2 } n x
  else if x.st == .pending && x.lvl && !s.asserted n then
    ((s.setSrc n x.toIdle).bump 0x7012 n 1).note { code := 3 } n x
  else s

/-- R120: release a source; one arrival is raised if QPEND was set. -/
def State.release (n by_ : Nat) (s : State) : State :=
  let x := s.srcAt n
  let s := s.setSrc n { x with storm := none }
  let again (s : State) : State := if x.qpend then s.arrive n s.cnt false .none none else s
  let rec' (s : State) : State := (s.note { code := 12, sw := true } n x).chrQuar false true by_ n (s.srcTen n)
  match x.st with
  | .quarantined => again (rec' (s.setSrc n { x.toIdle with storm := none, qreq := false, qpend := false }))
  | .inFlight | .active =>
    if x.qreq || x.qpend then again (rec' (s.setSrc n { x with storm := none, qreq := false, qpend := false })) else s
  | _ => s

/-! ## Beats pass -/

/-- Sources whose level may turn: S0, those sensed by level, and those PENDING with LVL. -/
def State.levelCands (s : State) : List Nat :=
  ascending (0 :: s.elems 0x2004 (fun v => 3 ≤ v) ++ (s.src.filter (fun e => e.2.lvl)).map (·.1))

/-- Row 7 of Table 05-5 at this beat, for every level-sensed source. (DEDUCED, log 111.) -/
def State.evalLevels (s : State) : State := each State.evalLevel s.levelCands s

/-- The mirror requests that wait: those of transitions and of a full sync (R385, R386). -/
def Tandem.mirrorWaits (t : Tandem) : Nat :=
  t.queue.countP (fun r => match r with | .forward .. => false | .gasp .. => false | _ => true)

/-- R384, R386: one mirror request, or the overflow. -/
def State.queueMirror (e : MirrorEntry) (s : State) : State :=
  if s.tdm.overflow && !s.tdm.syncing then s
  else if 1024 ≤ s.tdm.mirrorWaits then
    ({ s with tdm := { s.tdm with overflow := true, syncing := false } }).dial 27 0
  else { s with tdm := { s.tdm with queue := s.tdm.queue ++ [.mirror e] } }

/-- A source's mirror entry as it stands (Table 16-7). -/
def State.mirrorEntry (s : State) (n : Nat) : MirrorEntry := ⟨n, (s.srcAt n).st.code, (s.srcAt n).repend⟩

/-- The sources that changed in the ending beat are mirrored with their state at its end (R384). -/
def State.flushMirror (s : State) : State :=
  let d := s.tdm.dirty
  each (fun n s => if s.mirrored n then s.queueMirror (s.mirrorEntry n) else s) d
    { s with tdm := { s.tdm with dirty := [] } }

/-- R371–R373: the CREDIT and window conditions for one more new request. -/
def Tandem.mayStart (t : Tandem) : Bool :=
  t.lanes == 2 && t.unacked.length < 64 && ((t.sinceUp : Int) - t.creditRx.toNat) % 65536 < 64

/-- The LSEQ after one, skipping 0 (R371). -/
def nextLseq (l : Dw) : Dw := if l + 1 = 0 then 1 else l + 1

/-- Send the oldest waiting request: assign its LSEQ, keep it until acknowledged. -/
def State.sendOne (s : State) : State :=
  match s.tdm.queue with
  | [] => s
  | r :: rest =>
    if s.tdm.mayStart then
      let l := s.tdm.txNext
      let ds : List Delivery := match r with
        | .forward loc _ _ _ _ _ =>
          s.dlv.map (fun (d : Delivery) => if d.src == loc && d.tgt.isNone then { d with lseq := some l } else d)
        | _ => s.dlv
      let s : State := { s with
        dlv := ds
        tdm := { s.tdm with overflow := s.tdm.overflow && !(r == .syncEnd && s.tdm.syncing)
                            syncing := s.tdm.syncing && r != .syncEnd
                            queue := rest, txNext := nextLseq l, sinceUp := s.tdm.sinceUp + 1,
                            unacked := s.tdm.unacked ++ [(⟨l, r, 1, s.now⟩ : Sent)] } }
      s.emit (.lane (r.frame l s.tdm.executed))
    else s

/-- R385: queue a full sync: SYNC_BEGIN, the entries in frames of 19, SYNC_END. -/
def chunks19 : Nat → List MirrorEntry → List TdmReq
  | 0, _ => []
  | n + 1, l => if l.isEmpty then [] else .syncEntries (l.take 19) :: chunks19 n (l.drop 19)

def State.startSync (s : State) : State :=
  let es := (s.src.filter (fun e => e.2.st != .idle && s.mirrored e.1)).map (fun e => s.mirrorEntry e.1)
  { s with tdm := { s.tdm with
      queue := s.tdm.queue ++ [.syncBegin] ++ chunks19 216 es ++ [.syncEnd], syncing := true, dirty := [] } }

/-- `f` done `n` times. -/
def times (f : State → State) : Nat → State → State
  | 0, s => s
  | n + 1, s => times f n (f s)

/-- Waiting requests go out while credits last (R372). -/
def State.pump (s : State) : State := times State.sendOne (min 64 s.tdm.queue.length) s

/-- R166: the beats that `d` core-clock beats add to the counter, and the accumulator left: an increment is 2 when the
accumulator reaches 10⁹, and 0 when it reaches −10⁹, so that two such lie at least 5,000 beats apart whatever the rate does.
(DEDUCED, log 149.) -/
def rateSteps (ppb acc : Int) (d : Nat) : Nat × Int :=
  let t := acc + ppb * d
  (((d : Int) + t.tdiv 1000000000).toNat, t.tmod 1000000000)

/-- The counter after `d` more beats (R157–R159, R166, R169). -/
def Time.pass (t : Time) (ppb : Int) (now d : Nat) : Time :=
  match t.mode with
  | .perBeat =>
    let (k, a) := rateSteps ppb t.rateAcc d
    let c := match t.load with
      | none => t.counter + BitVec.ofNat 64 k
      | some v => v + BitVec.ofNat 64 (k - (rateSteps ppb t.rateAcc 1).1)
    { t with counter := c, load := none, rateAcc := a, spanAdv := t.spanAdv.map (· + k) }
  | .relock =>
    let k := 8 * ((now + d - t.relockAt) / 8) - 8 * ((now - t.relockAt) / 8)
    { t with counter := t.load.getD t.counter + BitVec.ofNat 64 k, load := none }
  | .stopped | .quiet => { t with counter := t.load.getD t.counter, load := none }

/-- The FLAGS the device sends (Table 16-6). -/
def State.hbFlags (s : State) : Nat :=
  b2n (s.straps.getLsbD 0) + 2 * b2n (s.quiet.code == 1 || s.quiet.code == 2) + 4 * b2n s.tdm.promoted
    + 8 * b2n (s.supply.gaspState == 2)

/-- Table 15-3. -/
def State.supplyStatus (s : State) : Nat :=
  b2n (s.o 0x1300 0 != 0) + 2 * b2n s.supply.feedLow + 4 * s.supply.gaspState + 16 * b2n s.gasp.sending
    + 32 * b2n s.supply.feedHigh + 64 * b2n s.supply.ibvLow + 128 * b2n s.supply.ibvHigh

end Sys2Proof.Machine
end

