-- ==== Sys2Proof/Machine/Delivery.lean ====
section
/-! DEFINITION. Deliveries (06): slots and tags, issue and the delivery write, claims, completion and its sample,
revocation and re-steer, target quarantine, coupled pairs. -/

namespace Sys2Proof.Machine

open Sys2Proof

/-! ## Slots and tags -/

/-- The escapement now serving a target (R154). -/
def State.servEsc (s : State) (t : Nat) : Nat := (s.tgtAt t).migratedTo.getD (s.o 0x3004 t)

/-- Is the pair of escapement `e` coupled and in service (R152, R153)? -/
def State.compares (s : State) (e : Nat) : Bool := s.o 0x3800 (e / 2 * 2) == 1 && !(s.escAt e).failed

/-- SLOTS_IN_USE. -/
def State.slotsUsed (s : State) (e : Nat) : Nat := (s.dlv.filter (fun d => d.esc == e)).length

/-- The least number from `n` on that is not in the list. -/
def leastFree : Nat → Nat → List Nat → Nat
  | 0, n, _ => n
  | f + 1, n, l => if l.contains n then leastFree f (n + 1) l else n

/-- The lowest free slot of an escapement. -/
def State.freeSlot (s : State) (e : Nat) : Nat :=
  leastFree 128 0 ((s.dlv.filter (fun d => d.esc == e)).map (·.slot))

/-- R139: the target can take a slot. -/
def State.canTake (s : State) (t : Nat) : Bool := s.held t < s.o 0x3008 t && s.slotsUsed (s.servEsc t) < 128

/-- TGT_STATUS.IN_FLIGHT. -/
def State.inflight (s : State) (t : Nat) : Nat := (s.dlv.filter (fun d => d.tgt == some t && !d.active)).length

def State.isPush (s : State) (t : Nat) : Bool := s.o 0x3003 t == 1

/-- R139: room for one more issue at `t`. -/
def State.room (s : State) (t : Nat) : Bool := s.canTake t && (s.isPush t || s.inflight t < s.o 0x3007 t)

/-- R192, R202, R203, R363: the device may issue to targets of the tenant. -/
def State.mayIssue (s : State) (ten : Nat) : Bool := (s.fn ten).bme && !s.inReset ten && !s.quiet.d3Bar

/-- R154: the target's claims and COMPLETEs are held by a migration. -/
def State.migratingT (s : State) (t : Nat) : Bool := (s.escAt (s.servEsc t / 2 * 2)).migrating.isSome

/-- R154, R397: the target's claims are held. -/
def State.holdsClaims (s : State) (t : Nat) : Bool := s.migratingT t || (s.tgtAt t).rebuilding

/-- Everything but the ranking that lets an issue be made to `t` now. -/
def State.issueOpen (s : State) (t : Nat) : Bool :=
  s.eligible t && s.mayIssue (s.tgtTen t) && !s.holdsClaims t && !s.quiet.issueStop && !s.asleep
    && !(s.escAt (s.servEsc t)).failed

/-- The next tag of a counter at `next`, skipping those still held (R129). -/
def nextTag : Nat → Nat → List Nat → Nat
  | 0, n, _ => n
  | f + 1, n, held => if held.contains n then nextTag f (n % 1023 + 1) held else n

/-- Assign a target's next tag. -/
def State.newTag (t : Nat) (s : State) : Nat × State :=
  let x := s.tgtAt t
  let tag := nextTag 1023 x.tagNext ((s.dlv.filter (fun d => d.tgt == some t)).map (·.tag))
  (tag, s.setTgt t { x with tagNext := tag % 1023 + 1 })

/-! ## Ranking (R108, R109) -/

/-- R114: the threshold in effect. -/
def State.thr (s : State) (t : Nat) : Nat := if s.hasFeat (s.tgtTen t) 10 then (s.tgtAt t).threshold.toNat else 0

/-- A candidate's rank: priority, stamp, source. -/
structure Rank where
  prio : Nat
  stamp : Nat
  src : Nat
  deriving DecidableEq, Repr

/-- R109: `a` ranks before `c`. -/
def Rank.before (a c : Rank) : Bool :=
  c.prio < a.prio || a.prio == c.prio && (a.stamp < c.stamp || a.stamp == c.stamp && a.src < c.src)

/-- The best of a list. -/
def bestRank : List Rank → Option Rank
  | [] => none
  | a :: t => match bestRank t with
    | none => some a
    | some c => if c.before a then some c else some a

/-- R108: is source `n` a candidate at `t`, from the beat it is ranked, under the priority of its selection (R112)? -/
def State.candidate (s : State) (n t rankedAt : Nat) : Bool :=
  s.o 0x2006 n == 1 && s.thr t < (s.srcAt n).prio && rankedAt ≤ s.now && s.eligible t

/-- The PENDING candidates of a target that were ranked `delay` beats ago or earlier; `sync` leaves out members whose
synchronized release is still to come. (DEDUCED, log 29.) -/
def State.pendCands (s : State) (t delay : Nat) (sync : Bool) : List Rank :=
  s.src.filterMap (fun e =>
    let x := e.2
    let at_ : Option Nat :=
      if x.bcast then (x.members.find? (fun m => m.tgt == t && !(sync && m.due))).map (·.rankedAt)
      else if x.st == .pending && x.target == some t then some x.rankedAt else none
    match at_ with
    | none => none
    | some r => if s.candidate e.1 t (r + delay) then some ⟨x.prio, x.stamp.toNat, e.1⟩ else none)

/-- A delivery's rank as an IN_FLIGHT candidate of its target (R108). -/
def State.dlvRank (s : State) (d : Delivery) : Rank := ⟨d.prio, (s.srcAt d.src).stamp.toNat, d.src⟩

/-! ## What a delivery says (R64, R144, R145) -/

/-- KIND (R145). -/
def Arrival.kind (a : Arrival) : Nat := if a.lost || a.replayed then 3 else if a.buf.isSome then 2 else 1

/-- Table 06-7. -/
def descWord (kind prio src tag : Nat) : Dw := BitVec.ofNat 32 (kind * 2 ^ 30 + prio * 2 ^ 22 + src * 2 ^ 10 + tag)

/-- The descriptor of a delivery, its source in the numbering of the target's function. -/
def State.descriptor (s : State) (d : Delivery) (t : Nat) : Dw :=
  descWord d.info.kind d.prio (s.toView 0x2000 (s.tgtTen t) d.src) d.tag

/-- Table 03-3: the handle of a buffer, 0 for none. -/
def State.handle (s : State) (b : Option Nat) : Dw :=
  match b with
  | none => 0
  | some i => BitVec.ofNat 32 (2 ^ 31 + (s.bufAt i).gen.toNat * 2 ^ 16 + i)

/-- Table 03-6. -/
def Arrival.msgInfo (a : Arrival) : Dw :=
  BitVec.ofNat 32 (2 ^ 31 + b2n a.sw * 2 ^ 27 + b2n a.lost * 2 ^ 26 + b2n a.replaced * 2 ^ 25 + b2n a.trunc * 2 ^ 24
    + (if a.sw then 0 else a.len * 2 ^ 16 + a.dbTag.toNat))

/-- Table 06-8: SPECIAL is written by every kind 11 delivery. -/
def State.writeSpecial (t tag : Nat) (a : Arrival) (s : State) : State :=
  if a.kind = 3 then
    s.setTgt t { s.tgtAt t with special := BitVec.ofNat 32 (2 ^ 31 + b2n a.replayed * 2 ^ 17 + b2n a.lost * 2 ^ 16 + tag) }
  else s

/-- R142, R143: the delivery's write. -/
def State.deliveryWrite (d : Delivery) (t : Nat) (s : State) : State :=
  let ten := s.tgtTen t
  let addr := BitVec.ofNat 64 (s.o 0x3001 t)
  if s.isPush t then
    let s := s.writeSpecial t d.tag d.info
    let data := if s.hasFeat ten 2 then [s.descriptor d t, s.handle d.info.buf, d.info.msgInfo, 0] else [s.descriptor d t]
    s.post (.posted .push ten addr data)
  else s.post (.posted .notify ten addr [BitVec.ofNat 32 (s.o 0x3002 t)])

/-! ## Issue (R139–R141) -/

/-- Give source `n` to target `t` under a new tag in a slot: the delivery, ISSUED, its buffer in transit or (accepted)
owned. `claimed` takes it by a claim; `start` is the start beat of its claim latency (R172). -/
def State.give (n t grp prio : Nat) (info : Arrival) (start : Beat) (bcast claimed : Bool) (slot : Option Nat)
    (s : State) : Delivery × State :=
  let e := s.servEsc t
  let sl := slot.getD (s.freeSlot e)
  let (tag, s) := s.newTag t
  let accepted := claimed || s.isPush t
  let c := s.o 0x3006 t
  let d : Delivery :=
    { grp := grp, esc := e, slot := sl, tgt := some t, src := n, tag := tag, prio := prio, active := accepted,
      arrival := (s.srcAt n).stamp, start := start, accept := s.cnt, issuedAt := s.now,
      expire := if accepted || c == 0 then none else some (s.now + c), info := info, bcast := bcast, lseq := none }
  let s := { s with dlv := s.dlv ++ [d] }
  let s := s.bump 0x7020 t 1
  let s := if accepted then s.ownBuf info.buf t else
    match info.buf with
    | none => s
    | some i => if (s.bufAt i).st == .owned then s else s.bufSt (some i) .inTransit
  (d, s)

/-- Take a PENDING winner (or a broadcast's member) for an issue or a claim, with its journal record. -/
def State.takePending (n t : Nat) (claimed : Bool) (slot : Option Nat) (s : State) : Delivery × State :=
  let old := s.srcAt n
  let (d, s) := s.give n t old.grp old.prio old.info old.stamp old.bcast claimed slot
  let x := s.srcAt n
  let st' : SrcState := if d.active then .active else if x.st == .pending then .inFlight else x.st
  let s := s.setSrc n (if old.bcast then
      { x with st := st', lvl := false, issued := true, members := x.members.filter (fun m => m.tgt != t) }
    else { x with st := st', lvl := false, info := .none, target := some t })
  let ev : Ev := { code := if claimed then 7 else if s.isPush t then 6 else 5, tgt := some t, tag := d.tag,
                   replayed := d.info.replayed, force := old.bcast }
  (d, s.note ev n old)

/-- Issue a PENDING source at `t`: a notify or a push write leaves. -/
def State.issue (n t : Nat) (s : State) : State :=
  let (d, s) := s.takePending n t false none
  s.deliveryWrite d t

/-- ESC_STATUS.IN_SERVICE (Table 06-10): not failed and not in a block reset. -/
def State.escInService (s : State) (e : Nat) : Bool := !(s.escAt e).failed && (smGet (fun _ => none) s.blk e).isNone

/-- The source of the issue that is ready at `t` (R139): ready once some candidate has passed the pipeline of R141; then the
winner among all that are ranked (R110). (DEDUCED, log 30, 115.) -/
def State.issueReady (s : State) (t : Nat) : Option Nat :=
  if s.issueOpen t && s.room t && !(s.pendCands t 16 true).isEmpty then (bestRank (s.pendCands t 0 true)).map (·.src)
  else none

/-- R138: the PENDING sources that FWD_ESC `e` forwards, ranked `delay` beats ago or earlier. -/
def State.forwardCands (s : State) (e delay : Nat) : List Rank :=
  s.src.filterMap (fun p =>
    let x := p.2
    if x.st == .pending && s.policy x.grp == 4 && s.o 0x3407 x.grp == e && s.o 0x2006 p.1 == 1 && x.prio != 0
        && x.rankedAt + delay ≤ s.now
    then some ⟨x.prio, x.stamp.toNat, p.1⟩ else none)

/-- R138: the source of the forward of FWD_ESC `e` that is ready, carried by escapement `by_` (the spare, where one recomputes
an undecided forward, R154). -/
def State.forwardReady (s : State) (e by_ : Nat) : Option Nat :=
  if s.tdm.lanes != 2 || s.quiet.issueStop || s.asleep || 128 ≤ s.slotsUsed by_ || !s.escInService by_
      || (s.forwardCands e 16).isEmpty then none
  else (bestRank (s.forwardCands e 0)).map (·.src)

/-- R138: issue a forward: ACTIVE at once, its message queued for the partner with the header of the doorbell (R46, R65): its
LEN is the one the doorbell asked for. (DEDUCED, log 127.) -/
def State.issueForward (n e : Nat) (s : State) : State :=
  let old := s.srcAt n
  let g := old.grp
  let ex := s.escAt e
  let tag := nextTag 1023 ex.fwdTag ((s.dlv.filter (fun d => d.tgt == none && d.esc == e)).map (·.tag))
  let s := s.setEsc e { ex with fwdTag := tag % 1023 + 1, lastTgt := 1024, issueAt := some s.now }
  let d : Delivery :=
    { grp := g, esc := e, slot := s.freeSlot e, tgt := none, src := n, tag := tag, prio := old.prio, active := true,
      arrival := old.stamp, start := old.stamp, accept := s.cnt, issuedAt := s.now, expire := none, info := old.info,
      bcast := false, lseq := none }
  let s := { s with dlv := s.dlv ++ [d] }
  let s := s.bufSt old.info.buf .inTransit
  let s := s.setSrc n { s.srcAt n with st := .active, lvl := false, info := .none, keptLseq := none }
  let s := s.note { code := 6, tag := tag, replayed := d.info.replayed } n old
  let pay := match old.info.buf with | none => [] | some i => (s.bufAt i).bytes
  { s with tdm := { s.tdm with queue := s.tdm.queue ++
      [.forward n (s.o 0x3406 g) old.info.dbTag old.info.hdrLen old.info.keepFirst pay] } }

/-- R153: the issue decision of escapement `e` for target `t` (1024: a forward) waits to be computed again.
(DEDUCED, log 118.) -/
def State.undecidedIssue (s : State) (e t : Nat) : Bool :=
  (s.escAt (e / 2 * 2)).retry.any (fun r => match r.2 with | .escapementIssue x _ _ => x == t | _ => false)

/-- Targets with an issue ready at escapement `e`, in ascending order; 1024 stands for its forwards. -/
def State.readyTargets (s : State) (e : Nat) : List Nat :=
  let open_ (t : Nat) : Bool := !s.undecidedIssue e t
  let ts := ascending (s.src.flatMap (fun p =>
    (if p.2.bcast then p.2.members.map (·.tgt) else p.2.target.toList)))
  (ts.filter (fun t => s.servEsc t == e && open_ t && (s.issueReady t).isSome))
    ++ (if (s.forwardReady e e).isSome && open_ 1024 then [1024] else [])

/-- R140: the target whose turn it is, starting after the one last issued to. (DEDUCED, log 35.) -/
def State.issueTurn (s : State) (e : Nat) : Option Nat :=
  let last := (s.escAt e).lastTgt
  let r := s.readyTargets e
  (r.filter (fun t => last < t) ++ r).head?

/-- An issue decision of escapement `e` for target `t` (1024: a forward of FWD_ESC `from_`), released. -/
def State.issueTo (from_ e t : Nat) (s : State) : State :=
  if t = 1024 then match s.forwardReady from_ e with | none => s | some n => s.issueForward n e
  else match s.issueReady t with
    | none => s
    | some n => (s.setEsc e { s.escAt e with lastTgt := t, issueAt := some s.now }).issue n t

/-! ## Ends of deliveries -/

/-- Remove a delivery: its slot is freed and its tag retired (R106). -/
def State.dropDlv (d : Delivery) (s : State) : State := { s with dlv := s.dlv.erase d }

/-- A target stops holding a buffer; revoked, it is not in the record of the period either (R67). -/
def State.unhold (b : Option Nat) (t : Nat) (s : State) : State :=
  match b with
  | none => s
  | some i => let x := s.bufAt i; s.setBuf i { x with holders := x.holders.filter (· != t), freed := x.freed.filter (· != t) }

/-- A notify is withdrawn (R113, R114): PENDING again with its stamp kept, the buffer staged without a generation
change (R105); a broadcast's member waits at its own target again (R135). -/
def State.withdraw (code : Nat) (d : Delivery) (s : State) : State :=
  let old := s.srcAt d.src
  let s := s.dropDlv d
  let s := if d.bcast then
      (s.setSrc d.src { old with members := old.members ++ [⟨d.tgt.getD 0, s.now + 24, false⟩] }).bcastState d.src
    else (s.bufSt d.info.buf .staged).backToPending d.src d.info
  s.note { code := code, tgt := d.tgt, tag := d.tag, force := d.bcast } d.src old

/-- An IN_FLIGHT delivery is withdrawn with its target (R150, R155): as a withdrawn notify, but a broadcast's member ends, its
target being lost to it (R135). -/
def State.withdrawEnd (d : Delivery) (s : State) : State :=
  if d.bcast then
    let old := s.srcAt d.src
    (((s.dropDlv d).memberEnded d.src).checkBuf d.info.buf).note
      { code := 10, tgt := d.tgt, tag := d.tag, force := true } d.src old
  else s.withdraw 10 d

/-- Members of the delivery's group that can take a re-steer (R148): indexes and targets. A group wound to TANDEM_FORWARD
chooses the partner alone (Table 06-5), which takes no re-steer. -/
def State.resteerCands (s : State) (d : Delivery) : List (Nat × Nat) :=
  let ok (t : Nat) : Bool :=
    s.eligible t && s.room t && s.mayIssue (s.tgtTen t) && !s.holdsClaims t && !(s.escAt (s.servEsc t)).failed
  let l := (s.membersOf d.grp).filter (fun m => ok m.2)
  if s.policy d.grp = 4 then []
  else if s.hasFeat (s.srcTen d.src) 11 = false then l.filter (fun m => d.tgt == some m.2)
  else
    let others := l.filter (fun m => d.tgt != some m.2)
    if others.isEmpty then l else others

/-- Revoke a delivery (R136, R147–R149, R61). (DEDUCED, log 31.) -/
def State.revoke (d : Delivery) (s : State) : State :=
  let n := d.src
  let old := s.srcAt n
  let t := d.tgt.getD 0
  let s := s.dropDlv d
  if d.bcast then
    (((s.unhold d.info.buf t).memberEnded n).checkBuf d.info.buf).note
      { code := 10, tgt := d.tgt, tag := d.tag, force := true } n old
  else
    let s := s.bump 0x7022 t 1
    let (dst, s) := s.choose d.grp (s.resteerCands d)
    match dst with
    | none =>
      ((s.revokeBuf d.info.buf .staged).backToPending n d.info).note { code := 10, tgt := d.tgt, tag := d.tag } n old
    | some t' =>
      let s := s.revokeBuf d.info.buf .inTransit
      let (d', s) := s.give n t' d.grp d.prio d.info s.cnt false false none
      let s := s.setSrc n { s.srcAt n with st := if d'.active then .active else .inFlight, target := some t' }
      (s.note { code := 10, tgt := some t', tag := d'.tag, replayed := d.info.replayed, force := true } n old).deliveryWrite d' t'

/-- The last delivery of a source has ended as by a valid COMPLETE, or a member's has (R116). -/
def State.ended (d : Delivery) (s : State) : State :=
  let old := s.srcAt d.src
  let s := s.dropDlv d
  let s := if d.bcast then s.memberEnded d.src else s.outcome d.src
  (s.checkBuf d.info.buf).note { code := 9, tgt := d.tgt, tag := d.tag, force := d.bcast } d.src old

/-- R150: an ACTIVE delivery ended by an escapement ISOLATE, without a sample; its target stops holding the buffer. -/
def State.isolate (d : Delivery) (s : State) : State :=
  let t := d.tgt.getD 0
  if d.active then
    let s := if d.tgt.isSome then s.bump 0x7023 t 1 else s
    let s := match d.info.buf with
      | none => s
      | some i => let x := s.bufAt i
                  s.setBuf i { x with holders := x.holders.filter (· != t), freed := x.freed ++ d.tgt.toList }
    (s.ended d).checkBuf d.info.buf
  else s.withdrawEnd d

/-! ## Samples (R172–R174) -/

/-- Count a sample of a completed delivery. -/
def State.sample (d : Delivery) (t : Nat) (s : State) : State :=
  let lat : Int := (d.accept.toNat : Int) - d.start.toNat
  let svc : Int := (s.cnt.toNat : Int) - d.accept.toNat
  let big : Int := 0xFFFFFFFF
  if lat < 0 ∨ svc < 0 ∨ big < lat ∨ big < svc then s.bump 0x7066 t 1
  else
    let l := lat.toNat
    let v := svc.toNat
    let s := s.bump 0x7061 t 1
    let s := s.setO 0x7062 t (satAdd 64 (s.o 0x7062 t) l)
    let s := s.setO 0x7063 t (satAdd 64 (s.o 0x7063 t) v)
    let s := s.setO 0x7064 t (max (s.o 0x7064 t) l)
    let s := s.setO 0x7065 t (max (s.o 0x7065 t) v)
    let s := s.setO 0x7067 (3 * t) d.start.toNat
    let s := s.setO 0x7067 (3 * t + 1) d.accept.toNat
    let s := s.setO 0x7067 (3 * t + 2) s.cnt.toNat
    let x := s.tgtAt t
    s.setTgt t { x with pSamples := x.pSamples + 1, pLat := x.pLat + l, pSvc := x.pSvc + v }

/-! ## COMPLETE and FREE (R115, R116, Table 03-7) -/

/-- A COMPLETE of value `v` through the page of target `t`. -/
def State.completeCore (t : Nat) (v : Dw) (s : State) : State :=
  let ten := s.tgtTen t
  let hit : Option Delivery := match s.fromView 0x2000 ten (field v.toNat 10 12) with
    | none => none
    | some n => s.dlv.find? (fun d => d.src == n && d.tgt == some t && d.active && d.tag == field v.toNat 0 10)
  match hit with
  | none => (s.bump 0x7014 t 1).bump 0x7015 ten 1
  | some d => (s.sample d t).ended d

/-- The accepted FREE of buffer `i` by target `t`: a delivery that `t` has not completed carries it no longer. -/
def State.freedBy (i t : Nat) (s : State) : State :=
  { s with dlv := s.dlv.map (fun d => if d.tgt = some t ∧ d.info.buf = some i
      then { d with info := { d.info with buf := none, len := 0 } } else d) }

/-- A FREE of handle `h` through the page of target `t` (R67, R68). -/
def State.freeCore (t : Nat) (h : Dw) (s : State) : State :=
  let i := field h.toNat 0 13
  let g := BitVec.ofNat 8 (field h.toNat 16 8)
  let formed := h.getLsbD 31 && field h.toNat 24 7 == 0 && field h.toNat 13 3 == 0
  let x := s.bufAt i
  let ten := s.tgtTen t
  if formed && x.st == .owned && x.gen == g && x.holders.contains t then
    let s := s.setBuf i { x with holders := x.holders.filter (· != t), freed := x.freed ++ [t] }
    (s.freedBy i t).checkBuf (some i)
  else
    let y := s.tgtAt t
    let dbl := formed && (match x.record with | none => false | some r => r.1 == g && r.2.contains t)
    let s := if dbl then (s.bump 0x7034 ten 1).setTgt t { y with doubleFree := satAdd 32 y.doubleFree 1 }
      else (s.bump 0x7035 ten 1).setTgt t { y with foreignFree := satAdd 32 y.foreignFree 1 }
    s.dial 2 ten

/-! ## Claims (R113, R267) -/

/-- The claim is answered with a delivery: CLAIM_STAMP, MSG_INFO, LAST_HANDLE and SPECIAL (R63, R145, R267). -/
def State.claimRegs (d : Delivery) (t : Nat) (s : State) : State :=
  let x := s.tgtAt t
  let s := s.setTgt t { x with
    claimStamp := s.cnt.setWidth 32, msgInfo := d.info.msgInfo, lastHandle := s.handle d.info.buf }
  s.writeSpecial t d.tag d.info

/-- The claim's answer: its descriptor and handle. -/
def State.answerClaim (fn t : Nat) (wide : Bool) (d : Delivery) (s : State) : State :=
  let s := s.claimRegs d t
  let w := if wide then leBytes 4 (s.handle d.info.buf).toNat else []
  s.post (.cpl fn false (leBytes 4 (s.descriptor d t).toNat ++ w))

/-- An IN_FLIGHT delivery is claimed: ACTIVE with its tag kept. -/
def State.acceptDlv (d : Delivery) (t : Nat) (s : State) : Delivery × State :=
  let old := s.srcAt d.src
  let d' := { d with active := true, accept := s.cnt, expire := none }
  let s := { s with dlv := s.dlv.map (fun e => if e = d then d' else e) }
  let s := s.setSrc d.src { old with st := .active }
  let s := s.ownBuf d.info.buf t
  (d', s.note { code := 7, tgt := some t, tag := d.tag, replayed := d.info.replayed, force := d.bcast } d.src old)

/-- CLAIMS of a claim that is applied (Table 07-3, R175). -/
def State.countClaim (t : Nat) (s : State) : State :=
  let s := s.bump 0x7060 t 1
  s.setTgt t { s.tgtAt t with pClaims := (s.tgtAt t).pClaims + 1 }

/-- R113: the decision of a claim on target `t`, applied. (DEDUCED, log 29.) -/
def State.claimCore (fn t : Nat) (wide : Bool) (s : State) : State :=
  let s := s.countClaim t
  let none0 (s : State) : State := s.post (.cpl fn false (leBytes (if wide then 8 else 4) 0))
  let infl := s.dlv.filter (fun d => d.tgt == some t && !d.active)
  let p := bestRank (s.pendCands t 0 false)
  let f := bestRank (infl.map s.dlvRank)
  let takeNew (n : Nat) (slot : Option Nat) (s : State) : State :=
    let (d, s) := s.takePending n t true slot
    s.answerClaim fn t wide d
  let flight (r : Rank) : State :=
    match infl.find? (fun d => d.src == r.src) with
    | none => none0 s
    | some d => let (d', s) := s.acceptDlv d t; s.answerClaim fn t wide d'
  match p, f with
  | none, none => none0 s
  | none, some r => flight r
  | some a, none => if s.canTake t then takeNew a.src none s else none0 s
  | some a, some r =>
    if r.before a then flight r
    else
      let worst := infl.foldl (fun m d => match m with
        | none => some d
        | some w => if (s.dlvRank w).before (s.dlvRank d) then some d else some w) (none : Option Delivery)
      match worst with
      | none => none0 s
      | some w => takeNew a.src (some w.slot) ((s.withdraw 8 w).bump 0x7013 t 1)

/-! ## Thresholds, timeouts, target quarantine -/

/-- R114: IN_FLIGHT sources at or below the threshold lose their notifies. -/
def State.thresholdCore (t : Nat) (s : State) : State :=
  each (fun d s => (s.withdraw 8 d).bump 0x7013 t 1)
    (s.dlv.filter (fun d => d.tgt == some t && !d.active && d.prio ≤ s.thr t)) s

/-- Is there a notify for the threshold to withdraw? -/
def State.thresholdHits (s : State) (t : Nat) : Bool :=
  s.dlv.any (fun d => d.tgt == some t && !d.active && d.prio ≤ s.thr t)

/-- The IN_FLIGHT delivery whose claim timeout has come (R147). -/
def State.expired (s : State) (t tag : Nat) : Option Delivery :=
  s.dlv.find? (fun d => d.tgt == some t && d.tag == tag && !d.active
    && (match d.expire with | none => false | some e => e ≤ s.now))

/-- R147: revoke it, counting CLAIM_TIMEOUTS. -/
def State.timeoutCore (t tag : Nat) (s : State) : State :=
  match s.expired t tag with
  | none => s
  | some d =>
    let x := s.tgtAt t
    ((s.bump 0x7021 t 1).setTgt t { x with pTimeouts := x.pTimeouts + 1 }).revoke d

/-- R149: the deliveries that a quarantine of target `t` revokes. -/
def State.quarDlvs (s : State) (t : Nat) : List Delivery :=
  s.dlv.filter (fun d => d.tgt == some t && (!d.active || s.isPush t))

/-- R149: the revocations and re-steers of a quarantine, decisions of a coupled pair (R153). -/
def State.quarRevoke (t : Nat) (s : State) : State := each State.revoke (s.quarDlvs t) s

/-- R149, R187: enter quarantine, its flags and record; `src` 1 Owner, 2 Regulator. -/
def State.quarFlags (t src : Nat) (s : State) : State :=
  let x := s.tgtAt t
  let s := s.setTgt t { x with quarantined := true, claimsAtQ := s.o 0x7060 t }
  let s := (s.setO 0x6012 t src).setO 0x6013 t s.cnt.toNat
  s.chrQuar true false (if src = 2 then 2 else 1) t (s.tgtTen t)

/-- Release a target from quarantine (R149, R186, R187). -/
def State.unquarantine (t by_ : Nat) (s : State) : State :=
  let x := s.tgtAt t
  if x.quarantined then
    let s := (s.setTgt t { x with quarantined := false }).setO 0x6012 t 0
    let s := s.chrQuar true true by_ t (s.tgtTen t)
    if s.eligible t then s.becameEligible t else s
  else s.setO 0x6012 t 0

/-- R150, R155: the targets of escapement `e` leave service in one beat, so that none of them takes a re-steer.
(DEDUCED, log 120.) -/
def State.outOfService (e : Nat) (ts : List Nat) (s : State) : State :=
  each (fun t s => s.setTgt t { s.tgtAt t with withdrawn := true, withdrawnBy := some e }) ts s

/-- R155: a target withdrawn from service for want of a spare. -/
def State.withdrawTarget (t : Nat) (s : State) : State :=
  let s := each State.withdrawEnd (s.dlv.filter (fun d => d.tgt == some t && !d.active)) s
  let s := if s.isPush t then each State.revoke (s.dlv.filter (fun d => d.tgt == some t && d.active)) s else s
  s.leaveTarget t

/-- R150: the deliveries that the withdrawal of its targets by a block reset of escapement `e` revokes: as by quarantine, push
ACTIVE deliveries kept. -/
def State.resetDlvs (s : State) (e : Nat) : List Delivery :=
  s.dlv.filter (fun d => !d.active && (match d.tgt with | some t => s.servEsc t == e | none => false))

/-- R150: their revocations and re-steers, decisions of a coupled pair (R153). -/
def State.resetRevoke (e : Nat) (s : State) : State := each State.revoke (s.resetDlvs e) s

/-- The targets an escapement serves that anything is wound or bound to: all whose serving escapement it is. -/
def State.servedBy (s : State) (e : Nat) : List Nat := (List.range 1024).filter (fun t => s.servEsc t == e)

/-! ## Synchronized release (R137) -/

/-- Members at escapement `e` due after beat `lo` and by beat `hi`: (target, source), in ascending target order. -/
def State.dueMembers (s : State) (e lo hi : Nat) : List (Nat × Nat) :=
  let l := s.src.flatMap (fun p => match p.2.release with
    | none => []
    | some r => if p.2.bcast && lo < r && r ≤ hi then
        (p.2.members.filter (fun m => m.due && s.servEsc m.tgt == e)).map (fun m => m.tgt * 4096 + p.1) else [])
  (ascending l).map (fun k => (k / 4096, k % 4096))

/-- The release decision of an escapement for the members due after `lo` and by `hi`: each is issued outside the ranking, or
counts SYNC_LATE and waits; `late` counts every one (the retry of R153). -/
def State.syncCore (e lo hi : Nat) (late : Bool) (s : State) : State :=
  let s := s.setEsc e { s.escAt e with issueAt := some s.now }
  each (fun (m : Nat × Nat) s =>
    let t := m.1
    let n := m.2
    let x := s.srcAt n
    let rk := ((x.members.find? (fun y => y.tgt == t)).map (·.rankedAt)).getD (s.now + 1)
    let ok := s.candidate n t rk && s.room t && s.issueOpen t
    let s := if late || !ok then s.bump 0x7050 x.grp 1 else s
    if ok then (s.setEsc e { s.escAt e with lastTgt := t }).issue n t
    else s.setSrc n { s.srcAt n with
      members := x.members.map (fun y => if y.tgt = t then { y with due := false } else y) }) (s.dueMembers e lo hi) s

/-! ## Coupled pairs (R153–R155) -/

/-- R153: the two results differ: neither is released, and the decision is computed again within 8 beats.
(DESIGN CHOICE, log 112.) -/
def State.mismatch (e : Nat) (i : Instr) (s : State) : State :=
  let p := e / 2 * 2
  let s := (s.bump 0x7040 p 1).dial 14 0
  s.setEsc p { s.escAt p with retry := (s.escAt p).retry ++ [(s.now + 8, i)] }

/-- The escapement that now serves what `e` served: the spare engaged for its pair, if one is (R154). -/
def State.nowServes (s : State) (e : Nat) : Nat :=
  ((List.range 8).find? (fun x => (s.escAt x).engagedFor == some (e / 2 * 2))).getD e

/-- R138: the forwards that escapement `e` holds. -/
def State.forwardsOf (s : State) (e : Nat) : List Delivery := s.dlv.filter (fun d => d.tgt.isNone && d.esc == e)

/-- R138: a forward still unacknowledged when the lanes go down is revoked: its tag is retired, and the source returns to
PENDING with its stamp kept. -/
def State.revokeForward (d : Delivery) (s : State) : State :=
  let old := s.srcAt d.src
  let s := (s.dropDlv d).setSrc d.src { old with keptLseq := d.lseq }
  ((s.revokeBuf d.info.buf .staged).backToPending d.src d.info).note { code := 10, tag := d.tag } d.src old

/-- R355: the IN_FLIGHT deliveries that escapement `e` holds at the end of the drain. -/
def State.inFlightOf (s : State) (e : Nat) : List Delivery := s.dlv.filter (fun d => !d.active && d.esc == e)

/-- R355, step 2: they are withdrawn: their tags retired, the sources PENDING with their stamps kept, and counted. -/
def State.drainWithdraw (e : Nat) (s : State) : State :=
  each (fun d s => (s.withdraw 8 d).bump 0x1409 0 1) (s.inFlightOf e) s

/-- R153: a drain's withdrawals at escapement `e` wait to be computed again. -/
def State.undecidedDrain (s : State) (e : Nat) : Bool :=
  (s.escAt (e / 2 * 2)).retry.any (fun r => match r.2 with | .quietDrainEnd .. => true | _ => false)

/-- Decisions of R153 by kind: claim results, issues, releases. -/
def isClaim : Instr → Bool
  | .claim .. | .claim64 .. => true
  | _ => false
def isIssue : Instr → Bool
  | .escapementIssue .. | .syncRelease .. => true
  | _ => false

/-- The beat of the latest release decision that waits at the pair of escapement `e` (0: none). -/
def State.undecidedRelease (s : State) (e : Nat) : Nat :=
  (s.escAt (e / 2 * 2)).retry.foldl (fun m r => match r.2 with | .syncRelease b _ _ => max m b | _ => m) 0

/-- The target of a claim or COMPLETE as it is held. -/
def heldTarget : Instr → Nat
  | .claim _ _ t _ => t
  | .claim64 _ _ t _ => t
  | .complete _ _ t _ => t
  | _ => 0

/-- R153: a claim decision of the pair of escapement `e` waits to be computed again.
(DEDUCED, log 118.) -/
def State.undecidedClaim (s : State) (e : Nat) : Bool := (s.escAt (e / 2 * 2)).retry.any (fun r => isClaim r.2)

/-- R154, R397, R153: a claim (COMPLETE) at target `t` is held by a migration, a rebuild or an undecided claim. -/
def State.stillHeld (s : State) (i : Instr) : Bool :=
  match i with
  | .complete _ _ t _ => s.migratingT t
  | _ => s.holdsClaims (heldTarget i) || s.undecidedClaim (s.servEsc (heldTarget i))

/-- R140, R154: a claim waits also behind an earlier one held at its escapement, and behind the claim decision of this beat; a
COMPLETE that arrives behind a COMPLETE held for its target. (DEDUCED, log 118, 121.) -/
def State.mustWait (s : State) (i : Instr) : Bool :=
  let t := heldTarget i
  s.stillHeld i || (match i with
    | .complete .. => s.heldOps.any (fun j => !isClaim j && heldTarget j == t)
    | _ => (s.escAt (s.servEsc t)).claimAt == some s.now
        || s.heldOps.any (fun j => isClaim j && s.servEsc (heldTarget j) == s.servEsc t))

/-- A claim decision at target `t` (R113): the one of its escapement in this beat (R140); where a coupled pair's results differ
(`mm`), `i` waits to be computed again (R153). -/
def State.claimDecision (fn t : Nat) (wide mm : Bool) (i : Instr) (s : State) : State :=
  let e := s.servEsc t
  let s := s.setEsc e { s.escAt e with claimAt := some s.now }
  if mm && s.compares e then s.mismatch e i else s.claimCore fn t wide

/-- The decision a waiting command makes, computed and released. A stored issue, claim or COMPLETE names its target, in Owner
numbers, in place of its beat or its page; a stored release the beat by which its members were due; a block reset's is that of
its revocations, a drain's that of its withdrawals at one escapement, a lane loss's that of an escapement's forwards.
(DESIGN CHOICE, log 112.) -/
def State.decide (i : Instr) (s : State) : State :=
  match i with
  | .escapementIssue t e _ => s.issueTo e (s.nowServes e) t
  | .syncRelease b e _ => s.syncCore (s.nowServes e) 0 b true
  | .claimTimeout _ t tag _ => s.timeoutCore t tag
  | .targetQuarantine _ t _ => s.quarRevoke t
  | .thresholdWrite _ _ t _ _ => s.thresholdCore t
  | .claim b fn t mm => s.claimDecision fn t false mm (.claim b fn t false)
  | .claim64 b fn t mm => s.claimDecision fn t true mm (.claim64 b fn t false)
  | .complete _ _ t d => s.completeCore t d
  | .blkResetQuiesce _ e _ => s.resetRevoke e
  | .quietDrainEnd e _ _ _ => s.drainWithdraw (s.nowServes e)
  | .laneLoss e _ _ => each State.revokeForward (s.forwardsOf (s.nowServes e)) s
  | _ => s

/-- R154: a held COMPLETE goes after the earlier requests of its escapement that are free to go, a held claim as one that
arrives; `s.heldOps` are the earlier requests that stay. (DEDUCED, log 121.) -/
def State.staysHeld (s : State) (i : Instr) : Bool :=
  match i with
  | .complete _ _ t _ => s.stillHeld i
      || s.heldOps.any (fun j => !s.stillHeld j && s.servEsc (heldTarget j) == s.servEsc t)
  | _ => s.mustWait i

/-- Apply the held requests that are held no longer, in order of arrival, one claim of an escapement in a beat (R140).
(DEDUCED, log 118, 121.) -/
def State.letGo (s : State) : State :=
  if s.asleep then s
  else each (fun i s => if s.staysHeld i then { s with heldOps := s.heldOps ++ [i] } else s.decide i) s.heldOps
    { s with heldOps := [] }

/-- R154: a usable spare. -/
def State.usableSpare (s : State) (e : Nat) : Option Nat :=
  let sp := s.o 0x3801 e
  if sp < 8 && s.escInService sp && (s.escAt sp).engagedFor.isNone then some sp else none

/-- R154, R155: a second mismatch of one decision removes the pair of even escapement `p`.
(DEDUCED, log 120.) -/
def State.failPair (p : Nat) (undecided : Instr) (s : State) : State :=
  let s := s.setEsc p { s.escAt p with failed := true }
  let s := s.setEsc (p + 1) { s.escAt (p + 1) with failed := true }
  let s := (s.bump 0x7042 p 1).fault 0x31 p
  match s.usableSpare p with
  | some sp => s.setEsc p { s.escAt p with migrating := some sp, retry := (s.now, undecided) :: (s.escAt p).retry }
  | none =>
    let s := each State.withdrawTarget (s.servedBy p) (s.outOfService p (s.servedBy p))
    let pend := (s.escAt p).retry.map (·.2)
    (each State.decide (undecided :: pend) (s.setEsc p { s.escAt p with retry := [] })).letGo

/-- DECISION_RETRY: the recomputation of the pair's oldest undecided decision. -/
def State.retryCore (e : Nat) (mm : Bool) (s : State) : State :=
  let p := e / 2 * 2
  let x := s.escAt p
  match x.retry with
  | [] => s
  | (due, i) :: rest =>
    if s.now < due || x.migrating.isSome || s.asleep then s
    else
      let s := s.setEsc p { x with retry := rest }
      if mm then ((s.bump 0x7040 p 1).dial 14 0).failPair p i
      else ((s.bump 0x7041 p 1).decide i).letGo

/-- R154: the migration of pair `p` ends: targets, deliveries, the undecided decisions and the held requests (one claim in a
beat, R140), issues last. (DEDUCED, log 121.) -/
def State.migrateEnd (p : Nat) (s : State) : State :=
  let x := s.escAt p
  match x.migrating with
  | none => s
  | some sp =>
    if s.asleep then s else
    let ts := s.servedBy p
    let s := each (fun t s => s.setTgt t { s.tgtAt t with migratedTo := some sp }) ts s
    let s := each (fun d s =>
      let sl := s.freeSlot sp
      { s with dlv := s.dlv.map (fun e => if e = d then { d with esc := sp, slot := sl } else e) })
      (s.dlv.filter (fun d => d.esc == p)) s
    let s := s.setEsc sp { s.escAt sp with engagedFor := some p }
    let todo := x.retry.map (·.2)
    let s := s.setEsc p { s.escAt p with migrating := none, retry := [] }
    let s := (each State.decide (todo.filter (fun i => !isIssue i)) s).letGo
    each State.decide (todo.filter isIssue) s

end Sys2Proof.Machine
end

