-- ==== Sys2Proof/Machine/Beats.lean ====
section
/-! DEFINITION. Beats pass: the glitch filters (02 §02.2), the rows of Table 05-5 that time alone brings (arrivals signalled
late in the beat before, level conditions, held claims), the counter, and the writes that take effect on the next beat. -/

namespace Sys2Proof.Machine

open Sys2Proof

/-! ## Glitch filters (R22–R24, R28) -/

/-- R20, R22: the bank of IRQ_IN[n] is supplied. -/
def State.bankOf (s : State) (n : Nat) : Bool := if n < 48 then s.bankA else s.bankB

/-- Is a change of the filtered value to `level` an arrival under a sense mode (Table 02-3)? -/
def edgeSensed (mode : Nat) (level : Bool) : Bool := mode == 2 || mode == 0 && level || mode == 1 && !level

def State.setFilt (n : Nat) (x : Filt) (s : State) : State :=
  { s with filtered := smSet (fun _ => Filt.init) s.filtered n x }

/-- The beat in which the filtered value of IRQ_IN[n] changes, if its samples stay: the one of the F + 1st sample of the new
level that counts (R23). -/
def State.filtDue (s : State) (n : Nat) : Option Nat :=
  let x := s.filtAt n
  if x.value = x.sample then none else some (x.since + s.o 0x2005 (32 + n))

/-- R23, R24: the filtered value of IRQ_IN[n] changes in this beat, if it is due; an edge that the mode in force senses is an
arrival of row 2 of this beat, stamped with it. -/
def State.filtTurn (n : Nat) (s : State) : State :=
  match s.filtDue n with
  | none => s
  | some d =>
    if d ≤ s.now then
      let x := s.filtAt n
      let s := s.setFilt n { x with value := x.sample }
      if s.sensing && edgeSensed (s.sense (32 + n)) x.sample then { s with row2 := s.row2 ++ [(32 + n, s.cnt)] } else s
    else s

/-- The inputs whose filters are listed. -/
def State.filtTurns (s : State) : State := each (fun e s => s.filtTurn e.1) s.filtered s

/-- R22, R23: the synchronized samples of IRQ_IN[n] have shown `level` since beat `since`. The inputs of an absent bank are
sampled 0, and a sample before the last restart of the count does not count (R28). -/
def State.sampled (n : Nat) (level : Bool) (since : Nat) (s : State) : State :=
  let x := s.filtAt n
  if x.sample = level || (level && !s.bankOf n) then s
  else s.setFilt n { x with sample := level, since := max since x.since }

/-- R28: the count of a filter restarts at this beat. -/
def State.filtRestart (n : Nat) (s : State) : State := s.setFilt n { s.filtAt n with since := s.now }

/-! ## The rows of a beat (Table 05-5) -/

/-- Apply S15 and other internal arrivals signalled before row 2 of this beat at once. -/
def State.lateNow (s : State) : State :=
  let l := s.late
  each (fun (e : Nat × Beat) (s : State) => s.arrive e.1 e.2 true .none none) l { s with late := [] }

/-- Row 2: arrivals signalled late in the beat before (R29) and the edges of the glitch filters.
(DEDUCED, log 18.) -/
def State.hwRow (s : State) : State :=
  let l := s.row2
  each (fun (e : Nat × Beat) (s : State) => s.arrive e.1 e.2 true .none none) l { s with row2 := [] }

/-- Rows 2 and 7, then the held claims whose turn it is (R140, R154, R397): what stands before the issues, the withdrawals and
the revocations of this beat. (DEDUCED, log 18.) -/
def State.row8 (s : State) : State := s.hwRow.evalLevels.letGo

/-! ## The low-rate pair (R378) -/

/-- The beat from which the next waiting pair frame may start: the pair has been idle for 32 µs, and a back-off is over. -/
def State.pairDue (s : State) : Nat := max (s.tdm.pairFrom + 25600) (s.tdm.backoff.getD 0)

/-- R378: the first waiting pair frame starts, if it may; a junior (or a clash) that meets a mismatch (`collide`) stops within 2
bit times and backs off, and a frame lasts 128 µs. (DESIGN CHOICE, log 20.) -/
def State.pairGo (collide : Bool) (s : State) : State :=
  match s.tdm.pairWait with
  | [] => s
  | (k, a) :: rest =>
    if s.now < s.pairDue then s
    else if collide && (!s.straps.getLsbD 0 || s.tdm.clash) then
      let (d, s) := s.draw
      let slots := 1 + Config.freeDraw d % 8
      { s.bump 0x1945 0 1 with tdm := { s.tdm with backoff := some (s.now + slots * 128000), pairFrom := s.now + 1600 } }
    else
      { s.emit (.pair (pairFrame k (BitVec.ofNat 8 s.hbFlags) s.tdm.session a)) with
        tdm := { s.tdm with backoff := none, pairWait := rest, pairFrom := s.now + 102400 } }

/-- The link is started (step 11, R303), and not in a block reset. -/
def State.linkOn (s : State) : Bool :=
  (11 ≤ s.start.step || s.start.level == .l3) && !s.start.minimal && !s.start.bringup
    && smGet (fun _ => none) s.blk 0x22 != some .resetting

/-- TDM_ENABLE is 1 and the link runs: pair frames are sent. -/
def State.pairOn (s : State) : Bool := s.linkOn && s.o 0x1900 0 == 1

/-- A pair frame is to be sent: it waits for the pair, once however often it is asked for. -/
def State.pairPut (kind : Nat) (arg : Dw) (collide : Bool) (s : State) : State :=
  (if s.tdm.pairWait.any (fun w => w.1 == kind) then s
   else { s with tdm := { s.tdm with pairWait := s.tdm.pairWait ++ [(kind, arg)] } }).pairGo collide

/-- The end of a beat: its rows, the pair, the Dial blocks (R278), the summary that S0 presents in the next beat (R29), mirror requests
(R384); the faults and records of the beat are in place (R399, R406). -/
def State.endBeat (s : State) : State :=
  let s := s.row8.pairGo false
  let s := each (fun e s => s.dialTurn e.1) s.func s
  ({ s with
    time := { s.time with s0 := (s.fn 0).summary }, faultB := .init, chr := { s.chr with fresh := 0 } } : State).flushMirror.pump

/-- The beginning of a beat before its winds: the filters turn, and what was signalled late in the beat before stands in row 2. -/
def State.beginBeat (s : State) : State :=
  let s : State := { s with row2 := s.row2 ++ s.late, late := [] }
  s.filtTurns

/-- Time passes from the end of this beat to the beginning of beat `b`: the counter, and the writes due at the next beat
(R35). -/
def State.tickTo (b : Nat) (s : State) : State :=
  if b ≤ s.now then s
  else
    let s := s.endBeat
    let s := { s with time := s.time.pass (toI32 (s.o 0x1208 0)) s.now (b - s.now), now := b }
    (each (fun e (s : State) => { s with obj := smSet dfltKey s.obj e.1 e.2 }) s.nextObj ({ s with nextObj := [] } : State)).beginBeat

/-- Beats pass one by one, at most `fuel` of them: what one beat signals for the next is settled in so many. -/
def settle : Nat → Nat → State → State
  | 0, _, s => s
  | f + 1, b, s => if b ≤ s.now then s else settle f b (s.tickTo (s.now + 1))

/-- The first beat after this one, and before `b`, in which time alone brings something: a filter that turns, a held claim
that may be applied, a pair frame that may start. -/
def State.nextStop (b : Nat) (s : State) : Nat :=
  let ds := (s.filtered.filterMap (fun e => s.filtDue e.1)).filter (s.now < ·)
  let c := if s.asleep || s.heldOps.all s.stillHeld then b else s.now + 1
  let p := if s.tdm.pairWait.isEmpty then b else max (s.now + 1) s.pairDue
  ds.foldl min (min b (min c p))

/-- Time passes to beat `b`, stopping where something is due; after `fuel` stops the rest is one passage. -/
def passTo : Nat → Nat → State → State
  | 0, b, s => s.tickTo b
  | f + 1, b, s =>
    let s := settle 4 b s
    if b ≤ s.now then s else passTo f b (s.tickTo (s.nextStop b))

/-- The state at the beginning of beat `b`, before its winds (row 1 of Table 05-5); as it stands, if that beat has come.
(DESIGN CHOICE, log 1.) -/
def State.toBeat (b : Nat) (s : State) : State := passTo (1 + s.filtered.length + s.heldOps.length + s.tdm.pairWait.length) b s

/-- R312: the live copies follow while the main supplies are good. -/
def State.syncLive (s : State) : State :=
  if s.backup.mainGood && s.supply.running then
    s.bk (fun k => { k with
      supplyLive := BitVec.ofNat 32 s.supplyStatus, feedLive := s.o 0x1309 0, ibvLive := s.o 0x130A 0 })
  else s

/-- R383: while the partner shows QUIET, a forward held for want of the lanes sends a pair WAKE frame, at most once per
PAIR_HB_PERIOD. -/
def State.fwdWake (s : State) : State :=
  if s.tdm.pQuiet && s.o 0x1905 0 == 1 && s.pairOn && s.tdm.lanes != 2
      && (match s.tdm.wakeSentAt with | none => true | some w => w + s.o 0x1903 0 ≤ s.now)
      && s.src.any (fun e => e.2.st == .pending && s.policy e.2.grp == 4) then
    ({ s with tdm := { s.tdm with wakeSentAt := some s.now } } : State).pairPut 2 0 false
  else s

/-- The state at elapsed beat `b` (or as it stands, if that beat has come) after rows 1 and 2 of the beat: what time alone
does. (DESIGN CHOICE, log 1.) -/
def State.upTo (b : Nat) (s : State) : State := (s.toBeat b).hwRow.fwdWake.syncLive

/-- R40, R273: the beat of the next software request is after the one before.
(DEDUCED, log 2, 28.) -/
def State.upToReq (b : Nat) (s : State) : State :=
  let s := s.upTo (max b s.nextSw)
  { s with nextSw := s.now + 1 }

end Sys2Proof.Machine
end

