-- ==== Sys2Proof/Machine/Flags.lean ====
section
/-! DEFINITION. The flag computations of the Luilte engines (R77, Table 04-4) and the branch conditions (Table 04-5). -/

namespace Sys2Proof.Machine

open Sys2Proof

/-- Z and N of a result, C as given. -/
def Engine.flags (r : Dw) (c : Bool) (e : Engine) : Engine := { e with z := r == 0, n := r.getLsbD 31, c := c }

/-- The carry out of a 32-bit addition. -/
def addCarry (a b : Dw) : Bool := 2 ^ 32 ≤ a.toNat + b.toNat

/-- C of CMP: 1 if no borrow. -/
def noBorrow (a b : Dw) : Bool := b.toNat ≤ a.toNat

/-- Table 04-5: is the branch taken? -/
def Engine.cond (e : Engine) (hold : Bool) (cc : Nat) : Bool :=
  match cc with
  | 0 => e.z
  | 1 => !e.z
  | 2 => e.c
  | 3 => !e.c
  | 4 => e.n
  | 5 => !e.n
  | 6 => e.t
  | 7 => !e.t
  | 8 => hold
  | 9 => !hold
  | _ => true

end Sys2Proof.Machine
end

