-- ==== Sys2Proof/Machine/Operands.lean ====
section
/-! DEFINITION. The operand forms of the Luilte instructions: the fields of a program word (§04.3), the selectors of
Table 04-3, the legality rule R79, and which working registers an instruction reads (R445). -/

namespace Sys2Proof.Machine

open Sys2Proof

/-- OP [31:27]. -/
def wOp (w : Dw) : Nat := field w.toNat 27 5
/-- DST or COND [26:23]. -/
def wDst (w : Dw) : Nat := field w.toNat 23 4
/-- SRC [22:18]. -/
def wSrc (w : Dw) : Nat := field w.toNat 18 5
/-- I [17]. -/
def wI (w : Dw) : Bool := w.getLsbD 17
/-- H, DO or A [16]. -/
def wH (w : Dw) : Bool := w.getLsbD 16
/-- IMM [15:0]. -/
def wImm (w : Dw) : Nat := field w.toNat 0 16
/-- SRC2 [4:0]. -/
def wSrc2 (w : Dw) : Nat := field w.toNat 0 5
/-- ADDR, w or n [7:0]. -/
def wLow (w : Dw) : Nat := field w.toNat 0 8
/-- The register k of STP [11:8]. -/
def wK (w : Dw) : Nat := field w.toNat 8 4

/-- Working register k. -/
def Engine.reg (e : Engine) (k : Nat) : Dw := smGet (fun _ => 0) e.w k
def Engine.setReg (k : Nat) (v : Dw) (e : Engine) : Engine := { e with w := smSet (fun _ => 0) e.w k v }

/-- The value of a selector (Table 04-3): PINS are the synchronized DIN and HOLD, `beat` is BEAT_LO. -/
def Engine.operand (e : Engine) (pins : BitVec 2) (beat : Dw) (sel : Nat) : Dw :=
  if sel < 16 then e.reg sel
  else if sel = 16 then BitVec.ofNat 32 e.rc
  else if sel = 17 then BitVec.ofNat 32 e.cp
  else if sel = 18 then pins.setWidth 32
  else if sel < 23 then (e.cap >>> (32 * (sel - 19))).setWidth 32
  else if sel = 23 then beat
  else e.dbarg

/-- The second operand of ADD, AND, XOR and CMP: IMM (sign-extended where `signed`) or SRC2. -/
def Engine.operand2 (e : Engine) (pins : BitVec 2) (beat : Dw) (w : Dw) (signed : Bool) : Dw :=
  if wI w then (if signed then (BitVec.ofNat 16 (wImm w)).signExtend 32 else BitVec.ofNat 32 (wImm w))
  else e.operand pins beat (wSrc2 w)

/-- Selectors an instruction names. -/
def wSelectors (w : Dw) : List Nat :=
  let op := wOp w
  if op = 4 then (if wI w then [] else [wSrc w])
  else if 6 ≤ op ∧ op ≤ 9 then (if wI w then [wSrc w] else [wSrc w, wSrc2 w])
  else if op = 12 ∨ op = 15 then [wSrc w]
  else []

/-- R79: is the word illegal, in or outside a handler? -/
def wIllegal (w : Dw) (inHandler : Bool) : Bool :=
  let op := wOp w
  op == 0 || 0x12 ≤ op
    || (wSelectors w).any (fun x => 25 ≤ x)
    || (op == 0x0A && 11 ≤ wDst w)
    || (op == 1 && wLow w == 0)
    || (op == 2 && (wLow w == 0 || 128 < wLow w))
    || (op == 4 && wI w && wImm w == 0)
    || (op == 0x10 && !inHandler)

/-- The registers of W8–W11 that drive DOUT with the `m` positions from `cp` on. -/
def doutRegs (cp m : Nat) : List Nat := [8, 9, 10, 11].filter (fun k => cp < 32 * (k - 7) && 32 * (k - 8) < cp + m)

/-- The working registers an instruction reads (R445), a SHIFT with its capture position `cp`. R445 names a read as an operand,
DOUT data and the address of an STP; whether a MOVI with H = 1, which keeps [15:0] of DST, reads DST it does not say: here it
does not. (DESIGN CHOICE, log 129.) -/
def wReads (cp : Nat) (w : Dw) : List Nat :=
  (wSelectors w).filter (· < 16)
    ++ (if wOp w = 2 && wH w then doutRegs cp (wLow w) else [])
    ++ (if wOp w = 15 && wH w then [wK w] else [])

end Sys2Proof.Machine
end

