-- ==== Sys2Proof/Machine/Engines.lean ====
section
/-! DEFINITION. The expander ports and Luilte engines (04): program words, frames and publication, events, control, and
the meanings of the engine commands and instructions. One engine cycle is 8 beats (R72); an instruction starts at the
beat its command carries, or when the one before ended, and takes effect when its last cycle ends (R80). -/

namespace Sys2Proof.Machine

open Sys2Proof

/-! ## Program words -/

/-- The element of PROG (R91). -/
def progEl (n : Nat) (bank : Bool) (a : Nat) : Nat := 512 * n + 256 * b2n bank + a % 256

/-- The word at an address of the active bank. -/
def State.progWord (s : State) (n a : Nat) : Dw := BitVec.ofNat 32 (s.o 0x4100 (progEl n (s.engAt n).bank a))

/-- The word the engine executes next: the prefetched one (R80, R94), else that at PC. -/
def State.engWord (s : State) (n : Nat) : Dw := (s.engAt n).fetched.getD (s.progWord n (s.engAt n).pc)

/-- Store a program word; a rewrite clears its bad parity (R445). -/
def State.setProg (el : Nat) (v : Dw) (s : State) : State :=
  { s.setO 0x4100 el v.toNat with badParity := s.badParity.filter (· != el) }

/-! ## Frames (R81–R85) -/

/-- R83: STALE is set and counted, and EXPANDER_STALE raised when it rises. -/
def State.goStale (n : Nat) (s : State) : State :=
  let e := s.engAt n
  let s := (s.setEng n { e with stale := true }).bump 0x4021 n 1
  if e.stale then s else s.dial 13 0

/-! ## The port's balls (R70, R73) -/

/-- R70: the bank of port XPn is powered. -/
def State.xpPowered (s : State) (n : Nat) : Bool := if n < 4 then s.bankA else s.bankB

/-- XPn_SCK, XPn_LOAD and XPn_DOUT as they stand between two instructions: SCK and LOAD are low; none is driven while the bank is
unpowered (R70). -/
def State.xpOut (s : State) (n : Nat) : Option (Bool × Bool × Bool) :=
  if s.xpPowered n then some (false, false, (s.engAt n).dout) else none

/-- Edges leave on the balls of a powered port. -/
def State.balls (n : Nat) (l : List Out) (s : State) : State := if s.xpPowered n then each State.emit l s else s

/-- XPn_DOUT turns to `v` at beat `b`. -/
def doutTurn (n : Nat) (old v : Bool) (b : Nat) : List Out := if old = v then [] else [.ball n 2 v b]

/-- XPn_DOUT takes its idle level (Table 04-2). -/
def State.doutIdle (n : Nat) (s : State) : State :=
  let e := s.engAt n
  (s.setEng n { e with dout := false }).balls n (doutTurn n e.dout false s.now)

/-- R83: discard a frame in progress; one already aborted has been. (DEDUCED, log 36.) -/
def State.discardFrame (n : Nat) (s : State) : State :=
  let e := s.engAt n
  let s := if e.frame && !e.aborted then s.goStale n else s
  s.setEng n { s.engAt n with frame := false, aborted := false, overshot := false, cp := 0, cap := 0 }

/-- R82: publish 128 positions at this beat: edge arrivals of the changed bits; the level conditions are judged on them from
row 7 of this beat. -/
def State.publish (n : Nat) (bits : BitVec 128) (s : State) : State :=
  let old := (s.engAt n).pub
  let s := s.setEng n { s.engAt n with pub := bits, stale := false }
  let ks := (List.range 128).filter (fun k => old.getLsbD k != bits.getLsbD k)
  each (fun k s =>
    let src := 128 + 128 * n + k
    if edgeSensed (s.sense src) (bits.getLsbD k) then s.edge src else s) ks s

/-! ## Starting, stopping, faulting -/

/-- R90: start at PC 0. -/
def Engine.start (now : Nat) (e : Engine) : Engine :=
  { e with run := .running, pc := 0, evHold := false, evAlarm := false, evBell := false, z := false, n := false,
           c := false, t := false, rc := 0, inHandler := false, susp := none, shifting := none, resume := false,
           waitHold := false, waitBeat := false, waitUntil := none, fetched := none, doneAt := now }

/-- Swap the banks (R92). -/
def Engine.swap (e : Engine) : Engine := { e with bank := !e.bank, swapPending := false, fetched := none }

/-- The engine becomes idle in a way: any frame in progress is discarded (R83), waits and shifts are dropped, its outputs take
their idle levels, and a pending swap takes place, idleness being a frame boundary (R92). -/
def State.engIdle (n : Nat) (how : EngRun) (s : State) : State :=
  let s := (s.discardFrame n).doutIdle n
  let e := { s.engAt n with run := how, shifting := none, resume := false, waitHold := false, waitBeat := false,
                            waitUntil := none, fetched := none }
  s.setEng n (if e.swapPending then e.swap else e)

/-- R79, R445: the engine faults. -/
def State.engFault (n code info : Nat) (s : State) : State :=
  let pc := (s.engAt n).pc
  ((s.engIdle n .faulted).setO 0x4016 n pc).fault code info

def State.engRunning (s : State) (n : Nat) : Bool := (s.engAt n).run == .running

/-- ENG_RUN 1 (R90): a port with CHAIN_LEN 0 is held stopped (R84). -/
def State.engStart (n : Nat) (s : State) : State :=
  if s.engRunning n || s.o 0x4000 n == 0 then s else s.setEng n ((s.engAt n).start s.now)

/-- ENG_RUN 0 (R83): commands stand at instruction boundaries, so the engine stops at once. -/
def State.engStop (n : Nat) (s : State) : State := if s.engRunning n then s.engIdle n .stopped else s

/-- ENG_SWAP 1 (R92). -/
def State.engSwapReq (n : Nat) (s : State) : State :=
  let e := s.engAt n
  if e.run == .running then s.setEng n { e with swapPending := true } else s.setEng n e.swap

/-- ENG_SWAP 0 (R92). -/
def State.engSwapCancel (n : Nat) (s : State) : State := s.setEng n { s.engAt n with swapPending := false }

/-- ENG_SWAP 2 (R93). -/
def State.engSwapForce (n : Nat) (s : State) : State :=
  let was := s.engRunning n
  let s := s.discardFrame n
  let e := { (s.engAt n).swap with inHandler := false, susp := none, shifting := none, resume := false,
                                   waitHold := false, waitBeat := false, waitUntil := none }
  s.setEng n (if was then e.start s.now else e)

/-- R84: the wind that disables a port: the engine is held stopped, whatever state it was in, with its outputs idle and its
published bits 0. -/
def State.disablePort (n : Nat) (s : State) : State :=
  let s := s.engIdle n .stopped
  s.setEng n { s.engAt n with pub := 0 }

/-! ## Events (R86, R87) -/

/-- Event `k` (0 HOLD timeout, 1 alarm, 2 doorbell) occurs: latched if enabled; merged if latched; an engine in the
reset phase of its block reset latches none (R292). -/
def State.engEvent (n k : Nat) (s : State) : State :=
  let e := s.engAt n
  if bitOf (s.o 0x4003 n) k = false || smGet (fun _ => none) s.blk (0x10 + n) == some .resetting then s
  else if (k == 0 && e.evHold) || (k == 1 && e.evAlarm) || (k == 2 && e.evBell) then s.bump 0x4023 n 1
  else s.setEng n (match k with
    | 0 => { e with evHold := true }
    | 1 => { e with evAlarm := true }
    | _ => { e with evBell := true })

/-- ENG_DOORBELL (R86). -/
def State.engBell (n : Nat) (v : Dw) (s : State) : State :=
  (s.setEng n { s.engAt n with dbarg := v }).engEvent n 2

/-- The vector of the event taken next, and the latches without it. -/
def Engine.takeEvent (e : Engine) : Option (Nat × Engine) :=
  if e.evHold then some (1, { e with evHold := false })
  else if e.evAlarm then some (2, { e with evAlarm := false })
  else if e.evBell then some (3, { e with evBell := false })
  else none

/-- Entry at an instruction boundary (R87, R88); it takes one cycle. -/
def State.engEntry (n b : Nat) (s : State) : State :=
  let start := max b (s.engAt n).doneAt
  let s := s.upTo start
  let e := s.engAt n
  if e.run != .running || e.inHandler then s
  else match e.takeEvent with
    | none => s
    | some (v, e) =>
      let s := s.upTo (start + 8)
      s.setEng n { e with
        svZ := e.z, svN := e.n, svC := e.c, svT := e.t, retPc := e.pc, susp := e.shifting, shifting := none,
        resume := false, inHandler := true, waitHold := false, waitBeat := false, waitUntil := none, pc := v,
        fetched := none, doneAt := start + 8 }

/-! ## Executing one instruction -/

/-- R445: the program word at an address of the active bank has bad parity. -/
def State.wordBad (s : State) (n a : Nat) : Bool := s.badParity.contains (progEl n (s.engAt n).bank a)

/-- R445: the fault of working registers that are read. -/
def State.regFault (s : State) (n : Nat) (ks : List Nat) : Option Nat :=
  (ks.find? (fun k => s.badParity.contains (0x10000 + 16 * n + k))).map (fun k => 2 ^ 16 + 256 * n + k)

/-- R445: the fault of the word the engine executes (the prefetched one with the parity it was fetched with), or of a working
register it reads. (DEDUCED, log 104.) -/
def State.parityFault (s : State) (n : Nat) (w : Dw) : Option Nat :=
  let e := s.engAt n
  if (if e.fetched.isSome then e.fetchedBad else s.wordBad n e.pc) then some (256 * n + e.pc)
  else s.regFault n (wReads e.cp w)

/-- A register written: its bad parity is cleared (R445). -/
def State.clearRegParity (n k : Nat) (s : State) : State :=
  { s with badParity := s.badParity.filter (· != 0x10000 + 16 * n + k) }

/-- Engine `n` executes the word at its PC if it runs and the word is a legal instruction of opcode `op`; a parity error
faults it instead (R445). The start is `b`, or when the last instruction ended; doneAt holds it for `f`.
(DEDUCED, log 110.) -/
def State.engDo (n b op : Nat) (f : Engine → Dw → State → State) (s : State) : State :=
  let start := max b (s.engAt n).doneAt
  let s := s.upTo start
  let e := s.engAt n
  let w := s.engWord n
  if e.run != .running || e.shifting.isSome || wOp w != op || wIllegal w e.inHandler then s
  else match s.parityFault n w with
    | some info => s.engFault n 0x16 info
    | none => f e w (s.setEng n { e with atFrame := false, doneAt := start })

/-- BEAT_LO at beat `start`, which other engines' instructions may have passed.
(DEDUCED, log 110.) -/
def State.beatOf (start : Nat) (s : State) : Dw :=
  (if s.time.mode == .perBeat then s.cnt - BitVec.ofNat 64 (s.now - start) else s.cnt).setWidth 32

/-- The instruction ends `cycles` after its start, which doneAt holds: PC moves on by one with the next word prefetched, or to `jump`.
(DEDUCED, log 110.) -/
def State.engEnd (n cycles : Nat) (jump : Option Nat) (upd : Engine → Engine) (s : State) : State :=
  let pre := s.progWord n ((s.engAt n).pc + 1)
  let bad := s.wordBad n ((s.engAt n).pc + 1)
  let end_ := (s.engAt n).doneAt + 8 * cycles
  let s := s.upTo end_
  let e := upd (s.engAt n)
  s.setEng n (match jump with
    | some a => { e with pc := a % 256, fetched := none, doneAt := end_ }
    | none => { e with pc := (e.pc + 1) % 256, fetched := some pre, fetchedBad := bad, doneAt := end_ })

/-- R89: LOAD, SHIFT and FRAME in a handler abort a suspended SHIFT. -/
def State.engAbort (n : Nat) (s : State) : State :=
  let e := s.engAt n
  if e.susp.isSome then
    let s := if e.frame && !e.aborted then s.goStale n else s
    s.setEng n { s.engAt n with susp := none, rc := 0, retPc := (e.retPc + 1) % 256, aborted := true }
  else s

/-- Write a working register at the end of an ALU instruction. -/
def State.engWrite (n : Nat) (w r : Dw) (upd : Engine → Engine) (s : State) : State :=
  (s.engEnd n 1 none (fun e => upd (e.setReg (wDst w) r))).clearRegParity n (wDst w)

/-- LOAD w: LOAD is high for w cycles from the instruction's start, then low (R73). -/
def State.doLoad (n b : Nat) (s : State) : State :=
  s.engDo n b 1 (fun _ w s =>
    let s := s.engAbort n
    let a := (s.engAt n).doneAt
    let s := s.balls n [.ball n 1 true a, .ball n 1 false (a + 8 * wLow w)]
    let len := s.o 0x4000 n
    let d := s.o 0x4001 n
    s.engEnd n (wLow w + 1) none (fun e => { e with
      cp := 0, cap := 0, frame := true, aborted := false, overshot := false, frameLen := len, frameDiv := d }))

/-- What DO = 1 drives DOUT with: position CP of W8–W11, a free value beyond them. (DESIGN CHOICE, log 25.) -/
def Engine.doutBit (dout free : Bool) (e : Engine) : Bool :=
  dout && (if e.cp < 128 then (e.reg (8 + e.cp / 32)).getLsbD (e.cp % 32) else free)

/-- One SHIFT bit: DIN into CAP[CP] at the rising edge, RC down; at the falling edge DOUT takes the next position (R73). The spec
names no bit after the last falling edge: DOUT keeps the last bit. (DESIGN CHOICE, log 114.) -/
def shiftBit (dout : Bool) (free : Bool) (din : Bool) (e : Engine) : Engine :=
  let x := { e with
    cap := if e.cp < 128 && din then e.cap ||| BitVec.twoPow 128 e.cp else e.cap
    cp := min 128 (e.cp + 1)
    overshot := e.overshot || e.cp == 128
    rc := e.rc - 1 }
  if x.rc = 0 then x else { x with dout := x.doutBit dout free }

/-- `m` SHIFT bits of engine `n`, DIN at their rising edges in `din` from bit `i` on; the first rises at beat `first`, each lasts
`step` beats. With the engine, the edges on its balls in the order of their beats. -/
def shiftBits (n step : Nat) (dout free : Bool) (din : BitVec 128) : Nat → Nat → Nat → Engine → Engine × List Out
  | 0, _, _, e => (e, [])
  | m + 1, i, first, e =>
    let x := shiftBit dout free (din.getLsbD i) e
    let fall := first + step / 2
    let r := shiftBits n step dout free din m (i + 1) (first + step) x
    (r.1, [.ball n 0 true first, .ball n 0 false fall] ++ doutTurn n e.dout x.dout fall ++ r.2)

/-- R75, Table 18-11: how many rising edges, the first at `first` and each `step` beats after the one before, a HOLD asserted at
the ball since beat `h` lets pass: it withholds an edge 14 ns (12 whole beats) or more after it, none within 6 ns (4 whole
beats), and between these the edge either way (`free`). -/
def holdBits (first step : Nat) (free : Bool) (h : Nat) : Nat :=
  let j := (h + 5 - first + (step - 1)) / step
  if h + 12 ≤ first + step * j || free then j else j + 1

/-- Shift the RC bits left, the first rising at beat `first`: to the end, or to the bit boundary after `k` bits, or to the edge
that HOLD withholds (`pass`: this many are not withheld; none: HOLD is not asserted). -/
def State.shiftOn (n : Nat) (dout : Bool) (din : BitVec 128) (first k : Nat) (pass : Option Nat) (s : State) : State :=
  let rc := (s.engAt n).rc
  let half := 8 * (s.engAt n).frameDiv
  let m := min (min k rc) (pass.getD rc)
  let end_ := first + 2 * half * m - half
  let s := s.upTo end_
  let e := s.engAt n
  let (fr, s) := if dout && 128 ≤ e.cp + m then s.draw else (0, s)
  let r := shiftBits n (2 * half) dout (Config.freeDout fr) din m 0 first e
  let e' := r.1
  let s := s.balls n r.2
  let s := if e'.overshot && !e.overshot then s.bump 0x4024 n 1 else s
  let pre := s.progWord n (e.pc + 1)
  let bad := s.wordBad n (e.pc + 1)
  if e'.rc = 0 then
    s.setEng n { e' with shifting := none, resume := false, waitHold := false, pc := (e.pc + 1) % 256,
                         fetched := some pre, fetchedBad := bad, doneAt := end_ }
  else
    let held := pass == some m
    s.setEng n { e' with shifting := some dout, resume := !held, waitHold := held, holdSince := end_ + half, doneAt := end_ }

/-- The edges that pass a HOLD asserted since `hold`, with the free value of the interval Table 18-11 leaves open.
(DESIGN CHOICE, log 128.) -/
def State.holdPass (first step : Nat) (hold : Option Nat) (s : State) : Option Nat × State :=
  match hold with
  | none => (none, s)
  | some h =>
    let (fr, s) := s.draw
    (some (holdBits first step (Config.freeHold fr) h), s)

/-- R445 for the DOUT data of a SHIFT that goes on: the fault, or `f`. -/
def State.shiftChecked (n : Nat) (dout : Bool) (f : State → State) (s : State) : State :=
  let e := s.engAt n
  match (if dout then s.regFault n (doutRegs e.cp e.rc) else none) with
  | some info => s.engFault n 0x16 info
  | none => f s

/-- SHIFT n: issued, or going on after RETI or at a bit boundary (R88). A frame that begins without a LOAD begins with its
first SHIFT: position 0, and the CHAIN_LEN (R81) of that beat; the spec does not say which SCK_DIV such a frame has: it is that
of the same beat. (DESIGN CHOICE, log 130.) (DEDUCED, log 109.) -/
def State.doShift (n b : Nat) (din : BitVec 128) (k : Nat) (hold : Option Nat) (s : State) : State :=
  match (s.engAt n).shifting with
  | some dout =>
    let start := max b (s.engAt n).doneAt
    let s := s.upTo start
    let e := s.engAt n
    if e.run == .running && e.resume then
      s.shiftChecked n dout (fun s =>
        let first := start + 8 * e.frameDiv
        let (p, s) := s.holdPass first (16 * e.frameDiv) hold
        s.shiftOn n dout din first k p)
    else s
  | none => s.engDo n b 2 (fun _ w s =>
    let s := s.engAbort n
    let e := s.engAt n
    let start := e.doneAt
    let e := if e.frame then e else { e with
      frame := true, aborted := false, overshot := false, cp := 0, cap := 0, frameLen := s.o 0x4000 n, frameDiv := s.o 0x4001 n }
    let (fr, s) := if wH w && e.cp == 128 then s.draw else (0, s)
    let q := e.doutBit (wH w) (Config.freeDout fr)
    let s := (s.setEng n { e with rc := wLow w, dout := q }).balls n (doutTurn n e.dout q start)
    let first := start + 8 + 8 * e.frameDiv
    let (p, s) := s.holdPass first (16 * e.frameDiv) hold
    s.shiftOn n (wH w) din first k p)

/-- HOLDW: waits while HOLD is asserted. -/
def State.doHoldw (n b : Nat) (hold : Bool) (s : State) : State :=
  s.engDo n b 3 (fun e _ s =>
    let s := if e.waitHold then s else s.setEng n { s.engAt n with t := false }
    if hold then
      s.setEng n { s.engAt n with waitHold := true, holdSince := if e.waitHold then e.holdSince else (s.engAt n).doneAt }
    else s.engEnd n 1 none (fun e => { e with waitHold := false }))

/-- WAITB: waits for BEAT_LO to reach SRC, or IMM cycles. -/
def State.doWaitb (n b : Nat) (pins : BitVec 2) (s : State) : State :=
  s.engDo n b 4 (fun e w z =>
    let start := max b (s.engAt n).doneAt
    let beat := z.beatOf start
    if wI w then
      let u := e.waitUntil.getD (start + 8 * wImm w)
      if u ≤ start then z.engEnd n 1 none (fun e => { e with waitBeat := false, waitUntil := none })
      else z.setEng n { z.engAt n with waitBeat := true, waitUntil := some u }
    else if 0 ≤ (beat - e.operand pins beat (wSrc w)).toInt then
      z.engEnd n 1 none (fun e => { e with waitBeat := false })
    else z.setEng n { z.engAt n with waitBeat := true })

/-- MOVI. -/
def State.doMovi (n b : Nat) (s : State) : State :=
  s.engDo n b 5 (fun e w s =>
    let imm := BitVec.ofNat 32 (wImm w)
    let r := if wH w then (imm <<< 16) ||| (e.reg (wDst w) &&& 0xFFFF) else imm
    s.engWrite n w r id)

/-- ADD, AND, XOR: the operation, whether IMM is sign-extended, and C. -/
def State.doAlu (n b op : Nat) (signed : Bool) (f : Dw → Dw → Dw) (carry : Dw → Dw → Bool) (pins : BitVec 2)
    (s : State) : State :=
  s.engDo n b op (fun e w z =>
    let beat := z.beatOf (max b (s.engAt n).doneAt)
    let x := e.operand pins beat (wSrc w)
    let y := e.operand2 pins beat w signed
    z.engWrite n w (f x y) (Engine.flags (f x y) (carry x y)))

/-- CMP. -/
def State.doCmp (n b : Nat) (pins : BitVec 2) (s : State) : State :=
  s.engDo n b 9 (fun e w z =>
    let beat := z.beatOf (max b (s.engAt n).doneAt)
    let x := e.operand pins beat (wSrc w)
    let y := e.operand2 pins beat w true
    z.engEnd n 1 none (Engine.flags (x - y) (noBorrow x y)))

/-- BRcc. -/
def State.doBr (n b : Nat) (pins : BitVec 2) (s : State) : State :=
  s.engDo n b 0x0A (fun e w s =>
    if e.cond (pins.getLsbD 1) (wDst w) then s.engEnd n 2 (some (wLow w)) id else s.engEnd n 1 none id)

/-- JMP. -/
def State.doJmp (n b : Nat) (s : State) : State :=
  s.engDo n b 0x0B (fun _ w s => s.engEnd n 2 (some (wLow w)) id)

/-- OUT. -/
def State.doOut (n b : Nat) (pins : BitVec 2) (s : State) : State :=
  s.engDo n b 0x0C (fun e w z =>
    let v := e.operand pins (z.beatOf (max b (s.engAt n).doneAt)) (wSrc w)
    (z.engEnd n 1 none id).setO 0x4013 n v.toNat)

/-- FRAME at the end of its cycle: publish or discard, then a pending swap outside a handler (R81, R92). -/
def State.frameEnd (n : Nat) (s : State) : State :=
  let e := s.engAt n
  let len := if e.frame then e.frameLen else s.o 0x4000 n
  let mask : BitVec 128 := BitVec.ofNat 128 (2 ^ len - 1)
  let s :=
    if e.aborted then s
    else if e.frame && len ≤ e.cp then (s.publish n (e.cap &&& mask)).bump 0x4020 n 1
    else s.goStale n
  let x := s.engAt n
  let e := { x with cp := 0, cap := 0, frame := false, aborted := false, overshot := false, atFrame := !x.inHandler }
  s.setEng n (if e.swapPending && !e.inHandler then e.swap.start e.doneAt else e)

/-- FRAME. -/
def State.doFrame (n b : Nat) (s : State) : State :=
  s.engDo n b 0x0D (fun _ _ s => ((s.engAbort n).engEnd n 1 none id).frameEnd n)

/-- EVT. -/
def State.doEvt (n b : Nat) (s : State) : State :=
  s.engDo n b 0x0E (fun _ _ s => (s.engEnd n 1 none id).raiseInt (5 + n))

/-- STP: the store takes place in its second cycle; the prefetched word stands (R94). -/
def State.doStp (n b : Nat) (pins : BitVec 2) (s : State) : State :=
  s.engDo n b 0x0F (fun e w z =>
    let v := e.operand pins (z.beatOf (max b (s.engAt n).doneAt)) (wSrc w)
    let a := if wH w then field (e.reg (wK w)).toNat 0 8 else wLow w
    (z.engEnd n 2 none id).setProg (progEl n e.bank a) v)

/-- RETI: flags and PC restored; a suspended SHIFT resumes (R88). -/
def State.doReti (n b : Nat) (s : State) : State :=
  s.engDo n b 0x10 (fun e _ s =>
    s.engEnd n 2 (some e.retPc) (fun e => { e with
      z := e.svZ, n := e.svN, c := e.svC, t := e.svT, inHandler := false, shifting := e.susp, resume := e.susp.isSome,
      susp := none }))

/-- HALT. -/
def State.doHalt (n b : Nat) (s : State) : State :=
  s.engDo n b 0x11 (fun _ _ s => (s.engEnd n 1 none id).engIdle n .halted)

/-- ENGINE_ILLEGAL: the word at PC is illegal (R79). -/
def State.doIllegal (n b : Nat) (s : State) : State :=
  let s := s.upTo (max b (s.engAt n).doneAt)
  let e := s.engAt n
  let w := s.engWord n
  if e.run != .running || e.shifting.isSome || !wIllegal w e.inHandler then s
  else match s.parityFault n w with
    | some info => s.engFault n 0x16 info
    | none => s.engFault n 0x15 (256 * n + e.pc)

/-- HOLD_TIMEOUT (R86): the synchronized HOLD has been asserted for HOLD_TIMEOUT cycles of this wait, whose count restarts; T is
set and the event occurs; a HOLDW ends. Table 04-4 gives a HOLDW 1 + wait cycles and no others for one that a timeout ends: it
ends in the beat of the timeout. (DESIGN CHOICE, log 131.) -/
def State.holdTimeout (n : Nat) (s : State) : State :=
  let e := s.engAt n
  let lim := s.o 0x4002 n
  if e.run != .running || !e.waitHold || lim == 0 || s.now < e.holdSince + 8 * lim then s
  else
    let s := (s.bump 0x4022 n 1).setEng n { e with
      t := true, holdSince := e.holdSince + 8 * lim, doneAt := max s.now e.doneAt }
    let s := if e.shifting.isSome then s else s.engEnd n 0 none (fun e => { e with waitHold := false })
    s.engEvent n 0

/-- HOLD_RELEASED (R75): two engine-clock edges later the withheld edge is issued, or HOLDW ends in its next cycle.
(DEDUCED, log 109.) -/
def State.holdReleased (n b : Nat) (din : BitVec 128) (k : Nat) (hold : Option Nat) (s : State) : State :=
  let edge := (b / 8 + 2) * 8
  let s := s.upTo b
  let e := s.engAt n
  if e.run != .running || !e.waitHold then s
  else match e.shifting with
    | some dout =>
      s.shiftChecked n dout (fun s =>
        let (p, s) := s.holdPass edge (16 * e.frameDiv) hold
        s.shiftOn n dout din edge (max 1 k) (p.map (max 1)))
    | none => (s.setEng n { e with doneAt := edge }).engEnd n 1 none (fun e => { e with waitHold := false })

/-- R98, R445: the marks of bad parity of an engine's working registers go with its block reset. -/
def State.clearRegMarks (n : Nat) (s : State) : State :=
  { s with badParity := s.badParity.filter (fun k => k / 16 != 0x1000 + n) }

/-! ## The meanings -/

/-- A meaning over the state at beat `b`. -/
def at_ (b : Nat) (ok : Bool) (f : State → State) (s : State) : Host.Outcome State Fault Refusal := run ok (f (s.upTo b))

def execEngineEventEntry (b n : Nat) (s : State) : Host.Outcome State Fault Refusal := at_ b (n < 8) (State.engEntry n b) s
def execHoldTimeout (b n : Nat) (s : State) : Host.Outcome State Fault Refusal := at_ b (n < 8) (State.holdTimeout n) s
def execLoad (b n : Nat) (s : State) : Host.Outcome State Fault Refusal := run (n < 8) (s.doLoad n b)
def execShift (b n : Nat) (din : BitVec 128) (k : Nat) (s : State) (hold : Option Nat := none) : Host.Outcome State Fault Refusal :=
  run (n < 8) (s.doShift n b din k hold)
def execHoldw (b n : Nat) (hold : Bool) (s : State) : Host.Outcome State Fault Refusal := run (n < 8) (s.doHoldw n b hold)
def execWaitb (b n : Nat) (pins : BitVec 2) (s : State) : Host.Outcome State Fault Refusal := run (n < 8) (s.doWaitb n b pins)
def execMovi (b n : Nat) (s : State) : Host.Outcome State Fault Refusal := run (n < 8) (s.doMovi n b)
def execAdd (b n : Nat) (pins : BitVec 2) (s : State) : Host.Outcome State Fault Refusal :=
  run (n < 8) (s.doAlu n b 6 true (· + ·) addCarry pins)
def execAnd (b n : Nat) (pins : BitVec 2) (s : State) : Host.Outcome State Fault Refusal :=
  run (n < 8) (s.doAlu n b 7 false (· &&& ·) (fun _ _ => false) pins)
def execXor (b n : Nat) (pins : BitVec 2) (s : State) : Host.Outcome State Fault Refusal :=
  run (n < 8) (s.doAlu n b 8 false (· ^^^ ·) (fun _ _ => false) pins)
def execCmp (b n : Nat) (pins : BitVec 2) (s : State) : Host.Outcome State Fault Refusal := run (n < 8) (s.doCmp n b pins)
def execBrcc (b n : Nat) (pins : BitVec 2) (s : State) : Host.Outcome State Fault Refusal := run (n < 8) (s.doBr n b pins)
def execJmp (b n : Nat) (s : State) : Host.Outcome State Fault Refusal := run (n < 8) (s.doJmp n b)
def execOut (b n : Nat) (pins : BitVec 2) (s : State) : Host.Outcome State Fault Refusal := run (n < 8) (s.doOut n b pins)
def execFrame (b n : Nat) (s : State) : Host.Outcome State Fault Refusal := run (n < 8) (s.doFrame n b)
def execEvt (b n : Nat) (s : State) : Host.Outcome State Fault Refusal := run (n < 8) (s.doEvt n b)
def execStp (b n : Nat) (pins : BitVec 2) (s : State) : Host.Outcome State Fault Refusal := run (n < 8) (s.doStp n b pins)
def execReti (b n : Nat) (s : State) : Host.Outcome State Fault Refusal := run (n < 8) (s.doReti n b)
def execHalt (b n : Nat) (s : State) : Host.Outcome State Fault Refusal := run (n < 8) (s.doHalt n b)
def execEngineIllegal (b n : Nat) (s : State) : Host.Outcome State Fault Refusal := run (n < 8) (s.doIllegal n b)
def execHoldReleased (b n : Nat) (din : BitVec 128) (k : Nat) (s : State) (hold : Option Nat := none) :
    Host.Outcome State Fault Refusal :=
  run (n < 8) (s.holdReleased n b din k hold)

end Sys2Proof.Machine
end

