-- ==== Sys2Proof/Machine/Chrono.lean ====
section
/-! DEFINITION. The chronograph (17 §17.4–§17.6): records, the ring in DRAM, flushes, recovery and the scopes' windows;
and byte memories (DRAM and flash). -/

namespace Sys2Proof.Machine

open Sys2Proof

/-! ## Byte memories -/

/-- The byte at an address; an unlisted one reads `d`. (DESIGN CHOICE, log 11, 12.) -/
def memGet (d : Byte) : List Host.Cell → Nat → Byte
  | [], _ => d
  | (k, v) :: t, a => if k = a then v else memGet d t a

/-- The cells of bytes from an address on; none for a byte equal to what an unlisted one reads as. -/
def memCells (d : Byte) : Nat → List Byte → List Host.Cell
  | _, [] => []
  | a, v :: t => if v = d then memCells d (a + 1) t else (a, v) :: memCells d (a + 1) t

/-- Write bytes from an address on. -/
def memSetAll (d : Byte) (m : List Host.Cell) (a : Nat) (bs : List Byte) : List Host.Cell :=
  m.filter (fun c => c.1 < a) ++ memCells d a bs ++ m.filter (fun c => a + bs.length ≤ c.1)

/-- `n` bytes from an address on. -/
def memGetAll (d : Byte) (m : List Host.Cell) (a n : Nat) : List Byte := (List.range n).map (fun i => memGet d m (a + i))

/-- The canonical form of a byte memory: addresses strictly rising, and no entry equal to what an unlisted one reads. -/
def Memory.wf (d : Byte) (m : List Host.Cell) : Bool := smWf (fun _ => d) m

/-! ## Slots (R407, R410) -/

/-- N. -/
def State.slots (s : State) : Nat := s.o 0x1701 0 * 32768

/-- The DRAM offset of the slot of a record number. -/
def State.slotAddr (s : State) (slot : Nat) : Nat := s.o 0x1700 0 * 2 ^ 20 + 32 * slot

/-- Table 17-7. -/
def recordBytes (ringId : Nat) (seq : Dw) (r : ChrRec) : List Byte :=
  let body := (r.body ++ List.replicate 14 0).take 14
  let bs := leBytes 4 seq.toNat ++ leBytes 8 r.beat.toNat ++ leBytes 2 ringId ++ leBytes 1 r.kind ++ leBytes 1 r.attr
    ++ body ++ [0]
  bs ++ [crc8 bs]

/-- A slot's 32 bytes. -/
def State.slotBytes (s : State) (slot : Nat) : List Byte := memGetAll 0 s.dram (s.slotAddr slot) 32

/-- The slot's CRC holds and it is of the ring. -/
def slotOk (ringId : Nat) (bs : List Byte) : Bool :=
  crc8 (bs.take 31) == bs.getD 31 0 && leVal ((bs.drop 12).take 2) == ringId

/-- The SEQ of a slot. -/
def slotSeq (bs : List Byte) : Dw := BitVec.ofNat 32 (leVal (bs.take 4))

/-- The oldest record in the ring (R412). -/
def State.oldest (s : State) : Dw := if s.chr.wrapped then s.chr.nextSeq - BitVec.ofNat 32 s.slots else 0

/-- CHR_FILL (R412). -/
def State.chrFill (s : State) : Nat := (s.chr.nextSeq - s.chr.readSeq).toNat

/-! ## New rings (R410) -/

/-- A new ring begins, for reason 0 cold start, 1 tail lost, 2 base or size wound, 3 CHR_NEW_RING.
(DEDUCED, log 106.) -/
def State.newRing (reason : Nat) (s : State) : State :=
  let c := s.chr
  let body := leBytes 1 reason ++ leBytes 2 c.ringId ++ leBytes 4 c.nextSeq.toNat
  let id := field s.backup.resetCount.toNat 0 12 * 16 + c.rings % 16
  let s := { s with chr := { c with
    queue := ⟨s.cnt, 0x0C, 0x20 + b2n s.coarse * 64, body⟩ :: c.queue
    ringId := id, rings := c.rings + 1, nextSeq := 0, readSeq := 0, wrapped := false, recovered := false, lapArmed := true } }
  if reason = 2 || reason = 3 then s.dial 16 0 else s

/-! ## The writer (R407, R412) -/

/-- Scopes that may see a record: the Owner, and the tenant of a record that belongs to one (R416). -/
def visibleTo (scope attr : Nat) : Bool := scope == 0 || (!bitOf attr 5 && field attr 0 5 == scope)

/-- The next queued record is written to its slot. -/
def State.chrWrite (s : State) : State :=
  match s.chr.queue with
  | [] => s
  | r :: rest =>
    if !s.chrAvail || s.chr.selfRefresh || s.start.level == .l2w && s.start.step < 8 then s
    else
      let n := s.slots
      let c := s.chr
      let before := s.chrFill
      let lap := before == n
      let slot := c.nextSeq.toNat % n
      let s := { s with dram := memSetAll 0 s.dram (s.slotAddr slot) (recordBytes c.ringId c.nextSeq r) }
      let s := { s with chr := { c with
        queue := rest, nextSeq := c.nextSeq + 1, readSeq := if lap then c.readSeq + 1 else c.readSeq
        wrapped := c.wrapped || slot + 1 == n, flushOwes := c.flushOwes - 1, lapArmed := !lap } }
      let s := s.bump 0x1720 0 1
      let s := if lap then
          let s := s.bump 0x1722 0 1
          if c.lapArmed then s.dial 17 0 else s
        else s
      let t := s.o 0x1702 0
      let s := if t != 0 && before < t && t ≤ s.chrFill then s.raiseInt 13 else s
      let stale (scope : Nat) (s : State) : State :=
        if visibleTo scope r.attr then
          let w := smGet (fun _ => ChrWin.init) s.chrWin scope
          { s with chrWin := smSet (fun _ => ChrWin.init) s.chrWin scope { w with stale := true } }
        else s
      loop stale 0 32 s.chrLost

/-! ## Flushes (R413) -/

/-- A flush of every queued record starts. -/
def State.chrFlush (s : State) : State :=
  { s with chr := { s.chr with flushing := true, flushOwes := s.chr.queue.length } }

/-- The flush ends: every record queued at its start is written (or, unavailable, none can be). -/
def State.chrFlushDone (s : State) : State :=
  if s.chr.flushing && (s.chr.flushOwes == 0 || !s.chrAvail) then { s with chr := { s.chr with flushing := false } } else s

/-! ## Recovery (R411) -/

/-- The binary search of R411. -/
def State.tailSearch (s : State) (seq0 : Dw) : Nat → Nat → Nat → Nat
  | 0, lo, _ => lo
  | f + 1, lo, hi =>
    if lo < hi then
      let mid := (lo + hi + 1) / 2
      let bs := s.slotBytes mid
      if slotOk s.chr.ringId bs && slotSeq bs == seq0 + BitVec.ofNat 32 mid then s.tailSearch seq0 f mid hi
      else s.tailSearch seq0 f lo (mid - 1)
    else lo

/-- Step 8 of a warm start. -/
def State.tailRecover (s : State) : State :=
  let n := s.slots
  let b0 := s.slotBytes 0
  if slotOk s.chr.ringId b0 then
    let q := slotSeq b0
    let lo := s.tailSearch q 26 0 (n - 1)
    { s with chr := { s.chr with
      nextSeq := q + BitVec.ofNat 32 lo + 1, wrapped := q != 0 || lo == n - 1, recovered := true } }
  else
    let lost := s.chr.ringId
    (s.newRing 1).fault 0x22 lost

/-! ## Readout (R415, R416) -/

/-- Examine records from `seq` on until seven visible ones are found or the ring ends: the number after the last
examined, and the bytes found. -/
def State.scan (s : State) (scope : Nat) : Nat → Nat → Dw → Dw × List Byte
  | 0, _, q => (q, [])
  | f + 1, left, q =>
    if left = 0 || q == s.chr.nextSeq then (q, [])
    else
      let bs := s.slotBytes (q.toNat % s.slots)
      if visibleTo scope ((bs.getD 15 0).toNat) then
        let (e, t) := s.scan scope f (left - 1) (q + 1)
        (e, bs ++ t)
      else s.scan scope f left (q + 1)

/-- CHR_WINDOW of a scope is staged anew. -/
def State.refill (scope : Nat) (s : State) : State :=
  let w := smGet (fun _ => ChrWin.init) s.chrWin scope
  if w.stale then
    let cur : Dw := BitVec.ofNat 32 (s.o 0x1710 scope)
    let lapped := (cur - s.oldest).toInt < 0
    let from_ := if lapped then s.oldest else cur
    let (q, bs) := if s.chrAvail then s.scan scope (s.chr.nextSeq - from_).toInt.toNat 7 from_ else (from_, [])
    let blob := leBytes 4 q.toNat ++ leBytes 1 (bs.length / 32) ++ leBytes 1 (b2n lapped) ++ [0, 0] ++ bs
    { s with chrWin := smSet (fun _ => ChrWin.init) s.chrWin scope ⟨blob, false⟩ }
  else s

/-- The scope's cursor is written: a refill is owed. -/
def State.setCursor (scope v : Nat) (s : State) : State :=
  let s := s.setO 0x1710 scope v
  let w := smGet (fun _ => ChrWin.init) s.chrWin scope
  { s with chrWin := smSet (fun _ => ChrWin.init) s.chrWin scope { w with stale := true } }

/-- R415: the byte of the aperture at an offset within its 8 MiB. (DESIGN CHOICE, log 12.) -/
def State.apertureByte (s : State) (off : Nat) : Byte :=
  let a := s.o 0x1709 0 * 2 ^ 23 + off
  if s.chrAvail && a < s.chr.dramMib * 2 ^ 20 then memGet 0 s.dram a else 0

/-- R412: CHR_READ_SEQ may take `v`. -/
def State.readSeqOk (s : State) (v : Dw) : Bool := (v - s.oldest).toNat ≤ (s.chr.nextSeq - s.oldest).toNat

/-- R412: CHR_READ_SEQ is written. -/
def State.setReadSeq (v : Dw) (s : State) : State :=
  let s := { s with chr := { s.chr with readSeq := v } }
  if s.chrFill < s.slots then { s with chr := { s.chr with lapArmed := true } } else s

/-! ## The meanings -/

def execChrWrite (b : Nat) (s : State) : Host.Outcome State Fault Refusal := at_ b true State.chrWrite s
def execChrFlushDone (b : Nat) (s : State) : Host.Outcome State Fault Refusal := at_ b true State.chrFlushDone s
def execChrWindowRefill (b scope : Nat) (s : State) : Host.Outcome State Fault Refusal :=
  at_ b (scope < 32) (State.refill scope) s

end Sys2Proof.Machine
end

