-- ==== Sys2Proof/Machine/Tandem.lean ====
section
/-! DEFINITION. The tandem link (16): lanes, sessions, sequence numbers and credits, forwards, the partner's state,
mirroring, promotion; and the doorbell arrival that a forward shares with a PCIe doorbell (03 §03.2). -/

namespace Sys2Proof.Machine

open Sys2Proof

/-! ## A doorbell's arrival (R45–R50) -/

/-- All bytes of a doorbell, or of a tandem raise, are present: the arrival at source `n`. -/
def State.ringSource (n : Nat) (tag : BitVec 16) (len : Nat) (keep : Bool) (bytes : List Byte) (s : State) : State :=
  let silent := !s.hasFeat (s.srcTen n) 2 || (s.policy (s.grpOf n) == 4 && s.tdm.lanes != 2)
  let stored := if silent then 0 else min len bytes.length
  let a : Arrival := { dbTag := tag, hdrLen := len, len := stored, trunc := bytes.length < len, lost := false, replaced := false,
                       sw := false, replayed := false, keepFirst := keep, buf := none }
  (s.setO 0x2010 n tag.toNat).arrive n s.cnt true a (if stored = 0 then none else some (bytes.take stored))

/-! ## The link as a whole -/

/-- R370: a new session. (DEDUCED, log 97.) -/
def State.newSession (s : State) : State :=
  let sess := BitVec.ofNat 32 (field s.backup.resetCount.toNat 0 24 * 256 + s.tdm.linkResets % 256)
  { s with tdm := { s.tdm with
      session := sess, txNext := 1, expected := 1, sinceUp := 0, creditRx := 0, executed := 0, unacked := [], queue := [],
      inTable := [], allIn := false, mirrorInValid := false, syncingIn := false, overflow := false, syncing := false,
      dirty := [], downAt := s.now, helloAt := none, pairAt := none, pairWait := [], backoff := none, wakeSentAt := none } }

/-- A TANDEM record (R408, Table 17-8). -/
def State.chrTandem (kind replayed : Nat) (s : State) : State :=
  s.chrPut 8 none (leBytes 1 kind ++ leBytes 4 s.tdm.pSession.toNat ++ leBytes 2 replayed)

/-- The LSEQ before one, skipping 0. -/
def prevLseq (l : Dw) : Dw := if l - 1 = 0 then BitVec.ofNat 32 (2 ^ 32 - 1) else l - 1

/-- R371: `a` lies before `c`. -/
def lseqBefore (a c : Dw) : Bool := let d := (c - a).toNat; 1 ≤ d && d < 2 ^ 31

/-! ## Lane loss (R138, R367, R373, R375) -/

/-- R138, R153: the forwards that escapement `e` holds are revoked; a coupled pair whose results differ (`mm`) decides again. -/
def State.forwardsDown (mm : Bool) (e : Nat) (s : State) : State :=
  let ds := s.forwardsOf e
  if ds.isEmpty then s
  else if mm && s.compares e then s.mismatch e (.laneLoss e false false)
  else each State.revokeForward ds s

/-- The lanes go DOWN. -/
def State.lanesDown (mm : Bool) (s : State) : State :=
  let was := s.tdm.lanes
  if was = 0 then s
  else
    let s := { s with tdm := { s.tdm with
      lanes := 0, downAt := s.now, blockLock := false, seen := false, unacked := [], queue := [], dirty := [],
      overflow := false, syncing := false } }
    if was = 2 then
      let s := each (State.forwardsDown mm) (List.range 8) s
      ((s.chrTandem 2 0).dial 24 0).tandemChanged
    else s

/-- TDM_ENABLE was wound to 0 (Table 16-8), or the link's reset phase begins (R393): the lanes go down and the pair falls silent. -/
def State.linkSilent (mm : Bool) (s : State) : State :=
  let s := s.lanesDown mm
  { s with tdm := { s.tdm with pairWait := [], backoff := none } }

/-! ## The partner's state (R378, R380, R381) -/

/-- A heartbeat or a valid lane frame: the partner is present. -/
def State.heard (s : State) : State :=
  let was := s.tdm.present
  let s := { s with tdm := { s.tdm with heardAt := s.now, present := true } }
  if was then s else (s.chrTandem 4 0).tandemChanged

/-! ## Promotion and replay (R388–R391) -/

/-- R40, R390: a replay that joins the arrival of its beat gives it the mark. -/
def Source.markReplayed (x : Source) : Source :=
  if x.repend then { x with rep := { x.rep with replayed := true } }
  else if x.st == .pending then { x with info := { x.info with replayed := true } }
  else x

/-- One inbound entry is replayed, or counted; the number of arrivals raised so far is carried. -/
def State.replayEntry (e : Nat × InEntry) (acc : Nat × State) : Nat × State :=
  let (k, s) := acc
  let m := s.o 0x1911 e.1
  if e.2.valid && 1 ≤ e.2.code && e.2.code ≤ 3 then
    if m = 0xFFFF then (k, s.bump 0x1949 0 1)
    else if s.hasFeat (s.srcTen m) 12 = false then (k, s.bump 0x1948 0 1)
    else
      let s := s.bump 0x1947 0 1
      (k + 1, if (s.srcAt m).hwAt == some s.now then s.setSrc m (s.srcAt m).markReplayed
              else s.arrive m s.cnt false { Arrival.none with replayed := true } none)
  else (k, s)

/-- The replay of the inbound table, which is then cleared. -/
def State.replay (s : State) : State :=
  let (k, s) := each State.replayEntry s.tdm.inTable (0, s)
  let s := { s with tdm := { s.tdm with inTable := [], allIn := false, mirrorInValid := false } }
  s.chrTandem 5 k

/-- A promotion in this beat; while the device is quiet the replay waits for the resume (R391). -/
def State.promote (s : State) : State :=
  if s.tdm.promoted then s
  else
    let s := { s with tdm := { s.tdm with promoted := true, frozenIn := true } }
    let s := (((s.setO 0x190B 0 s.cnt.toNat).bump 0x1946 0 1).dial 28 0).tandemChanged
    if s.asleep then { s with quiet := { s.quiet with promote := true } } else s.replay

/-- PARTNER_GASP is set or cleared; its rise may promote (R388). -/
def State.setGasp (v : Bool) (s : State) : State :=
  if s.tdm.pGasp == v then s
  else
    let s := ({ s with tdm := { s.tdm with pGasp := v } }).tandemChanged
    if v then
      let s := s.chrTandem 6 0
      if s.o 0x1901 0 = 2 then s.promote else s
    else s

/-- A gasp announced under a session; later copies change nothing (R382). (DEDUCED, log 98.) -/
def State.gaspSeen (sess : Dw) (s : State) : State :=
  if s.tdm.gaspSession == some sess then s
  else ({ s with tdm := { s.tdm with gaspSession := some sess } }).setGasp true

/-- R378: the partner's SENIOR flag against the device's strap. -/
def State.checkSenior (senior : Bool) (s : State) : State :=
  if senior == s.straps.getLsbD 0 && !s.tdm.clash then
    ({ s with tdm := { s.tdm with clash := true } }).dial 25 0
  else s

/-- R385: the partner's PROMOTED flag. -/
def State.partnerPromoted (v : Bool) (s : State) : State :=
  let rise := v && !s.tdm.pPromoted
  let s := { s with tdm := { s.tdm with pPromoted := v } }
  if rise && s.tdm.lanes == 2 then s.startSync else s

/-- The FLAGS of a heartbeat (Table 16-6, R380). -/
def State.takeFlags (f : Byte) (s : State) : State :=
  let s := s.checkSenior (f.getLsbD 0)
  let s := if s.tdm.pQuiet == f.getLsbD 1 then s
    else ({ s with tdm := { s.tdm with pQuiet := f.getLsbD 1 } }).tandemChanged
  (s.partnerPromoted (f.getLsbD 2)).setGasp (f.getLsbD 3)

/-- R380: the partner is lost. -/
def State.partnerLoss (s : State) : State :=
  if s.tdm.present && s.tdm.heardAt + s.o 0x1904 0 * s.o 0x1903 0 ≤ s.now then
    let s := { s with tdm := { s.tdm with present := false, pairOk := false } }
    let s := (((s.bump 0x1944 0 1).dial 26 0).chrTandem 3 0).tandemChanged
    if 1 ≤ s.o 0x1901 0 then s.promote else s
  else s

/-! ## Frames received -/

/-- The types of Table 16-4. -/
def laneKinds : List Byte := [0x01, 0x02, 0x03, 0x10, 0x11, 0x12, 0x13, 0x14, 0x15, 0x90]

/-- The command of the row of TYPE `kind` may carry the header: it is such a frame, or one whose TYPE is not in Table 16-4. -/
def laneFits (kind : Byte) (h : LaneHdr) : Bool := h.kind == kind || !laneKinds.contains h.kind

/-- R368: a received frame of the row of TYPE `kind`, with its body: the TYPE is in Table 16-4, LEN is at most 80 and the body's
length, and the CRC holds. (DEDUCED, log 99.) -/
def laneValid (kind : Byte) (body : List Byte) (h : LaneHdr) : Bool :=
  h.kind == kind && h.len ≤ 80 && h.len == body.length
    && crc32 (laneHead h.kind h.flags h.len h.lseq h.credit ++ body) == h.crc

/-- R373: a CREDIT older than one already received, judged as in R371, is ignored. -/
def State.takeCredit (c : BitVec 16) (s : State) : State :=
  let d := (s.tdm.creditRx - c).toNat
  if 1 ≤ d && d < 32768 then s else { s with tdm := { s.tdm with creditRx := c } }

/-- A lane frame received by a receiver that has its footing: dropped with a count unless it is valid (R368); otherwise the partner
is present (R380), the credit is taken if the lanes are UP, and the frame has its effect `f`.
(DEDUCED, log 99.) -/
def State.laneRx (kind : Byte) (body : List Byte) (h : LaneHdr) (f : State → State) (s : State) : State :=
  if s.tdm.lanes == 0 || !s.tdm.blockLock || s.linkOn = false then s
  else if !laneValid kind body h then s.bump 0x1940 0 1
  else
    let s := ({ s with tdm := { s.tdm with laneHeardAt := s.now } }).heard
    let s := if s.tdm.lanes = 2 then s.takeCredit h.credit else s
    (f s).pump

/-- `f` while the lanes are UP. -/
def State.whileUp (f : State → State) (s : State) : State := if s.tdm.lanes = 2 then f s else s

/-- Send an ACK (R369), a NAK (R371): every lane frame carries the CREDIT (R373). -/
def State.laneAck (lseq : Dw) (s : State) : State := s.emit (.lane (laneFrame 0x90 1 lseq s.tdm.executed []))
def State.laneNak (s : State) : State :=
  s.emit (.lane (laneFrame 0x03 0 0 s.tdm.executed (beBytes 4 s.tdm.expected.toNat)))

/-- R371: a request is judged by its LSEQ. -/
def State.laneReq (kind : Byte) (body : List Byte) (h : LaneHdr) (f : State → State) (s : State) : State :=
  s.laneRx kind body h (State.whileUp (fun s =>
    if h.lseq == s.tdm.expected then
      let s := f s
      ({ s with tdm := { s.tdm with
        expected := nextLseq s.tdm.expected, executed := s.tdm.executed + 1 } } : State).laneAck h.lseq
    else if lseqBefore h.lseq s.tdm.expected then (s.laneAck h.lseq).bump 0x1942 0 1
    else s.laneNak.bump 0x1943 0 1))

/-- R376: the forwards the partner had executed complete; the rest are issued again. -/
def State.resolveKept (known : Bool) (rxLast : Dw) (s : State) : State :=
  each (fun (e : Nat × Source) s =>
    match (s.srcAt e.1).keptLseq with
    | none => s
    | some l =>
      let x := s.srcAt e.1
      if known && !lseqBefore rxLast l then
        let s := match x.info.buf with | none => s | some i => s.returnBuf i false
        ((s.outcome e.1).bump 0x194A 0 1).note { code := 9 } e.1 x
      else s.setSrc e.1 { x with keptLseq := none }) s.src s

/-- The lanes go UP on a HELLO. -/
def State.laneUp (session txNext rxLast rxSession : Dw) (s : State) : State :=
  let s := { s with tdm := { s.tdm with lanes := 2, sinceUp := 0, creditRx := 0, executed := 0, expected := txNext, hbAt := s.now } }
  let s := s.tandemChanged
  let s := if session == s.tdm.pSession then s
    else { s with tdm := { s.tdm with inTable := [], allIn := false, mirrorInValid := false, pSession := session } }
  let s := (s.chrTandem 1 0).resolveKept (rxSession == s.tdm.session) rxLast
  let s := each (fun (e : Nat × Source) s =>
    if e.2.st == .pending && s.policy e.2.grp == 4 then
      s.setSrc e.1 { s.srcAt e.1 with rankedAt := s.now + 24 } else s) s.src s
  s.startSync

/-- HELLO (R366, R376). (DEDUCED, log 98.) -/
def State.hello (h : LaneHdr) (session txNext rxLast rxSession : Dw) (flags : Byte) (s : State) : State :=
  s.laneRx 0x01 (helloBody session txNext rxLast rxSession flags) h (fun s =>
    if s.tdm.lanes = 1 then
      let s := ({ s with tdm := { s.tdm with seen := true } }).checkSenior (flags.getLsbD 1)
      let s := { s with tdm := { s.tdm with pPromoted := flags.getLsbD 2 } }
      if flags.getLsbD 0 then s.laneUp session txNext rxLast rxSession else s
    else s)

/-- ACK (R138, R372): a request is acknowledged; a forward completes as by a valid COMPLETE. -/
def State.ack (h : LaneHdr) (s : State) : State :=
  s.laneRx 0x90 [] h (State.whileUp (fun s =>
    let s := { s with tdm := { s.tdm with unacked := s.tdm.unacked.filter (fun u => u.lseq != h.lseq) } }
    match s.dlv.find? (fun d => d.tgt.isNone && d.lseq == some h.lseq) with
    | none => s
    | some d =>
      let rtt := min (2 ^ 32 - 1) (s.now - d.issuedAt)
      let s := (s.setO 0x1920 d.grp rtt).setO 0x1921 d.grp (max rtt (s.o 0x1921 d.grp))
      let s := match d.info.buf with | none => s | some i => s.returnBuf i false
      s.ended d))

/-- R374: every unacknowledged request is sent again, oldest first. -/
def State.retransmit (s : State) : State :=
  let us := s.tdm.unacked
  let s := { s with tdm := { s.tdm with unacked := us.map (fun u => { u with tries := u.tries + 1, lastAt := s.now }) } }
  each (fun u s => (s.emit (.lane (u.req.frame u.lseq s.tdm.executed))).bump 0x1941 0 1) us s

/-- NAK (R374). -/
def State.nak (h : LaneHdr) (expected : Dw) (s : State) : State :=
  s.laneRx 0x03 (beBytes 4 expected.toNat) h (State.whileUp (fun s =>
    if lseqBefore expected s.tdm.txNext then s.retransmit else s))

/-- R367, R374: no ACK for 20 µs; the eighth transmission that stays unanswered loses the lanes. -/
def State.retransmitTimeout (mm : Bool) (s : State) : State :=
  match s.tdm.unacked with
  | [] => s
  | u :: _ =>
    if s.tdm.lanes == 2 && u.lastAt + 16000 ≤ s.now then
      if 8 ≤ u.tries then s.lanesDown mm else s.retransmit
    else s

/-! ## Mirror requests executed (R387, R389) -/

/-- Set an inbound entry. -/
def State.setIn (e : MirrorEntry) (s : State) : State :=
  if s.tdm.frozenIn then s
  else { s with tdm := { s.tdm with
    inTable := smSet (fun _ => ⟨s.tdm.allIn, 0, false⟩) s.tdm.inTable e.src ⟨true, e.code, e.repend⟩ } }

def State.syncBegin (s : State) : State :=
  { s with tdm := { s.tdm with inTable := [], allIn := false, syncingIn := true, frozenIn := false } }

def State.syncEnd (s : State) : State :=
  let was := s.tdm.promoted
  let s := { s with tdm := { s.tdm with
    inTable := smMap (fun _ => ⟨true, 0, false⟩) (fun _ e => { e with valid := true }) s.tdm.inTable, allIn := true
    syncingIn := false, mirrorInValid := true, promoted := false, frozenIn := false } }
  if was then s.tandemChanged else s

/-- The inbound entry of a partner source. -/
def State.inAt (s : State) (k : Nat) : InEntry := smGet (fun _ => ⟨s.tdm.allIn, 0, false⟩) s.tdm.inTable k

/-- R386: the mirror queue has emptied after an overflow: a full sync starts, and TDM_MIRROR_RESYNCS counts it.
(DESIGN CHOICE, log 151.) -/
def State.mirrorResync (s : State) : State :=
  if s.tdm.overflow && !s.tdm.syncing && s.tdm.mirrorWaits == 0 && s.tdm.lanes == 2 then s.startSync.bump 0x194B 0 1 else s

/-! ## Frames sent -/

/-- R366: 80,000 beats after DOWN, unless disabled or quiet. -/
def State.laneRetrain (s : State) : State :=
  if s.linkOn && s.tdm.lanes == 0 && s.o 0x1900 0 == 1 && s.quiet.code == 0 && s.tdm.downAt + 80000 ≤ s.now then
    { s with tdm := { s.tdm with lanes := 1, blockLock := false, seen := false, helloAt := none, executed := 0 } }
  else s

/-- R367: a loss of the lanes: of sync headers, or (`silent`) no frame of any type for 4 × HB_PERIOD.
(DEDUCED, log 99.) -/
def State.laneLost (silent mm : Bool) (s : State) : State :=
  if silent && !(s.tdm.blockLock && s.tdm.laneHeardAt + 4 * s.o 0x1902 0 ≤ s.now) then s else s.lanesDown mm

def State.laneLock (s : State) : State :=
  if s.tdm.lanes == 1 then { s with tdm := { s.tdm with blockLock := true, laneHeardAt := s.now } } else s

/-- Every HB_PERIOD in TRAINING, from the lock on (R366). (DEDUCED, log 137.) -/
def State.helloSend (s : State) : State :=
  let due := match s.tdm.helloAt with | none => true | some l => l + s.o 0x1902 0 ≤ s.now
  if s.tdm.lanes == 1 && s.tdm.blockLock && due then
    let flags := b2n s.tdm.seen + 2 * b2n (s.straps.getLsbD 0) + 4 * b2n s.tdm.promoted
    { s.emit (.lane (laneFrame 0x01 0 0 s.tdm.executed
        (helloBody s.tdm.session s.tdm.txNext (prevLseq s.tdm.expected) s.tdm.pSession (BitVec.ofNat 8 flags)))) with
      tdm := { s.tdm with helloAt := some s.now } }
  else s

/-- Every HB_PERIOD in UP, counted from the UP beat (R379). (DEDUCED, log 137.) -/
def State.heartbeatSend (s : State) : State :=
  if s.tdm.lanes == 2 && s.o 0x1900 0 == 1 && s.tdm.hbAt + s.o 0x1902 0 ≤ s.now then
    { s.emit (.lane (laneFrame 0x02 0 0 s.tdm.executed (heartbeatBody s.tdm.session (BitVec.ofNat 8 s.hbFlags)))) with
      tdm := { s.tdm with hbAt := s.now } }
  else s

/-- Every PAIR_HB_PERIOD (R379). (DEDUCED, log 137.) -/
def State.pairSend (collide : Bool) (s : State) : State :=
  let due := match s.tdm.pairAt with | none => true | some l => l + s.o 0x1903 0 ≤ s.now
  if s.pairOn && due then ({ s with tdm := { s.tdm with pairAt := some s.now } } : State).pairPut 1 0 collide else s

/-- The back-off ends: the frame is tried again. -/
def State.pairBackoffEnd (collide : Bool) (s : State) : State :=
  if s.pairOn && s.tdm.backoff.isSome then s.pairGo collide else s

/-- TANDEM_WAKE (R383). -/
def State.tandemWake (collide : Bool) (s : State) : State := if s.pairOn then s.pairPut 2 0 collide else s

/-- R382: the next of the three pair GASP copies, once the one before has left and the pair has been idle for 32 µs. -/
def State.pairGaspCopy (collide : Bool) (s : State) : State :=
  if 0 < s.gasp.pairLeft && s.pairOn && !s.tdm.pairWait.any (fun w => w.1 == 3) && s.pairDue ≤ s.now then
    ({ s with gasp := { s.gasp with pairLeft := s.gasp.pairLeft - 1 } } : State).pairPut 3 s.backup.resetCount collide
  else s

/-- R377: a received pair frame of TYPE `kind` holds. -/
def pairValid (kind : Nat) (p : PairFrame) : Bool :=
  p.sfd == 0xD5 && crc16Bytes (pairMid kind p.flags p.session p.arg) == p.crc

/-- A pair frame received: it has occupied the pair, and is dropped with a count unless it holds (R377). -/
def State.pairRx (kind : Nat) (p : PairFrame) (f : State → State) (s : State) : State :=
  if s.linkOn = false then s
  else
    let s := { s with tdm := { s.tdm with pairFrom := max s.tdm.pairFrom s.now } }
    if pairValid kind p then f s else s.bump 0x1940 0 1

/-- A pair HEARTBEAT (R380); it sets PAIR_OK, which a partner loss clears. (DESIGN CHOICE, log 150.) -/
def State.pairHeartbeat (p : PairFrame) (s : State) : State :=
  s.pairRx 1 p (fun s => (({ s with tdm := { s.tdm with pairOk := true } }).heard).takeFlags p.flags)

/-! ## The meanings -/

def execLaneRetrain (b : Nat) (s : State) : Host.Outcome State Fault Refusal := at_ b true State.laneRetrain s
def execLaneLoss (b : Nat) (s : State) (silent mm : Bool := false) : Host.Outcome State Fault Refusal :=
  at_ b true (State.laneLost silent mm) s
def execLaneBlockLock (b : Nat) (s : State) : Host.Outcome State Fault Refusal := at_ b true State.laneLock s
def execHelloSend (b : Nat) (s : State) : Host.Outcome State Fault Refusal := at_ b true State.helloSend s
def execHello (b : Nat) (h : LaneHdr) (session txNext rxLast rxSession : Dw) (flags : Byte) (s : State) :
    Host.Outcome State Fault Refusal := at_ b (laneFits 0x01 h) (State.hello h session txNext rxLast rxSession flags) s
def execHeartbeat (b : Nat) (h : LaneHdr) (session : Dw) (flags : Byte) (s : State) : Host.Outcome State Fault Refusal :=
  at_ b (laneFits 0x02 h) (State.laneRx 0x02 (heartbeatBody session flags) h (State.takeFlags flags)) s
def execNak (b : Nat) (h : LaneHdr) (expected : Dw) (s : State) : Host.Outcome State Fault Refusal :=
  at_ b (laneFits 0x03 h) (State.nak h expected) s
def execForward (b : Nat) (h : LaneHdr) (src : Nat) (tag : BitVec 16) (len : Nat) (keep : Bool) (payload : List Byte)
    (s : State) : Host.Outcome State Fault Refusal :=
  at_ b (laneFits 0x10 h && decide (1152 ≤ src ∧ src < 4096 ∧ len < 256 ∧ payload.length ≤ 64))
    (State.laneReq 0x10 (forwardBody src tag len keep payload) h (State.ringSource src tag len keep payload)) s
def execMirrorState (b : Nat) (h : LaneHdr) (e : MirrorEntry) (s : State) : Host.Outcome State Fault Refusal :=
  at_ b (laneFits 0x11 h && decide (e.src < 4096 ∧ e.code < 8)) (State.laneReq 0x11 (mirrorBytes e) h (State.setIn e)) s
def execSyncBegin (b : Nat) (h : LaneHdr) (s : State) : Host.Outcome State Fault Refusal :=
  at_ b (laneFits 0x12 h) (State.laneReq 0x12 [] h State.syncBegin) s
def execSyncEntries (b : Nat) (h : LaneHdr) (es : List MirrorEntry) (s : State) : Host.Outcome State Fault Refusal :=
  at_ b (laneFits 0x13 h && decide (es.length ≤ 19) && es.all (fun e => e.src < 4096 && e.code < 8))
    (State.laneReq 0x13 (entriesBody es) h (each State.setIn es)) s
def execSyncEnd (b : Nat) (h : LaneHdr) (s : State) : Host.Outcome State Fault Refusal :=
  at_ b (laneFits 0x14 h) (State.laneReq 0x14 [] h State.syncEnd) s
def execGasp (b : Nat) (h : LaneHdr) (resetCount : Dw) (holdoff : BitVec 16) (s : State) :
    Host.Outcome State Fault Refusal :=
  at_ b (laneFits 0x15 h) (State.laneReq 0x15 (gaspBody resetCount holdoff.toNat) h (fun s => s.gaspSeen s.tdm.pSession)) s
def execAck (b : Nat) (h : LaneHdr) (s : State) : Host.Outcome State Fault Refusal := at_ b (laneFits 0x90 h) (State.ack h) s
def execRetransmitTimeout (b : Nat) (s : State) (mm : Bool := false) : Host.Outcome State Fault Refusal :=
  at_ b true (State.retransmitTimeout mm) s
def execHeartbeatSend (b : Nat) (s : State) : Host.Outcome State Fault Refusal := at_ b true State.heartbeatSend s
def execPairHeartbeatSend (b : Nat) (collide : Bool) (s : State) : Host.Outcome State Fault Refusal :=
  at_ b true (State.pairSend collide) s
def execPairHeartbeat (b : Nat) (sfd : Byte) (session : Dw) (flags : Byte) (s : State) (arg : Dw := 0) (crc : BitVec 16 := 0) :
    Host.Outcome State Fault Refusal :=
  at_ b true (State.pairHeartbeat ⟨sfd, flags, session, arg, crc⟩) s
def execPairBackoffEnd (b : Nat) (collide : Bool) (s : State) : Host.Outcome State Fault Refusal :=
  at_ b true (State.pairBackoffEnd collide) s
def execPairGaspCopy (b : Nat) (s : State) (collide : Bool := false) : Host.Outcome State Fault Refusal :=
  at_ b true (State.pairGaspCopy collide) s
def execPartnerLoss (b : Nat) (s : State) : Host.Outcome State Fault Refusal := at_ b true State.partnerLoss s
def execMirrorResync (b : Nat) (s : State) : Host.Outcome State Fault Refusal := at_ b true State.mirrorResync s

end Sys2Proof.Machine
end

