-- ==== Sys2Proof/Machine/Tenants.lean ====
section
/-! DEFINITION. Tenants (08): feature negotiation, Bus Master Enable, presence of functions, and the tenant reset. -/

namespace Sys2Proof.Machine

open Sys2Proof

/-! ## Which functions are served (R191, R203, R296) -/

/-- R296: configuration requests are served. -/
def State.cfgServed (s : State) : Bool := (11 ≤ s.start.step || s.start.level == .l3) && !s.perst

/-- A function that serves its BAR0: present, and not in the reset phase of its tenant. -/
def State.serves (s : State) (fn : Nat) : Bool := s.cfgServed && s.present fn && !s.resetting fn

/-! ## The link -/

/-- R296: the link may train or be up: from the end of step 2, and not while PERST# is asserted. -/
def State.linkCan (s : State) : Bool := (2 ≤ s.start.step || s.start.level == .l3) && !s.perst

/-- R255, R361: the link reaches L0 and what was decided meanwhile leaves, in the order of decision (R274). -/
def State.linkUp (s : State) : State :=
  if s.linkCan then
    let l := s.txWait
    { each State.emit l { s with txWait := [] } with linkL0 := true }
  else s

/-! ## Negotiation (R197–R200) -/

/-- R197: the offer of tenant `n`. -/
def State.offer (s : State) (n : Nat) : BitVec 64 := BitVec.ofNat 64 (s.o 0x5000 n) &&& BitVec.ofNat 64 Config.capability

/-- The bytes of `v` enabled by `be` replace those of `old`. -/
def mergeBytes (be : BitVec 4) (old v : Dw) : Dw :=
  let m (k : Nat) : Dw := if be.getLsbD k then BitVec.ofNat 32 (255 * 2 ^ (8 * k)) else 0
  let mask := m 0 ||| m 1 ||| m 2 ||| m 3
  (old &&& ~~~ mask) ||| (v &&& mask)

/-- R199: a write of FEAT_ACCEPT_LO or _HI. -/
def State.featAccept (n : Nat) (hi : Bool) (be : BitVec 4) (v : Dw) (s : State) : State :=
  let f := s.fn n
  if f.ok || s.inReset n then s
  else
    let lo := f.accept.setWidth 32
    let up := (f.accept >>> 32).setWidth 32
    s.setFn n { f with accept := if hi then mergeBytes be up v ++ lo else up ++ mergeBytes be lo v }

/-- The lowest set bit of a 64-bit value. -/
def lowestBit (v : BitVec 64) : Nat := ((List.range 64).find? (fun k => v.getLsbD k)).getD 0

/-- Table 08-5, rows 2–6: REASON and BIT of a refusal, or none for a grant. -/
def judgeFeatures (offer acc : BitVec 64) : Option (Nat × Nat) :=
  if acc &&& ~~~ offer != 0 then some (1, lowestBit (acc &&& ~~~ offer))
  else if acc.getLsbD 7 && !acc.getLsbD 12 then some (2, 7)
  else if acc.getLsbD 11 && !acc.getLsbD 0 && !acc.getLsbD 1 then some (2, 11)
  else if acc.getLsbD 2 && acc.getLsbD 0 && !acc.getLsbD 3 then some (2, 2)
  else none

/-- R200: a FEATURES_OK request. -/
def State.featOk (n : Nat) (s : State) : State :=
  let f := s.fn n
  if f.ok || s.inReset n then s
  else match judgeFeatures (s.offer n) f.accept with
    | some (r, k) => s.setFn n { f with refused := true, reason := r, bit := k }
    | none => s.setFn n { f with ok := true, accepted := f.accept, refused := false, reason := 0, bit := 0 }

/-- Table 08-6. -/
def State.featStatus (s : State) (n : Nat) : Nat :=
  let f := s.fn n
  b2n f.ok + 2 * b2n f.refused + 16 * f.reason + 256 * f.bit + 2 ^ 31 * b2n (s.inReset n)

/-! ## Tenant reset (R201–R206) -/

/-- The request is the forward of source `n`'s delivery. -/
def TdmReq.carries (n : Nat) : TdmReq → Bool
  | .forward loc .. => loc == n
  | _ => false

/-- The items of Table 08-7 that concern one source (R112): its deliveries end without a sample, a forward of it not yet sent
with them, its buffers return, it is IDLE and disabled; an alarm source is disarmed. -/
def State.resetSource (n : Nat) (s : State) : State :=
  let old := s.srcAt n
  let bs := (s.dlv.filter (fun d => d.src == n)).filterMap (fun d => d.info.buf)
  let s : State := { s with
    dlv := s.dlv.filter (fun d => d.src != n)
    tdm := { s.tdm with queue := s.tdm.queue.filter (fun r => !r.carries n) } }
  let s := s.setSrc n { Source.init with hwAt := old.hwAt }
  let clear (i : Nat) (s : State) : State :=
    let s := s.returnBuf i false
    s.setBuf i { s.bufAt i with record := none }
  let s := each clear (ascending (bs ++ old.info.buf.toList ++ old.rep.buf.toList)) s
  let s := s.setO 0x2006 n 0
  let s := if 16 ≤ n && n < 32 then s.setO 0x1212 (n - 16) 0 else s
  s.note { code := 13 } n old

/-- Table 08-7 for one target. (DEDUCED, log 37.) -/
def State.resetTarget (t : Nat) (s : State) : State :=
  let x := s.tgtAt t
  let s := if x.quarantined then s.chrQuar true true 1 t (s.tgtTen t) else s
  let s := ((s.setO 0x3005 t 0).setO 0x6012 t 0).setO 0x6013 t 0
  s.setTgt t { x with tagNext := 1, quarantined := false, threshold := 0, claimStamp := 0, msgInfo := 0,
                      lastHandle := 0, special := 0 }

/-- R66: the tenant's buffers return; its targets hold none; the records of R67 that name them are cleared. -/
def State.resetBuffers (n : Nat) (s : State) : State :=
  let s := each (fun e s => if e.2.st != .free && e.2.tenant == n then s.returnBuf e.1 false else s) s.buf s
  let mine (t : Nat) : Bool := s.tgtTen t == n
  let s := each (fun (e : Nat × Buf) s =>
    let x := s.bufAt e.1
    if x.holders.any mine then
      (s.setBuf e.1 { x with holders := x.holders.filter (fun t => !mine t) }).checkBuf (some e.1)
    else s) s.buf s
  each (fun (e : Nat × Buf) s =>
    let x := s.bufAt e.1
    match x.record with
    | some r => if r.2.any mine then s.setBuf e.1 { x with record := none } else s
    | none => s) s.buf s

/-- The registers of a function that the reset of its tenant restores (BLK): negotiation, window, unsent messages, and a
virtual function's Dial block. -/
def Func.tenantReset (n : Nat) (f : Func) : Func :=
  { f with
    win := .init, accept := 0, ok := false, accepted := 0, refused := false, reason := 0, bit := 0
    v0 := { f.v0 with pba := false }
    v1 := { f.v1 with pba := false }
    dialPend := if n = 0 then f.dialPend else 0
    dialEn := if n = 0 then f.dialEn else 0
    dialLost := if n = 0 then f.dialLost else 0 }

/-- The function of an unsent posted write. -/
def Out.fnOf : Out → Option Nat
  | .posted _ fn _ _ => some fn
  | _ => none

/-- R203, R204: the reset beat of tenant `n`. (DEDUCED, log 43.) -/
def State.tenantResetBeat (n : Nat) (s : State) : State :=
  let mir := (s.elems 0x1910 (fun _ => true)).filter (fun m => s.srcTen m == n && s.mirrored m)
  let srcs := ascending (s.src.map (·.1) ++ s.elems 0x2006 (fun _ => true) ++ (s.elems 0x1212 (fun _ => true)).map (16 + ·))
  let s := each State.resetSource (srcs.filter (fun m => s.srcTen m == n)) s
  let tgts := ascending (s.tgt.map (·.1) ++ s.elems 0x3005 (fun _ => true) ++ s.elems 0x6012 (fun _ => true)
    ++ s.elems 0x6013 (fun _ => true))
  let s := each State.resetTarget (tgts.filter (fun t => s.tgtTen t == n)) s
  let s := s.resetBuffers n
  let s := if n = 0 then s else { s with
    drafts := s.drafts.filter (fun e => e.1 / 2 ^ 32 != n)
    marks := s.marks.filter (· != n)
    winds := s.winds.take 1 ++ (s.winds.drop 1).filter (fun w => w.scope != n) }
  let s := s.setFn n { (s.fn n).tenantReset n with rst := .resetting }
  let s := { s with txWait := s.txWait.filter (fun o => o.fnOf != some n) }
  each (fun m s => s.queueMirror ⟨m, 0, false⟩) mir s

/-- R201: a tenant reset is requested. -/
def State.tenantReset (n : Nat) (isolate : Bool) (s : State) : State :=
  match (s.fn n).rst with
  | .resetting => s
  | .quiescing _ => if isolate then s.tenantResetBeat n else s
  | .none =>
    if isolate then s.tenantResetBeat n
    else s.setFn n { s.fn n with rst := .quiescing (s.now + s.o 0x1005 0) }

/-- R202: the tenant's targets hold no delivery. -/
def State.tenantDrained (s : State) (n : Nat) : Bool :=
  !s.dlv.any (fun d => match d.tgt with | some t => s.tgtTen t == n | none => false)

/-- R202: the end of the wait phase, if it has come. -/
def State.tenantWaitEnd (n : Nat) (s : State) : State :=
  match (s.fn n).rst with
  | .quiescing u => if s.tenantDrained n || u ≤ s.now && !s.asleep then s.tenantResetBeat n else s
  | _ => s

/-- R205: the level conditions of tenant `n`'s sources are taken from the next beat on. -/
def State.levelsNextBeat (n : Nat) (s : State) : State :=
  each (fun k s => s.setSrc k { s.srcAt k with clrAt := some s.now }) (s.levelCands.filter (fun k => s.srcTen k == n)) s

/-- R203, R205: the reset phase ends. (DESIGN CHOICE, log 19.) -/
def State.tenantResetEnd (n : Nat) (s : State) : State :=
  if s.resetting n then (((s.setFn n { s.fn n with rst := .none }).bump 0x5010 n 1).dial 7 n).levelsNextBeat n else s

/-! ## Functions (R191, R192, R201, R283) -/

/-- The PCIe state of a function at its conventional or function-level reset; the AER status is kept.
(PRESUMED, log 7.) -/
def Func.pcieReset (f : Func) : Func :=
  { f with bme := false, msixEn := false, fmask := false, v0 := .init, v1 := .init, bar := 0, vfBar := 0, mps := 0, aspm := false }

/-- A function is reset and its tenant passes through an ISOLATE reset. -/
def State.functionReset (n : Nat) (s : State) : State :=
  let s := s.tenantReset n true
  s.setFn n (s.fn n).pcieReset

/-- The virtual functions present. -/
def State.presentVfs (s : State) : List Nat := ((List.range 32).filter (fun n => n != 0 && s.present n))

/-- R201: VF Enable and NumVFs become `en`, `num`; functions that stop being present are reset. -/
def State.vfSet (en : Bool) (num : Nat) (s : State) : State :=
  let was := s.presentVfs
  let s := { s with vfEnable := en, numVfs := num }
  each State.functionReset (was.filter (fun n => !s.present n)) s

/-- R201: an FLR. -/
def State.flr (n : Nat) (s : State) : State :=
  if s.cfgServed && s.present n then
    let s := s.functionReset n
    if n = 0 then s.vfSet false 0 else s
  else s

/-- R283: PERST#, a hot reset or a link-down event. The physical function leaves D3hot: an entry to Quiet mode that waits for
it (R354) is over, and so is the bar of R363. (PRESUMED, log 7.) -/
def State.pcieInterfaceReset (s : State) : State :=
  let s := (s.functionReset 0).vfSet false 0
  let q := s.quiet
  { s with
    pfD3 := false, pmeEn := false, linkL0 := false
    quiet := { q with d3Bar := false, d3Waits := false, beginAt := if q.d3Waits then none else q.beginAt } }

/-- R192: Bus Master Enable is written. -/
def State.setBme (n : Nat) (v : Bool) (s : State) : State :=
  if s.cfgServed && s.present n then s.setFn n { s.fn n with bme := v } else s

/-! ## The meanings -/

def execBusMasterEnableChange (b fn : Nat) (v : Bool) (s : State) : Host.Outcome State Fault Refusal :=
  at_ b (fn < 32) (State.setBme fn v) s
def execFlr (b fn : Nat) (s : State) : Host.Outcome State Fault Refusal := at_ b (fn < 32) (State.flr fn) s
def execVfEnableChange (b : Nat) (en : Bool) (num : Nat) (s : State) : Host.Outcome State Fault Refusal :=
  at_ b (num < 32) (fun s => if s.cfgServed && s.straps.getLsbD 4 then s.vfSet en num else s) s
def execTenantResetBeat (b n : Nat) (s : State) : Host.Outcome State Fault Refusal :=
  at_ b (n < 32) (State.tenantWaitEnd n) s
def execTenantResetEnd (b n : Nat) (s : State) : Host.Outcome State Fault Refusal :=
  at_ b (n < 32) (State.tenantResetEnd n) s

end Sys2Proof.Machine
end

