-- ==== Sys2Proof/Machine/Timebase.lean ====
section
/-! DEFINITION. Wired inputs (02 §02.2), alarms (§02.4), the beat counter and its discipline (07 §07.1–§07.3), steering
periods and the Regulator's updates (§07.4–§07.6). -/

namespace Sys2Proof.Machine

open Sys2Proof

/-! ## Wired inputs -/

/-- R23: the samples of IRQ_IN[n] have shown `level` since beat `since`; the filtered value changes in this beat if the count is
full. -/
def State.filterChange (n : Nat) (level : Bool) (since : Nat) (s : State) : State :=
  ((s.sampled n level (min since s.now)).filtTurn n).hwRow

/-- R22, R70: a bank supply is lost or returns. Its inputs are sampled 0 from this beat while it is absent; the expander outputs of
its ports are not driven then, and low from its return until the engine drives them. -/
def State.bankSet (viob v : Bool) (s : State) : State :=
  let s := if viob then { s with bankB := v } else { s with bankA := v }
  let s := loop (fun n s => s.setEng n { s.engAt n with dout := false }) (if viob then 4 else 0) 4 s
  if v then s else loop (fun n s => (s.sampled n false s.now).filtTurn n) (if viob then 48 else 0) 48 s |>.hwRow

/-- R119: a storm window closes. -/
def State.stormClose (n : Nat) (s : State) : State :=
  match (s.srcAt n).storm with
  | some w => if w.closeAt ≤ s.now && !s.asleep then s.setSrc n { s.srcAt n with storm := none } else s
  | none => s

/-! ## Alarms (R33–R37, R86) -/

/-- Alarm An is due. -/
def State.alarmDue (s : State) (n : Nat) : Bool := s.o 0x1212 n == 1 && s.o 0x1210 n ≤ s.cnt.toNat

/-- Alarm An fires if it is due. (DEDUCED, log 40.) -/
def State.alarmFire (n : Nat) (s : State) : State :=
  if s.alarmDue n then
    let c := s.o 0x1210 n
    let p := s.o 0x1211 n
    let s :=
      if p = 0 then s.setO 0x1212 n 0
      else
        let k := (s.cnt.toNat - c) / p + 1
        (s.setO 0x1210 n ((c + k * p) % 2 ^ 64)).bump 0x1213 n (k - 1)
    let s := s.edge (16 + n)
    loop (fun e s => if s.o 0x4004 e = n then s.engEvent e 1 else s) 0 8 s
  else s

/-! ## Loads, whole seconds, 1PPS (R159–R168) -/

/-- The counter takes `v` at the next beat (R159, R164): the TIME record, whole seconds and steering periods follow. -/
def State.loadCounter (kind : Nat) (v : Beat) (s : State) : State :=
  let s := s.chrPut 9 none (leBytes 8 s.cnt.toNat ++ leBytes 1 kind)
  let p := s.o 0x6001 0
  let back := v.toNat < s.cnt.toNat
  let t := s.time
  let t := if back then
      { t with nextSecond := (v.toNat / Config.wholeSecond + 1) * Config.wholeSecond,
               nextPeriod := if v.toNat / p = s.cnt.toNat / p then t.nextPeriod else v.toNat }
    else t
  { s with time := { t with load := some v } }

/-- A load of this beat turns the counter back; the seconds and periods after it are counted from the loaded value.
(DEDUCED, log 122.) -/
def State.goesBack (s : State) : Bool :=
  match s.time.load with
  | some v => v.toNat < s.cnt.toNat
  | none => false

/-- R161: the counter has reached a whole second: S4, and a pulse of 1PPS_OUT outside Quiet mode.
(DEDUCED, log 122.) -/
def State.secondReached (s : State) : State :=
  let t := s.time
  if t.watched && t.nextSecond ≤ s.cnt.toNat && !s.goesBack then
    let until_ := s.now + s.o 0x1205 0
    let pulse := if t.mode == .quiet then t.ppsOutUntil
      else some (max until_ (t.ppsOutUntil.getD 0))
    ({ s with time := { t with
        nextSecond := (s.cnt.toNat / Config.wholeSecond + 1) * Config.wholeSecond, ppsOutUntil := pulse } }).raiseInt 4
  else s

/-- R161: 1PPS_OUT falls. -/
def State.pulseEnd (s : State) : State :=
  match s.time.ppsOutUntil with
  | some u => if u ≤ s.now then { s with time := { s.time with ppsOutUntil := none } } else s
  | none => s

/-- A bit of PPS_STATUS. -/
def State.ppsBit (k : Nat) (v : Bool) (s : State) : State :=
  let x := s.o 0x1206 0
  s.setO 0x1206 0 (if bitOf x k then (if v then x else x - 2 ^ k) else if v then x + 2 ^ k else x)

/-- R163: the whole second nearest to `x`, an exact half rounded up. -/
def nearestSecond (x : Int) : Int := (x + 400000000) / 800000000 * 800000000

/-- R164, R165: an accepted edge of phase error `e`. -/
def State.ppsCorrect (e : Int) (s : State) : State :=
  let lim := s.o 0x1204 0
  let mag := e.natAbs
  let s := s.setO 0x1207 0 (ofI32 e)
  let s := if s.time.ppsWake then
    { s.setO 0x120D 0 (ofI32 e) with time := { s.time with ppsWake := false } } else s
  let good := if mag ≤ 8 then min 4 (s.time.ppsGood + 1) else 0
  let s := { s with time := { s.time with ppsGood := good } }
  let s := if lim != 0 && lim < mag then
      let (k, _) := rateSteps (toI32 (s.o 0x1208 0)) s.time.rateAcc 1
      let s := s.loadCounter 2 (s.cnt + BitVec.ofInt 64 ((k : Int) - e))
      (s.bump 0x120A 0 1).ppsBit 0 false
    else
      let f := clampI 200000 (toI32 (s.o 0x1209 0) - roundDiv (5 * e) 32)
      let r := clampI 200000 (f - roundDiv (5 * e) 8)
      let s := (s.setO 0x1209 0 (ofI32 f)).setO 0x1208 0 (ofI32 r)
      if 80 < mag then s.ppsBit 0 false else if good = 4 then s.ppsBit 0 true else s
  (s.ppsBit 1 false).ppsBit 2 true

/-- R163, R167: a rising edge of 1PPS_IN. -/
def State.ppsEdge (s : State) : State :=
  let t := s.time
  if s.o 0x1202 0 != 1 || t.mode != .perBeat then s
  else if t.ppsFirst || t.ppsLast.isNone || t.ppsLast.getD 0 + 720000000 ≤ s.now then
    let x : Int := (s.cnt.toNat : Int) - 3 - toI32 (s.o 0x1203 0)
    ({ s with time := { t with ppsLast := some s.now, ppsFirst := false } }).ppsCorrect (x - nearestSecond x)
  else s.bump 0x120B 0 1

/-- R167, R168: SIGNAL is lost; in DISCIPLINE mode the device enters holdover. The beats spent in Quiet mode count among the
800,800,000, though the loss itself waits for its end; and the loss starts the count of good edges again.
(DEDUCED, log 38.) (DESIGN CHOICE, log 132.) -/
def State.ppsLoss (s : State) : State :=
  let lost := bitOf (s.o 0x1206 0) 2 && s.time.mode != .quiet
    && (match s.time.ppsLast with | none => true | some l => l + 800800000 ≤ s.now)
  if lost then
    let s : State := { (s.ppsBit 2 false).ppsBit 0 false with time := { s.time with ppsGood := 0 } }
    if s.o 0x1202 0 = 1 then ((s.ppsBit 1 true).setO 0x1208 0 (s.o 0x1209 0)).dial 15 0 else s
  else s

/-! ## The balance (R169–R171) -/

/-- A balance tick (R169–R171). -/
def State.balanceTick (s : State) : State :=
  let t := s.time
  if t.mode == .quiet then
    let a := t.balFrac + s.o 0x120C 0
    let t := { t with counter := t.load.getD t.counter + BitVec.ofNat 64 (a / 65536), load := none,
                      balFrac := a % 65536 }
    let t := if t.resumeAtTick then { t with mode := .perBeat, resumeAtTick := false, balFrac := 0, ppsFirst := true, ppsWake := true } else t
    loop State.alarmFire 0 16 { s with time := t }
  else if t.mode == .perBeat && t.watched then
    { s with time := match t.spanAdv with
        | none => { t with spanAdv := some 0, spanTicks := 0 }
        | some adv =>
          if t.spanTicks + 1 < 32768 then { t with spanTicks := t.spanTicks + 1 }
          else { t with spanAdv := some 0, spanTicks := 0, spanFull := some adv } }
  else s

/-- BAL_RATIO takes twice the advance of the span that the 32,768th tick after its first has ended (R170).
(DEDUCED, log 39.) -/
def State.spanEnd (s : State) : State :=
  match s.time.spanFull with
  | none => s
  | some adv => { s.setO 0x120C 0 (2 * adv % 2 ^ 32) with time := { s.time with spanFull := none } }

/-! ## Steering periods and updates (R175–R186) -/

/-- R226, R290: a Regulator-served command in progress completes BUSY. -/
def WinResult.regLeft (r : WinResult) : WinResult :=
  if r.reg then { r with status := 0x0A, value := none, draft := false } else r

/-- In a window; -/
def Func.regLeft (f : Func) : Func := { f with win := { f.win with busy := f.win.busy.map WinResult.regLeft } }

/-- and in a Narind REQUEST. -/
def NrJob.regLeft (j : NrJob) : NrJob := { j with pend := j.pend.map WinResult.regLeft }

/-- R188: the Regulator enters a state; when it leaves RUNNING, a closed period whose update it has not made is dropped
and the commands it serves complete BUSY. -/
def State.regGo (st : Nat) (s : State) : State :=
  let f := s.fw
  let s : State := { s with
    fw := { f with
      regState := st, lastBeatOfHeart := s.now
      runningFrom := if st == 1 then (if f.regState == 1 then f.runningFrom else some s.now) else none }
    time := { s.time with toUpdate := s.time.toUpdate && st == 1 } }
  if st == 1 then s
  else { s with
    func := smMap (fun _ => Func.init) (fun _ f => f.regLeft) s.func
    port := { s.port with job := s.port.job.map NrJob.regLeft } }

/-- The Regulator makes updates. -/
def State.steering (s : State) : Bool := s.fw.regState == 1 && s.o 0x6000 0 == 1

/-- R175: the period's figures of one target are copied and restarted. -/
def State.closePeriod (t : Nat) (s : State) : State :=
  let x := s.tgtAt t
  let m := 2 ^ 32 - 1
  let s := ((((s.setO 0x7068 (4 * t) (min m x.pSamples)).setO 0x7068 (4 * t + 1) (min m x.pLat)).setO 0x7068 (4 * t + 2)
    (min m x.pSvc)).setO 0x7068 (4 * t + 3) (min m x.pClaims))
  s.setTgt t { x with pSamples := 0, pLat := 0, pSvc := 0, pClaims := 0, pTimeouts := 0, closedTimeouts := x.pTimeouts }

/-- A steering-period boundary is reached. (DEDUCED, log 122.) -/
def State.periodBoundary (s : State) : State :=
  let t := s.time
  if t.nextPeriod ≤ s.cnt.toNat && !s.goesBack then
    let p := s.o 0x6001 0
    let s := if t.toUpdate && s.steering then s.bump 0x6008 0 1 else s
    let ts := ascending (s.tgt.map (·.1) ++ (s.elems 0x7068 (fun _ => true)).map (· / 4))
    let s := each State.closePeriod ts s
    { s with time := { s.time with nextPeriod := (s.cnt.toNat / p + 1) * p, toUpdate := s.steering } }
  else s

/-- R177: a 32-bit average moves towards the period's mean; the shift is arithmetic. -/
def ewma (avg mean sh : Nat) : Nat := ((avg : Int) + (((mean : Int) - avg) >>> sh)).toNat

/-- R177: one target's averages take up the closed period. -/
def State.foldAvg (t : Nat) (s : State) : State :=
  let n := s.o 0x7068 (4 * t)
  if n = 0 then s
  else
    let x := s.tgtAt t
    let sh := s.o 0x6002 0
    let l := s.o 0x7068 (4 * t + 1) / n
    let v := s.o 0x7068 (4 * t + 2) / n
    let (l, v) := if x.hasAvg then (ewma (s.o 0x6010 t) l sh, ewma (s.o 0x6011 t) v sh) else (l, v)
    ((s.setO 0x6010 t l).setO 0x6011 t v).setTgt t { x with hasAvg := true }

/-- R180: r of a target. -/
def State.rOf (s : State) (t : Nat) : Nat := s.o 0x6011 t + s.o 0x6010 t

/-- R180: the new weights of a LEAST_LOAD group, from the state `s0` before any quarantine of the update. -/
def State.weigh (g : Nat) (s : State) : State :=
  if s.o 0x3401 g = 2 && s.hasFeat (s.grpTen g) 4 then
    let ms := (s.membersOf g).filter (fun m => s.eligible m.2 && (s.tgtAt m.2).hasAvg)
    match ms with
    | [] => s
    | m :: rest =>
      let ref := rest.foldl (fun a x => min a (s.rOf x.2)) (s.rOf m.2)
      each (fun (x : Nat × Nat) s =>
        let r := s.rOf x.2
        let w := if r = 0 then 256 else max (s.o 0x6003 0) (min 256 ((2 * 256 * ref + r) / (2 * r)))
        s.setO 0x3404 (16 * g + x.1) w) ms s
  else s

/-- R185: would the quarantine of `t` leave some group containing it, TANDEM_FORWARD apart, with no eligible member? -/
def State.lastMember (s : State) (t : Nat) : Bool :=
  (s.elems 0x3402 (fun _ => true)).any (fun g =>
    s.o 0x3401 g != 4 && (s.membersOf g).any (fun m => m.2 == t)
      && !(s.membersOf g).any (fun m => m.2 != t && s.eligible m.2))

/-- R184, R185: one target's quarantine decision; `mm` puts its revocations, if it makes any, off by a coupled pair's retry
(R153). -/
def State.regQuarantine (b : Nat) (mm : Bool) (t : Nat) (s : State) : State :=
  let x := s.tgtAt t
  if s.o 0x6004 0 = 1 && s.hasFeat (s.tgtTen t) 11 && 0 < x.closedTimeouts && s.o 0x7068 (4 * t + 3) = 0 && !x.quarantined
  then
    if s.lastMember t then (s.bump 0x6014 t 1).dial 5 (s.tgtTen t)
    else
      let s := ((s.row8.quarFlags t 2).dial 4 (s.tgtTen t)).leaveTarget t
      if mm && s.compares (s.servEsc t) && !(s.quarDlvs t).isEmpty then s.mismatch (s.servEsc t) (.targetQuarantine b t false)
      else s.quarRevoke t
  else s

/-- R186: release after QUARANTINE_HOLD, once the target has claimed. -/
def State.regRelease (t : Nat) (s : State) : State :=
  if s.o 0x6012 t = 2 && s.o 0x6013 t + s.o 0x6005 0 ≤ s.cnt.toNat && (s.tgtAt t).claimsAtQ < s.o 0x7060 t
  then s.unquarantine t 2 else s

/-- R180: the update of the closed period, in one beat. The quarantine decisions are taken in ascending target order, each with its
effects before the next one's test of R185 (so that of two last members the lower target is quarantined and the higher
declined), and the releases after them. (DESIGN CHOICE, log 133.) -/
def State.regUpdate (b : Nat) (mm : Bool) (s : State) : State :=
  if s.time.toUpdate && s.steering && s.cnt.toNat < s.time.nextPeriod then
    let ts := s.tgt.map (·.1)
    let qs := ascending (s.elems 0x6012 (· == 2))
    let s := each State.foldAvg (ascending ((s.elems 0x7068 (fun _ => true)).map (· / 4))) s
    let s := each State.weigh (s.elems 0x3401 (· == 2)) s
    let s := each (State.regQuarantine b mm) ts s
    let s := each State.regRelease qs s
    { s.setO 0x6007 0 s.cnt.toNat with time := { s.time with toUpdate := false } }
  else s

/-! ## The meanings -/

def execBankSupplyLoss (b : Nat) (viob : Bool) (s : State) : Host.Outcome State Fault Refusal :=
  at_ b true (State.bankSet viob false) s
def execBankSupplyReturn (b : Nat) (viob : Bool) (s : State) : Host.Outcome State Fault Refusal :=
  at_ b true (State.bankSet viob true) s
def execGlitchFilterChange (b n : Nat) (level : Bool) (s : State) (since : Nat := 0) : Host.Outcome State Fault Refusal :=
  at_ b (n < 96) (State.filterChange n level since) s
def execStormWindowClose (b src : Nat) (s : State) : Host.Outcome State Fault Refusal :=
  at_ b (src < 4096) (State.stormClose src) s
def execAlarmFire (b n : Nat) (s : State) : Host.Outcome State Fault Refusal := at_ b (n < 16) (State.alarmFire n) s
def execWholeSecond (b : Nat) (s : State) : Host.Outcome State Fault Refusal := at_ b true State.secondReached s
def execPpsOutPulseEnd (b : Nat) (s : State) : Host.Outcome State Fault Refusal := at_ b true State.pulseEnd s
def execPpsEdge (b : Nat) (s : State) : Host.Outcome State Fault Refusal := at_ b true State.ppsEdge s
def execPpsSignalLoss (b : Nat) (s : State) : Host.Outcome State Fault Refusal := at_ b true State.ppsLoss s
def execBalanceTick (b : Nat) (s : State) : Host.Outcome State Fault Refusal := at_ b true State.balanceTick s
def execBalSpanEnd (b : Nat) (s : State) : Host.Outcome State Fault Refusal := at_ b true State.spanEnd s
def execSteeringPeriodBoundary (b : Nat) (s : State) : Host.Outcome State Fault Refusal :=
  at_ b true State.periodBoundary s
def execRegulatorUpdate (b : Nat) (mm : Bool) (s : State) : Host.Outcome State Fault Refusal :=
  at_ b true (fun s => s.regUpdate b mm) s

end Sys2Proof.Machine
end

