-- ==== Sys2Proof/Machine/Supply.lean ====
section
/-! DEFINITION. Supply monitoring, the last gasp but for its frames, and Quiet mode (15). -/

namespace Sys2Proof.Machine

open Sys2Proof

/-! ## Sense inputs (R344, R347) -/

/-- R344: the telemetry ADC converts the next channel. (DESIGN CHOICE, log 22.) -/
def State.adc (code : Nat) (s : State) : State :=
  if s.supply.running then
    let k := s.supply.adcSlot
    let s := { s with supply := { s.supply with adcSlot := (k + 1) % 16 } }
    if k % 2 = 0 then
      let s := s.setO 0x1309 0 code
      if s.supply.gaspState = 1 then { s with supply := { s.supply with dipMin := min s.supply.dipMin code } } else s
    else if k = 1 then s.setO 0x130A 0 code
    else s.setO 0x130B (k / 2 - 1) (Config.railMillivolts (k / 2 - 1) code % 65536)
  else s

/-- R345: an input that has kept a condition's side of its reference since beat `since` has done so for the ceil(SNS_FILTER ÷ 8)
periods of element `el` (0 feed, 1 IBV). (DEDUCED, log 138.) -/
def State.snsHeld (s : State) (el since : Nat) : Bool := since + (s.o 0x1305 el + 7) / 8 * 8 ≤ s.now

/-- The recovery reference (R349, R352). -/
def State.feedBack (s : State) : Nat := s.o 0x1300 0 + s.o 0x1301 0

/-- R347: the input of code `level` lies on the side that establishes (`on`) or clears the condition `k`: 0 FEED_HIGH, 1 IBV_LOW,
2 IBV_HIGH. -/
def State.alarmSide (s : State) (k : Nat) (on : Bool) (level : Nat) : Bool :=
  let ref := s.o (0x1302 + k) 0
  let back := if k = 0 then s.o 0x1301 0 else 16
  if on then ref != 0 && (if k = 1 then level < ref else ref < level)
  else if k = 1 then ref + back < level else level + back < ref

/-- R347: an alarm condition is established or cleared. -/
def State.supplyAlarm (k : Nat) (on : Bool) (level since : Nat) (s : State) : State :=
  let x := s.supply
  let was := if k = 0 then x.feedHigh else if k = 1 then x.ibvLow else x.ibvHigh
  if x.running && was != on && s.alarmSide k on level && s.snsHeld (if k = 0 then 0 else 1) since then
    let x := if k = 0 then { x with feedHigh := on } else if k = 1 then { x with ibvLow := on } else { x with ibvHigh := on }
    let s := { s with supply := x }
    if on then (s.bump 0x1315 0 1).dial 23 0 else s
  else s

/-! ## Warning, recovery, commit (R348–R353) -/

/-- A SUPPLY record (Table 17-8). -/
def State.chrSupply (kind us : Nat) (s : State) : State :=
  s.chrPut 6 none (leBytes 1 kind ++ leBytes 2 (s.o 0x1309 0) ++ leBytes 2 (min 65535 us))

/-- R348: the feed warning is established: SNS_FEED has stayed below its reference, at `level` at the most, since `since`.
(DEDUCED, log 108, 138.) -/
def State.feedWarning (level since : Nat) (s : State) : State :=
  if s.supply.running && s.o 0x1300 0 != 0 && level < s.o 0x1300 0 && s.snsHeld 0 since then
    let s := { s with supply := { s.supply with feedLow := true } }
    if s.supply.gaspState = 0 then
      let h := s.o 0x1306 0
      let s := { s with
        supply := { s.supply with gaspState := 1, warnAt := s.now, holdLen := h, holdEnd := s.now + h, dipMin := s.o 0x1300 0 }
        gasp := { s.gasp with prepared := true } }
      let s := (s.raiseInt 2).chrSupply 1 0
      let s := s.chrFlush
      if s.quiet.code != 0 then s.wake 4 0 else s
    else if s.supply.gaspState = 2 then { s with supply := { s.supply with warnAt := s.now } }
    else s
  else s

/-- R349: recovery is established: SNS_FEED has stayed above its reference, at `level` at the least, since `since`; before the
hold-off ends it is a recovered dip. (DEDUCED, log 138.) -/
def State.feedRecovery (level since : Nat) (s : State) : State :=
  let x := s.supply
  if !(x.running && s.feedBack < level && s.snsHeld 0 since) then s else
  let s := { s with supply := { x with feedLow := false } }
  if x.gaspState = 1 && s.now < x.holdEnd then
    let us := min 65535 ((s.now - x.warnAt) / 800)
    let s := (s.raiseInt 3).chrSupply 2 us
    let s := s.bk (fun k => { k with
      dipCount := k.dipCount + 1, dipDepth := x.dipMin, dipTime := us, dipReset := field k.resetCount.toNat 0 16 })
    { s with supply := { s.supply with gaspState := 0 }, gasp := { s.gasp with prepared := false } }
  else s

/-- The client entries that receive LAST_GASP copies (R251): GASP set, authenticated in this session. -/
def State.gaspClients (s : State) : List Nat :=
  (List.range 16).filter (fun c =>
    s.o 0x1810 c != 0 && bitOf (s.o 0x1813 c) 0
      && (let x := smGet (fun _ => Client.init) s.port.clients c; x.seen && x.addr.isSome))

/-- R350: the gasp commits. -/
def State.gaspCommit (s : State) : State :=
  let x := s.supply
  if x.gaspState = 1 && x.holdEnd ≤ s.now then
    let us := x.holdLen / 800
    let cs := s.gaspClients
    let take (c : Nat) (s : State) : State :=
      let y := smGet (fun _ => Client.init) s.port.clients c
      let cl := smSet (fun _ => Client.init) s.port.clients c { y with reportNo := (y.reportNo + 1) % 2 ^ 32 }
      { s with port := { s.port with clients := cl } }
    let dests := cs.map (fun c => (c, ((smGet (fun _ => Client.init) s.port.clients c).reportNo + 1) % 2 ^ 32))
    let s : State := { s with
      supply := { x with gaspState := 2 }
      gasp := { prepared := false, commitAt := s.now, commitBeat := s.cnt, feedCode := s.o 0x1309 0, holdUs := us,
                dests := dests, rounds := 0, sending := !dests.isEmpty, pairLeft := 3 } }
    let s := ((each take cs s).bk (fun k => { k with gaspCount := k.gaspCount + 1 })).raiseInt 1
    let s := s.chrSupply 3 us
    if s.tdm.lanes = 2 then
      ({ s with tdm := { s.tdm with queue := s.tdm.queue ++ [.gasp s.backup.resetCount us] } } : State).pump
    else s
  else s

/-- R352: SNS_FEED has stayed above the recovery reference, at `level` at the least, since `since`, for one second and since the
last warning. (DEDUCED, log 107.) -/
def State.gaspRearm (level since : Nat) (s : State) : State :=
  if s.supply.gaspState = 2 && s.feedBack < level && s.supply.warnAt ≤ since && since + 800000000 ≤ s.now
  then { s with supply := { s.supply with gaspState := 0, feedLow := false } } else s

/-- R351: copies still unsent at c + 1,600,000 are discarded. -/
def State.gaspDiscard (s : State) : State :=
  if s.gasp.sending && s.gasp.commitAt + 1600000 ≤ s.now then { s with gasp := { s.gasp with sending := false, rounds := 3 } }
  else s

/-- R353: FEED_WARN wound to 0 in HOLDOFF. -/
def State.feedDisabled (s : State) : State :=
  if s.supply.gaspState = 1 then
    { s with supply := { s.supply with gaspState := 0, feedLow := false }, gasp := { s.gasp with prepared := false } }
  else { s with supply := { s.supply with feedLow := false } }

/-- R282: a gasp is in progress. -/
def State.gasping (s : State) : Bool := s.supply.gaspState == 1 || s.gasp.sending

/-! ## Quiet mode: entry (R354, R355) -/

/-- R354: an entry is refused, or waits. -/
def State.quietBlocked (s : State) : Bool :=
  s.gasping || s.supply.feedLow || !s.winds.isEmpty || !s.blk.isEmpty
    || s.func.any (fun f => f.2.rst != .none) || s.fw.save == 1 || s.fw.save == 4 || s.fw.migrateDue
    || s.fw.stage == 1 || s.fw.stage == 2 || s.fw.stage == 3

/-- An entry is scheduled `d` beats from now. -/
def State.quietSchedule (d3 : Bool) (s : State) : State :=
  if s.quiet.code = 0 && s.quiet.beginAt.isNone then
    { s with quiet := { s.quiet with beginAt := some (s.now + 8000), d3Waits := d3 } }
  else s

/-- R354: the physical function is placed in D3hot. -/
def State.d3Entry (s : State) : State :=
  if s.cfgServed then
    let s := { s with pfD3 := true }
    if s.o 0x1404 0 = 1 then s.quietSchedule true else s
  else s

/-- A window command or a Narind operation that began the delay of object `idx` has not completed: the delay runs from its completion (R281, R340,
R354). -/
def State.delayHeld (s : State) (idx : Nat) : Bool :=
  s.func.any (fun f => match f.2.win.busy with | some r => r.delays == idx | none => false)
    || (match s.port.job with
        | some j => j.later.contains idx || (match j.pend with | some r => r.delays == idx | none => false)
        | none => false)

/-- Table 15-4, step 1. -/
def State.quietBegin (s : State) : State :=
  match s.quiet.beginAt with
  | some b =>
    if b ≤ s.now && s.quiet.code == 0 && !s.delayHeld 0x1400 && !(s.quiet.d3Waits && s.quietBlocked) then
      { s with quiet := { s.quiet with
          code := 1, beginAt := none, d3Waits := false, issueStop := true, drainUntil := s.now + s.o 0x1403 0 } }
    else s
  | none => s

/-- R359: the port's PHY has a quiet speed. -/
def State.phyNamed (s : State) : Bool := s.o 0x1405 0 ≤ 31 && s.o 0x1800 0 == 0

/-- R359: the PHY's registers 4 and 9 are written and auto-negotiation restarted. (PRESUMED, log 140.) -/
def State.advertise (phy : Nat) (r4 r9 : BitVec 16) (s : State) : State :=
  ((s.emit (.mdio phy 4 r4)).emit (.mdio phy 9 r9)).emit (.mdio phy 0 0x1200)

/-- R355, step 2, at the drain's end: the IN_FLIGHT deliveries of escapement `e` are withdrawn; a coupled pair whose results differ
(`mm`) decides again (R153), once. -/
def State.drainEsc (mm : Bool) (e : Nat) (s : State) : State :=
  if (s.inFlightOf e).isEmpty || s.undecidedDrain e then s
  else if mm && s.compares e then s.mismatch e (.quietDrainEnd e false 0 0)
  else s.drainWithdraw e

/-- Table 15-4, steps 3–8, which take no time here. The fraction of the balance accumulator starts at 0 (R169).
(DESIGN CHOICE, log 19, 139.) -/
def State.quietSteps (r4 r9 : BitVec 16) (s : State) : State :=
  let s := if s.fw.regState == 4 then s else { s with fw := { s.fw with regBackTo := s.fw.regState } }
  let s := s.regGo 4
  let s := times State.chrWrite s.chr.queue.length s
  let stop := (List.range 8).filter (fun n => s.engRunning n && s.o 0x4006 n == 0)
  let s := each State.engStop stop s
  let s := s.lanesDown false
  let phy := s.o 0x1405 0
  let s := if s.phyNamed then s.advertise phy 0x0041 0 else s
  let s := { s with
    chr := { s.chr with selfRefresh := true, flushing := false }
    linkL0 := s.linkL0 && !s.pfD3 && !(s.fn 0).aspm
    time := { s.time with mode := .quiet, spanAdv := none, spanTicks := 0, ppsOutUntil := none, resumeAtTick := false, balFrac := 0 }
    quiet := { s.quiet with code := 2, stepsDone := true, ddrAsleep := true, sleptAt := s.now
                            adv := if s.phyNamed && s.quiet.adv.isNone then some (phy, r4, r9) else s.quiet.adv
                            engStopped := ascending (s.quiet.engStopped ++ stop) } }
  s.bump 0x1408 0 1

/-- Table 15-4: the drain ends, by itself or at its timeout, and the steps after it follow once no withdrawal is undecided; `r4`, `r9`
are the PHY's registers 4 and 9 as they are read then. -/
def State.quietDrained (mm : Bool) (r4 r9 : BitVec 16) (s : State) : State :=
  if s.quiet.code == 1 && (s.dlv.isEmpty || s.quiet.drainUntil ≤ s.now) then
    let s := each (State.drainEsc mm) (List.range 8) s.row8
    if (List.range 8).any s.undecidedDrain then s else s.quietSteps r4 r9
  else s

/-! ## Quiet mode: wake (R357–R363) -/

/-- R361: QUIET_WAKE for a cause; a source must be one that wakes, with an arrival latched or its level asserted. -/
def State.quietWake (cause src : Nat) (s : State) : State :=
  if cause = 0 then
    if s.wakes src && (s.quiet.latch.any (fun l => l.src == src) || s.asserted src) then s.wake 0 src else s
  else s.wake cause 0

/-- R358: the timers of the stopped blocks resume where they stopped. -/
def State.shiftTimers (d : Nat) (s : State) : State :=
  { s with
    dlv := s.dlv.map (fun (x : Delivery) => { x with expire := x.expire.map (· + d) })
    src := s.src.map (fun e => (e.1, { e.2 with
      storm := e.2.storm.map (fun w => { w with closeAt := w.closeAt + d }), release := e.2.release.map (· + d) }))
    blk := s.blk.map (fun e => (e.1, e.2.map (fun p => match p with | .waiting u => .waiting (u + d) | .resetting => .resetting)))
    func := s.func.map (fun e => (e.1, { e.2 with
      rst := match e.2.rst with | .quiescing u => .quiescing (u + d) | r => r }))
    wdogFrom := s.wdogFrom.map (· + d)
    fw := { s.fw with trialEnd := s.fw.trialEnd.map (· + d) } }

/-- R357, R391: the escapements resume: latched arrivals in ascending source order, a waiting replay; level sources are evaluated at
row 7 as at every beat. By then the PLL has locked (Table 15-7). -/
def State.resume (s : State) : State :=
  let l := s.quiet.latch
  let s := s.shiftTimers (s.now - s.quiet.sleptAt)
  let t := s.time
  let s : State := { s with
    time := if t.mode == ClockMode.quiet then { t with resumeAtTick := true } else t
    quiet := { s.quiet with code := 0, stepsDone := false, issueStop := false, latch := [] } }
  let s := each (fun (x : Latched) s => (s.arrive x.src x.stamp true .none none).bump 0x7010 x.src x.more) l s
  if s.quiet.promote then ({ s with quiet := { s.quiet with promote := false } }).replay else s

/-- R361: the DDR leaves self-refresh. -/
def State.ddrExit (s : State) : State :=
  if s.quiet.ddrAsleep && s.quiet.code == 0 then
    { s with chr := { s.chr with selfRefresh := false }, quiet := { s.quiet with ddrAsleep := false } }
  else s

/-- R359: the advertisement saved at entry is restored. -/
def State.phyBack (s : State) : State :=
  match s.quiet.adv with
  | none => s
  | some (phy, r4, r9) => { s.advertise phy r4 r9 with quiet := { s.quiet with adv := none } }

/-- R99, R188, R361: after wake the Regulator runs again, engines restart, the PHY advertisement is restored. -/
def State.regResume (s : State) : State :=
  if s.quiet.code == 0 && s.fw.regState == 4 && s.fw.regBackTo != 4 then
    let s := s.regGo s.fw.regBackTo
    let s := { s with fw := { s.fw with regBackTo := 4 } }
    let s := each State.engStart s.quiet.engStopped s
    let s := s.phyBack
    { s with quiet := { s.quiet with engStopped := [] } }
  else s

/-- R363: the physical function returns to D0, a wake cause; the bar of R363 is lifted. -/
def State.d3Exit (s : State) : State :=
  if s.pfD3 then
    let s := { s with pfD3 := false }
    let s := if s.quiet.d3Waits then { s with quiet := { s.quiet with beginAt := none, d3Waits := false } } else s
    let s := s.wake 3 0
    { s with quiet := { s.quiet with d3Bar := false } }
  else s

/-- R363: PERST# deasserts, a wake cause; WAKE# is released. -/
def State.perstUp (s : State) : State :=
  if s.perst then { ({ s with perst := false }).wake 3 0 with wakeLow := false } else s

/-- R283, R360: a hot reset or a link-down event; it returns a physical function in D3hot to D0, a wake cause.
(DEDUCED, log 135.) -/
def State.linkReset (s : State) : State := if s.pfD3 then s.pcieInterfaceReset.wake 3 0 else s.pcieInterfaceReset

/-- A pair WAKE (R383) and a pair GASP (R382) are tandem wakes (R360). -/
def State.pairWake (p : PairFrame) (s : State) : State := s.pairRx 2 p (fun s => (s.checkSenior (p.flags.getLsbD 0)).wake 2 0)
def State.pairGasp (p : PairFrame) (s : State) : State :=
  s.pairRx 3 p (fun s => ((s.checkSenior (p.flags.getLsbD 0)).gaspSeen p.session).wake 2 0)

/-! ## The meanings -/

def execAdcConversion (b code : Nat) (s : State) : Host.Outcome State Fault Refusal :=
  at_ b (code < 4096) (State.adc code) s
def execSupplyAlarm (b k : Nat) (on : Bool) (s : State) (level since : Nat := 0) : Host.Outcome State Fault Refusal :=
  at_ b (k < 3) (State.supplyAlarm k on level since) s
def execFeedWarning (b : Nat) (s : State) (level since : Nat := 0) : Host.Outcome State Fault Refusal :=
  at_ b true (State.feedWarning level since) s
def execFeedRecovery (b : Nat) (s : State) (level since : Nat := 0) : Host.Outcome State Fault Refusal :=
  at_ b true (State.feedRecovery level since) s
def execGaspCommit (b : Nat) (s : State) : Host.Outcome State Fault Refusal := at_ b true State.gaspCommit s
def execGaspRearm (b : Nat) (s : State) (level since : Nat := 0) : Host.Outcome State Fault Refusal :=
  at_ b true (State.gaspRearm level since) s
def execGaspCopyDiscard (b : Nat) (s : State) : Host.Outcome State Fault Refusal := at_ b true State.gaspDiscard s
def execD3hotEntry (b : Nat) (s : State) : Host.Outcome State Fault Refusal := at_ b true State.d3Entry s
def execD3hotExit (b : Nat) (s : State) : Host.Outcome State Fault Refusal := at_ b true State.d3Exit s
def execQuietEntryBegin (b : Nat) (s : State) : Host.Outcome State Fault Refusal := at_ b true State.quietBegin s
def execQuietDrainEnd (b : Nat) (s : State) (mm : Bool := false) (r4 r9 : BitVec 16 := 0) : Host.Outcome State Fault Refusal :=
  at_ b true (State.quietDrained mm r4 r9) s
def execQuietWake (b cause src : Nat) (s : State) : Host.Outcome State Fault Refusal :=
  at_ b (cause < 5 && src < 4096) (State.quietWake cause src) s
def execSelfRefreshExit (b : Nat) (s : State) : Host.Outcome State Fault Refusal := at_ b true State.ddrExit s
def execRegulatorResume (b : Nat) (s : State) : Host.Outcome State Fault Refusal := at_ b true State.regResume s
def execPerstDeassert (b : Nat) (s : State) : Host.Outcome State Fault Refusal := at_ b true State.perstUp s
def execPcieLinkUp (b : Nat) (s : State) : Host.Outcome State Fault Refusal := at_ b true State.linkUp s
def execPairWake (b : Nat) (sfd : Byte) (session : Dw) (flags : Byte) (s : State) (arg : Dw := 0) (crc : BitVec 16 := 0) :
    Host.Outcome State Fault Refusal :=
  at_ b true (State.pairWake ⟨sfd, flags, session, arg, crc⟩) s
def execPairGasp (b : Nat) (sfd : Byte) (session : Dw) (flags : Byte) (arg : Dw) (s : State) (crc : BitVec 16 := 0) :
    Host.Outcome State Fault Refusal :=
  at_ b true (State.pairGasp ⟨sfd, flags, session, arg, crc⟩) s
def execPerstAssert (b : Nat) (s : State) : Host.Outcome State Fault Refusal :=
  at_ b true (fun s => { s.pcieInterfaceReset with perst := true }) s
def execHotReset (b : Nat) (s : State) : Host.Outcome State Fault Refusal := at_ b true State.linkReset s
def execLinkDown (b : Nat) (s : State) : Host.Outcome State Fault Refusal := at_ b true State.linkReset s

end Sys2Proof.Machine
end

