-- ==== Sys2Proof/Machine/Blocks.lean ====
section
/-! DEFINITION. Requests for level resets (R280, R281), the watchdog (R284) and block resets (12 §12.3). -/

namespace Sys2Proof.Machine

open Sys2Proof

/-! ## Level reset requests -/

/-- R10: from widest to narrowest. -/
def Level.rank : Level → Nat
  | .l1 => 1
  | .l2c => 2
  | .l2w => 3
  | .l3 => 4

/-- Minimal mode (R303) or bring-up (R304). -/
def State.bare (s : State) : Bool := s.start.minimal || s.start.bringup

/-- The start has reached READY, or minimal mode or bring-up (R295, R303, R304). -/
def State.started (s : State) : Bool :=
  12 ≤ s.start.step || s.bare && (11 ≤ s.start.step || s.start.level == .l3 && s.start.step == 10)

/-! ## Pins that follow the Dial -/

/-- R405: ALERT_N is driven low while the device Dial's summary is 1, and released throughout an L1 and an L2 reset.
(DESIGN CHOICE, log 116.) -/
def State.alertLow (s : State) : Bool :=
  (s.fn 0).summary && (s.start.level == .l3 || 1 ≤ s.start.step) && !s.start.holdPorst && !s.start.holdRstn

/-- R420: IRQ_OUT[n] is driven high while the summary of the Dial block of tenant n's function is 1, low while that function is
absent or in the tenant's reset phase, and from an L1 or L2 reset until step 11. (DESIGN CHOICE, log 116.) -/
def State.irqOut (s : State) (n : Nat) : Bool :=
  n < 16 && (s.fn n).summary && s.present n && !s.resetting n && (s.start.level == .l3 || 11 ≤ s.start.step)

/-- R281: a level reset is requested, `defaults` as R340 has it; while one is requested or running, a wider request replaces
it at once and the others are absorbed. -/
def State.askReset (lvl : Level) (cause delay : Nat) (defaults : Bool) (s : State) : State :=
  let ask (due : Nat) : State := { s with resetReq := some ⟨lvl, cause, false, due, defaults⟩ }
  match s.resetReq with
  | some r => if lvl.rank < r.level.rank then ask s.now else s
  | none =>
    if s.started then ask (s.now + delay)
    else if lvl.rank < s.start.level.rank || lvl == .l1 && 1 ≤ s.start.step then ask s.now
    else s

/-- R281: a level reset is requested. -/
def State.requestReset (lvl : Level) (cause delay : Nat) (s : State) : State := s.askReset lvl cause delay false

/-- R284: WDOG_TIMEOUT is written. -/
def State.wdogArm (ms : Nat) (s : State) : State :=
  { s.setO 0x1002 0 ms with wdogFrom := if ms = 0 then none else some s.now }

/-- R284: the watchdog is kicked. -/
def State.wdogKick (s : State) : State := { s with wdogFrom := s.wdogFrom.map (fun _ => s.now) }

/-- R284: the count expires, outside Quiet mode. -/
def State.wdogFire (s : State) : State :=
  match s.wdogFrom with
  | none => s
  | some t =>
    if t + s.o 0x1002 0 * 800000 ≤ s.now && !s.asleep then
      ({ s with wdogFrom := none } : State).requestReset (if s.o 0x1004 0 = 1 then .l3 else .l2w) 6 16
    else s

/-! ## Block resets -/

def State.blkAt (s : State) (el : Nat) : Option BlkPhase := smGet (fun _ => none) s.blk el
def State.setBlk (el : Nat) (p : Option BlkPhase) (s : State) : State := { s with blk := smSet (fun _ => none) s.blk el p }

/-- The elements of Table 12-5. -/
def blkElement (el : Nat) : Bool := el < 8 || 0x10 ≤ el && el < 0x18 || 0x20 ≤ el && el < 0x24 || 0x40 ≤ el && el < 0x60

/-- R241: the management port starts: a new session; not with a MAC address of 0 (R308). -/
def State.portStart (s : State) : State :=
  let p := s.port
  let sess := BitVec.ofNat 32 (field s.backup.resetCount.toNat 0 24 * 256 + p.blkResets % 256)
  { s with port := { Port.init with
      up := s.shadow.extractLsb' 16 48 != 0, link := p.link, speed := p.speed, blkResets := p.blkResets, session := sess,
      tickAt := s.now } }

/-- R340: the Regulator's block reset that FW_ACTIVATE 1 asks for has not begun. -/
def State.rebootHeld (s : State) : Bool :=
  s.delayHeld 0x150A || (match s.fw.rebootAt with | some t => s.now < t | none => false)

/-- R98: a block reset clears an engine but for its banks, the bank selected, the published bits and STALE. -/
def Engine.blockReset (e : Engine) : Engine :=
  { Engine.init with bank := e.bank, pub := e.pub, stale := e.stale }

/-- The escapements whose reset comes with that of `e` (R156). -/
def State.blkWith (s : State) (e : Nat) : List Nat := if (s.escAt e).failed then [e / 2 * 2, e / 2 * 2 + 1] else [e]

/-- R290, third column: what a QUIESCE of a block waits for. (DEDUCED, log 90.) -/
def State.blkDrained (s : State) (el : Nat) : Bool :=
  if el < 8 then !s.dlv.any (fun d => (s.blkWith el).contains d.esc)
  else if el < 0x18 then let e := s.engAt (el - 0x10); e.run != .running || e.atFrame
  else if el = 0x20 then
    !s.time.toUpdate && !s.func.any (fun f => match f.2.win.busy with | some r => r.reg | none => false) && !s.rebootHeld
      && !s.port.job.any (fun j => j.pend.any (·.reg))
  else if el = 0x21 then !s.gasping && s.port.queue.isEmpty && s.port.job.isNone
  else if el = 0x22 then s.tdm.unacked.isEmpty && s.tdm.queue.isEmpty
  else s.chr.queue.isEmpty

/-- The reset phase of a block begins (Table 12-5, fourth column); in minimal mode the Regulator stays held (R303). `mm` is that
of the lane loss. (DEDUCED, log 142.) -/
def State.blkPhase (el : Nat) (mm : Bool) (s : State) : State :=
  if el < 8 then
    each (fun e s => (each State.isolate (s.dlv.filter (fun d => d.esc == e)) s).setBlk e (some .resetting)) (s.blkWith el) s
  else if el < 0x18 then
    let n := el - 0x10
    let s := if s.engRunning n then s.discardFrame n else s
    (((s.setEng n (s.engAt n).blockReset).setO 0x4013 n 0).setO 0x4016 n 0).clearRegMarks n |>.setBlk el (some .resetting)
  else if el = 0x20 then
    let s := (s.regGo (if s.bare then 3 else 2)).setBlk el (some .resetting)
    let f := s.fw
    { s with fw := { f with rebootAt := none, trialEnd := none, stage := 0, chunks := [], save := 0
                            migrateDue := f.migrateDue || f.save == 4 } }
  else if el = 0x21 then
    let s := s.setBlk el (some .resetting)
    { s with portDeferred := false, port := { s.port with link := false, queue := [], job := none } }
  else if el = 0x22 then (s.linkSilent mm).setBlk el (some .resetting)
  else
    let n := s.chr.queue.length
    let s := { s with chr := { s.chr with queue := [], lost := s.chr.lost + n, flushing := false, flushOwes := 0 } }
    let s := if n = 0 then s else (s.bump 0x1721 0 n).dial 18 0
    s.setBlk el (some .resetting)

/-- R150, R153: escapement `e` withdraws the targets it serves: their PENDING sources are reselected, and their IN_FLIGHT
deliveries revoked, which a coupled pair whose results differ (`mm`) decides again. -/
def State.escWithdraw (mm : Bool) (e : Nat) (s : State) : State :=
  let s := each State.leaveTarget (s.servedBy e) s
  let s := s.setBlk e (some (.waiting (s.now + s.o 0x1005 0)))
  if (s.resetDlvs e).isEmpty then s
  else if mm && s.compares e then s.mismatch e (.blkResetQuiesce 0 e false)
  else s.resetRevoke e

/-- R150: in the first beat of its reset, an escapement withdraws every target it serves.
(DEDUCED, log 120.) -/
def State.blkFirstBeat (el : Nat) (mm : Bool) (s : State) : State :=
  if el < 8 then
    let es := s.blkWith el
    each (State.escWithdraw mm) es (each (fun e s => s.outOfService e (s.servedBy e)) es s.row8)
  else if el = 0x23 then s.chrFlush
  else s

/-- R290, R291, R294: a block reset is requested; `mm` where a coupled pair's results differ on what it revokes (R153).
(DEDUCED, log 91.) -/
def State.blkRequest (el : Nat) (isolate mm : Bool) (s : State) : State :=
  if 0x40 ≤ el then s.tenantReset (el - 0x40) isolate
  else match s.blkAt el with
    | some .resetting => s
    | some (.waiting _) =>
      if !isolate then s else if el = 0x21 && s.gasping then { s with portDeferred := true } else s.blkPhase el mm
    | none =>
      if el = 0x21 && s.gasping then
        { s.setBlk el (some (.waiting (s.now + 1760000))) with portDeferred := isolate }
      else
        let s := if isolate && el = 0x23 then s else s.blkFirstBeat el mm
        if isolate then s.blkPhase el mm else s.setBlk el (some (.waiting (s.now + s.o 0x1005 0)))

/-- The wait condition of a block is met. -/
def State.blkWaitEnd (el : Nat) (s : State) : State :=
  if 0x40 ≤ el then (if s.tenantDrained (el - 0x40) then s.tenantWaitEnd (el - 0x40) else s)
  else match s.blkAt el with
    | some (.waiting _) => if s.blkDrained el then s.blkPhase el false else s
    | _ => s

/-- R291: a wait reaches its timeout and proceeds as ISOLATE; BLOCK_ISOLATED. The waits stand still while the device is quiet
(R358), and before the reset that FW_ACTIVATE 1 asks for begins (R340). (DEDUCED, log 91.) -/
def State.blkTimeout (el : Nat) (mm : Bool) (s : State) : State :=
  if s.asleep || (el == 0x20 && s.rebootHeld) then s
  else if 0x40 ≤ el then
    match (s.fn (el - 0x40)).rst with
    | .quiescing u => if u ≤ s.now then (s.tenantWaitEnd (el - 0x40)).dial 30 0 else s
    | _ => s
  else match s.blkAt el with
    | some (.waiting u) =>
      if u ≤ s.now then
        let s' := s.blkPhase el mm
        if s.portDeferred && el = 0x21 then s' else s'.dial 30 0
      else s
    | _ => s

/-- R150, R156: the targets that escapement `e` withdrew return to service at the end of its reset, on the escapement they are
wound to by then. -/
def State.escReturn (e : Nat) (s : State) : State :=
  let x := s.escAt e
  let s := s.setEsc e { x with failed := false, retry := [], migrating := none }
  let ts := (s.tgt.filter (fun t => t.2.withdrawn && t.2.withdrawnBy == some e)).map (·.1)
  let s := each (fun t s => s.setTgt t { s.tgtAt t with withdrawn := false, withdrawnBy := none }) ts s
  each (fun t s => if s.eligible t then s.becameEligible t else s) ts s

/-- R96: an engine with AUTORUN and a chain starts. -/
def State.autorun (n : Nat) (s : State) : State := if s.o 0x4005 n = 1 then s.engStart n else s

/-- R292: the reset phase of a block ends; it restarts and BLK_RESETS counts.
(DESIGN CHOICE, log 19.) (DEDUCED, log 97.) -/
def State.blkEnd (el : Nat) (s : State) : State :=
  if 0x40 ≤ el then s.tenantResetEnd (el - 0x40)
  else if s.blkAt el != some .resetting then s
  else
    let els := if el < 8 then s.blkWith el else [el]
    let s := each (fun e s => (s.setBlk e none).bump 0x1008 e 1) els s
    if el < 8 then each State.escReturn els s
    else if el < 0x18 then s.autorun (el - 0x10)
    else if el = 0x20 then { s with fw := { s.fw with bootFrom := s.now } }
    else if el = 0x21 then ({ s with port := { s.port with blkResets := s.port.blkResets + 1 } } : State).portStart
    else if el = 0x22 then
      ({ s with tdm := { s.tdm with linkResets := s.tdm.linkResets + 1 } } : State).newSession
    else s

/-! ## The meanings -/

def execWatchdog (b : Nat) (s : State) : Host.Outcome State Fault Refusal := at_ b true State.wdogFire s
def execQuiesceDrained (b el : Nat) (s : State) : Host.Outcome State Fault Refusal :=
  at_ b (blkElement el) (State.blkWaitEnd el) s
def execBlkTimeout (b el : Nat) (s : State) (mm : Bool := false) : Host.Outcome State Fault Refusal :=
  at_ b (blkElement el) (State.blkTimeout el mm) s
def execBlockResetEnd (b el : Nat) (s : State) : Host.Outcome State Fault Refusal :=
  at_ b (blkElement el) (State.blkEnd el) s
def execRailBrownout (b : Nat) (s : State) : Host.Outcome State Fault Refusal := at_ b true (State.requestReset .l1 2 16) s
def execClockFail (b : Nat) (s : State) : Host.Outcome State Fault Refusal := at_ b true (State.requestReset .l2c 4 16) s

end Sys2Proof.Machine
end

