-- ==== Sys2Proof/Machine/Firmware.lean ====
section
/-! DEFINITION. Firmware banks and settings in the flash (14): images, the boot record, bank selection, trials, staging,
settings slots, saves and migrations. -/

namespace Sys2Proof.Machine

open Sys2Proof

/-! ## Flash (R323) -/

/-- (DESIGN CHOICE, log 11.) -/
def State.flashAt (s : State) (a n : Nat) : List Byte := memGetAll 0xFF s.flash a n
def State.flashSet (a : Nat) (bs : List Byte) (s : State) : State := { s with flash := memSetAll 0xFF s.flash a bs }

/-- Erased bytes read 0xFF. (DESIGN CHOICE, log 27.) -/
def State.flashErase (a n : Nat) (s : State) : State :=
  { s with flash := s.flash.filter (fun c => c.1 < a || a + n ≤ c.1) }

/-- Programming clears bits. -/
def State.flashProgram (a : Nat) (bs : List Byte) (s : State) : State :=
  s.flashSet a (((s.flashAt a bs.length).zip bs).map (fun x => x.1 &&& x.2))

/-- The little-endian value of `n` bytes at an offset of a byte list. -/
def at4 (bs : List Byte) (o n : Nat) : Nat := leVal ((bs.drop o).take n)

/-! ## Images (R325) -/

/-- The offset of a bank (Table 14-2). -/
def bankBase (bank : Nat) : Nat := if bank = 0 then 0x400000 else 0x800000

/-- R325: is the image of a bank valid? -/
def State.imageOk (s : State) (bank : Nat) : Bool :=
  let h := s.flashAt (bankBase bank) 64
  let len := at4 h 12 4
  at4 h 0 4 == 0x5A465731 && at4 h 4 2 == 1 && at4 h 28 4 == (crc32 (h.take 28)).toNat && at4 h 22 2 == 0x4096
    && at4 h 24 1 ≤ 1 && len ≤ 4194240 && at4 h 16 2 ≤ at4 h 20 2 && at4 h 20 2 ≤ at4 h 18 2
    && h.drop 32 == sha256 (s.flashAt (bankBase bank + 64) len)

/-- FW_HEADER: the header of a valid image, else nothing. -/
def State.header (s : State) (bank : Nat) : List Byte := if s.imageOk bank then s.flashAt (bankBase bank) 64 else []

/-- A field of the running image's header. -/
def State.runHdr (s : State) (o n : Nat) : Nat := at4 (s.flashAt (bankBase s.fw.bank) 64) o n

/-- R334: the running image reads a schema. -/
def State.readsSchema (s : State) (v : Nat) : Bool := s.runHdr 16 2 ≤ v && v ≤ s.runHdr 18 2

/-! ## The boot record (R326) -/

/-- The boot record in use: the copy that holds it, SEQ, CONFIRMED, TRIAL (255 none), LAST_ROLLBACK and ROLLBACKS. -/
structure BootRec where
  copy : Nat
  seq : Nat
  confirmed : Nat
  trial : Nat
  last : Nat
  rollbacks : Nat
  deriving DecidableEq, Repr

def State.bootCopy (s : State) (k : Nat) : Option BootRec :=
  let c := s.flashAt (0x8000 * k) 20
  if at4 c 0 4 == 0x5A425231 && at4 c 16 4 == (crc32 (c.take 16)).toNat && at4 c 8 1 ≤ 1 && (at4 c 9 1 ≤ 1 || at4 c 9 1 == 255)
  then some ⟨k, at4 c 4 4, at4 c 8 1, at4 c 9 1, at4 c 10 1, at4 c 12 4⟩ else none

/-- (DEDUCED, log 94.) -/
def State.bootRec (s : State) : BootRec :=
  match s.bootCopy 0, s.bootCopy 1 with
  | some x, some y => if x.seq < y.seq then y else x
  | some x, none => x
  | none, some y => y
  | none, none => ⟨1, 0, 0, 255, 0, 0⟩

/-- R326: an update goes to the copy not in use, with SEQ one higher; it takes some time, within the bounds of R324.
(DEDUCED, log 94.) (DESIGN CHOICE, log 143.) -/
def State.setBootRec (r : BootRec) (s : State) : State :=
  let k := 1 - s.bootRec.copy
  let a := 0x8000 * k
  let (d, s) := s.draw
  let s := { s with fw := { s.fw with bootWrite := some (k, s.now + Config.freeFlashTime d % 2564000000) } }
  let b := leBytes 4 0x5A425231 ++ leBytes 4 (s.bootRec.seq + 1) ++ leBytes 1 r.confirmed ++ leBytes 1 r.trial
    ++ leBytes 1 r.last ++ [0] ++ leBytes 4 r.rollbacks
  (s.flashErase a 0x8000).flashSet a (b ++ leBytes 4 (crc32 b).toNat)

/-- R326, R338: a reset that cuts an update of the boot record short leaves the copy invalid. (DESIGN CHOICE, log 143.) -/
def State.cutBoot (s : State) : State :=
  match s.fw.bootWrite with
  | none => s
  | some (k, e) => if s.now < e then s.flashErase (0x8000 * k) 0x8000 else s

/-- The update of the boot record has ended. -/
def State.bootWritten (s : State) : State := { s with fw := { s.fw with bootWrite := none } }

/-- R331: the trial is rolled back, once: the record and the Dial event. (DEDUCED, log 141.) -/
def State.rollBack (code : Nat) (s : State) : State :=
  let r := s.bootRec
  let s := (s.setBootRec { r with trial := 255, last := code, rollbacks := (r.rollbacks + 1) % 2 ^ 32 }).dial 21 0
  { s with fw := { s.fw with trialEnd := none, rolledBack := true } }

/-- A trial runs that has not been rolled back. (DEDUCED, log 141.) -/
def State.onTrial (s : State) : Bool := s.fw.fwState == 1 && !s.fw.rolledBack

/-! ## Settings slots (R332, R333) -/

def slotBase (k : Nat) : Nat := if k = 0 then 0xC00000 else 0xD00000

/-- A settings record: index, element, value bytes. -/
abbrev SetRec := Nat × Nat × List Byte

/-- The records of a body, up to its end or the first that does not fit; `fuel` bounds their number. -/
def parseRecs : Nat → List Byte → List SetRec
  | 0, _ => []
  | fuel + 1, bs =>
    let len := at4 bs 4 2
    let pad := (len + 3) / 4 * 4
    if bs.length < 8 + pad then []
    else (at4 bs 0 2, at4 bs 2 2, (bs.drop 8).take len) :: parseRecs fuel (bs.drop (8 + pad))

/-- A slot as read: GENERATION, SCHEMA, its body, and the bytes that are reserved or pad in its header. -/
structure SlotInfo where
  gen : Nat
  schema : Nat
  body : List Byte
  reserved : List Byte
  deriving DecidableEq, Repr

/-- R332: a valid slot. -/
def State.slotInfo (s : State) (k : Nat) : Option SlotInfo :=
  let h := s.flashAt (slotBase k) 64
  let len := at4 h 12 4
  if at4 h 0 4 == 0x5A534531 && len ≤ 1048512 && at4 h 28 4 == (crc32 (h.take 28)).toNat then
    let body := s.flashAt (slotBase k + 64) len
    if at4 h 16 4 == (crc32 body).toNat then
      some ⟨at4 h 4 4, at4 h 8 2, body, (h.drop 10).take 2 ++ (h.drop 24).take 4 ++ h.drop 32⟩ else none
  else none

/-- The records of a slot. -/
def SlotInfo.recs (x : SlotInfo) : List SetRec := parseRecs x.body.length x.body

/-- Table 14-7: the slot in use (0 none, 1 A, 2 B) and SET_STATUS bits BENIGN_DIFF (2), CONFLICT (3), INVALID (4). -/
def resolveSlots : Option SlotInfo → Option SlotInfo → Nat × Nat
  | some x, some y =>
    if x.schema == y.schema && x.recs == y.recs then
      (1, if x.body == y.body && x.reserved == y.reserved then 0 else 4)
    else if x.gen = y.gen then (0, 8)
    else if x.gen < y.gen then (2, 0) else (1, 0)
  | some _, none => (1, 0)
  | none, some _ => (2, 0)
  | none, none => (0, 16)

/-- The slot of a number in use. -/
def State.slotOf (s : State) (n : Nat) : Option SlotInfo := if n = 0 then none else s.slotInfo (n - 1)

/-- R334: what a confirmed or forced bank uses, and its bits SCHEMA_UNREADABLE (7), FELL_BACK (8). -/
def State.readableSlot (s : State) (use : Nat) : Nat × Nat :=
  match s.slotOf use with
  | none => (use, 0)
  | some x =>
    if s.readsSchema x.schema then (use, 0)
    else match s.slotOf (3 - use) with
      | some y => if s.readsSchema y.schema then (3 - use, 256) else (0, 128)
      | none => (0, 128)

/-- The highest valid GENERATION, 0 if none. -/
def State.topGen (s : State) : Nat :=
  max ((s.slotInfo 0).elim 0 (·.gen)) ((s.slotInfo 1).elim 0 (·.gen))

/-- Program a slot with a body in the running image's native schema and the generation taken at the beginning, the header last
(R336, R337). -/
def State.writeSlot (k : Nat) (body : List Byte) (s : State) : State :=
  let gen := s.fw.saveGen
  let h := leBytes 4 0x5A534531 ++ leBytes 4 gen ++ leBytes 2 (s.runHdr 20 2) ++ leBytes 2 0 ++ leBytes 4 body.length
    ++ leBytes 4 (crc32 body).toNat ++ leBytes 4 (s.runHdr 8 4) ++ leBytes 4 0
  let h := h ++ leBytes 4 (crc32 h).toNat ++ List.replicate 32 0
  (s.flashErase (slotBase k) 0x100000).flashSet (slotBase k) (h ++ body)

/-- The value of a parameter as bytes, little-endian, in its type's size or its carried length. -/
def valBytes (ty v : Nat) : List Byte := if ty = 11 ∨ ty = 12 then blobDec 256 v else leBytes (typeSize ty) v

/-- The persistent objects of a snapshot as records, in ascending order of index and element. -/
def settingsBody (snap : SMap Nat) : List Byte :=
  (objRows.filter (·.persist)).flatMap (fun o =>
    (List.range (o.hi + 1)).flatMap (fun el =>
      if el < o.lo || o.idx == 0x4100 && 256 ≤ el % 512 then []
      else
        let v := valBytes o.ty (smGet dfltKey snap (pkey o.idx el))
        leBytes 2 o.idx ++ leBytes 2 el ++ leBytes 2 v.length ++ [0, 0] ++ v
          ++ List.replicate ((v.length + 3) / 4 * 4 - v.length) 0))

/-- R96, R337: the snapshot of a save: persistent values, each engine's active bank standing in its bank 0. -/
def State.snapshot (s : State) : SMap Nat :=
  let keep := s.obj.filter (fun e => e.1 / 65536 != 0x4100 && (objAt (e.1 / 65536) (e.1 % 65536)).any (·.persist))
  let prog := s.obj.filterMap (fun e =>
    let el := e.1 % 65536
    if e.1 / 65536 == 0x4100 && (256 ≤ el % 512) == (s.engAt (el / 512)).bank
    then some (pkey 0x4100 (el / 512 * 512 + el % 256), e.2) else none)
  each (fun e m => smSet dfltKey m e.1 e.2) prog keep

/-! ## Saves and migrations (R336–R338) -/

/-- Staging is in progress (R336, R337). -/
def State.staging (s : State) : Bool := s.fw.stage == 1 || s.fw.stage == 2 || s.fw.stage == 3

/-- A save or a migration is in progress. -/
def State.saving (s : State) : Bool := s.fw.save == 1 || s.fw.save == 4

/-- SET_SAVE_STATE FAILED raises SETTINGS. -/
def State.saveFailed (s : State) : State := ({ s with fw := { s.fw with save := 3 } } : State).dial 22 0

/-- R337: SAVE_SETTINGS; its status. -/
def State.saveSettings (s : State) : Nat × State :=
  if s.fw.fwState != 0 || s.saving || s.staging || s.topGen == 0xFFFFFFFF then (8, s)
  else
    let target := if s.fw.slot = 1 then 1 else if s.fw.slot = 2 then 0
      else if ((s.slotInfo 1).elim 0 (·.gen)) < ((s.slotInfo 0).elim 0 (·.gen)) then 1 else 0
    let snap := s.snapshot
    let gen := s.topGen + 1
    let s := s.flashErase (slotBase target) 0x100000
    (0, { s with fw := { s.fw with save := 1, saveSlot := target, saveGen := gen, saveSnap := snap } })

/-- R336: a due migration begins when nothing stands in its way. -/
def State.migrate (s : State) : State :=
  if !s.fw.migrateDue || s.saving || s.staging || s.fw.fwState != 0 || s.fw.regState != 1 then s
  else
    let s := { s with fw := { s.fw with migrateDue := false } }
    match s.slotOf s.fw.slot with
    | none => s
    | some x =>
      if s.runHdr 20 2 ≤ x.schema then s
      else if s.topGen = 0xFFFFFFFF then s.saveFailed
      else
        let k := 2 - s.fw.slot
        let gen := s.topGen + 1
        let s := s.flashErase (slotBase k) 0x100000
        { s with fw := { s.fw with save := 4, saveSlot := k, saveGen := gen } }

/-- The save under way ends. -/
def State.saveDone (ok : Bool) (s : State) : State :=
  if s.fw.save != 1 then s
  else if !ok then s.saveFailed.migrate
  else
    let s := s.writeSlot s.fw.saveSlot (settingsBody s.fw.saveSnap)
    ({ s with fw := { s.fw with save := 2, slot := s.fw.saveSlot + 1, saveSnap := [] } } : State).migrate

/-- The migration under way ends. (DESIGN CHOICE, log 23.) -/
def State.migrationDone (ok : Bool) (s : State) : State :=
  if s.fw.save != 4 then s
  else match ok, s.slotOf s.fw.slot with
    | true, some x =>
      let body := (Config.migrateBody x.schema (s.runHdr 20 2) x.body).take 1048512
      let s := s.writeSlot s.fw.saveSlot body
      { s with fw := { s.fw with save := 2, slot := s.fw.saveSlot + 1, setFlags := s.fw.setFlags ||| 512 } }
    | _, _ => s.saveFailed

/-! ## Booting (R327, R328, R300) -/

/-- R300: the bank that BOOT_SRC, or at a start a crown latch, forces. -/
def State.forcedBank (s : State) (atStart : Bool) : Option Nat :=
  let boot := field s.straps.toNat 2 2
  if boot = 1 then some 0
  else if boot = 2 then some 1
  else if atStart && s.backup.latch.getLsbD 0 then some 0
  else if atStart && s.backup.latch.getLsbD 1 then some 1
  else none

/-- The bank selected and its FW_STATE; an invalid trial has been rolled back. -/
def State.selectBank (atStart : Bool) (s : State) : Option (Nat × Nat) × State :=
  match s.forcedBank atStart with
  | some k => (if s.imageOk k then some (k, 2) else none, s)
  | none =>
    let r := s.bootRec
    if r.trial != 255 && s.imageOk r.trial then (some (r.trial, 1), s)
    else
      let s := if r.trial != 255 then s.rollBack 7 else s
      if s.imageOk r.confirmed then (some (r.confirmed, 0), s)
      else
        let k := 1 - r.confirmed
        if s.imageOk k then (some (k, 0), s.setBootRec { s.bootRec with confirmed := k }) else (none, s)

/-- R302: the bank a start would boot is a trial. -/
def State.bankIsTrial (s : State) : Bool :=
  (s.forcedBank true).isNone && s.bootRec.trial != 255 && s.imageOk s.bootRec.trial

/-- R300, R340: this start is a cold one whose step 10 applies factory defaults. -/
def State.defaultsStart (s : State) : Bool :=
  !s.started && (s.start.level == .l1 || s.start.level == .l2c) && (s.start.useDefaults || s.backup.latch.getLsbD 2)

/-- R333, R334 at a boot of a bank: the slot in use, none under factory defaults (R335), and its flags; whether a trial can
read it. -/
def State.bootSettings (s : State) : Bool × State :=
  let (use, fl) := resolveSlots (s.slotInfo 0) (s.slotInfo 1)
  if s.defaultsStart then (true, { s with fw := { s.fw with slot := 0, setFlags := fl } }) else
  let bad := match s.slotOf use with | some x => !s.readsSchema x.schema | none => false
  if s.fw.fwState == 1 && bad then (false, { s with fw := { s.fw with slot := use, setFlags := fl ||| 128 } })
  else
    let (use', fl') := s.readableSlot use
    (true, { s with fw := { s.fw with slot := use', setFlags := fl ||| fl' } })

/-- What a boot came to. -/
inductive Boot where
  | running
  | noImage
  | again
  deriving DecidableEq, Repr

/-- The Regulator boots: bank, settings slot, and RUNNING; a trial that cannot read the settings is rolled back. -/
def State.boot (atStart : Bool) (s : State) : Boot × State :=
  match s.selectBank atStart with
  | (none, s) => (.noImage, s)
  | (some (k, st), s) =>
    let s := { s with fw := { s.fw with bank := k, fwState := st, rolledBack := false, save := 0, saveSnap := [] } }
    let (ok, s) := s.bootSettings
    let s := if s.fw.setFlags &&& 0x198 != 0 then s.dial 22 0 else s
    if ok then
      let s := s.regGo 1
      let s := { s with fw := { s.fw with trialEnd := if st = 1 then some (s.now + 48000000000) else none } }
      (.running, s.migrate)
    else (.again, s.rollBack 3)

/-- R330, R328: confirmation. -/
def State.confirm (s : State) : State :=
  if s.fw.fwState = 0 ∨ s.fw.rolledBack then s
  else
    let s := s.setBootRec { s.bootRec with confirmed := s.fw.bank, trial := 255 }
    let s := { s with fw := { s.fw with fwState := 0, trialEnd := none, migrateDue := true } }
    s.migrate

/-- R331: a rollback outside a start, with its block reset of the Regulator. -/
def State.rollBackNow (code : Nat) (isolate : Bool) (s : State) : State := (s.rollBack code).blkRequest 0x20 isolate false

/-- R329: the trial's window ends. -/
def State.trialEnds (s : State) : State :=
  match s.fw.trialEnd with
  | none => s
  | some t =>
    if t ≤ s.now && s.fw.regState == 1 then (if s.o 0x1504 0 = 1 then s.confirm else s.rollBackNow 1 false) else s

/-- Table 14-6, code 6: a trial is not RUNNING 2 s after its boot began, outside a start. -/
def State.trialStuck (s : State) : State :=
  let r := s.bootRec
  if s.started && s.fw.regState == 2 && (s.blkAt 0x20).isNone && (s.forcedBank false).isNone && r.trial != 255
      && s.fw.bootFrom + 1600000000 ≤ s.now then s.rollBackNow 6 true
  else s

/-- R285: the response to a lock-up; `record` adds its own fault (REG_MEMORY has one already).
(DEDUCED, log 100.) -/
def State.lockedUp (record : Bool) (s : State) : State :=
  let n := min 255 (s.o 0x1015 0 + 1)
  let s := s.setO 0x1015 0 n
  let s := if record then s.fault 0x24 n else s
  let s := { s with fw := { s.fw with lastBeatOfHeart := s.now } }
  if s.onTrial && s.fw.regState == 1 then s.rollBackNow 5 true
  else if 3 ≤ n then s.requestReset .l3 0x0A 16
  else s.blkRequest 0x20 true false

/-- R285: no heartbeat for 8,000,000 beats. -/
def State.lockup (s : State) : State :=
  if s.fw.regState ≤ 2 && s.fw.lastBeatOfHeart + 8000000 ≤ s.now then s.lockedUp true else s

/-- R285: 60 s of RUNNING. -/
def State.lockupsClear (s : State) : State :=
  match s.fw.runningFrom with
  | some t => if t + 48000000000 ≤ s.now then s.setO 0x1015 0 0 else s
  | none => s

/-! ## Staging and activation (R339, R340) -/

/-- FW_STAGE; its status. (DESIGN CHOICE, log 27.) (DEDUCED, log 96.) -/
def State.stageSet (v : Nat) (s : State) : Nat × State :=
  if s.fw.fwState != 0 || s.saving then (8, s)
  else
    let bank := 1 - s.bootRec.confirmed
    if v = 1 then
      let s := s.flashErase (bankBase bank) 0x400000
      (0, { s with fw := { s.fw with stage := 1, stageBank := bank, chunks := [] } })
    else if v = 2 then
      if s.fw.stage == 2 then (0, { s with fw := { s.fw with stage := 3 } }) else (8, s)
    else
      let s := if s.fw.stage == 0 then s else s.flashErase (bankBase s.fw.stageBank) 64
      (0, ({ s with fw := { s.fw with stage := 0, chunks := [] } } : State).migrate)

/-- FW_STAGE_DATA; its status. A page program that fails (`bad`) ends the stage FLASH_ERROR (R324), its page holding free values.
(DEDUCED, log 96.) (DESIGN CHOICE, log 144.) -/
def State.stageData (k : Nat) (v : List Byte) (bad : Bool) (s : State) : Nat × State :=
  if s.fw.fwState != 0 || s.saving || s.fw.stage != 2 || s.fw.chunks.contains k then (8, s)
  else
    let a := bankBase s.fw.stageBank + 256 * k
    if bad then
      let (d, s) := s.draw
      let s := s.flashSet a ((List.range 256).map (Config.freeFlash d))
      (0, ({ s with fw := { s.fw with stage := 6, chunks := k :: s.fw.chunks } } : State).migrate)
    else
    let s := s.flashProgram a v
    (0, { s with fw := { s.fw with chunks := k :: s.fw.chunks } })

/-- The bank's erase ends (it is erased from its beginning on, log 27). (DESIGN CHOICE, log 27.) -/
def State.eraseDone (ok : Bool) (s : State) : State :=
  if s.fw.stage != 1 then s
  else ({ s with fw := { s.fw with stage := if ok then 2 else 6 } } : State).migrate

/-- The verification ends. -/
def State.verifyDone (s : State) : State :=
  if s.fw.stage != 3 then s
  else ({ s with fw := { s.fw with stage := if s.imageOk s.fw.stageBank then 4 else 5 } } : State).migrate

/-- FW_ACTIVATE; its status, when the boot record has been written. The block reset of value 1 begins 8,000 beats on; the level
reset of value 2 follows R281. (DEDUCED, log 90.) -/
def State.activate (v : Nat) (s : State) : Nat × State :=
  if s.fw.stage != 4 then (7, s)
  else
    let s := (s.setBootRec { s.bootRec with trial := s.fw.stageBank }).bootWritten
    if v = 1 then
      if (s.blkAt 0x20).isSome then (0, s)
      else
        let s := s.setBlk 0x20 (some (.waiting (s.now + 8000 + s.o 0x1005 0)))
        (0, { s with fw := { s.fw with rebootAt := some (s.now + 8000) } })
    else (0, s.askReset .l2c 7 16 true)

/-- R340: the command that asked for the block reset has completed: 8,000 beats from here. -/
def State.rebootFromHere (s : State) : State :=
  match s.fw.rebootAt, s.blkAt 0x20 with
  | some _, some (.waiting _) =>
    let s := s.setBlk 0x20 (some (.waiting (s.now + 8000 + s.o 0x1005 0)))
    { s with fw := { s.fw with rebootAt := some (s.now + 8000) } }
  | _, _ => s

/-! ## The meanings -/

def execSaveDone (b : Nat) (ok : Bool) (s : State) : Host.Outcome State Fault Refusal := at_ b true (State.saveDone ok) s
def execSettingsMigrationDone (b : Nat) (ok : Bool) (s : State) : Host.Outcome State Fault Refusal :=
  at_ b true (State.migrationDone ok) s
def execStageEraseDone (b : Nat) (ok : Bool) (s : State) : Host.Outcome State Fault Refusal :=
  at_ b true (State.eraseDone ok) s
def execStageVerifyDone (b : Nat) (s : State) : Host.Outcome State Fault Refusal := at_ b true State.verifyDone s
def execTrialWindowEnd (b : Nat) (s : State) : Host.Outcome State Fault Refusal := at_ b true State.trialEnds s
def execTrialNotRunning (b : Nat) (s : State) : Host.Outcome State Fault Refusal := at_ b true State.trialStuck s
def execRegLockup (b : Nat) (s : State) : Host.Outcome State Fault Refusal := at_ b true State.lockup s
def execRegLockupsClear (b : Nat) (s : State) : Host.Outcome State Fault Refusal := at_ b true State.lockupsClear s

end Sys2Proof.Machine
end

