-- ==== Sys2Proof/Machine/Read.lean ====
section
/-! DEFINITION. What a read of a dictionary object returns (chapters 02 to 17): the objects computed from the state, and
the plain ones; and the numberings of a Tenant principal (R193, R229, R230). -/

namespace Sys2Proof.Machine

open Sys2Proof

/-! ## Numberings -/

/-- The numbering of an object's element (Table 09-9). -/
def elKind (idx : Nat) : ElKind :=
  match objSegs idx with
  | [] => .plain
  | o :: _ => o.kind

/-- The Owner element that a principal's element names (check 3 of Table 09-4). -/
def State.ownerEl (s : State) (pr idx el : Nat) : Option Nat :=
  let e := if pr = 0 then some el else match elKind idx with
    | .src => s.fromView 0x2000 pr el
    | .tgt => s.fromView 0x3000 pr el
    | .grp => s.fromView 0x3400 pr el
    | .member => (s.fromView 0x3400 pr (el / 16)).map (fun g => 16 * g + el % 16)
    | .stamps => (s.fromView 0x3000 pr (el / 3)).map (fun t => 3 * t + el % 3)
    | .snap => (s.fromView 0x3000 pr (el / 4)).map (fun t => 4 * t + el % 4)
    | .plain | .ten | .alarm | .dense => some el
  e.filter (fun e => (objAt idx e).isSome)

/-- The element by which a principal knows an Owner element. -/
def State.viewEl (s : State) (pr idx el : Nat) : Nat :=
  if pr = 0 then el else match elKind idx with
    | .src => s.toView 0x2000 pr el
    | .tgt => s.toView 0x3000 pr el
    | .grp => s.toView 0x3400 pr el
    | .member => 16 * s.toView 0x3400 pr (el / 16) + el % 16
    | .stamps => 3 * s.toView 0x3000 pr (el / 3) + el % 3
    | .snap => 4 * s.toView 0x3000 pr (el / 4) + el % 4
    | .plain | .ten | .alarm | .dense => el

/-- The tenant that owns what an Owner element names: a source, a target, a route group, an alarm's source or a tenant
element; none for the others. -/
def State.elTenant (s : State) (idx el : Nat) : Option Nat :=
  match elKind idx with
  | .src => some (s.srcTen el)
  | .tgt => some (s.tgtTen el)
  | .grp => some (s.grpTen el)
  | .member => some (s.grpTen (el / 16))
  | .stamps => some (s.tgtTen (el / 3))
  | .snap => some (s.tgtTen (el / 4))
  | .alarm => some (s.srcTen (16 + el))
  | .ten => some el
  | .plain | .dense => none

/-- The value of ROUTE_GROUP and GRP_MEMBER as a principal reads it (R193). -/
def State.viewVal (s : State) (pr idx v : Nat) : Nat :=
  if pr = 0 then v
  else if idx = 0x2002 then s.toView 0x3400 pr v
  else if idx = 0x3403 then s.toView 0x3000 pr v
  else v

/-! ## Status words -/

/-- Table 05-7. Of a BROADCAST source TARGET is the first member for as long as the source is held, and TAG the tag of its delivery
there, 0 while it has none. (DESIGN CHOICE, log 117.) -/
def State.srcState (s : State) (pr n : Nat) : Nat :=
  let x := s.srcAt n
  let d := s.dlv.find? (fun d => d.src == n && (!d.bcast || d.tgt == x.target))
  let shown := x.st == .pending || x.st == .inFlight || x.st == .active
  let tag := if x.st == .inFlight || x.st == .active then (d.map (·.tag)).getD 0 else 0
  let t := match x.target with
    | some t => if shown then (if pr = 0 then t else s.toView 0x3000 pr t) else 0
    | none => 0
  x.bits + 128 * b2n (s.o 0x2006 n == 1) + 2 ^ 8 * tag + 2 ^ 18 * t

/-- Table 06-3. -/
def State.tgtStatus (s : State) (t : Nat) : Nat :=
  let x := s.tgtAt t
  b2n (s.o 0x3005 t == 1) + 2 * b2n x.quarantined + 4 * b2n x.withdrawn + 8 * b2n x.migratedTo.isSome
    + 16 * s.servEsc t + 2 ^ 8 * s.held t + 2 ^ 16 * s.inflight t

/-- R156: an escapement serves a failed pair's targets. -/
def State.spareFor (s : State) (e : Nat) : Option Nat :=
  if s.tgt.any (fun t => t.2.migratedTo == some e) then (s.escAt e).engagedFor else none

/-- Table 06-10. -/
def State.escStatus (s : State) (e : Nat) : Nat :=
  let c := s.o 0x3800 (e / 2 * 2) == 1
  b2n (s.escInService e) + 2 * b2n c + 4 * b2n (c && e % 2 == 1) + 8 * b2n (s.escAt e).failed
    + 16 * b2n (s.spareFor e).isSome + 32 * (s.spareFor e).getD 0 + 2 ^ 16 * s.slotsUsed e

/-- Table 04-8; in EVT_LATCHED and FLAGS the name that the table gives first stands lowest. (DESIGN CHOICE, log 145.) -/
def State.engStatus (s : State) (n : Nat) : Nat :=
  let e := s.engAt n
  b2n (e.run == .running) + 2 * b2n (e.run == .halted) + 4 * b2n (e.run == .faulted) + 8 * b2n e.inHandler
    + 16 * b2n e.susp.isSome + 32 * b2n e.waitHold + 64 * b2n e.waitBeat + 128 * b2n e.swapPending + 256 * b2n e.bank
    + 512 * b2n e.stale + 1024 * b2n (s.o 0x4000 n == 0) + 2048 * b2n e.evHold + 4096 * b2n e.evAlarm
    + 8192 * b2n e.evBell + 2 ^ 14 * b2n e.z + 2 ^ 15 * b2n e.n + 2 ^ 16 * b2n e.c + 2 ^ 17 * b2n e.t

/-- Table 08-3. -/
def State.tenStatus (s : State) (n : Nat) : Nat :=
  let f := s.fn n
  b2n (s.present n) + 2 * b2n f.ok + 4 * b2n (s.inReset n)
    + 8 * b2n (match f.rst with | .quiescing _ => true | _ => false) + 16 * b2n f.bme

/-- TDM_STATUS (Table 16-8). -/
def State.tdmStatus (s : State) : Nat :=
  let t := s.tdm
  t.lanes + 4 * b2n t.pairOk + 8 * b2n t.present + 16 * b2n t.pQuiet + 32 * b2n t.pGasp
    + 64 * b2n (s.straps.getLsbD 0) + 128 * b2n t.mirrorInValid + 256 * b2n t.syncingIn + 512 * b2n t.promoted
    + 1024 * b2n t.overflow + 2048 * b2n t.clash

/-- FAULT_SLOT (Table 17-4). -/
def faultBlob (r : Option FaultRec) (multi : Bool) : List Byte :=
  match r with
  | none => List.replicate 24 0
  | some r => leBytes 4 r.seq.toNat ++ leBytes 1 r.code ++ leBytes 1 r.cls ++ leBytes 1 (b2n multi) ++ [0]
      ++ leBytes 4 r.info ++ [0, 0, 0, 0] ++ leBytes 8 r.beat.toNat

/-- BLK_STATE: 0 idle, 1 quiescing, 2 resetting. -/
def State.blkState (s : State) (el : Nat) : Nat :=
  if 0x40 ≤ el then match (s.fn (el - 0x40)).rst with
    | .none => 0
    | .quiescing _ => 1
    | .resetting => 2
  else match s.blkAt el with
    | none => 0
    | some (.waiting _) => if el = 0x20 && s.rebootHeld then 0 else 1
    | some .resetting => 2

/-- CHR_STATUS. -/
def State.chrStatus (s : State) : Nat :=
  let c := s.chr
  b2n s.chrAvail + 2 * b2n c.selfRefresh + 4 * b2n c.recovered + 8 * b2n c.flushing + 16 * b2n c.wrapped

/-! ## One object -/

/-- Areas 0x0000 to 0x13FF. -/
def State.readLow (s : State) (idx el : Nat) : Nat :=
  match idx with
  | 0x0000 => Config.vendorId.toNat
  | 0x0003 => blobEnc [0x5A, 0x61, 0x65, 0x73, 0x68, 0x20, 0x42, 0x5A, 0x34, 0x30, 0x39, 0x36]
  | 0x0004 => (s.shadow.extractLsb' 64 64).toNat
  | 0x0100 => typeDesc el
  | 0x1007 => s.blkState el
  | 0x1008 => if 0x40 ≤ el then s.o 0x5010 (el - 0x40) else s.o idx el
  | 0x1010 => s.backup.resetCount.toNat
  | 0x1011 => (s.backup.history.getD el 0).toNat
  | 0x1012 => s.start.stateCode
  | 0x1013 => s.backup.warmFails + 4 * s.backup.coldFails + 16 * b2n s.backup.minimalEntered
  | 0x1014 => s.backup.lastStep
  | 0x1016 => s.straps.toNat
  | 0x1017 => s.backup.latch.toNat
  | 0x1018 => s.backup.frameErrors
  | 0x1101 => s.backup.optAttempts
  | 0x1103 => (s.shadow.extractLsb' (32 * el) 32).toNat
  | 0x1200 => s.cnt.toNat
  | 0x1206 => s.o idx el % 8 + 8 * b2n (s.time.mode == .quiet)
  | 0x1308 => s.supplyStatus
  | 0x1310 => s.backup.dipCount.toNat
  | 0x1311 => s.backup.gaspCount.toNat
  | 0x1312 => s.backup.dipDepth
  | 0x1313 => s.backup.dipTime
  | 0x1314 => s.backup.dipReset
  | _ => s.o idx el

/-- Areas 0x1400 to 0x1FFF. (DEDUCED, log 95.) -/
def State.readMid (s : State) (pr idx el : Nat) : Nat :=
  match idx with
  | 0x1401 => s.quiet.code
  | 0x1500 => s.fw.bank
  | 0x1501 => s.fw.fwState
  | 0x1502 => blobEnc (s.header el)
  | 0x1503 => match s.fw.trialEnd with | some t => (t - s.now) / 800000 | none => 0
  | 0x1509 => s.fw.stage + 8 * s.fw.stageBank + 2 ^ 16 * s.fw.chunks.length
  | 0x150B => s.bootRec.rollbacks
  | 0x150C => s.bootRec.last
  | 0x1510 => s.fw.slot + s.fw.setFlags + 32 * b2n (s.slotInfo 0).isSome + 64 * b2n (s.slotInfo 1).isSome
  | 0x1511 => (s.slotInfo el).elim 0 (·.gen)
  | 0x1512 => (s.slotInfo el).elim 0 (·.schema)
  | 0x1513 => s.fw.save
  | 0x1600 => blobEnc (if el = 0 then faultBlob s.first s.multi else faultBlob s.worst false)
  | 0x1703 => s.chrStatus
  | 0x1704 => s.chr.ringId
  | 0x1705 => s.chr.nextSeq.toNat
  | 0x1706 => s.chr.readSeq.toNat
  | 0x1707 => s.chrFill
  | 0x1708 => s.chr.dramMib
  | 0x1711 => blobEnc (smGet (fun _ => ChrWin.init) s.chrWin pr).blob
  | 0x1801 => (s.shadow.extractLsb' 16 48).toNat
  | 0x1809 => b2n s.port.link + 2 * s.port.speed + 8 * b2n s.asleep + 16 * b2n s.port.llConflict + 32 * b2n s.port.glConflict
  | 0x180A => s.port.session.toNat
  | 0x1812 => 1
  | 0x1908 => s.tdmStatus
  | 0x1909 => s.tdm.session.toNat
  | 0x190A => s.tdm.pSession.toNat
  | 0x1912 => let e := s.inAt el; b2n e.valid + 2 * e.code + 16 * b2n e.repend
  | _ => s.o idx el

/-- Areas 0x2000 to 0xFFFF; `el` in Owner numbering. -/
def State.readHigh (s : State) (pr idx el : Nat) : Nat :=
  match idx with
  | 0x200A => s.srcState pr el
  | 0x200B => (s.srcAt el).stamp.toNat
  | 0x300A => s.tgtStatus el
  | 0x3409 => (s.src.filter (fun e => s.grpOf e.1 == el && s.heldSrc e.1 e.2)).length
  | 0x3802 => s.escStatus el
  | 0x4010 => s.engStatus el
  | 0x4011 => (s.engAt el).pc
  | 0x4012 => (s.engAt el).rc
  | 0x4014 => ((s.engAt (el / 4)).pub.extractLsb' (32 * (el % 4)) 32).toNat
  | 0x4015 => ((s.engAt (el / 16)).reg (el % 16)).toNat
  | 0x5001 => if (s.fn el).ok then (s.fn el).accepted.toNat else 0
  | 0x5002 => s.tenStatus el
  | 0x5004 => s.viewCount 0x2000 el
  | 0x5005 => s.viewCount 0x3000 el
  | 0x5006 => s.viewCount 0x3400 el
  | 0x5008 => (s.fromView 0x2000 pr el).getD 0xFFFF
  | 0x5009 => s.toView 0x2000 (s.srcTen el) el
  | 0x500A => (s.fromView 0x3000 pr el).getD 0xFFFF
  | 0x500B => s.toView 0x3000 (s.tgtTen el) el
  | 0x500C => (s.fromView 0x3400 pr el).getD 0xFFFF
  | 0x500D => s.toView 0x3400 (s.grpTen el) el
  | 0x5021 => s.inUse el
  | 0x6006 => s.fw.regState
  | 0xF011 => s.o idx el + 512 * b2n (s.winds.any (fun w => w.scope == el))
  | 0xF012 => let k := s.o idx el; k / 65536 * 65536 + s.viewEl pr (k / 65536) (k % 65536)
  | 0xF013 => (s.drafts.filter (fun e => e.1 / 2 ^ 32 == el)).length
  | _ => s.viewVal pr idx (s.o idx el)

/-- The value a principal reads, at an Owner element. -/
def State.readVal (s : State) (pr idx el : Nat) : Nat :=
  if idx < 0x1400 then s.readLow idx el else if idx < 0x2000 then s.readMid pr idx el else s.readHigh pr idx el

end Sys2Proof.Machine
end

