-- ==== Sys2Proof/Machine/Wind.lean ====
section
/-! DEFINITION. Drafts and winds (09 §09.2): draft scopes, the checks of Table 09-6, and what a wind does at its beat. -/

namespace Sys2Proof.Machine

open Sys2Proof

/-! ## Drafts (R213, R214) -/

/-- The key of a draft: its scope and its parameter. -/
def dkey (scope k : Nat) : Nat := scope * 2 ^ 32 + k

/-- The draft of a parameter in a scope. -/
def State.draftAt (s : State) (scope k : Nat) : Option Nat := smGet (fun _ => none) s.drafts (dkey scope k)

/-- The drafts of a scope, by parameter. -/
def State.scopeDrafts (s : State) (scope : Nat) : SMap (Option Nat) :=
  (s.drafts.filter (fun e => e.1 / 2 ^ 32 == scope)).map (fun e => (e.1 % 2 ^ 32, e.2))

/-- DRAFT_COUNT. -/
def State.draftCount (s : State) (scope : Nat) : Nat := (s.drafts.filter (fun e => e.1 / 2 ^ 32 == scope)).length

/-- R214: is there room for a draft of parameter `k`? -/
def State.draftRoom (s : State) (scope k : Nat) : Bool :=
  (s.draftAt scope k).isSome || s.draftCount scope < (if scope = 0 then 8192 else 512)

/-- Store a draft; a wind of the scope that is under way leaves it in the scope (R215). -/
def State.setDraft (scope k v : Nat) (s : State) : State :=
  { s with
    drafts := smSet (fun _ => none) s.drafts (dkey scope k) (some v)
    winds := s.winds.map (fun w => if w.scope = scope then { w with rewritten := k :: w.rewritten } else w) }

/-- A wind of the scope waits or is being checked. -/
def State.winding (s : State) (scope : Nat) : Bool := s.winds.any (fun w => w.scope == scope)

/-- WIND: its status (R215, R216). -/
def State.windRequest (scope : Nat) (s : State) : Nat × State :=
  if s.winding scope then (0x0D, s)
  else (0, { s with winds := s.winds ++ [⟨scope, s.scopeDrafts scope, s.marks.contains scope, []⟩] })

/-- Drop a scope's drafts and its mark. -/
def State.dropDrafts (scope : Nat) (s : State) : State :=
  { s with drafts := s.drafts.filter (fun e => e.1 / 2 ^ 32 != scope), marks := s.marks.filter (· != scope) }

/-- DRAFT_DISCARD (R221). -/
def State.draftDiscard (scope : Nat) (s : State) : Nat × State :=
  if s.winding scope then (0x0D, s) else (0, s.dropDrafts scope)

/-- DRAFT_DEFAULTS (R221). -/
def State.draftDefaults (scope : Nat) (s : State) : Nat × State :=
  if s.winding scope then (0x0D, s) else (0, { s with marks := insertNat scope s.marks })

/-! ## What a wind would change -/

/-- R221: the parameter of key `k` lies within the reach of a scope's DRAFT_DEFAULTS. -/
def State.windReach (s : State) (scope k : Nat) : Bool :=
  match objAt (k / 65536) (k % 65536) with
  | none => false
  | some o => o.acc == .rwd && o.persist
      && (scope == 0 || o.tenant == 2 && s.elTenant (k / 65536) (k % 65536) == some scope)

/-- The values a wind gives: its snapshot, and with the mark the default of every other parameter in reach without a
draft. (DEDUCED, log 41.) -/
def State.windChanges (s : State) (w : WindReq) : List (Nat × Nat) :=
  let d := w.snap.filterMap (fun e => e.2.map (fun v => (e.1, v)))
  if w.defaults then
    d ++ (s.obj.filter (fun e => s.windReach w.scope e.1 && (smGet (fun _ => none) w.snap e.1).isNone
      && (s.draftAt w.scope e.1).isNone)).map (fun e => (e.1, dfltKey e.1))
  else d

/-- The objects with values written. -/
def State.withValues (chg : List (Nat × Nat)) (s : State) : State :=
  { s with obj := each (fun e o => smSet dfltKey o e.1 e.2) chg s.obj }

/-- The keys whose value a list of writes changes. -/
def State.changedKeys (s : State) (chg : List (Nat × Nat)) : List Nat :=
  ascending ((chg.filter (fun e => smGet dfltKey s.obj e.1 != e.2)).map (·.1))

/-- The elements of an object among keys. -/
def elsOf (idx : Nat) (ks : List Nat) : List Nat := (ks.filter (fun k => k / 65536 == idx)).map (· % 65536)

/-! ## The checks of Table 09-6: each row's failing instances, as the parameters they read -/

/-- R51. -/
def windQuota (n : State) : List (List Nat) :=
  let ks := (List.range 32).map (pkey 0x5020)
  if 8192 < (ks.map (smGet dfltKey n.obj)).sum then [ks] else []

/-- R84. -/
def windChain (n : State) : List (List Nat) :=
  ((List.range 8).filter (fun e => let v := n.o 0x4000 e; !(v == 0 || 8 ≤ v && v ≤ 128))).map (fun e => [pkey 0x4000 e])

/-- R126: what forbids the enable of target `t` in the resulting configuration, as the parameters read. -/
def enableFaults (s n : State) (t : Nat) : List (List Nat) :=
  let ten := n.o 0x3000 t
  let f := s.fn ten
  let push := n.o 0x3003 t == 1
  let addr := n.o 0x3001 t
  (if !f.ok then [[pkey 0x3000 t]] else [])
    ++ (if f.ok && !f.accepted.getLsbD (b2n push) then [[pkey 0x3000 t, pkey 0x3003 t]] else [])
    ++ (if addr == 0 || addr % 4 != 0 then [[pkey 0x3001 t]] else [])
    ++ (if push && f.ok && f.accepted.getLsbD 2 && addr % 16 != 0
        then [[pkey 0x3000 t, pkey 0x3001 t, pkey 0x3003 t]] else [])

/-- R126 at a wind. -/
def windEnable (s n : State) : List (List Nat) := (s.elems 0x3005 (· == 1)).flatMap (enableFaults s n)

/-- R127. -/
def windTarget (s : State) (chg : List Nat) : List (List Nat) :=
  (chg.filter (fun k => (k / 65536 == 0x3000 || k / 65536 == 0x3003 || k / 65536 == 0x3004)
    && (s.o 0x3005 (k % 65536) == 1 || 0 < s.held (k % 65536)))).map (fun k => [k])

/-- R131 for one group. -/
def windGroup (n : State) (g : Nat) : List (List Nat) :=
  let pol := n.o 0x3401 g
  let mk (m : Nat) : Nat := pkey 0x3403 (16 * g + m)
  if pol = 4 then
    let r := n.o 0x3406 g
    if 1152 ≤ r && r ≤ 4095 then [] else [[pkey 0x3401 g, pkey 0x3406 g]]
  else
    let ms := n.membersOf g
    (ms.filter (fun m => n.o 0x3000 m.2 != n.o 0x3400 g)).map
        (fun m => [pkey 0x3000 m.2, pkey 0x3400 g, pkey 0x3401 g, pkey 0x3402 g, mk m.1])
      ++ (ms.filter (fun m => ms.any (fun m' => m'.1 < m.1 && m'.2 == m.2))).map
        (fun m => [pkey 0x3401 g, pkey 0x3402 g, mk m.1]
          ++ (ms.filter (fun m' => m'.1 < m.1 && m'.2 == m.2)).map (fun m' => mk m'.1))

/-- R131. -/
def windGroups (n : State) : List (List Nat) :=
  (ascending (n.elems 0x3401 (· == 4) ++ n.elems 0x3402 (0 < ·))).flatMap (windGroup n)

/-- Table 05-6, ROUTE_GROUP. -/
def windRoute (n : State) : List (List Nat) :=
  let cands := if n.grpTen 0 = 0 then ascending (n.elems 0x2000 (fun _ => true) ++ n.elems 0x2002 (fun _ => true))
    else List.range 4096
  (cands.filter (fun m => n.srcTen m != n.grpTen (n.grpOf m))).map
    (fun m => [pkey 0x2000 m, pkey 0x2002 m, pkey 0x3400 (n.grpOf m)])

/-- The targets wound to an escapement. -/
def State.woundTo (s : State) (e : Nat) : List Nat := (List.range 1024).filter (fun t => s.o 0x3004 t == e)

/-- R152 for the pair of even escapement `p`. -/
def windPair (s n : State) (p : Nat) : List (List Nat) :=
  let tks (e : Nat) : List Nat := (n.woundTo e).map (pkey 0x3004)
  let couple :=
    if n.o 0x3800 p = 1 then
      (if (tks (p + 1)).isEmpty then [] else [pkey 0x3800 p :: tks (p + 1)])
        ++ (if s.o 0x3800 p = 0 && s.dlv.any (fun d => d.esc == p + 1) then [[pkey 0x3800 p]] else [])
    else []
  let x := n.o 0x3801 p
  let spare :=
    if x < 8 then
      (if x / 2 = p / 2 then [[pkey 0x3801 p]] else [])
        ++ (if n.o 0x3800 (x / 2 * 2) = 1 then [[pkey 0x3801 p, pkey 0x3800 (x / 2 * 2)]] else [])
        ++ (if (tks x).isEmpty then [] else [pkey 0x3801 p :: tks x])
    else []
  couple ++ spare

/-- R152. -/
def windPairs (s n : State) : List (List Nat) := [0, 2, 4, 6].flatMap (windPair s n)

/-- R194: the tenant holds FEATURES_OK or is being reset. -/
def State.tenLocked (s : State) (t : Nat) : Bool := t != 0 && ((s.fn t).ok || s.inReset t)

/-- R194. -/
def windOwners (s n : State) (chg : List Nat) : List (List Nat) :=
  (chg.filter (fun k => (k / 65536 == 0x2000 || k / 65536 == 0x3000 || k / 65536 == 0x3400)
    && (s.tenLocked (smGet dfltKey s.obj k) || s.tenLocked (smGet dfltKey n.obj k)))).map (fun k => [k])

/-- R414. -/
def windRing (n : State) : List (List Nat) :=
  if n.o 0x1700 0 % n.o 0x1701 0 = 0 then [] else [[pkey 0x1700 0, pkey 0x1701 0]]

/-- Table 09-6: each row's status and failing instances, from the state and the state with the values written. -/
def windRows (s n : State) (chg : List Nat) : List (Nat × List (List Nat)) :=
  [(6, windQuota n), (6, windChain n), (7, windEnable s n), (8, windTarget s chg), (6, windGroups n), (6, windRoute n),
   (8, windPairs s n), (8, windOwners s n chg), (6, windRing n)]

/-- The least of a list, 0 of none. -/
def least : List Nat → Nat
  | [] => 0
  | a :: t => t.foldl min a

/-- R218: what WIND_FAIL_AT names of a failing instance: the lowest draft involved, else the lowest parameter read. -/
def instKey (drafted ks : List Nat) : Nat :=
  let l := ks.filter drafted.contains
  least (if l.isEmpty then ks else l)

/-- R218: the first failing row's status and WIND_FAIL_AT. -/
def windVerdict (rows : List (Nat × List (List Nat))) (drafted : List Nat) : Option (Nat × Nat) :=
  (rows.find? (fun r => !r.2.isEmpty)).map (fun r => (r.1, least (r.2.map (instKey drafted))))

/-! ## The consequences of wound values (R219) -/

/-- R134, R135 for one source after a wind of its group's objects. (DEDUCED, log 42.) -/
def State.regroupSrc (g n : Nat) (s : State) : State :=
  let x := s.srcAt n
  let mem := (s.membersOf g).map (·.2)
  if x.grp != g then s
  else if x.st == .pending && s.policy g == 4 then (if x.target.isSome || x.bcast then s.select n else s)
  else if x.bcast then
    each (fun t s => if (s.srcAt n).members.any (fun m => m.tgt == t) then s.loseMember n t else s)
      ((x.members.map (·.tgt)).filter (fun t => !mem.contains t)) s
  else if x.st == .pending then
    match x.target with
    | some t => if mem.contains t then s else s.select n
    | none => if mem.any s.eligible then s.select n else s
  else s

/-- Group `g` was wound; `skip` are sources that the same wind reselects by R112. -/
def State.regroup (skip : List Nat) (g : Nat) (s : State) : State :=
  let s := if s.o 0x3402 g ≤ s.o 0x3408 g then s.setO 0x3408 g 0 else s
  each (fun (e : Nat × Source) s => if skip.contains e.1 then s else s.regroupSrc g e.1) s.src s

/-- R112: the priority or the route group of a PENDING source was wound: it is selected again; otherwise the new values count from
its next entry to PENDING. (DEDUCED, log 42.) -/
def State.rewound (n : Nat) (s : State) : State := if (s.srcAt n).st != .pending then s else s.select n

/-- A wind writes TGT_ESC: migrated targets return, and a spare that serves none is freed (R156). -/
def State.unmigrate (ts : List Nat) (s : State) : State :=
  let s := each (fun t s => s.setTgt t { s.tgtAt t with migratedTo := none }) ts s
  each (fun e s =>
    let x := s.escAt e
    if x.engagedFor.isSome && !s.tgt.any (fun t => t.2.migratedTo == some e) then s.setEsc e { x with engagedFor := none }
    else s) (List.range 8) s

/-- A new ring begins by a wind (2) or CHR_NEW_RING (3); its RING record is dropped while the chronograph is unavailable
(R410, R414). -/
def State.ringAnew (reason : Nat) (s : State) : State :=
  if s.chrAvail || !s.chr.trained then s.newRing reason
  else
    let s := s.newRing reason
    ({ s with chr := { s.chr with queue := s.chr.queue.drop 1, lost := s.chr.lost + 1 } }.bump 0x1721 0 1).dial 18 0

/-- Supply objects were wound (R347, R353). -/
def State.supplyWound (chg : List Nat) (s : State) : State :=
  let s := if chg.contains (pkey 0x1300 0) && s.o 0x1300 0 == 0 then s.feedDisabled else s
  let x := s.supply
  { s with supply := { x with
      feedHigh := x.feedHigh && s.o 0x1302 0 != 0, ibvLow := x.ibvLow && s.o 0x1303 0 != 0
      ibvHigh := x.ibvHigh && s.o 0x1304 0 != 0 } }

/-- PPS_MODE was wound: in FREE mode F and RATE_PPB are 0; in DISCIPLINE mode the next edge is the first (R163, R168). -/
def State.ppsWound (s : State) : State :=
  if s.o 0x1202 0 = 0 then (s.setO 0x1208 0 0).setO 0x1209 0 0
  else { s with time := { s.time with ppsFirst := true } }

/-- STEER_PERIOD was wound: the next boundary is the next multiple of it (R175). -/
def State.periodWound (s : State) : State :=
  let p := s.o 0x6001 0
  { s with time := { s.time with nextPeriod := (s.cnt.toNat / p + 1) * p } }

/-- A client entry was wound (R242, R248): its subscriptions are dropped; a changed ID or key starts a fresh window and an empty
cache. (DEDUCED, log 45.) -/
def State.clientWound (fresh : Bool) (c : Nat) (s : State) : State :=
  let x := smGet (fun _ => Client.init) s.port.clients c
  let x := if fresh then { x with high := none, cache := [] } else x
  { s with port := { s.port with clients := smSet (fun _ => Client.init) s.port.clients c { x with subs := [] } } }

/-- R233: MGMT_MODE was wound: auto-negotiation of the other kind begins, and the link is down until it ends. (DEDUCED, log 67.) -/
def State.modeWound (s : State) : State := { s with port := { s.port with link := false } }

/-- R234: IPV6_ADDR was wound: a new address, without a conflict yet, that duplicate address detection probes while the link is up.
(DESIGN CHOICE, log 146.) -/
def State.probe (idx : Nat) (s : State) : State :=
  let b := blobDec 16 (s.o idx 0)
  if s.port.up && s.port.link && b.length == 16 then s.emit (.dadProbe (beVal b)) else s

/-- R28: the filter of a wired source whose SENSE_MODE or GLITCH was wound restarts its count. -/
def State.senseWound (n : Nat) (s : State) : State := if 32 ≤ n ∧ n < 128 then s.filtRestart (n - 32) else s

/-- R384: MIRROR_EN changed: one final entry with state IDLE. (DEDUCED, log 44.) -/
def State.mirrorWound (n : Nat) (s : State) : State :=
  if s.hasFeat (s.srcTen n) 7 && s.tdm.lanes == 2 then s.queueMirror ⟨n, 0, false⟩ else s

/-- The values of a wind take effect: what each changed parameter's rule adds (R28, R84, R112, R119, R134, R135, R156,
R347, R353, R384, R410). `written` are the parameters written, changed or not.
(DEDUCED, log 101.) -/
def State.windApply (chg : List (Nat × Nat)) (s : State) : State :=
  let ks := s.changedKeys chg
  let els (i : Nat) : List Nat := elsOf i ks
  let moved := els 0x2000
  let gone := moved.filter s.mirrored
  let s := each State.resetSource moved s
  let s := s.withValues chg
  let s := each (fun n s => ({ s with tdm := { s.tdm with dirty := s.tdm.dirty.filter (· != n) } } : State).queueMirror ⟨n, 0, false⟩) gone s
  let rs := ascending (els 0x2001 ++ els 0x2002)
  let gs := ascending (els 0x3400 ++ els 0x3401 ++ els 0x3402 ++ (els 0x3403).map (· / 16))
  let s := each (State.regroup rs) gs s
  let s := each State.rewound rs s
  let s := each (fun n s => if s.o 0x2007 n = 0 then s.setSrc n { s.srcAt n with storm := none } else s) (els 0x2007) s
  let s := s.unmigrate (elsOf 0x3004 (chg.map (·.1)))
  let s := each (fun e s => if s.o 0x4000 e = 0 then s.disablePort e else s) (els 0x4000) s
  let s := if ks.contains (pkey 0x1700 0) || ks.contains (pkey 0x1701 0) then s.ringAnew 2 else s
  let s := s.supplyWound ks
  let s := if ks.contains (pkey 0x1202 0) then s.ppsWound else s
  let s := if ks.contains (pkey 0x6001 0) then s.periodWound else s
  let s := if ks.contains (pkey 0x1900 0) && s.o 0x1900 0 == 0 then s.linkSilent false else s
  let s := each State.mirrorWound (els 0x1910) s
  let fresh := els 0x1810 ++ els 0x1812
  let s := each (fun c s => s.clientWound (fresh.contains c) c) (ascending (fresh ++ els 0x1811 ++ els 0x1813)) s
  let s := if ks.contains (pkey 0x1805 0) then ({ s with port := { s.port with glConflict := false } } : State).probe 0x1805 else s
  let s := if ks.contains (pkey 0x1800 0) then s.modeWound else s
  each State.senseWound (ascending (elsOf 0x2004 ks ++ elsOf 0x2005 ks)) s

/-! ## The wind beat (R215–R220) -/

/-- A command that began the delay of object `idx` has completed: the delay runs from this beat (R281, R340, R354). -/
def State.delayFrom (idx : Nat) (s : State) : State :=
  match idx with
  | 0x1000 => { s with
      resetReq := s.resetReq.map (fun q => if s.now < q.due && q.cause == 7 then { q with due := s.now + 8000 } else q) }
  | 0x1400 => { s with quiet := { s.quiet with beginAt := s.quiet.beginAt.map (fun _ => s.now + 8000) } }
  | 0x150A => s.rebootFromHere
  | _ => s

/-- A window command completes (R225). -/
def State.winDone (fn : Nat) (s : State) : State :=
  let f := s.fn fn
  match f.win.busy with
  | none => s
  | some r =>
    let w := { f.win with busy := none, done := true, status := BitVec.ofNat 8 r.status, seq := r.seq, draftPresent := r.draft }
    let w := match r.value with
      | none => w
      | some v => { w with data := each (fun e m => smSet (fun _ => 0) m e.2 e.1) v.zipIdx [], len := BitVec.ofNat 9 v.length }
    let s := s.setFn fn { f with win := w }
    let s := s.delayFrom r.delays
    if w.irqEn then s.raiseVec fn 0 else s

/-- The Narind operation that waits for the scope's wind has its status (R226). -/
def State.nrWound (scope status : Nat) (s : State) : State :=
  { s with port := { s.port with job := s.port.job.map (fun j =>
      if j.pr = scope then { j with pend := j.pend.map (fun r => if r.wind then { r with wind := false, status := status } else r) }
      else j) } }

/-- The window or the Narind operation that waits for the scope's wind completes in this beat (R226). -/
def State.winWound (scope status : Nat) (s : State) : State :=
  let s := s.nrWound scope status
  let f := s.fn scope
  match f.win.busy with
  | some r =>
    if r.wind then (s.setFn scope { f with win := { f.win with busy := some { r with wind := false, status := status } } }).winDone scope
    else s
  | none => s

/-- R218: a refusal. -/
def State.windRefused (scope status at_ : Nat) (s : State) : State :=
  ((((s.setO 0xF011 scope (256 + status)).setO 0xF012 scope at_).bump 0xF015 scope 1).dial 6 scope).winWound scope 0x0C

/-- R220, R408: the epochs and the WIND record of a successful wind of `d` drafts. -/
def State.windCount (scope d : Nat) (s : State) : State :=
  let e := (s.o 0xF010 0 + 1) % 2 ^ 32
  (((s.setO 0xF010 0 e).setO 0xF014 scope e).setO 0xF011 scope 0).chrPut 7 none
    (leBytes 4 e ++ leBytes 1 scope ++ leBytes 2 d)

/-- The verdict of a wind on the state (R217). -/
def State.windJudge (s : State) (chg : List (Nat × Nat)) (drafted : List Nat) : Option (Nat × Nat) :=
  windVerdict (windRows s (s.withValues chg) (s.changedKeys chg)) drafted

/-- The wind being checked reaches its beat. (DESIGN CHOICE, log 19.) -/
def State.windBeat (s : State) : State :=
  match s.winds with
  | [] => s
  | w :: rest =>
    let chg := s.windChanges w
    match s.windJudge chg (w.snap.map (·.1)) with
    | some (st, at_) => ({ s with winds := rest } : State).windRefused w.scope st at_
    | none =>
      let gone := (w.snap.map (·.1)).filter (fun k => !w.rewritten.contains k)
      let s := s.windApply chg
      let s : State := { s with
        winds := rest
        drafts := s.drafts.filter (fun e => !(e.1 / 2 ^ 32 == w.scope && gone.contains (e.1 % 2 ^ 32)))
        marks := s.marks.filter (· != w.scope) }
      (s.windCount w.scope w.snap.length).winWound w.scope 0

/-- The wind being checked reaches its beat `b`: ahead of every other event of that beat (R219). -/
def State.windAt (b : Nat) (s : State) : State := (s.toBeat b).windBeat.hwRow.fwdWake.syncLive

end Sys2Proof.Machine
end

