-- ==== Sys2Proof/Machine/Dict.lean ====
section
/-! DEFINITION. Dictionary accesses (09 §09.1, §09.3): the checks of Table 09-4, the value rules, what immediate objects
and actions do, the dictionary window; and whether the device takes a memory request (R191, R203, R296, R360). -/

namespace Sys2Proof.Machine

open Sys2Proof

/-! ## Memory requests -/

/-- A read completed as Unsupported Request; of a function under tenant reset it is logged (R258). -/
def State.cplUr (fn : Nat) (s : State) : State :=
  let s := s.post (.cpl fn true [])
  if s.cfgServed && s.present fn then s.aerLog fn false else s

/-- R45: the oldest accepted doorbell's bytes are all in its buffer. (DEDUCED, log 34.) -/
def State.doorbellArrive (s : State) : State :=
  match s.doorbells with
  | [] => s
  | d :: rest => if s.asleep then s else ({ s with doorbells := rest } : State).ringSource d.src d.tag d.len d.keepFirst d.bytes

/-- R273: a request meets every doorbell received before it, which has arrived by then. (DEDUCED, log 34.) -/
def State.doorbellsLand (s : State) : State := times State.doorbellArrive s.doorbells.length s

/-- What a memory request of a function comes to once it is received: it is served; held while the device is quiet, which it wakes
(R360); or, before step 11, of an absent function or of one under tenant reset, completed UR if a read and dropped if a write.
(DEDUCED, log 93.) -/
def State.memServe (fn : Nat) (read : Bool) (i : Instr) (f : State → State) (s : State) : State :=
  if s.cfgServed && s.present fn && s.asleep then
    ({ s with quiet := { s.quiet with held := s.quiet.held ++ [i] } } : State).wake 3 0
  else if s.serves fn then f s
  else if read then s.cplUr fn
  else s

/-- Does the request leave the doorbells before it to arrive in their own time? A doorbell does. -/
def ringsOnly : Instr → Bool
  | .doorbellWrite .. => true
  | .registerWrite _ _ w => 0x100000 ≤ w.off && w.off < 0x180000
  | _ => false

/-- One memory request of a function. None reaches the device while the link cannot be up, and one that does shows it in L0.
(PRESUMED, log 77.) -/
def State.memReq (fn : Nat) (read : Bool) (i : Instr) (f : State → State) (s : State) : State :=
  if s.linkCan then
    let s := s.linkUp
    (if ringsOnly i then s else s.doorbellsLand).memServe fn read i f
  else s

/-! ## Checks 1 to 7 of Table 09-4 -/

/-- What an access asks: a window's GET, GET_DRAFT and SET, and Narind's SET and ACTION (R246). -/
inductive DOp where
  | get
  | draft
  | set
  | nrSet
  | action
  deriving DecidableEq, Repr

def DOp.reads (op : DOp) : Bool := op == .get || op == .draft

/-- Check 4: the principal is listed, a Tenant at its own element (R196, R230). -/
def State.listed (s : State) (pr el : Nat) (o : Obj) (reads : Bool) : Bool :=
  if pr = 0 then o.owner
  else (o.tenant == 2 || o.tenant == 1 && reads)
    && (match o.kind with
        | .ten => el == pr
        | .alarm => s.srcTen (16 + el) == pr
        | _ => true)

/-- Check 5: the class allows the operation (Table 09-3, R225, R246). -/
def classAllows (a : Acc) (op : DOp) : Bool :=
  match op with
  | .get => a != .woa
  | .draft => a == .rwd
  | .set => a != .ro
  | .nrSet => a == .rwd || a == .rwi
  | .action => a == .woa

/-- Check 6: the object's feature gate (R32, R149, R198). -/
def State.featureGate (s : State) (pr idx el : Nat) : Bool :=
  if idx = 0x3009 then s.hasFeat (s.tgtTen el) 11
  else if pr = 0 then true
  else if 0x1210 ≤ idx && idx ≤ 0x1213 then s.hasFeat pr 13
  else if idx = 0x1710 ∨ idx = 0x1711 then s.hasFeat pr 8
  else true

/-- Checks 1 to 7: the failing status, or the Owner element and its row. -/
def State.gate (s : State) (pr idx el : Nat) (op : DOp) : Except Nat (Nat × Obj) :=
  if pr != 0 && !s.hasFeat pr 9 && !(op == .get && idx ≤ 0xFF) then .error 7
  else if (objSegs idx).isEmpty then .error 1
  else match s.ownerEl pr idx el with
    | none => .error 2
    | some e => match objAt idx e with
      | none => .error 2
      | some o =>
        if !s.listed pr e o op.reads then .error 3
        else if !classAllows o.acc op then .error 4
        else if !s.featureGate pr idx e then .error 7
        else if regServed idx && s.fw.regState != 1 then .error 10
        else .ok (e, o)

/-! ## Checks 8 and 9 -/

/-- Check 8: the carried length (R209, R339). -/
def lengthOk (idx ty len : Nat) : Bool :=
  if idx = 0x1508 then len == 256
  else if ty = 12 then len ≤ 256
  else if ty = 11 then len ≤ 64
  else len == typeSize ty

/-- The length of a BLOB's number. -/
def blobLen (v : Nat) : Nat := (blobDec 256 v).length

def between (lo hi v : Nat) : Bool := lo ≤ v && v ≤ hi

/-- The value rules of areas 0x1000 to 0x16FF. -/
def valueLow (idx v : Nat) : Bool :=
  match idx with
  | 0x1000 => between 1 3 v
  | 0x1001 => v ≤ 1
  | 0x1002 => v ≤ 600000
  | 0x1004 => v ≤ 1
  | 0x1005 => between 800 80000000 v
  | 0x1006 => between 1 2 v
  | 0x1202 => v ≤ 1
  | 0x1203 => decide (-80000 ≤ toI32 v) && decide (toI32 v ≤ 80000)
  | 0x1205 => between 8 400000000 v
  | 0x1211 => v == 0 || 800 ≤ v
  | 0x1212 => v ≤ 1
  | 0x1300 => v == 0 || between 64 3583 v
  | 0x1301 => between 8 512 v
  | 0x1302 => v < 4096
  | 0x1303 => v < 4096
  | 0x1304 => v < 4096
  | 0x1305 => v ≤ 8000
  | 0x1306 => v ≤ 1600000
  | 0x1400 => v == 1
  | 0x1403 => between 800 8000000 v
  | 0x1404 => v ≤ 1
  | 0x1405 => v ≤ 31 || v == 255
  | 0x1504 => v ≤ 1
  | 0x1507 => v ≤ 2
  | 0x150A => between 1 2 v
  | _ => true

/-- The value rules of areas 0x1700 to 0x1FFF. -/
def State.valueMid (s : State) (idx v : Nat) : Bool :=
  match idx with
  | 0x1701 => [1, 2, 4, 8, 16, 32, 64, 128, 256, 512].contains v
  | 0x1702 => v ≤ s.slots
  | 0x1709 => v ≤ 127
  | 0x170A => v == 1
  | 0x170B => v == 1
  | 0x1800 => v ≤ 1
  | 0x1803 => between 1 32 v
  | 0x1805 => blobLen v == 0 || blobLen v == 16
  | 0x1806 => between 1 128 v
  | 0x1807 => blobLen v == 0 || blobLen v == 16
  | 0x1808 => 1024 ≤ v
  | 0x1811 => v ≤ 31
  | 0x1812 => blobLen v == 0 || blobLen v == 32
  | 0x1900 => v ≤ 1
  | 0x1901 => v ≤ 2
  | 0x1902 => between 8000 800000 v
  | 0x1903 => between 800000 80000000 v
  | 0x1904 => between 1 16 v
  | 0x1905 => v ≤ 1
  | 0x1906 => v == 1
  | 0x1907 => v == 1
  | 0x1910 => v ≤ 1
  | 0x1911 => v ≤ 4095 || v == 65535
  | _ => true

/-- The value rules of areas 0x2000 to 0x3FFF. -/
def State.valueHigh (s : State) (pr idx el v : Nat) : Bool :=
  match idx with
  | 0x2000 => v ≤ 31 && (16 ≤ el || v == 0)
  | 0x2002 => v < s.viewCount 0x3400 pr
  | 0x2003 => v ≤ 1
  | 0x2004 => v ≤ 4
  | 0x2005 => v ≤ 31
  | 0x2006 => v ≤ 1
  | 0x2008 => 800 ≤ v
  | 0x2009 => v ≤ 1
  | 0x200C => v ≤ 1
  | 0x3000 => v ≤ 31
  | 0x3003 => v ≤ 1
  | 0x3004 => v ≤ 7
  | 0x3005 => v ≤ 1
  | 0x3006 => v == 0 || 800 ≤ v
  | 0x3007 => between 1 16 v
  | 0x3008 => between 1 128 v
  | 0x3009 => v ≤ 1
  | 0x3400 => v ≤ 31
  | 0x3401 => v ≤ 4
  | 0x3402 => v ≤ 16
  | 0x3403 => v < s.viewCount 0x3000 pr
  | 0x3404 => 1 ≤ v
  | 0x3405 => v == 0 || 64 ≤ v
  | 0x3407 => v ≤ 7
  | 0x3800 => v ≤ 1
  | 0x3801 => v ≤ 7 || v == 255
  | _ => true

/-- The value rules of areas 0x4000 to 0xFFFF. -/
def valueTop (idx v : Nat) : Bool :=
  match idx with
  | 0x4001 => 2 ≤ v
  | 0x4004 => v ≤ 15 || v == 255
  | 0x4005 => v ≤ 1
  | 0x4006 => v ≤ 1
  | 0x4008 => v ≤ 1
  | 0x4009 => v ≤ 2
  | 0x5003 => between 1 2 v
  | 0x5020 => v ≤ 8192
  | 0x6000 => v ≤ 1
  | 0x6001 => between 8000 8000000 v && 800000000 % v == 0
  | 0x6002 => between 1 8 v
  | 0x6003 => between 1 256 v
  | 0x6004 => v ≤ 1
  | 0x6005 => 80000 ≤ v
  | 0xF000 => v == 1
  | 0xF001 => v == 1
  | 0xF002 => v == 1
  | 0xF003 => v == 1
  | 0xF008 => v == 1
  | 0xF009 => v == 1
  | _ => true

/-- Check 9: the value rule of the object's table. -/
def State.valueOk (s : State) (pr idx el v : Nat) : Bool :=
  if idx < 0x1700 then valueLow idx v
  else if idx < 0x2000 then s.valueMid idx v
  else if idx < 0x4000 then s.valueHigh pr idx el v
  else valueTop idx v

/-- The value stored: dense numbers become Owner numbers (R193), reserved bits 0 (R4). -/
def State.storeVal (s : State) (pr idx v : Nat) : Nat :=
  match idx with
  | 0x2002 => (s.fromView 0x3400 pr v).getD 0
  | 0x3403 => (s.fromView 0x3000 pr v).getD 0
  | 0x4003 => v % 8
  | 0x1813 => v % 4
  | 0x5000 => v % 2 ^ 14
  | _ => v

/-! ## Immediate objects and actions -/

/-- R124: ENABLE of a source. -/
def State.setEnable (n : Nat) (on : Bool) (s : State) : State :=
  if (s.o 0x2006 n == 1) == on then s
  else
    let s := s.setO 0x2006 n (b2n on)
    if (s.srcAt n).st == .pending || (s.srcAt n).bcast then s.rerank n else s

/-- R126, R128: TGT_ENABLE; its status. -/
def State.setTgtEnable (t : Nat) (on : Bool) (s : State) : Nat × State :=
  if (s.o 0x3005 t == 1) == on then (0, s)
  else if !on then (0, s.setO 0x3005 t 0)
  else if !(enableFaults s s t).isEmpty then (7, s)
  else
    let s := s.setO 0x3005 t 1
    (0, if s.eligible t then s.becameEligible t else s)

/-- R149, R187: TGT_QUARANTINE; on a coupled pair a mismatch puts the revocations off (R153). -/
def State.tgtQuarantine (b t : Nat) (mm : Bool) (s : State) : State :=
  if (s.tgtAt t).quarantined then s.setO 0x6012 t 1
  else
    let s := (s.row8.quarFlags t 1).leaveTarget t
    let e := s.servEsc t
    if mm && s.compares e && !(s.quarDlvs t).isEmpty then s.mismatch e (.targetQuarantine b t false) else s.quarRevoke t

/-- R35: a write of a running alarm takes effect on the next beat. -/
def State.alarmWrite (idx n v : Nat) (s : State) : State :=
  if s.o 0x1212 n == 1 then { s with nextObj := s.nextObj ++ [(pkey idx n, v)] } else s.setO idx n v

/-- R33: ALARM_ARM; arming takes effect on the next beat. -/
def State.alarmArm (n v : Nat) (s : State) : State :=
  if v = 1 then { s.setO 0x1213 n 0 with nextObj := s.nextObj ++ [(pkey 0x1212 n, 1)] } else s.setO 0x1212 n 0

/-- R91: PROG; its status. -/
def State.progSet (el v : Nat) (s : State) : Nat × State :=
  let e := s.engAt (el / 512)
  if (256 ≤ el % 512) == e.bank || e.swapPending then (9, s) else (0, s.setProg el (BitVec.ofNat 32 v))

/-- R400: FAULT_CLEAR, before the faults of its beat; its status. -/
def State.faultClear (v : Nat) (s : State) : Nat × State :=
  let hit (r : Option FaultRec) : Bool := match r with | some r => v != 0 && r.seq.toNat == v | none => false
  let f := s.faultBase
  let a := hit f.first
  let c := hit f.worst
  if !a && !c then (6, s)
  else (0, s.faultSlots { f with
    first := if a then none else f.first, multi := f.multi && !a, worst := if c then none else f.worst })

/-- The level of RESET_REQ and of the Narind RESET. -/
def reqLevel (v : Nat) : Level := if v = 1 then .l2c else if v = 2 then .l2w else .l3

/-- The engine an engine object's element belongs to. -/
def engineOf (idx el : Nat) : Nat := if idx = 0x4100 then el / 512 else if idx = 0x4014 then el / 4 else if idx = 0x4015 then el / 16 else el

/-- R292: the engine is in the reset phase of its block reset. -/
def State.engRefused (s : State) (idx el : Nat) : Bool :=
  0x4000 ≤ idx && idx ≤ 0x4FFF && s.blkAt (0x10 + engineOf idx el) == some .resetting

/-- Immediate objects and actions of areas 0x1000 to 0x1FFF; their status. `mm`: a coupled pair's results differ (R153), a pair frame
collides (R378), a page program fails (R324). -/
def State.actLow (idx el v : Nat) (mm : Bool) (s : State) : Nat × State :=
  match idx with
  | 0x1000 => (0, s.requestReset (reqLevel v) 7 8000)
  | 0x1002 => (0, s.wdogArm v)
  | 0x1003 => (0, s.wdogKick)
  | 0x1006 => (0, s.blkRequest el (v == 2) mm)
  | 0x1201 => (0, s.loadCounter 1 (BitVec.ofNat 64 v))
  | 0x1210 => (0, s.alarmWrite 0x1210 el v)
  | 0x1211 => (0, s.alarmWrite 0x1211 el v)
  | 0x1212 => (0, s.alarmArm el v)
  | 0x1400 => if s.quietBlocked then (8, s) else (0, s.quietSchedule false)
  | 0x1505 => if s.fw.rolledBack then (8, s) else (0, s.confirm)
  | 0x1506 => if s.onTrial then (0, s.rollBackNow 2 false) else (8, s)
  | 0x1507 => s.stageSet v
  | 0x1508 => s.stageData el (blobDec 256 v) mm
  | 0x150A => s.activate v
  | 0x1601 => s.faultClear v
  | 0x1706 => if s.readSeqOk (BitVec.ofNat 32 v) then (0, s.setReadSeq (BitVec.ofNat 32 v)) else (6, s)
  | 0x170A => (0, s.ringAnew 3)
  | 0x170B => (0, s.chrFlush)
  | 0x170C => (0, s.chrPut 0x0A none (leBytes 8 v))
  | 0x1710 => (0, s.setCursor el v)
  | 0x1906 => if s.tdm.promoted then (8, s) else (0, s.promote)
  | 0x1907 => (0, s.tandemWake mm)
  | _ => (0, s.setO idx el v)

/-- Immediate objects and actions of areas 0x2000 to 0xFFFF; their status; `mm` as in `actLow`. -/
def State.actHigh (pr idx el v : Nat) (mm : Bool) (s : State) : Nat × State :=
  match idx with
  | 0x2006 => (0, s.setEnable el (v == 1))
  | 0x2009 => (0, if v = 1 then s.quarantine el 1 else s.release el 1)
  | 0x3005 => s.setTgtEnable el (v == 1)
  | 0x3009 => (0, if v = 1 then s.tgtQuarantine s.now el mm else s.unquarantine el 1)
  | 0x4008 => (0, if v = 1 then s.engStart el else s.engStop el)
  | 0x4009 => (0, if v = 0 then s.engSwapCancel el else if v = 1 then s.engSwapReq el else s.engSwapForce el)
  | 0x400A => (0, s.engBell el (BitVec.ofNat 32 v))
  | 0x4100 => s.progSet el v
  | 0x5003 => (0, s.tenantReset el (v == 2))
  | 0xF000 => s.windRequest pr
  | 0xF001 => s.draftDiscard pr
  | 0xF002 => s.draftDefaults pr
  | 0xF003 => s.saveSettings
  | 0xF008 => (0, s.setPending el)
  | 0xF009 => (0, s.clearPending el)
  | _ => (0, s.setO idx el v)

/-! ## One access -/

/-- What an access answers: its status, the value of a read in the bytes of its type, whether a draft was found, and
whether it completes with a wind (R226). -/
structure Ans where
  status : Nat
  value : Option (List Byte)
  draft : Bool
  wind : Bool
  deriving DecidableEq, Repr

/-- An access that answers a status alone. -/
def Ans.of (st : Nat) : Ans := ⟨st, none, false, false⟩

/-- A served read: the value, or the scope's draft of it; NR_KEY reads empty (R238). -/
def State.readAns (s : State) (pr idx e ty : Nat) (draft : Bool) : Ans :=
  let d := if draft then s.draftAt pr (pkey idx e) else none
  let v := if idx = 0x1812 then 1 else match d with
    | some v => s.viewVal pr idx v
    | none => s.readVal pr idx e
  ⟨0, some (valBytes ty v), d.isSome, false⟩

/-- R211: a write or an action that has passed checks 1 to 7. -/
def State.writeAns (pr idx e : Nat) (o : Obj) (len v : Nat) (mm : Bool) (s : State) : Ans × State :=
  if !lengthOk idx o.ty len then (.of 5, s)
  else if !s.valueOk pr idx e v then (.of 6, s)
  else if o.acc == .rwd && !s.draftRoom pr (pkey idx e) then (.of 11, s)
  else if s.engRefused idx e then (.of 8, s)
  else if o.acc == .rwd then (.of 0, s.setDraft pr (pkey idx e) (s.storeVal pr idx v))
  else
    let (st, s) := if idx < 0x2000 then s.actLow idx e v mm else s.actHigh pr idx e v mm
    ({ Ans.of st with wind := idx == 0xF000 && st == 0 }, s)

/-- R211: one access by a principal, with the length and the value it carries. (DEDUCED, log 48.) -/
def State.access (pr idx el : Nat) (op : DOp) (len v : Nat) (mm : Bool) (s : State) : Ans × State :=
  match s.gate pr idx el op with
  | .error st => (.of st, s)
  | .ok (e, o) =>
    if op.reads then (if s.engRefused idx e then .of 8 else s.readAns pr idx e o.ty (op == .draft), s)
    else s.writeAns pr idx e o len v mm

/-! ## The dictionary window (R224–R227) -/

/-- The type code of an index (0 if absent). -/
def typeOf (idx : Nat) : Nat := match objSegs idx with | [] => 0 | o :: _ => o.ty

/-- The object whose delay, which runs from the command's completion, an access of `idx` has begun between two states (R281, R340,
R354); 0: none. -/
def State.delayBegun (s t : State) (idx : Nat) : Nat :=
  if idx = 0x1000 ∧ s.resetReq ≠ t.resetReq ∨ idx = 0x1400 ∧ s.quiet.beginAt ≠ t.quiet.beginAt
    ∨ idx = 0x150A ∧ s.fw.rebootAt ≠ t.fw.rebootAt then idx else 0

/-- What a window's command carries: the length and the value, little-endian from DICT_DATA; a BLOB as `blobEnc`. -/
def Window.carried (w : Window) (idx : Nat) : Nat × Nat :=
  let ty := typeOf idx
  let n := if ty = 11 ∨ ty = 12 then w.len.toNat else typeSize ty
  let bs := (List.range (min n 256)).map (fun i => smGet (fun _ => (0 : Byte)) w.data i)
  (n, if ty = 11 ∨ ty = 12 then blobEnc bs else leVal bs)

/-- A DICT_CMD write: `op` none for an undefined operation; `mm` as in `actLow`. (DEDUCED, log 123.) -/
def State.dictCmd (op : Option DOp) (fn : Nat) (seq : Byte) (mm : Bool) (s : State) : State :=
  let f := s.fn fn
  if s.now < s.start.dictBarUntil then s
  else if f.win.busy.isSome then s.setFn fn { f with win := { f.win with collided := true } }
  else
    let idx := f.win.addr.toNat / 65536
    let el := f.win.addr.toNat % 65536
    let (len, v) := f.win.carried idx
    let s := s.setFn fn { f with win := { f.win with done := false, collided := false, draftPresent := false } }
    let (a, t) := match op with
      | none => (Ans.of 4, s)
      | some op => s.access fn idx el op len v mm
    let f := t.fn fn
    if t.resetting fn then t
    else t.setFn fn { f with win := { f.win with
      busy := some ⟨a.status, a.value, a.draft, seq, a.wind, regServed idx && op.isSome, s.delayBegun t idx⟩ } }

/-- DICT_DONE: the command's completion, unless it waits for its wind. (DEDUCED, log 48.) -/
def State.dictDone (fn : Nat) (s : State) : State :=
  match (s.fn fn).win.busy with
  | some r => if r.wind then s else s.winDone fn
  | none => s

/-! ## Operations named by rows of their own -/

/-- The dictionary is served: after step 11, and after the 1,600 beats of R289. -/
def State.dictOpen (s : State) : Bool := (11 ≤ s.start.step || s.start.level == .l3) && s.start.dictBarUntil ≤ s.now

/-- One operation as such, its status answered; QUIET while the device is quiet (R252).
(DEDUCED, log 46.) -/
def State.dictRow (pr idx el len v : Nat) (mm : Bool) (s : State) : State :=
  if !s.dictOpen then s
  else if s.asleep then s.answer 0x11
  else
    let (a, s) := s.access pr idx el .set len v mm
    s.answer a.status

/-- R263: WIND of a function's global page; a request that starts nothing shows its status in WIND_STATUS.
(DEDUCED, log 47.) -/
def State.pageWind (fn : Nat) (s : State) : State :=
  if s.now < s.start.dictBarUntil then s
  else if fn != 0 && !s.hasFeat fn 9 then s.setO 0xF011 fn 7
  else
    let (st, s) := s.windRequest fn
    if st = 0 then s else s.setO 0xF011 fn st

end Sys2Proof.Machine
end

