-- ==== Sys2Proof/Machine/Narind.lean ====
section
/-! DEFINITION. Narind and the management port (10): frames, clients, the reply cache, operations, subscriptions and
reports, the last-gasp frame, ARP, NDP and echo. -/

namespace Sys2Proof.Machine

open Sys2Proof

/-! ## Addresses and the port (R233–R236) -/

/-- An address of a sender, as the operands write it: port in [15:0], IPv4 address in [47:16]; an IPv6 address in [143:16]
with bit 144 set. (DESIGN CHOICE, log 66.) -/
def addrV6 (addr : Nat) : Bool := 2 ^ 144 ≤ addr
/-- (DESIGN CHOICE, log 66.) -/
def addrIp (addr : Nat) : Nat := addr / 2 ^ 16 % 2 ^ 128
/-- (DESIGN CHOICE, log 66.) -/
def addrOk (addr : Nat) : Bool := decide (addr < 2 ^ 48) || (decide (2 ^ 144 ≤ addr) && decide (addr < 2 ^ 145))

/-- R235: the port's IPv6 link-local address, from its MAC address. -/
def State.linkLocal (s : State) : Nat :=
  let m := (s.shadow.extractLsb' 16 48).toNat
  0xFE80 * 2 ^ 112 + (m / 2 ^ 24 ^^^ 0x020000) * 2 ^ 40 + 0xFFFE * 2 ^ 24 + m % 2 ^ 24

/-- The configured global IPv6 address; none for a length of 0. -/
def State.globalV6 (s : State) (idx : Nat) : Option Nat :=
  let b := blobDec 16 (s.o idx 0)
  if b.length = 16 then some (beVal b) else none

/-- The UDP port of an address. -/
def addrPort (addr : Nat) : Nat := addr % 2 ^ 16
/-- An address of a family. (DESIGN CHOICE, log 66.) -/
def mkAddr (v6 : Bool) (ip port : Nat) : Nat := port + ip * 2 ^ 16 + if v6 then 2 ^ 144 else 0

/-- The port has its link and is in service (R292). -/
def State.portLive (s : State) : Bool := s.port.up && s.port.link && s.blkAt 0x21 != some .resetting

/-- R235: the addresses of a family that the port uses: those given to it, without a conflict. -/
def State.ownIps (s : State) (v6 : Bool) : List Nat :=
  if v6 then
    (if s.port.llConflict then [] else [s.linkLocal]) ++ (if s.port.glConflict then [] else (s.globalV6 0x1805).toList)
  else if s.o 0x1802 0 = 0 then [] else [s.o 0x1802 0]

/-- R234: a packet from `addr` to `dst` is addressed to the port. (DEDUCED, log 65.) -/
def State.nrOn (s : State) (addr dst : Nat) : Bool :=
  s.portLive && addrV6 addr == addrV6 dst && (s.ownIps (addrV6 dst)).contains (addrIp dst)

/-- R235, R236: the address and port that the device sends from of its own accord: in IPv6 the global address, but to a link-local
destination or for want of one the link-local address. (DEDUCED, log 63.) -/
def State.srcFor (s : State) (addr : Nat) : Option Nat :=
  let ips := s.ownIps (addrV6 addr)
  (if addrV6 addr && addrIp addr / 2 ^ 118 == 0x3FA then ips.head? else ips.getLast?).map
    (fun ip => mkAddr (addrV6 addr) ip (s.o 0x1808 0))

/-- R235: the next hop of a destination: itself on its prefix, else the gateway of its family, if one is configured. -/
def State.hopOf (s : State) (addr : Nat) : Option Nat :=
  let ip := addrIp addr
  let near (own len w : Nat) : Bool := own / 2 ^ (w - len) == ip / 2 ^ (w - len)
  if addrV6 addr then
    if ip / 2 ^ 118 == 0x3FA || ((s.globalV6 0x1805).toList.any (fun a => !s.port.glConflict && near a (s.o 0x1806 0) 128))
    then some ip else s.globalV6 0x1807
  else if near (s.o 0x1802 0) (s.o 0x1803 0) 32 then some ip
  else if s.o 0x1804 0 = 0 then none else some (s.o 0x1804 0)

/-- Where a resolved address is kept: IPv6 addresses above 2^128. -/
def hopKey (v6 : Bool) (ip : Nat) : Nat := ip + if v6 then 2 ^ 128 else 0

/-- Send to an address by its next hop, which is asked for first while it is not resolved (R234, R235); a destination without a
next hop is not reached. (DEDUCED, log 63.) -/
def State.viaHop (addr : Nat) (mk : Nat → Out) (s : State) : State :=
  match s.hopOf addr with
  | none => s
  | some h =>
    let v6 := addrV6 addr
    let s := if (smGet (fun _ => none) s.port.arp (hopKey v6 h)).isSome then s
      else s.emit (if v6 then .ndSolicit h else .arpRequest h)
    s.emit (mk h)

/-- R236: a datagram from one of the device's addresses. -/
def State.sendUdp (src addr : Nat) (frame : List Byte) (s : State) : State :=
  if s.portLive then s.viaHop addr (fun h => .udp src addr h frame) else s

/-- The largest body of a frame to an address (R239). (DEDUCED, log 56.) -/
def bodyMax (addr : Nat) : Nat := if addrV6 addr then 1412 else 1432

/-! ## Frames (R237–R239) -/

/-- `n` bytes at `lo`, most significant first (R7). -/
def beAt (lo n : Nat) (f : List Byte) : Nat := beVal ((f.drop lo).take n)

/-- The first 16 bytes of the HMAC (R238). -/
def nrTag (key f : List Byte) : List Byte := (hmac256 key f).take 16

/-- A frame the device sends: header (Table 10-3), body, trailer. -/
def nrFrame (key : List Byte) (client op count seq session status : Nat) (body : List Byte) : List Byte :=
  let f := beBytes 2 0x4E52 ++ [1, 0] ++ beBytes 2 client ++ [BitVec.ofNat 8 op, BitVec.ofNat 8 count] ++ beBytes 4 seq
    ++ beBytes 4 session ++ beBytes 2 body.length ++ [BitVec.ofNat 8 status, 0, 0, 0, 0, 0] ++ body
  f ++ nrTag key f

/-- Bytes of a value with its pad (R237). -/
def padded (n : Nat) : Nat := (n + 3) / 4 * 4

/-- A result record (Table 10-4). -/
def nrRec (op st idx el : Nat) (v : List Byte) : List Byte :=
  [BitVec.ofNat 8 op, BitVec.ofNat 8 st] ++ beBytes 2 v.length ++ beBytes 2 idx ++ beBytes 2 el ++ v
    ++ List.replicate (padded v.length - v.length) 0

/-- The first `count` operations of a body and the bytes after them; none where they do not fit.
(DEDUCED, log 55.) -/
def nrParse : Nat → List Byte → Option (List NrOp × List Byte)
  | 0, l => some ([], l)
  | n + 1, l =>
    let len := beAt 2 2 l
    let whole := 8 + padded len
    if l.length < whole then none
    else
      let v := (l.drop 8).take len
      let pad := ((l.drop (8 + len)).take (padded len - len)).all (· == 0)
      match nrParse n (l.drop whole) with
      | none => none
      | some (ops, rest) => some (⟨beAt 0 1 l, beAt 4 2 l, beAt 6 2 l, v, (l.drop 1).head? == some 0 && pad⟩ :: ops, rest)

/-- The most value bytes a GET of an object returns (R247). -/
def readMax (idx : Nat) : Nat := let ty := typeOf idx; if ty = 11 then 64 else if ty = 12 then 256 else typeSize ty

/-- The bound of a reply's body (R247). -/
def replyBound : List NrOp → Nat
  | [] => 0
  | o :: t => 8 + (if o.op = 1 ∨ o.op = 6 then padded (readMax o.idx) else 0) + replyBound t

/-! ## Clients (R240, R242) -/

def State.client (s : State) (c : Nat) : Client := smGet (fun _ => Client.init) s.port.clients c
def State.setClient (c : Nat) (x : Client) (s : State) : State :=
  { s with port := { s.port with clients := smSet (fun _ => Client.init) s.port.clients c x } }

/-- NR_KEY of an entry. -/
def State.nrKey (s : State) (c : Nat) : List Byte := blobDec 32 (s.o 0x1812 c)

/-- Step 2: the used entry of a client ID with a 32-byte key. (DEDUCED, log 60.) -/
def State.nrEntry (s : State) (id : Nat) : Option Nat :=
  if id = 0 then none else (List.range 16).find? (fun c => s.o 0x1810 c == id && (s.nrKey c).length == 32)

/-- R242: `q` is newer than H. -/
def Client.newer (x : Client) (q : Dw) : Bool :=
  match x.high with
  | none => true
  | some h => let d := (q - h).toNat; 1 ≤ d && d < 2 ^ 31

/-- A frame to a client entry, signed with its key. (DEDUCED, log 69.) -/
def State.nrSend (c src addr op count seq status : Nat) (body : List Byte) (s : State) : State :=
  s.sendUdp src addr (nrFrame (s.nrKey c) (s.o 0x1810 c) op count seq s.port.session.toNat status body)

/-- A frame that answers none: from the device's own address, if it has one. -/
def State.nrTell (c addr op count seq : Nat) (body : List Byte) (s : State) : State :=
  match s.srcFor addr with
  | none => s
  | some src => s.nrSend c src addr op count seq 0 body

/-- A refusal: a reply of a non-zero frame status, counted in NR_REFUSED. (DEDUCED, log 54, 59.) -/
def State.nrRefuse (i : NrIn) (status : Nat) (s : State) : State :=
  (s.nrSend i.client i.dst i.addr ((beAt 6 1 i.bytes ||| 0x80) % 256) 0 (beAt 8 4 i.bytes) status []).bump 0x1823 0 1

/-! ## Operations (R245–R249, R252) -/

/-- R252: an operation the device executes while quiet. -/
def quietServed (op idx : Nat) : Bool :=
  (op == 1 || op == 6) && !(objSegs idx).isEmpty && !regServed idx
    && (idx / 256 == 0 || idx / 256 == 0x10 || idx / 256 == 0x13 || idx / 256 == 0x14)

/-- A value in the byte order of the path (R208). -/
def wire (idx : Nat) (v : List Byte) : List Byte := let ty := typeOf idx; if ty = 11 ∨ ty = 12 then v else v.reverse

/-- GET and GET_DRAFT: the status and the value. -/
def State.nrRead (s : State) (c idx el : Nat) (op : DOp) : Nat × List Byte :=
  let a := (s.access (s.o 0x1811 c) idx el op 0 0 false).1
  (a.status, (a.value.map (wire idx)).getD [])

/-- Subscriptions of a client to other parameters than this one. -/
def otherSubs (idx el : Nat) (l : List Sub) : List Sub := l.filter (fun b => !(b.idx == idx && b.el == el))

/-- SUBSCRIBE: its status. -/
def State.nrSubscribe (c addr idx el : Nat) (v : List Byte) (s : State) : Nat × State :=
  let st := (s.access (s.o 0x1811 c) idx el .get 0 0 false).1.status
  if st ≠ 0 then (st, s)
  else
    let w := beVal v
    let iv := field w 0 16
    let oc := bitOf w 16
    if v.length ≠ 4 then (5, s)
    else if 6000 < iv || (iv == 0 && !oc) then (6, s)
    else
      let x := s.client c
      let rest := otherSubs idx el x.subs
      let all := ((List.range 16).map (fun k => if k = c then rest.length else (s.client k).subs.length)).sum
      if 16 ≤ rest.length || 64 ≤ all then (0x12, s)
      else (0, s.setClient c { x with subAddr := addr, subs := rest ++ [⟨idx, el, iv, oc, 0, none⟩] })

/-- SET and ACTION: what the operation completes with. -/
def State.nrWrite (c idx el : Nat) (op : DOp) (v : List Byte) (s : State) : WinResult × State :=
  let ty := typeOf idx
  let (a, t) := s.access (s.o 0x1811 c) idx el op v.length (if ty = 11 ∨ ty = 12 then blobEnc v else beVal v) false
  (⟨a.status, none, false, 0, a.wind, regServed idx, s.delayBegun t idx⟩, t)

/-- What an operation that ends at once completes with. -/
def nrNow (st : Nat) (v : Option (List Byte)) (reg : Bool) : WinResult := ⟨st, v, false, 0, false, reg, 0⟩

/-- One operation by a client, applied: what it completes with. (DEDUCED, log 57.) -/
def State.nrOp (c addr : Nat) (o : NrOp) (s : State) : WinResult × State :=
  if s.asleep && !quietServed o.op o.idx then (nrNow 0x11 none false, s)
  else match o.op with
    | 1 => let (st, v) := s.nrRead c o.idx o.el .get; (nrNow st (some v) (regServed o.idx), s)
    | 2 => s.nrWrite c o.idx o.el .nrSet o.val
    | 3 => s.nrWrite c o.idx o.el .action o.val
    | 4 => let (st, s) := s.nrSubscribe c addr o.idx o.el o.val; (nrNow st none false, s)
    | 5 => (nrNow 0 none false, s.setClient c { s.client c with subs := otherSubs o.idx o.el (s.client c).subs })
    | 6 => let (st, v) := s.nrRead c o.idx o.el .draft; (nrNow st (some v) (regServed o.idx), s)
    | _ => (nrNow 0x13 none false, s)

/-! ## A REQUEST in progress (R245, R246) -/

def State.setJob (j : Option NrJob) (s : State) : State := { s with port := { s.port with job := j } }

/-- STOP_ON_ERROR of what was taken in. -/
def NrIn.stops (i : NrIn) : Bool := !i.row && (beAt 3 1 i.bytes).testBit 0

/-- An executed request (R242, R243): H, the cached reply, the reply sent. -/
def State.nrDone (i : NrIn) (op count : Nat) (body : List Byte) (s : State) : State :=
  let c := i.client
  let seq := BitVec.ofNat 32 (beAt 8 4 i.bytes)
  let x := s.client c
  let r := nrFrame (s.nrKey c) (s.o 0x1810 c) op count seq.toNat s.port.session.toNat 0 body
  (s.setClient c { x with high := some seq, cache := ((seq, r) :: x.cache).take 8 }).sendUdp i.dst i.addr r

/-- The next operation is applied, in a beat of its own (R40); one that the Regulator serves completes within R226's bound.
(DEDUCED, log 2.) (DESIGN CHOICE, log 49.) -/
def State.nrStart (j : NrJob) (o : NrOp) (s : State) : State :=
  let s := s.upToReq s.now
  let (r, s) := s.nrOp j.src.client j.src.addr o
  let (k, s) := if r.reg then s.draw else (0, s)
  if s.port.job.isNone then s
  else s.setJob (some { j with pend := some r, due := s.now + if r.reg then Config.freeServe k % 800000 else 0 })

/-- The operation applied completes: its result record, and the delay that runs from here. -/
def State.nrFinish (j : NrJob) (r : WinResult) (s : State) : State :=
  match j.ops with
  | [] => s
  | o :: t =>
    let s := (s.delayFrom r.delays).setJob (some { j with
      ops := t, recs := j.recs ++ [nrRec o.op r.status o.idx o.el (r.value.getD [])]
      halted := j.halted || (j.src.stops && r.status != 0), pend := none
      later := if r.delays = 0x1400 ∨ r.delays = 0x150A then r.delays :: j.later else j.later })
    if j.src.row then s.answer r.status else s

/-- Every operation has completed: the reply leaves, or the result record of a row of its own. -/
def State.nrReply (j : NrJob) (s : State) : State :=
  let s := s.setJob none
  let s := if j.src.row then s.emit (.nrRecord j.src.client j.recs.flatten)
    else s.nrDone j.src 0x81 j.recs.length j.recs.flatten
  each State.delayFrom j.later s

/-- The REQUEST in progress goes on by one operation, or by the end of one. -/
def State.nrWork (j : NrJob) (s : State) : State :=
  match j.pend, j.ops with
  | some r, _ => s.nrFinish j (if r.wind then { r with wind := false, status := 0x0C } else r)
  | none, [] => s.nrReply j
  | none, o :: t =>
    if j.halted then s.setJob (some { j with ops := t, recs := j.recs ++ [nrRec o.op 0x10 o.idx o.el []] })
    else s.nrStart j o

/-- A REQUEST begins. -/
def State.nrBegin (i : NrIn) (ops : List NrOp) (s : State) : State :=
  s.setJob (some ⟨i, s.o 0x1811 i.client, ops, false, [], none, s.now, []⟩)

/-! ## One frame (Table 10-5) -/

/-- Step 12 for a REQUEST: the operations fill the body and every reserved and pad byte is 0.
(DEDUCED, log 55.) -/
def requestClean (f : List Byte) (ops : List NrOp) (rest : List Byte) : Bool :=
  rest.isEmpty && ops.all (·.clean) && ((f.drop 19).take 5).all (· == 0)

/-- Steps 11 to 13 of a REQUEST, whose execution then begins. -/
def State.nrRequest (i : NrIn) (s : State) : State :=
  let f := i.bytes
  match nrParse (beAt 7 1 f) ((f.drop 24).take (f.length - 40)) with
  | none => s.nrRefuse i 3
  | some (ops, rest) =>
    if !requestClean f ops rest then s.nrRefuse i 2
    else if bodyMax i.addr < replyBound ops then s.nrRefuse i 6
    else s.nrBegin i ops

/-- Steps 12 and 14 of a RESET, and its execution (R244). (DEDUCED, log 59.) -/
def State.nrReset (i : NrIn) (s : State) : State :=
  let f := i.bytes
  let w := beAt 24 4 f
  if beAt 7 1 f ≠ 0 ∨ f.length ≠ 44 ∨ w < 1 ∨ 3 < w then s.nrRefuse i 2
  else if s.o 0x1811 i.client ≠ 0 ∨ !bitOf (s.o 0x1813 i.client) 1 then s.nrRefuse i 8
  else (s.nrDone i 0x84 0 []).requestReset (reqLevel w) 8 8000

/-- PING and WAKE past step 11: the session answered; a WAKE is cached and wakes a quiet device.
(DEDUCED, log 59.) -/
def State.nrPing (i : NrIn) (s : State) : State :=
  let f := i.bytes
  let body := beBytes 4 s.port.session.toNat
  if beAt 7 1 f ≠ 0 ∨ f.length ≠ 40 then s.nrRefuse i 2
  else if beAt 6 1 f = 2 then s.nrSend i.client i.dst i.addr 0x82 0 (beAt 8 4 f) 0 body
  else
    let s := s.nrDone i 0x83 0 body
    if s.o 0x1811 i.client = 0 then s.wake 1 0 else s

/-- Steps 10 to 14, and the frame's execution. (DEDUCED, log 56.) -/
def State.nrExecute (i : NrIn) (s : State) : State :=
  let f := i.bytes
  if beAt 16 2 f + 40 ≠ f.length ∨ bodyMax i.addr + 40 < f.length then s.nrRefuse i 2
  else match beAt 6 1 f with
    | 1 => s.nrRequest i
    | 4 => s.nrReset i
    | _ => s.nrPing i

/-- R252: in Quiet mode, the frame is of the quiet subset. -/
def State.quietFrame (s : State) (c op : Nat) : Bool :=
  !s.asleep || op == 1 || op == 2 || (op == 3 && s.o 0x1811 c == 0)

/-- Steps 5 to 9 of a frame from the input queue. (DEDUCED, log 58.) -/
def State.nrHandle (i : NrIn) (s : State) : State :=
  let f := i.bytes
  let op := beAt 6 1 f
  let q := BitVec.ofNat 32 (beAt 8 4 f)
  let x := s.client i.client
  if beAt 2 1 f ≠ 1 then s.nrRefuse i 1
  else if op = 0 ∨ 4 < op then s.nrRefuse i 9
  else if !s.quietFrame i.client op then s.nrRefuse i 7
  else if op = 2 then s.nrExecute i
  else if beAt 12 4 f ≠ s.port.session.toNat then s.nrRefuse i 5
  else if x.newer q then s.nrExecute i
  else match x.cache.find? (fun e => e.1 == q) with
    | some e => (s.sendUdp i.dst i.addr e.2).bump 0x1822 0 1
    | none => s.nrRefuse i 4

/-- What the port took in comes to its turn: a frame, or the operation of a row. -/
def State.nrTake (i : NrIn) (s : State) : State :=
  if i.row then s.nrBegin i ((nrParse 1 i.bytes).elim [] (·.1)) else s.nrHandle i

/-- Something can be done now: the REQUEST in progress goes on (a wind it waits for ends with the wind, R226), or a frame's turn
has come; not in the 1,600 beats of R289. (DEDUCED, log 50.) -/
def State.nrReady (s : State) : Bool :=
  s.start.dictBarUntil ≤ s.now && (match s.port.job with
    | some j => (match j.pend with
        | some r => if r.wind then !s.winding j.pr else j.due ≤ s.now
        | none => true)
    | none => !s.port.queue.isEmpty)

/-- One step of the port's work. -/
def State.nrStep (s : State) : State :=
  match s.port.job, s.port.queue with
  | some j, _ => s.nrWork j
  | none, [] => s
  | none, i :: rest => ({ s with port := { s.port with queue := rest } } : State).nrTake i

/-- At most `fuel` steps of the port's work, as long as there is some. -/
def nrRun : Nat → State → State
  | 0, s => s
  | f + 1, s => if s.nrReady then nrRun f s.nrStep else s

/-- R245, R289: the queued frames are handled one at a time, in arrival order, until one has to wait. A frame takes 2 steps for
each of at most 255 operations and 2 of its own. (DEDUCED, log 28.) (DESIGN CHOICE, log 49.) -/
def State.nrDrain (s : State) : State := nrRun (17 * 512) s

/-- The beat before `b` at which the operation in progress completes, if time has to stop there. -/
def State.nrDue (s : State) (b : Nat) : Option Nat :=
  match s.port.job with
  | some j => if j.pend.any (fun r => !r.wind) && s.now < j.due && j.due < b then some j.due else none
  | none => none

/-- Time passes to beat `b`, the port working on its way, with at most `fuel` stops. -/
def nrPass : Nat → Nat → State → State
  | 0, b, s => (s.upTo b).nrDrain
  | f + 1, b, s => match s.nrDue b with
    | none => (s.upTo b).nrDrain
    | some d => nrPass f b ((s.upTo d).nrDrain)

/-- The state at beat `b` after what the port has done until then (R245). -/
def State.nrTo (b : Nat) (s : State) : State := nrPass (17 * 256) b s

/-- What a PCIe request, a dictionary operation or a Narind operation of beat `b` meets: time has passed to its beat, the port's
work stands before it, and it is the only request of its beat (R40, R245, R273). (DEDUCED, log 28.) -/
def State.atReq (s : State) (b : Nat) : State := (s.nrTo b).upToReq b

/-- Steps 1 to 4 of a received frame (Table 10-5), addressed to `dst`.
(DEDUCED, log 65.) (DESIGN CHOICE, log 49, 113.) -/
def State.nrArrive (addr dst : Nat) (f : List Byte) (s : State) : State :=
  if !s.nrOn addr dst || addrPort dst != s.o 0x1808 0 then s
  else if f.length < 40 ∨ beAt 0 2 f ≠ 0x4E52 then s.bump 0x1821 0 1
  else match s.nrEntry (beAt 4 2 f) with
    | none => s.bump 0x1821 0 1
    | some c =>
      let n := f.length - 16
      if nrTag (s.nrKey c) (f.take n) ≠ f.drop n then s.bump 0x1821 0 1
      else
        let s := s.setClient c { s.client c with addr := some addr, seen := true }
        if 16 ≤ s.port.queue.length then s.bump 0x1824 0 1
        else
          let s := s.bump 0x1820 0 1
          ({ s with port := { s.port with queue := s.port.queue ++ [⟨c, addr, dst, false, f⟩] } } : State).nrDrain

/-! ## Reports (R249, R250) -/

/-- `k` ticks of a subscription, the last of them sampled: the record, if it is due, and the subscription after it.
(DEDUCED, log 52.) -/
def State.subTick (s : State) (c k : Nat) (b : Sub) : Option (List Byte) × Sub :=
  let (st, v) := s.nrRead c b.idx b.el .get
  let since := b.since + k
  if (b.interval != 0 && b.interval ≤ since) || (b.onChange && b.last != some v) then
    (some (nrRec 4 st b.idx b.el v), { b with since := 0, last := some v })
  else (none, { b with since := since })

/-- Records in frames of at most `m` body bytes, in order; `cur` is the frame being filled. -/
def packRecs (m : Nat) (cur : List (List Byte)) : List (List Byte) → List (List (List Byte))
  | [] => if cur.isEmpty then [] else [cur]
  | r :: t =>
    if !cur.isEmpty && m < cur.flatten.length + r.length then cur :: packRecs m [r] t
    else packRecs m (cur ++ [r]) t

/-- One REPORT frame to a client. -/
def State.nrReport (c : Nat) (rs : List (List Byte)) (s : State) : State :=
  let x := s.client c
  let n := (x.reportNo + 1) % 2 ^ 32
  (s.setClient c { x with reportNo := n }).nrTell c x.subAddr 0x40 rs.length n rs.flatten

/-- The REPORT frames of a client at a tick, `k` ticks after the last one. (DEDUCED, log 51.) -/
def State.nrReports (k c : Nat) (s : State) : State :=
  let x := s.client c
  let r := x.subs.map (s.subTick c k)
  let s := s.setClient c { x with subs := r.map (·.2) }
  each (State.nrReport c) (packRecs (bodyMax x.subAddr) [] (r.filterMap (·.1))) s

/-- Ticks that send nothing: they count to the intervals all the same. -/
def State.ticksPass (k c : Nat) (s : State) : State :=
  let x := s.client c
  s.setClient c { x with subs := x.subs.map (fun b => { b with since := b.since + k }) }

/-- The 10 ms tick: at a multiple of 8,000,000 beats from the port's start, or after some that no command marked; no report leaves
without the link, while the Regulator is not RUNNING (R250), or in Quiet mode (R252). (DEDUCED, log 53.) -/
def State.reportTick (s : State) : State :=
  let k := (s.now - s.port.tickAt) / 8000000
  if k = 0 then s
  else
    let s := { s with port := { s.port with tickAt := s.port.tickAt + k * 8000000 } }
    each (if s.portLive && s.fw.regState == 1 && !s.asleep then State.nrReports k else State.ticksPass k) (List.range 16) s

/-! ## The last gasp (R251, R351) -/

/-- The record of the LAST_GASP frame. -/
def State.gaspRecord (s : State) : List Byte :=
  nrRec 0x41 0 0 0 (beBytes 8 s.gasp.commitBeat.toNat ++ beBytes 2 s.gasp.feedCode ++ beBytes 2 s.gasp.holdUs
    ++ beBytes 4 s.backup.resetCount.toNat)

/-- One copy to one destination: a client entry and its report number. (DEDUCED, log 68.) -/
def State.gaspCopy (d : Nat × Nat) (s : State) : State :=
  match (s.client d.1).addr with
  | some a => s.nrTell d.1 a 0x41 1 d.2 s.gaspRecord
  | none => s

/-- R351: a round whose beat is due. (DEDUCED, log 68.) -/
def State.gaspRound (s : State) : State :=
  let g := s.gasp
  if g.sending && g.rounds < 3 && g.commitAt + 80000 * g.rounds ≤ s.now && s.portLive then
    let s := each State.gaspCopy g.dests s
    { s with gasp := { g with rounds := g.rounds + 1, sending := g.rounds < 2 } }
  else s

/-! ## ARP, NDP, echo, the port's link (R233–R235) -/

/-- R234: an ARP request for the port's IPv4 address; not in Quiet mode (R252). -/
def State.arpAsked (target sender : Nat) (s : State) : State :=
  if s.portLive && !s.asleep && target != 0 && target == s.o 0x1802 0 then
    s.emit (.arpReply target (s.shadow.extractLsb' 16 48).toNat sender)
  else s

/-- The next hops the device resolves in a family: those of its clients' addresses. (DEDUCED, log 63.) -/
def State.nextHop (s : State) (v6 : Bool) (ip : Nat) : Bool :=
  (List.range 16).any (fun c =>
    let x := s.client c
    let hops (a : Nat) : Bool := addrV6 a == v6 && s.hopOf a == some ip
    x.addr.any hops || (!x.subs.isEmpty && hops x.subAddr))

/-- An address is resolved. (DEDUCED, log 63.) -/
def State.resolved (v6 : Bool) (ip mac : Nat) (s : State) : State :=
  if s.nextHop v6 ip then
    { s with port := { s.port with arp := smSet (fun _ => none) s.port.arp (hopKey v6 ip) (some mac) } }
  else s

/-- R234: an ARP reply; not in Quiet mode (R252). -/
def State.arpAnswered (ip mac : Nat) (s : State) : State := if s.portLive && !s.asleep then s.resolved false ip mac else s

/-- R234: a solicitation for one of the port's IPv6 addresses that is in use; not in Quiet mode (R252). -/
def State.ndAsked (target sender : Nat) (s : State) : State :=
  if s.portLive && !s.asleep && (s.ownIps true).contains target then s.emit (.ndAdvert target (s.shadow.extractLsb' 16 48).toNat sender) else s

/-- R235: an advertisement; for one of the port's own addresses it is a duplicate.
(DEDUCED, log 62.) -/
def State.ndAnswered (target mac : Nat) (s : State) : State :=
  if !s.portLive || s.asleep then s
  else if mac == (s.shadow.extractLsb' 16 48).toNat then s
  else if target == s.linkLocal then { s with port := { s.port with llConflict := true } }
  else if s.globalV6 0x1805 == some target then { s with port := { s.port with glConflict := true } }
  else s.resolved true target mac

/-- R234: echo requests, at most 100 answered in a second; none in Quiet mode (R252). (DEDUCED, log 64.) -/
def State.echo (addr dst : Nat) (data : List Byte) (s : State) : State :=
  if !s.nrOn addr dst || s.asleep || 1472 < data.length then s
  else
    let p := s.port
    let fresh := p.echoFrom + 800000000 ≤ s.now || p.echoCount == 0
    let n := if fresh then 0 else p.echoCount
    if 100 ≤ n then s
    else
      let s := { s with port := { p with echoFrom := if fresh then s.now else p.echoFrom, echoCount := n + 1 } }
      s.viaHop addr (fun h => .echoReply dst addr h data)

/-- R233: the port's link; in 1000BASE-X mode its speed is 1000 Mb/s. A link that comes up has the port's IPv6 addresses probed
(R234). (DEDUCED, log 67.) (DESIGN CHOICE, log 146.) -/
def State.mgmtLink (up : Bool) (speed : Nat) (s : State) : State :=
  if s.port.up then
    let fresh := up && !s.port.link
    let s := { s with port := { s.port with
      link := up, speed := if !up then s.port.speed else if s.o 0x1800 0 = 1 then 2 else speed } }
    if fresh then each (fun a (s : State) => s.emit (.dadProbe a)) (s.ownIps true) s else s
  else s

/-! ## The meanings -/

/-- The meaning of a row of this chapter at beat `b`: after what the port has done until then. -/
def nr_ (b : Nat) (ok : Bool) (f : State → State) (s : State) : Host.Outcome State Fault Refusal := run ok (f (s.nrTo b))

/-- A row that is one operation of a client entry: it waits its turn like a frame; its status is answered and its record sent, while
the entry's frames would be served. (DESIGN CHOICE, log 61.) -/
def State.nrRow (c addr op idx el : Nat) (v : List Byte) (s : State) : State :=
  if !s.portLive || s.now < s.start.dictBarUntil then s
  else ({ s with port := { s.port with queue := s.port.queue ++ [⟨c, addr, 0, true, nrRec op 0 idx el v⟩] } } : State).nrDrain

def nrOp_ (b c addr op idx el : Nat) (v : List Byte) (s : State) : Host.Outcome State Fault Refusal :=
  nr_ b (decide (c < 16) && decide (idx < 65536) && decide (el < 65536) && decide (v.length ≤ 1424))
    (State.nrRow c addr op idx el v) s

/-- The address a client's operations come from. -/
def State.lastAddr (s : State) (c : Nat) : Nat := ((s.client c).addr).getD 0

/-- A frame from `addr` to `dst`. -/
def nrFrame_ (b addr dst : Nat) (ok : Bool) (frame : List Byte) (s : State) : Host.Outcome State Fault Refusal :=
  nr_ b (addrOk addr && addrOk dst && ok) (State.nrArrive addr dst frame) s

def execRequest (b addr : Nat) (frame : List Byte) (s : State) (dst : Nat := 0) : Host.Outcome State Fault Refusal :=
  nrFrame_ b addr dst (!(beAt 6 1 frame == 2 || beAt 6 1 frame == 3 || beAt 6 1 frame == 4)) frame s
def execPing (b addr : Nat) (frame : List Byte) (s : State) (dst : Nat := 0) : Host.Outcome State Fault Refusal :=
  nrFrame_ b addr dst (beAt 6 1 frame == 2) frame s
def execWake (b addr : Nat) (frame : List Byte) (s : State) (dst : Nat := 0) : Host.Outcome State Fault Refusal :=
  nrFrame_ b addr dst (beAt 6 1 frame == 3) frame s
def execReset (b addr : Nat) (frame : List Byte) (s : State) (dst : Nat := 0) : Host.Outcome State Fault Refusal :=
  nrFrame_ b addr dst (beAt 6 1 frame == 4) frame s
def execNrGet (b c idx el : Nat) (s : State) : Host.Outcome State Fault Refusal := nrOp_ b c (s.lastAddr c) 1 idx el [] s
def execNrSet (b c idx el : Nat) (v : List Byte) (s : State) : Host.Outcome State Fault Refusal :=
  nrOp_ b c (s.lastAddr c) 2 idx el v s
def execNrAction (b c idx el : Nat) (v : List Byte) (s : State) : Host.Outcome State Fault Refusal :=
  nrOp_ b c (s.lastAddr c) 3 idx el v s
def execNrGetDraft (b c idx el : Nat) (s : State) : Host.Outcome State Fault Refusal := nrOp_ b c (s.lastAddr c) 6 idx el [] s
def execSubscribe (b c addr idx el : Nat) (v : List Byte) (s : State) : Host.Outcome State Fault Refusal :=
  nr_ b (decide (c < 16) && addrOk addr && decide (idx < 65536) && decide (el < 65536) && decide (v.length ≤ 1424))
    (State.nrRow c addr 4 idx el v) s
def execUnsubscribe (b c idx el : Nat) (s : State) : Host.Outcome State Fault Refusal := nrOp_ b c (s.lastAddr c) 5 idx el [] s
/-- WIND_BEAT: the wind at its beat; a REQUEST that waits for it goes on. -/
def execWindBeat (b : Nat) (s : State) : Host.Outcome State Fault Refusal := run true (s.windAt b).nrDrain
def execReportTick (b : Nat) (s : State) : Host.Outcome State Fault Refusal := nr_ b true State.reportTick s
def execGaspRound (b : Nat) (s : State) : Host.Outcome State Fault Refusal := at_ b true State.gaspRound s
def execArpRequest (b target sender : Nat) (s : State) : Host.Outcome State Fault Refusal :=
  at_ b (decide (target < 2 ^ 32) && decide (sender < 2 ^ 48)) (State.arpAsked target sender) s
def execArpReply (b ip mac : Nat) (s : State) : Host.Outcome State Fault Refusal :=
  at_ b (decide (ip < 2 ^ 32) && decide (mac < 2 ^ 48)) (State.arpAnswered ip mac) s
def execNeighbourSolicitation (b target sender : Nat) (s : State) : Host.Outcome State Fault Refusal :=
  at_ b (decide (target < 2 ^ 128) && decide (sender < 2 ^ 48)) (State.ndAsked target sender) s
def execNeighbourAdvertisement (b target mac : Nat) (s : State) : Host.Outcome State Fault Refusal :=
  at_ b (decide (target < 2 ^ 128) && decide (mac < 2 ^ 48)) (State.ndAnswered target mac) s
def execEchoRequest (b addr : Nat) (data : List Byte) (s : State) (dst : Nat := 0) : Host.Outcome State Fault Refusal :=
  at_ b (addrOk addr && addrOk dst) (State.echo addr dst data) s
def execUnhandledFrame (b : Nat) (s : State) : Host.Outcome State Fault Refusal := at_ b true id s
def execMgmtLinkChange (b : Nat) (up : Bool) (speed : Nat) (s : State) : Host.Outcome State Fault Refusal :=
  at_ b (speed < 3) (State.mgmtLink up speed) s

end Sys2Proof.Machine
end

