-- ==== Sys2Proof/Machine/DictRows.lean ====
section
/-! DEFINITION. The meanings of the rows that name one dictionary access or one dictionary-window command (09). -/

namespace Sys2Proof.Machine

open Sys2Proof

/-- The meaning of a memory request at beat `b` (R40, R273). -/
def mem_ (b fn : Nat) (ok read : Bool) (i : Instr) (f : State → State) (s : State) : Host.Outcome State Fault Refusal :=
  run (ok && decide (fn < 32)) ((s.atReq b).memReq fn read i f)

/-- The meaning of such a row: an object of a fixed size takes the value `v`. (DEDUCED, log 46.) -/
def dict_ (b pr idx el v : Nat) (mm : Bool) (s : State) : Host.Outcome State Fault Refusal :=
  run (decide (pr < 32) && decide (el < 65536) && decide (v < 256 ^ typeSize (typeOf idx)))
    ((s.atReq b).dictRow pr idx el (typeSize (typeOf idx)) v mm)

/-! ## The meanings -/

def execAlarmCompareWrite (b pr n v : Nat) (s : State) : Host.Outcome State Fault Refusal := dict_ b pr 0x1210 n v false s
def execAlarmPeriodWrite (b pr n v : Nat) (s : State) : Host.Outcome State Fault Refusal := dict_ b pr 0x1211 n v false s
def execAlarmArmWrite (b pr n v : Nat) (s : State) : Host.Outcome State Fault Refusal := dict_ b pr 0x1212 n v false s
def execTodLoad (b : Nat) (v : Beat) (s : State) : Host.Outcome State Fault Refusal := dict_ b 0 0x1201 0 v.toNat false s
def execSetPending (b pr el v : Nat) (s : State) : Host.Outcome State Fault Refusal := dict_ b pr 0xF008 el v false s
def execClearPending (b pr el v : Nat) (s : State) : Host.Outcome State Fault Refusal := dict_ b pr 0xF009 el v false s
def execSourceQuarantine (b pr el : Nat) (s : State) : Host.Outcome State Fault Refusal := dict_ b pr 0x2009 el 1 false s
def execSourceRelease (b pr el : Nat) (s : State) : Host.Outcome State Fault Refusal := dict_ b pr 0x2009 el 0 false s
def execTgtEnableWrite (b pr el v : Nat) (s : State) : Host.Outcome State Fault Refusal := dict_ b pr 0x3005 el v false s
def execTargetQuarantine (b el : Nat) (mm : Bool) (s : State) : Host.Outcome State Fault Refusal := dict_ b 0 0x3009 el 1 mm s
def execTargetRelease (b el : Nat) (s : State) : Host.Outcome State Fault Refusal := dict_ b 0 0x3009 el 0 false s
def execTenResetQuiesce (b n : Nat) (s : State) : Host.Outcome State Fault Refusal := dict_ b 0 0x5003 n 1 false s
def execTenResetIsolate (b n : Nat) (s : State) : Host.Outcome State Fault Refusal := dict_ b 0 0x5003 n 2 false s
def execDictGet (b fn : Nat) (seq : Byte) (s : State) : Host.Outcome State Fault Refusal :=
  mem_ b fn true false (.dictGet b fn seq) (State.dictCmd (some .get) fn seq false) s
def execDictSet (b fn : Nat) (seq : Byte) (s : State) (mm : Bool := false) : Host.Outcome State Fault Refusal :=
  mem_ b fn true false (.dictSet b fn seq mm) (State.dictCmd (some .set) fn seq mm) s
def execDictGetDraft (b fn : Nat) (seq : Byte) (s : State) : Host.Outcome State Fault Refusal :=
  mem_ b fn true false (.dictGetDraft b fn seq) (State.dictCmd (some .draft) fn seq false) s
def execDictDone (b fn : Nat) (s : State) : Host.Outcome State Fault Refusal := at_ b (fn < 32) (State.dictDone fn) s
def execWind (b pr : Nat) (page : Bool) (s : State) : Host.Outcome State Fault Refusal :=
  if page then mem_ b pr true false (.wind b pr page) (State.pageWind pr) s else dict_ b pr 0xF000 0 1 false s
def execDraftDiscard (b pr v : Nat) (s : State) : Host.Outcome State Fault Refusal := dict_ b pr 0xF001 0 v false s
def execDraftDefaults (b pr v : Nat) (s : State) : Host.Outcome State Fault Refusal := dict_ b pr 0xF002 0 v false s
def execSaveSettings (b v : Nat) (s : State) : Host.Outcome State Fault Refusal := dict_ b 0 0xF003 0 v false s
def execResetReqL2Cold (b : Nat) (s : State) : Host.Outcome State Fault Refusal := dict_ b 0 0x1000 0 1 false s
def execResetReqL2Warm (b : Nat) (s : State) : Host.Outcome State Fault Refusal := dict_ b 0 0x1000 0 2 false s
def execResetReqL3 (b : Nat) (s : State) : Host.Outcome State Fault Refusal := dict_ b 0 0x1000 0 3 false s
def execWdogTimeoutWrite (b v : Nat) (s : State) : Host.Outcome State Fault Refusal := dict_ b 0 0x1002 0 v false s
def execWdogKick (b v : Nat) (s : State) : Host.Outcome State Fault Refusal := dict_ b 0 0x1003 0 v false s
def execBlkResetQuiesce (b el : Nat) (s : State) (mm : Bool := false) : Host.Outcome State Fault Refusal := dict_ b 0 0x1006 el 1 mm s
def execBlkResetIsolate (b el : Nat) (s : State) (mm : Bool := false) : Host.Outcome State Fault Refusal := dict_ b 0 0x1006 el 2 mm s
def execFwConfirm (b v : Nat) (s : State) : Host.Outcome State Fault Refusal := dict_ b 0 0x1505 0 v false s
def execFwReject (b v : Nat) (s : State) : Host.Outcome State Fault Refusal := dict_ b 0 0x1506 0 v false s
def execFwStageOpen (b : Nat) (s : State) : Host.Outcome State Fault Refusal := dict_ b 0 0x1507 0 1 false s
def execFwStageData (b k : Nat) (v : List Byte) (s : State) (bad : Bool := false) : Host.Outcome State Fault Refusal :=
  run (k < 65536) ((s.atReq b).dictRow 0 0x1508 k v.length (blobEnc v) bad)
def execFwStageClose (b : Nat) (s : State) : Host.Outcome State Fault Refusal := dict_ b 0 0x1507 0 2 false s
def execFwStageAbort (b : Nat) (s : State) : Host.Outcome State Fault Refusal := dict_ b 0 0x1507 0 0 false s
def execFwActivateTrial (b : Nat) (s : State) : Host.Outcome State Fault Refusal := dict_ b 0 0x150A 0 1 false s
def execFwActivateDefaults (b : Nat) (s : State) : Host.Outcome State Fault Refusal := dict_ b 0 0x150A 0 2 false s
def execQuietEnter (b v : Nat) (s : State) : Host.Outcome State Fault Refusal := dict_ b 0 0x1400 0 v false s
def execTandemPromote (b v : Nat) (s : State) : Host.Outcome State Fault Refusal := dict_ b 0 0x1906 0 v false s
def execTandemWake (b v : Nat) (s : State) (collide : Bool := false) : Host.Outcome State Fault Refusal := dict_ b 0 0x1907 0 v collide s
def execFaultClear (b v : Nat) (s : State) : Host.Outcome State Fault Refusal := dict_ b 0 0x1601 0 v false s
def execChrFlush (b v : Nat) (s : State) : Host.Outcome State Fault Refusal := dict_ b 0 0x170B 0 v false s
def execChrNewRing (b v : Nat) (s : State) : Host.Outcome State Fault Refusal := dict_ b 0 0x170A 0 v false s
def execChrMark (b v : Nat) (s : State) : Host.Outcome State Fault Refusal := dict_ b 0 0x170C 0 v false s
def execChrReadSeqWrite (b v : Nat) (s : State) : Host.Outcome State Fault Refusal := dict_ b 0 0x1706 0 v false s
def execChrCursorWrite (b pr el v : Nat) (s : State) : Host.Outcome State Fault Refusal := dict_ b pr 0x1710 el v false s
def execEngRunStart (b n : Nat) (s : State) : Host.Outcome State Fault Refusal := dict_ b 0 0x4008 n 1 false s
def execEngRunStop (b n : Nat) (s : State) : Host.Outcome State Fault Refusal := dict_ b 0 0x4008 n 0 false s
def execEngSwapCancel (b n : Nat) (s : State) : Host.Outcome State Fault Refusal := dict_ b 0 0x4009 n 0 false s
def execEngSwapRequest (b n : Nat) (s : State) : Host.Outcome State Fault Refusal := dict_ b 0 0x4009 n 1 false s
def execEngSwapForce (b n : Nat) (s : State) : Host.Outcome State Fault Refusal := dict_ b 0 0x4009 n 2 false s
def execEngDoorbell (b n : Nat) (v : Dw) (s : State) : Host.Outcome State Fault Refusal := dict_ b 0 0x400A n v.toNat false s
def execProgWrite (b el : Nat) (v : Dw) (s : State) : Host.Outcome State Fault Refusal := dict_ b 0 0x4100 el v.toNat false s

end Sys2Proof.Machine
end

