-- ==== Sys2Proof/Machine/Mailbox.lean ====
section
/-! DEFINITION. What the escapements decide at their own beats (06), and what a mailbox page's action registers do: claims,
COMPLETE, FREE, THRESHOLD (06, 11 §11.4). -/

namespace Sys2Proof.Machine

open Sys2Proof

/-! ## The escapements' decisions -/

/-- R140: escapement `e` makes an issue decision in this beat; its coupled pair's results differ (`mm`), and `i` waits to be
computed again (R153), or it is released. -/
def State.issueDecision (e : Nat) (mm : Bool) (i : Instr) (f : State → State) (s : State) : State :=
  if mm && s.compares e then (s.setEsc e { s.escAt e with issueAt := some s.now }).mismatch e i else f s

/-- R139, R140: the issue decision of escapement `e` in this beat, if it has one to make. -/
def State.escIssue (e : Nat) (mm : Bool) (s : State) : State :=
  let s := s.row8
  if (s.escAt e).issueAt == some s.now then s
  else match s.issueTurn e with
    | none => s
    | some t => s.issueDecision e mm (.escapementIssue t e false) (State.issueTo e e t)

/-- R137: the release decision of escapement `e` for the members due by this beat whose release no undecided decision has
taken. -/
def State.syncRelease (e : Nat) (mm : Bool) (s : State) : State :=
  let s := s.row8
  let lo := s.undecidedRelease e
  if (s.escAt e).issueAt == some s.now || s.asleep || (s.dueMembers e lo s.now).isEmpty then s
  else s.issueDecision e mm (.syncRelease s.now e false) (State.syncCore e lo s.now false)

/-- R147: the timeout of the delivery under `tag` at target `t`. -/
def State.claimTimeout (b t tag : Nat) (mm : Bool) (s : State) : State :=
  let s := s.row8
  if s.asleep || (s.expired t tag).isNone then s
  else if mm && s.compares (s.servEsc t) then s.mismatch (s.servEsc t) (.claimTimeout b t tag false)
  else s.timeoutCore t tag

/-! ## Pages -/

/-- Zeros for a read of `n` bytes. -/
def State.cplZeros (fn n : Nat) (s : State) : State := s.post (.cpl fn false (List.replicate n 0))

/-- R268: an action register of the page of target `t` is not served through function `fn`.
(DEDUCED, log 73.) -/
def State.pageBarred (s : State) (fn t : Nat) : Bool := fn == 0 && s.tgtTen t != 0

/-- A write to page `page`: `f` on its target; a page beyond the view drops it and counts ACCESS_FAULT (R195), and so does
R268's page. (DEDUCED, log 73.) -/
def State.pageWrite (fn page : Nat) (f : Nat → State → State) (s : State) : State :=
  match s.fromView 0x3000 fn page with
  | none => s.accessFault fn
  | some t => if s.pageBarred fn t then s.pageFault fn t else f t s

/-- A claim through page `page` (R113, R267): the 64-bit one needs CLAIM64 (R198). Held while the target's claims are
(R154, R397), or an earlier one of its pair is undecided (R140); a mismatch of a coupled pair puts the result off (R153).
(DEDUCED, log 74, 118.) -/
def State.pageClaim (b fn page : Nat) (wide mm : Bool) (s : State) : State :=
  let n := if wide then 8 else 4
  let i (t : Nat) (mm : Bool) : Instr := if wide then .claim64 b fn t mm else .claim b fn t mm
  match s.fromView 0x3000 fn page with
  | none => (s.cplZeros fn n).accessFault fn
  | some t =>
    if s.pageBarred fn t || wide && !s.hasFeat (s.tgtTen t) 3 then (s.cplZeros fn n).pageFault fn t
    else
      let s := s.row8
      if s.mustWait (i t mm) then { s with heldOps := s.heldOps ++ [i t mm] }
      else s.claimDecision fn t wide mm (i t false)

/-- R115: a COMPLETE through the page of target `t`; held while the target migrates (R154). -/
def State.tgtComplete (b fn : Nat) (d : Dw) (t : Nat) (s : State) : State :=
  let i : Instr := .complete b fn t d
  if s.mustWait i then { s with heldOps := s.heldOps ++ [i] } else s.completeCore t d

/-- R110, R114: sources a lowered threshold admits at target `t` are ranked anew. -/
def State.admitBelow (t old new : Nat) (s : State) : State :=
  each (fun (e : Nat × Source) s =>
    let x := e.2
    let p := x.prio
    if new < p && p ≤ old then
      if x.bcast then s.setSrc e.1 { x with
        members := x.members.map (fun m => if m.tgt = t then { m with rankedAt := s.now + 24 } else m) }
      else if x.st == .pending && x.target == some t then s.setSrc e.1 { x with rankedAt := s.now + 24 }
      else s
    else s) s.src s

/-- R114: a THRESHOLD write for target `t`; ignored without the feature. -/
def State.tgtThreshold (b fn : Nat) (v : BitVec 8) (mm : Bool) (t : Nat) (s : State) : State :=
  if s.hasFeat (s.tgtTen t) 10 then
    let s := s.row8
    let old := s.thr t
    let s := s.setTgt t { s.tgtAt t with threshold := v }
    let s := s.admitBelow t old v.toNat
    if s.thresholdHits t && mm && s.compares (s.servEsc t) then s.mismatch (s.servEsc t) (.thresholdWrite b fn t v false)
    else s.thresholdCore t
  else s

/-- R118: the pair at 0x008, COMPLETE then FREE. -/
def State.tgtPair (b fn : Nat) (d h : Dw) (t : Nat) (s : State) : State := (s.tgtComplete b fn d t).freeCore t h

/-! ## The meanings of the escapements' own commands -/

def execEscapementIssue (b e : Nat) (mm : Bool) (s : State) : Host.Outcome State Fault Refusal :=
  at_ b (e < 8) (State.escIssue e mm) s
def execDecisionRetry (b e : Nat) (mm : Bool) (s : State) : Host.Outcome State Fault Refusal :=
  at_ b (e < 8) (State.retryCore e mm) s
def execMigrationEnd (b e : Nat) (s : State) : Host.Outcome State Fault Refusal :=
  at_ b (e < 8) (State.migrateEnd (e / 2 * 2)) s
def execSyncRelease (b e : Nat) (mm : Bool) (s : State) : Host.Outcome State Fault Refusal :=
  at_ b (e < 8) (State.syncRelease e mm) s
def execClaimTimeout (b tgt tag : Nat) (mm : Bool) (s : State) : Host.Outcome State Fault Refusal :=
  at_ b (tgt < 1024 && tag < 1024) (State.claimTimeout b tgt tag mm) s

end Sys2Proof.Machine
end

