-- ==== Sys2Proof/Machine/Pcie.lean ====
section
/-! DEFINITION. The PCIe windows (11, 03 §03.1): which registers there are, the outcomes of Table 11-7, the source arrays,
the Dial block, doorbells, payload reads, the chronograph aperture, MSI-X, configuration requests; and the requests held
while the device was quiet (R360). -/

namespace Sys2Proof.Machine

open Sys2Proof

/-! ## The source arrays (R122–R124, Table 05-10) -/

/-- `f` on the source of every set bit of DW `k` of an array of function `fn`. -/
def State.arrayBits (fn k : Nat) (mask : Dw) (f : Nat → State → State) (s : State) : State :=
  loop (fun b s =>
    if mask.getLsbD b then match s.fromView 0x2000 fn (32 * k + b) with | some n => f n s | none => s
    else s) 0 32 s

/-- DW `k` of an array's read: the bits `p` of the view's sources. -/
def State.arrayRead (s : State) (fn k : Nat) (p : Nat → Bool) : Nat :=
  ((List.range 32).map (fun b => match s.fromView 0x2000 fn (32 * k + b) with
    | some n => b2n (p n) * 2 ^ b
    | none => 0)).sum

/-- Table 05-10: pending status. -/
def State.pendBit (s : State) (n : Nat) : Bool :=
  let x := s.srcAt n
  x.st == .pending || x.st == .inFlight || x.st == .active || x.repend

/-! ## The Dial block (R264, R265, R402, R404) -/

/-- The events a function's block has. -/
def dialMask (fn : Nat) : BitVec 64 := if fn = 0 then 0x7FFFFFFF else 0xFF

/-- The events a write of the LO or HI register names. -/
def dialBits (fn : Nat) (hi : Bool) (v : Dw) : BitVec 64 := (if hi then v ++ (0 : Dw) else (0 : Dw) ++ v) &&& dialMask fn

/-- DIAL_PEND_SET of the bits `v`, after the events of its beat (R265). -/
def Func.pendSet (v : BitVec 64) (f : Func) : Func :=
  let d := f.dialB
  { f with
    dialPend := f.dialPend ||| v
    dialB := { d with named := d.named ||| v, fresh := d.fresh ||| (v &&& ~~~ f.dialPend) } }

/-- How many bits of `v` are set. -/
def bitCount (v : BitVec 64) : Nat := ((List.range 64).filter (fun k => v.getLsbD k)).length

/-- DIAL_PEND_CLR of the bits `v`, before the events of its beat (R265): a bit of such an event stays pending and its first
occurrence is not lost; a bit that a DIAL_PEND_SET of the beat names stays pending too. (DEDUCED, log 119.) -/
def Func.pendClr (v : BitVec 64) (f : Func) : Func :=
  let d := f.dialB
  { f with
    dialPend := f.dialPend &&& ~~~ (v &&& ~~~ (d.events ||| d.named))
    dialLost := f.dialLost - bitCount (v &&& d.lost)
    dialB := { d with
      again := d.again || v != 0, lost := d.lost &&& ~~~ v, fresh := d.fresh ||| (v &&& d.named &&& ~~~ d.events) } }

/-- DIAL_EN_SET of the bits `v`; a write of 0 to a bit has no effect (Table 11-5). (DEDUCED, log 119.) -/
def Func.enSet (v : BitVec 64) (f : Func) : Func :=
  { f with dialEn := f.dialEn ||| v, dialB := { f.dialB with again := f.dialB.again || v != 0 } }

def State.dialPendSet (fn : Nat) (hi : Bool) (v : Dw) (s : State) : State := s.setFn fn ((s.fn fn).pendSet (dialBits fn hi v))
def State.dialPendClr (fn : Nat) (hi : Bool) (v : Dw) (s : State) : State := s.setFn fn ((s.fn fn).pendClr (dialBits fn hi v))
def State.dialEnSet (fn : Nat) (hi : Bool) (v : Dw) (s : State) : State := s.setFn fn ((s.fn fn).enSet (dialBits fn hi v))
def State.dialEnClr (fn : Nat) (hi : Bool) (v : Dw) (s : State) : State :=
  s.setFn fn { s.fn fn with dialEn := (s.fn fn).dialEn &&& ~~~ dialBits fn hi v }

/-! ## Registers and their classes (Tables 09-7, 11-4 to 11-6) -/

/-- The areas of BAR0 (Table 11-3). -/
inductive Region where
  | global
  | dict
  | doorbell
  | payload
  | mailbox
  | aperture
  | reserved
  deriving DecidableEq, Repr

/-- (DEDUCED, log 71.) -/
def regionOf (off : Nat) : Region :=
  if off < 0x10000 then .global
  else if off < 0x20000 then .dict
  else if 0x100000 ≤ off ∧ off < 0x180000 then .doorbell
  else if 0x200000 ≤ off ∧ off < 0x280000 then .payload
  else if 0x400000 ≤ off ∧ off < 0x800000 then .mailbox
  else if 0x800000 ≤ off ∧ off < 0x1000000 then .aperture
  else .reserved

/-- The register's DW is action-class. -/
def isAction (off : Nat) : Bool :=
  match regionOf off with
  | .global => off == 0x30 || off == 0x40 || between 0x108 0x127 off || between 0x1000 0x1BFF off
  | .dict => off == 0x10008
  | .mailbox => off % 4096 == 0 || off % 4096 == 8 || off % 4096 == 12
  | _ => false

/-- An action-class register allows reads. -/
def actionReads (off : Nat) : Bool :=
  match regionOf off with
  | .global => off != 0x40
  | .mailbox => off % 4096 == 0
  | _ => false

/-- An action-class register allows writes. -/
def actionWrites (off : Nat) : Bool :=
  match regionOf off with
  | .global => !between 0x1400 0x15FF off && !between 0x1A00 0x1BFF off
  | .dict => true
  | .mailbox => off % 4096 != 0
  | _ => false

/-- The two DWs of a 64-bit field. -/
def half (hi : Bool) (v : Nat) : Nat := if hi then v / 2 ^ 32 % 2 ^ 32 else v % 2 ^ 32

/-- The global page (Table 11-4) and the Dial block (Table 11-5): what a DW reads. -/
def State.globalReg (s : State) (fn off : Nat) : Nat :=
  let f := s.fn fn
  if 0x1000 ≤ off && off < 0x1600 then s.arrayRead fn (off % 512 / 4) s.pendBit
  else if 0x1600 ≤ off && off < 0x1C00 then s.arrayRead fn ((off - 0x1600) % 512 / 4) (fun n => s.o 0x2006 n == 1)
  else if 0x108 ≤ off && off < 0x118 then half (off % 8 == 4) f.dialPend.toNat
  else if 0x118 ≤ off && off < 0x128 then half (off % 8 == 4) f.dialEn.toNat
  else match off with
  | 0x0000 => (if fn = 0 then 0x4096 else 0x4097) + 0x10000 + fn * 2 ^ 24
  | 0x0004 => s.viewCount 0x2000 fn
  | 0x0008 => s.viewCount 0x3000 fn + s.viewCount 0x3400 fn * 2 ^ 16
  | 0x0010 => half false s.cnt.toNat
  | 0x0014 => half true s.cnt.toNat
  | 0x0020 => half false (s.offer fn).toNat
  | 0x0024 => half true (s.offer fn).toNat
  | 0x0028 => half false f.accept.toNat
  | 0x002C => half true f.accept.toNat
  | 0x0030 => s.featStatus fn
  | 0x0044 => s.readVal fn 0xF011 fn
  | 0x0048 => s.o 0xF010 0
  | 0x0100 => half false f.dialPend.toNat
  | 0x0104 => half true f.dialPend.toNat
  | 0x0128 => f.dialLost
  | 0x012C => b2n f.summary
  | 0xF000 => half false f.v0.addr.toNat
  | 0xF004 => half true f.v0.addr.toNat
  | 0xF008 => f.v0.data.toNat
  | 0xF00C => b2n f.v0.masked
  | 0xF010 => half false f.v1.addr.toNat
  | 0xF014 => half true f.v1.addr.toNat
  | 0xF018 => f.v1.data.toNat
  | 0xF01C => b2n f.v1.masked
  | 0xF800 => b2n f.v0.pba + 2 * b2n f.v1.pba
  | _ => 0

/-- The dictionary window (Table 09-7), by window offset. -/
def State.dictReg (s : State) (fn off : Nat) : Nat :=
  let w := (s.fn fn).win
  if 0x100 ≤ off && off < 0x200 then leVal ((List.range 4).map (fun i => smGet (fun _ => (0 : Byte)) w.data (off - 0x100 + i)))
  else match off with
  | 0x0000 => w.addr.toNat
  | 0x0004 => w.len.toNat
  | 0x000C => b2n w.busy.isSome + 2 * b2n w.done + 4 * b2n w.collided + 8 * b2n w.draftPresent
      + 2 ^ 8 * w.status.toNat + 2 ^ 16 * w.seq.toNat
  | 0x0010 => b2n w.irqEn
  | _ => 0

/-- TOP_PRIORITY: the priority of the current winner of a target. -/
def State.topPriority (s : State) (t : Nat) : Nat :=
  match bestRank (s.pendCands t 0 false ++ (s.dlv.filter (fun d => d.tgt == some t && !d.active)).map s.dlvRank) with
  | some r => r.prio
  | none => 0

/-- The config-class registers of the mailbox page of target `t` (Table 11-6), by page offset. -/
def State.pageReg (s : State) (t off : Nat) : Nat :=
  let x := s.tgtAt t
  match off with
  | 0x004 => x.claimStamp.toNat
  | 0x010 => x.threshold.toNat
  | 0x014 => s.pendingAt t + 2 ^ 16 * s.topPriority t
  | 0x018 => x.msgInfo.toNat
  | 0x01C => x.lastHandle.toNat
  | 0x020 => x.special.toNat
  | 0x100 => s.o 0x7020 t
  | 0x104 => s.o 0x7060 t
  | 0x108 => s.o 0x7021 t
  | 0x10C => s.o 0x7014 t
  | 0x110 => x.doubleFree
  | 0x114 => x.foreignFree
  | 0x118 => s.o 0x7022 t
  | 0x11C => x.pageFaults
  | _ => 0

/-- What a DW of a register area reads, side effects apart. -/
def State.regRead (s : State) (fn off : Nat) : Nat :=
  match regionOf off with
  | .global => s.globalReg fn off
  | .dict => s.dictReg fn (off - 0x10000)
  | .mailbox => match s.fromView 0x3000 fn ((off - 0x400000) / 4096) with
    | some t => s.pageReg t (off % 4096)
    | none => 0
  | _ => 0

/-! ## Faults -/

/-- An ACCESS_FAULT at an offset: through a mailbox page of the view it counts PAGE_FAULTS too (R270). -/
def State.offFault (fn off : Nat) (s : State) : State :=
  match regionOf off with
  | .mailbox => match s.fromView 0x3000 fn ((off - 0x400000) / 4096) with
    | some t => s.pageFault fn t
    | none => s.accessFault fn
  | _ => s.accessFault fn

/-- A mailbox page beyond the view's count (R195). -/
def State.pageAbsent (s : State) (fn off : Nat) : Bool :=
  regionOf off == .mailbox && (s.fromView 0x3000 fn ((off - 0x400000) / 4096)).isNone

/-! ## Register writes -/

/-- Byte enables of DW `i` of a write or a read of `n`. -/
def byteEn (first last : BitVec 4) (n i : Nat) : BitVec 4 := if i = 0 then first else if i + 1 = n then last else 0xF

/-- An MSI-X table entry is written (R277): address, data, and the mask bit of vector control. -/
def Vec.write (field_ : Nat) (be : BitVec 4) (v : Dw) (x : Vec) : Vec :=
  let lo := x.addr.setWidth 32
  let up := (x.addr >>> 32).setWidth 32
  match field_ with
  | 0 => { x with addr := up ++ (mergeBytes be lo v &&& 0xFFFFFFFC) }
  | 1 => { x with addr := mergeBytes be up v ++ lo }
  | 2 => { x with data := mergeBytes be x.data v }
  | _ => { x with masked := (mergeBytes be (if x.masked then 1 else 0) v).getLsbD 0 }

/-- A byte of DICT_DATA is written. -/
def putByte (a : Nat) (v : Byte) (m : SMap Byte) : SMap Byte := smSet (fun _ => 0) m a v

/-- The bytes of a DW under byte enables go into DICT_DATA from byte `a` on. -/
def Window.put (a : Nat) (be : BitVec 4) (v : Dw) (w : Window) : Window :=
  { w with data := loop (fun i m => if be.getLsbD i then putByte (a + i) ((v >>> (8 * i)).setWidth 8) m else m) 0 4 w.data }

/-- One DW of the dictionary window's config-class registers is written. -/
def Window.write (off : Nat) (be : BitVec 4) (v : Dw) (w : Window) : Window :=
  if 0x100 ≤ off && off < 0x200 then w.put (off - 0x100) be v
  else match off with
  | 0x0000 => { w with addr := mergeBytes be w.addr v }
  | 0x0004 => { w with len := (mergeBytes be (w.len.setWidth 32) v).setWidth 9 }
  | 0x0010 => { w with irqEn := (mergeBytes be (if w.irqEn then 1 else 0) v).getLsbD 0 }
  | _ => w

/-- Rule 4 of Table 11-7 for one DW written: read-only bytes ignore it. THRESHOLD follows R114 and R268. -/
def State.cfgWrite (b fn off : Nat) (be : BitVec 4) (v : Dw) (s : State) : State :=
  match regionOf off with
  | .global =>
    if off = 0x28 then s.featAccept fn false be v
    else if off = 0x2C then s.featAccept fn true be v
    else if 0xF000 ≤ off ∧ off < 0xF020 then
      let k := (off - 0xF000) / 16
      let f := s.fn fn
      s.setFn fn (f.setVec k ((f.vec k).write (off % 16 / 4) be v))
    else s
  | .dict => s.setFn fn { s.fn fn with win := (s.fn fn).win.write (off - 0x10000) be v }
  | .mailbox =>
    if off % 4096 = 0x10 then s.pageWrite fn ((off - 0x400000) / 4096) (fun t s =>
      if be.getLsbD 0 then s.tgtThreshold b fn (v.setWidth 8) false t else s)
    else s
  | _ => s

/-- Rule 5 of Table 11-7: a DW written to an action-class register. -/
def State.actWrite (b fn off : Nat) (v : Dw) (s : State) : State :=
  match regionOf off with
  | .global =>
    let k := off % 512 / 4
    if off = 0x30 then (if v.getLsbD 0 then s.featOk fn else s)
    else if off = 0x40 then (if v.getLsbD 0 then s.pageWind fn else s)
    else if off < 0x110 then s.dialPendSet fn (off % 8 == 4) v
    else if off < 0x118 then s.dialPendClr fn (off % 8 == 4) v
    else if off < 0x120 then s.dialEnSet fn (off % 8 == 4) v
    else if off < 0x128 then s.dialEnClr fn (off % 8 == 4) v
    else if off < 0x1200 then s.arrayBits fn k v State.setPending
    else if off < 0x1400 then s.arrayBits fn k v State.clearPending
    else if off < 0x1800 then s.arrayBits fn k v (fun n => State.setEnable n true)
    else s.arrayBits fn k v (fun n => State.setEnable n false)
  | .dict =>
    let op := field v.toNat 0 4
    s.dictCmd (if op = 1 then some .get else if op = 2 then some .set else if op = 3 then some .draft else none) fn
      (BitVec.ofNat 8 (field v.toNat 8 8)) false
  | .mailbox => s.pageWrite fn ((off - 0x400000) / 4096)
      (fun t s => if off % 4096 = 8 then s.tgtComplete b fn v t else s.freeCore t v)
  | _ => s

/-- The whole of an access lies in DICT_DATA (R272). (DEDUCED, log 71.) -/
def inDictData (off n : Nat) : Bool := 0x10100 ≤ off && off + 4 * n ≤ 0x10200

/-- Offsets of the DWs of an access. -/
def dwOffs (off n : Nat) : List Nat := (List.range n).map (fun i => off + 4 * i)

/-- Every DW of a write, one after another. -/
def State.cfgWrites (b fn : Nat) (w : MemWrite) (s : State) : State :=
  each (fun (e : Dw × Nat) s => s.cfgWrite b fn (w.off + 4 * e.2) (byteEn w.beFirst w.beLast w.data.length e.2) e.1)
    w.data.zipIdx s

/-- A write to a register area, poisoned ones apart (Table 11-7, R272). (DEDUCED, log 70.) -/
def State.regWrite (b fn : Nat) (w : MemWrite) (s : State) : State :=
  let n := w.data.length
  let d0 := w.data.getD 0 0
  if inDictData w.off n then s.cfgWrites b fn w
  else if 2 < n then s.offFault fn w.off
  else if s.pageAbsent fn w.off then s.accessFault fn
  else if (dwOffs w.off n).all (fun o => !isAction o) then s.cfgWrites b fn w
  else if n == 1 && w.beFirst == 0xF && actionWrites w.off then s.actWrite b fn w.off d0
  else if n == 1 && w.beFirst == 0 then s
  else if n == 2 && regionOf w.off == .mailbox && w.off % 4096 == 8 && w.beFirst == 0xF && w.beLast == 0xF then
    s.pageWrite fn ((w.off - 0x400000) / 4096) (State.tgtPair b fn d0 (w.data.getD 1 0))
  else s.offFault fn w.off

/-! ## Doorbells (R42–R45) -/

/-- The bytes a write carries: its DWs, but for the disabled bytes of the last. -/
def writeBytes (w : MemWrite) : List Byte :=
  let l := if w.beLast = 1 then 1 else if w.beLast = 3 then 2 else if w.beLast = 7 then 3 else 4
  (w.data.flatMap (fun d => leBytes 4 d.toNat)).take (4 * (w.data.length - 1) + l)

/-- R42: the source a slot raises. -/
def State.slotSource (s : State) (fn k : Nat) : Option Nat := (s.fromView 0x2000 fn k).filter (fun n => 1152 ≤ n)

/-- R43: a write into the doorbell window. -/
def State.doorbell (fn : Nat) (w : MemWrite) (s : State) : State :=
  let s := if w.poisoned then s.aerLog fn true else s
  let bs := writeBytes w
  let ok := !w.poisoned && w.off % 128 == 0 && 2 ≤ w.data.length && w.beFirst == 0xF
    && (w.beLast == 1 || w.beLast == 3 || w.beLast == 7 || w.beLast == 0xF) && 8 ≤ bs.length && bs.length ≤ 72
  match s.slotSource fn ((w.off - 0x100000) / 128) with
  | some n =>
    if ok then
      let d0 := (w.data.getD 0 0).toNat
      { s with doorbells := s.doorbells ++
          [⟨n, BitVec.ofNat 16 (field d0 0 16), field d0 16 8, bitOf d0 24, bs.drop 8⟩] }
    else s.accessFault fn
  | none => s.accessFault fn

/-! ## Reads -/

/-- A zero-length read: one DW with no byte enabled. -/
def emptyRead (r : MemRead) : Bool := r.dws == 1 && r.beFirst == 0

/-- R44: a read in the doorbell window. -/
def State.doorbellRd (fn : Nat) (r : MemRead) (s : State) : State :=
  let s := s.cplZeros fn (4 * r.dws)
  if emptyRead r then s else s.accessFault fn

/-- R56: a read of the payload read window. -/
def State.payloadRd (fn : Nat) (r : MemRead) (s : State) : State :=
  let a := r.off - 0x200000
  if emptyRead r then s.cplZeros fn 4
  else if 64 < a % 64 + 4 * r.dws then ((s.post (.cpl fn true [])).aerLog fn false).accessFault fn
  else
    let x := s.bufAt (a / 64)
    if x.st == .owned && (fn == 0 || x.holders.any (fun t => s.tgtTen t == fn)) then
      let bs := if x.bad then [] else x.bytes
      s.post (.cpl fn false ((List.range (4 * r.dws)).map (fun i => bs.getD (a % 64 + i) 0)))
    else (s.cplZeros fn (4 * r.dws)).bump 0x7036 fn 1

/-- R415: a read of the chronograph aperture. -/
def State.apertureRd (fn : Nat) (r : MemRead) (s : State) : State :=
  if emptyRead r then s.cplZeros fn 4
  else s.post (.cpl fn false ((List.range (4 * r.dws)).map (fun i => s.apertureByte (r.off - 0x800000 + i))))

/-- The bytes of a served read of registers. -/
def State.regBytes (s : State) (fn : Nat) (r : MemRead) : List Byte :=
  (dwOffs r.off r.dws).flatMap (fun o => leBytes 4 (s.regRead fn o))

/-- A read of a register area (Table 11-7, R272). (DEDUCED, log 70, 72.) -/
def State.regRd (b fn : Nat) (r : MemRead) (s : State) : State :=
  if emptyRead r then s.cplZeros fn 4
  else if inDictData r.off r.dws then s.post (.cpl fn false (s.regBytes fn r))
  else if 2 < r.dws then ((s.post (.cpl fn true [])).aerLog fn false).offFault fn r.off
  else if s.pageAbsent fn r.off then (s.cplZeros fn (4 * r.dws)).accessFault fn
  else if (dwOffs r.off r.dws).all (fun o => !isAction o) then s.post (.cpl fn false (s.regBytes fn r))
  else if r.dws == 1 && r.beFirst == 0xF && actionReads r.off then
    (if regionOf r.off = .mailbox then s.pageClaim b fn ((r.off - 0x400000) / 4096) false false
     else s.post (.cpl fn false (s.regBytes fn r)))
  else if r.dws == 2 && regionOf r.off == .mailbox && r.off % 4096 == 0 && r.beFirst == 0xF && r.beLast == 0xF then
    s.pageClaim b fn ((r.off - 0x400000) / 4096) true false
  else (s.cplZeros fn (4 * r.dws)).offFault fn r.off

/-! ## One memory request at any offset -/

/-- A memory write TLP (R260, R269, R272). -/
def State.memWrite (b fn : Nat) (w : MemWrite) (s : State) : State :=
  match regionOf w.off with
  | .doorbell => s.doorbell fn w
  | .reserved => if w.poisoned then s.aerLog fn true else s
  | .payload | .aperture => (if w.poisoned then s.aerLog fn true else s).accessFault fn
  | _ => if w.poisoned then (s.aerLog fn true).offFault fn w.off else s.regWrite b fn w

/-- A memory read TLP. (DEDUCED, log 72.) -/
def State.memRead (b fn : Nat) (r : MemRead) (s : State) : State :=
  match regionOf r.off with
  | .doorbell => s.doorbellRd fn r
  | .payload => s.payloadRd fn r
  | .aperture => s.apertureRd fn r
  | .reserved => s.cplZeros fn (4 * r.dws)
  | _ => s.regRd b fn r

/-- The size of a function's BAR0 (R259). -/
def barSize (fn : Nat) : Nat := if fn = 0 then 0x4000000 else 0x800000

/-- A TLP of `n` DWs at `off` that the link can carry: DW-aligned, inside the BAR, in one 4-KiB page. -/
def tlpFits (fn off n : Nat) : Bool := off % 4 == 0 && 1 ≤ n && off % 4096 + 4 * n ≤ 4096 && off + 4 * n ≤ barSize fn

/-- The byte enables the standard allows: one DW has none of the last; more have some of both. -/
def beFits (n : Nat) (first last : BitVec 4) : Bool := if n = 1 then last == 0 else first != 0 && last != 0

def writeFits (fn : Nat) (w : MemWrite) : Bool :=
  tlpFits fn w.off w.data.length && w.data.length ≤ 128 && beFits w.data.length w.beFirst w.beLast
def readFits (fn : Nat) (r : MemRead) : Bool := tlpFits fn r.off r.dws && beFits r.dws r.beFirst r.beLast

/-! ## The requests held while quiet (R357, R360) -/

/-- R279: a pending message leaves when all its conditions hold. -/
def State.msixSend (fn v : Nat) (s : State) : State :=
  let f := s.fn fn
  if (f.vec v).pba && s.vecGo fn v then
    (s.setFn fn (f.setVec v { f.vec v with pba := false })).post (.posted (.msix v) fn (f.vec v).addr [(f.vec v).data])
  else s

/-- The function of a memory request, whether it reads, and its effect. -/
def memOp (i : Instr) : Option (Nat × Bool × (State → State)) :=
  match i with
  | .pendSet _ fn k m => some (fn, false, State.arrayBits fn k m State.setPending)
  | .pendClr _ fn k m => some (fn, false, State.arrayBits fn k m State.clearPending)
  | .enableSet _ fn k m => some (fn, false, State.arrayBits fn k m (State.setEnable · true))
  | .enableClr _ fn k m => some (fn, false, State.arrayBits fn k m (State.setEnable · false))
  | .doorbellWrite _ fn w => some (fn, false, State.doorbell fn w)
  | .doorbellRead _ fn r => some (fn, true, State.doorbellRd fn r)
  | .payloadRead b fn r => some (fn, true, State.memRead b fn r)
  | .free _ fn p h => some (fn, false, State.pageWrite fn p (fun t => State.freeCore t h))
  | .completeFreePair b fn p d h => some (fn, false, State.pageWrite fn p (State.tgtPair b fn d h))
  | .claim b fn p mm => some (fn, true, State.pageClaim b fn p false mm)
  | .claim64 b fn p mm => some (fn, true, State.pageClaim b fn p true mm)
  | .complete b fn p d => some (fn, false, State.pageWrite fn p (State.tgtComplete b fn d))
  | .thresholdWrite b fn p v mm => some (fn, false, State.pageWrite fn p (State.tgtThreshold b fn v mm))
  | .featAcceptWrite _ fn hi be v => some (fn, false, State.featAccept fn hi be v)
  | .featuresOkRequest _ fn => some (fn, false, State.featOk fn)
  | .dictGet _ fn q => some (fn, false, State.dictCmd (some .get) fn q false)
  | .dictSet _ fn q mm => some (fn, false, State.dictCmd (some .set) fn q mm)
  | .dictGetDraft _ fn q => some (fn, false, State.dictCmd (some .draft) fn q false)
  | .wind _ fn true => some (fn, false, State.pageWind fn)
  | .dialPendSet _ fn hi v => some (fn, false, State.dialPendSet fn hi v)
  | .dialPendClr _ fn hi v => some (fn, false, State.dialPendClr fn hi v)
  | .dialEnSet _ fn hi v => some (fn, false, State.dialEnSet fn hi v)
  | .dialEnClr _ fn hi v => some (fn, false, State.dialEnClr fn hi v)
  | .registerWrite b fn w => some (fn, false, State.memWrite b fn w)
  | .atomicopRequest _ fn => some (fn, true, State.cplUr fn)
  | .lockedRead _ fn => some (fn, true, State.cplUr fn)
  | _ => none

/-- A memory request is served, held or turned away. -/
def State.request (i : Instr) (s : State) : State :=
  match memOp i with
  | some (fn, read, f) => s.memReq fn read i f
  | none => s

/-- The meaning of a memory request of function `fn` (R40, R273). -/
def req_ (b fn : Nat) (ok : Bool) (i : Instr) (s : State) : Host.Outcome State Fault Refusal :=
  run (ok && decide (fn < 32)) ((s.atReq b).request i)

/-- R357: the escapements resume, and the requests held are applied in order of receipt.
(DEDUCED, log 87.) -/
def State.wakeResume (s : State) : State :=
  if s.quiet.code = 3 then
    let l := s.quiet.held
    let s := ({ s with quiet := { s.quiet with held := [] } } : State).resume
    each (fun i s => (s.upToReq s.now).request i) l s
  else s

/-! ## Configuration requests (R296) -/

/-- R2: what a read of the identification answers: Vendor ID, Device ID, Revision ID. -/
def identity (fn : Nat) : Nat := Config.vendorId.toNat + (if fn = 0 then 0x4096 else 0x4097) * 2 ^ 16 + 2 ^ 32

/-- The SR-IOV capability is presented: by the physical function, under TENANT_MODE 1 (R190). -/
def State.sriov (s : State) (fn : Nat) : Bool := fn == 0 && s.straps.getLsbD 4

/-- Table 11-2: the function presents the capability. -/
def State.hasCap (s : State) (fn : Nat) : PcieCap → Bool
  | .express | .msix | .aer | .ari => true
  | .powerManagement | .serial => fn == 0
  | .sriov => s.sriov fn
  | _ => false

/-- DW k of a BAR0 that is 64-bit, non-prefetchable and of 2^n bytes (R259); the other BARs are absent.
(PRESUMED, log 136.) -/
def barDw (base : BitVec 64) (k : Nat) : Nat := if k = 0 then half false base.toNat + 4 else if k = 1 then half true base.toNat else 0

/-- What a field of configuration space reads; a field of a capability the function does not present reads 0. Values the spec
gives in words are coded as the PCI Express standard codes them. (PRESUMED, log 136.) -/
def State.cfgRead (s : State) (fn : Nat) (r : CfgField) : Nat :=
  let f := s.fn fn
  let sr (v : Nat) : Nat := if s.sriov fn then v else 0
  let pf (v : Nat) : Nat := if fn = 0 then v else 0
  match r with
  | .classCode => 0x088000
  | .subsystemVendor => Config.vendorId.toNat
  | .subsystemId | .interruptPin | .expansionRom => 0
  | .busMaster => b2n f.bme
  | .bar k => pf (barDw f.bar k)
  | .vfBar k => sr (barDw f.vfBar k)
  | .present c => b2n (s.hasCap fn c)
  | .pmState => pf (3 * b2n s.pfD3)
  | .pmeEn => pf (b2n s.pmeEn)
  | .mpsSupported => 2
  | .mps => f.mps
  | .flrCapable | .extendedTags | .tenBitCompleter => 1
  | .aspmSupport => 2
  | .aspmControl => 2 * b2n f.aspm
  | .msixControl => 1 + 2 ^ 14 * b2n f.fmask + 2 ^ 15 * b2n f.msixEn
  | .msixTable => 0xF000
  | .msixPba => 0xF800
  | .aerStatus => 2 ^ 12 * b2n f.aerPoisoned + 2 ^ 20 * b2n f.aerUr
  | .totalVfs | .initialVfs => sr 31
  | .firstVfOffset | .vfStride => sr 1
  | .numVfs => sr s.numVfs
  | .vfEnable => sr (b2n s.vfEnable)
  | .serialNumber hi => pf (half hi (s.readVal 0 0x0004 0))

/-- DW k of a BAR of 2^n bytes is written: the low n bits are no address. -/
def barPut (n k : Nat) (v : Dw) (base : BitVec 64) : BitVec 64 :=
  let lo := base.setWidth 32
  let up := (base >>> 32).setWidth 32
  if k = 0 then up ++ (v &&& BitVec.ofNat 32 (2 ^ 32 - 2 ^ n)) else if k = 1 then v ++ lo else base

/-- The effect of a configuration write on function `fn`. -/
def State.cfgPut (fn : Nat) (op : CfgOp) (s : State) : State :=
  let f := s.fn fn
  match op with
  | .barWrite k v => if fn = 0 then s.setFn fn { f with bar := barPut 26 k v f.bar } else s
  | .vfBarWrite k v => if s.sriov fn then s.setFn fn { f with vfBar := barPut 23 k v f.vfBar } else s
  | .mpsWrite v => s.setFn fn { f with mps := if v.toNat ≤ 2 then v.toNat else f.mps }
  | .aspmControl on => s.setFn fn { f with aspm := on }
  | .aerClear u p => s.setFn fn { f with aerUr := f.aerUr && !u, aerPoisoned := f.aerPoisoned && !p }
  | .msixControl en mask => s.setFn fn { f with msixEn := en, fmask := mask }
  | .pmeEnable v => if fn = 0 then { s with pmeEn := v } else s
  | .read _ | .readId | .other => s

/-- A configuration request: Request Retry Status before step 11; UR for a function that is not present.
(DEDUCED, log 75.) -/
def State.cfgRequest (fn : Nat) (op : CfgOp) (s : State) : State :=
  if !s.linkCan then s
  else
    let s := s.linkUp
    if !s.cfgServed then s.post (.cfgCpl fn true 0)
    else if !s.present fn then s.post (.cpl fn true [])
    else match op with
      | .read r => s.post (.cfgCpl fn false (s.cfgRead fn r))
      | .readId => s.post (.cfgCpl fn false (identity fn))
      | _ => (s.cfgPut fn op).post (.cfgCpl fn false 0)

/-! ## The meanings -/

def execPendSet (b fn k : Nat) (mask : Dw) (s : State) : Host.Outcome State Fault Refusal :=
  req_ b fn (k < 128) (.pendSet b fn k mask) s
def execPendClr (b fn k : Nat) (mask : Dw) (s : State) : Host.Outcome State Fault Refusal :=
  req_ b fn (k < 128) (.pendClr b fn k mask) s
def execEnableSet (b fn k : Nat) (mask : Dw) (s : State) : Host.Outcome State Fault Refusal :=
  req_ b fn (k < 128) (.enableSet b fn k mask) s
def execEnableClr (b fn k : Nat) (mask : Dw) (s : State) : Host.Outcome State Fault Refusal :=
  req_ b fn (k < 128) (.enableClr b fn k mask) s
def execDoorbellWrite (b fn : Nat) (w : MemWrite) (s : State) : Host.Outcome State Fault Refusal :=
  req_ b fn (writeFits fn w && decide (regionOf w.off = .doorbell)) (.doorbellWrite b fn w) s
def execDoorbellArrival (b : Nat) (s : State) : Host.Outcome State Fault Refusal := at_ b true State.doorbellArrive s
def execDoorbellRead (b fn : Nat) (r : MemRead) (s : State) : Host.Outcome State Fault Refusal :=
  req_ b fn (readFits fn r && decide (regionOf r.off = .doorbell)) (.doorbellRead b fn r) s
def execPayloadRead (b fn : Nat) (r : MemRead) (s : State) : Host.Outcome State Fault Refusal :=
  req_ b fn (readFits fn r) (.payloadRead b fn r) s
def execFree (b fn page : Nat) (h : Dw) (s : State) : Host.Outcome State Fault Refusal :=
  req_ b fn (page < 1024) (.free b fn page h) s
def execCompleteFreePair (b fn page : Nat) (d h : Dw) (s : State) : Host.Outcome State Fault Refusal :=
  req_ b fn (page < 1024) (.completeFreePair b fn page d h) s
def execClaim (b fn page : Nat) (mm : Bool) (s : State) : Host.Outcome State Fault Refusal :=
  req_ b fn (page < 1024) (.claim b fn page mm) s
def execClaim64 (b fn page : Nat) (mm : Bool) (s : State) : Host.Outcome State Fault Refusal :=
  req_ b fn (page < 1024) (.claim64 b fn page mm) s
def execComplete (b fn page : Nat) (d : Dw) (s : State) : Host.Outcome State Fault Refusal :=
  req_ b fn (page < 1024) (.complete b fn page d) s
def execThresholdWrite (b fn page : Nat) (v : BitVec 8) (mm : Bool) (s : State) : Host.Outcome State Fault Refusal :=
  req_ b fn (page < 1024) (.thresholdWrite b fn page v mm) s
def execFeatAcceptWrite (b fn : Nat) (hi : Bool) (be : BitVec 4) (v : Dw) (s : State) : Host.Outcome State Fault Refusal :=
  req_ b fn true (.featAcceptWrite b fn hi be v) s
def execFeaturesOkRequest (b fn : Nat) (s : State) : Host.Outcome State Fault Refusal :=
  req_ b fn true (.featuresOkRequest b fn) s
def execDialPendSet (b fn : Nat) (hi : Bool) (v : Dw) (s : State) : Host.Outcome State Fault Refusal :=
  req_ b fn true (.dialPendSet b fn hi v) s
def execDialPendClr (b fn : Nat) (hi : Bool) (v : Dw) (s : State) : Host.Outcome State Fault Refusal :=
  req_ b fn true (.dialPendClr b fn hi v) s
def execDialEnSet (b fn : Nat) (hi : Bool) (v : Dw) (s : State) : Host.Outcome State Fault Refusal :=
  req_ b fn true (.dialEnSet b fn hi v) s
def execDialEnClr (b fn : Nat) (hi : Bool) (v : Dw) (s : State) : Host.Outcome State Fault Refusal :=
  req_ b fn true (.dialEnClr b fn hi v) s
def execMsixPendingSend (b fn vec : Nat) (s : State) : Host.Outcome State Fault Refusal :=
  at_ b (fn < 32 && vec < 2) (State.msixSend fn vec) s
def execRegisterWrite (b fn : Nat) (w : MemWrite) (s : State) : Host.Outcome State Fault Refusal :=
  req_ b fn (writeFits fn w) (.registerWrite b fn w) s
def execAtomicopRequest (b fn : Nat) (s : State) : Host.Outcome State Fault Refusal :=
  req_ b fn true (.atomicopRequest b fn) s
def execLockedRead (b fn : Nat) (s : State) : Host.Outcome State Fault Refusal := req_ b fn true (.lockedRead b fn) s
def execConfigurationRequest (b fn : Nat) (op : CfgOp) (s : State) : Host.Outcome State Fault Refusal :=
  at_ b (fn < 32) (State.cfgRequest fn op) s
def execWakeResume (b : Nat) (s : State) : Host.Outcome State Fault Refusal := at_ b true State.wakeResume s

end Sys2Proof.Machine
end

