-- ==== Sys2Proof/Machine/Start.lean ====
section
/-! DEFINITION. Level resets and the start (12): reset sources, what each level reaches (Table 12-4), the steps of
Table 12-6, options (R306–R308), failed starts and minimal mode (R301–R304); VBAK and the pins. -/

namespace Sys2Proof.Machine

open Sys2Proof

/-! ## History (R286) -/

/-- A RESET_HISTORY entry (Table 12-3). -/
def historyEntry (lvl : Level) (cause : Nat) (esc fresh : Bool) (count : Nat) : Dw :=
  BitVec.ofNat 32 (cause + lvl.rank * 2 ^ 8 + b2n esc * 2 ^ 11 + b2n fresh * 2 ^ 12 + count % 65536 * 2 ^ 16)

/-- A reset is counted and entered in the history; VBAK_FRESH is read and cleared (R310). -/
def State.countReset (lvl : Level) (cause : Nat) (esc : Bool) (s : State) : Dw × State :=
  let k := s.backup
  let e := historyEntry lvl cause esc k.fresh (k.resetCount.toNat + 1)
  (e, s.bk (fun k => { k with
    resetCount := k.resetCount + 1, history := (e :: k.history).take 16, fresh := false, lastStep := 0 }))

/-- The body of a RESET record (Table 17-8). -/
def resetBody (e count : Dw) (lost : Nat) : List Byte :=
  leBytes 4 e.toNat ++ leBytes 4 count.toNat ++ leBytes 2 (min 65535 lost)

/-! ## What a level reaches (Table 12-4) -/

/-- R10, R287: the objects a level reset restores. -/
def State.restore (rank : Nat) (s : State) : State :=
  let goes (o : Obj) : Bool := restoredBy rank o || rank ≤ 3 && (o.rst == 5 || o.blk)
  { s with obj := s.obj.filter (fun e => !(objAt (e.1 / 65536) (e.1 % 65536)).any goes) }

/-- Every level: drafts, winds, dictionary windows (R222), block resets in progress (R291), the watchdog (R284). -/
def State.dropWork (s : State) : State :=
  { s with
    drafts := [], marks := [], winds := [], blk := [], portDeferred := false, wdogFrom := none, resetReq := none
    func := s.func.map (fun e => (e.1, { e.2 with win := .init, rst := .none })) }

/-- Every level: the statistics of the targets (entries L3). -/
def Target.stats (x : Target) : Target :=
  { x with doubleFree := 0, foreignFree := 0, pageFaults := 0, pSamples := 0, pLat := 0, pSvc := 0, pClaims := 0,
           pTimeouts := 0, closedTimeouts := 0, claimsAtQ := 0, hasAvg := false }

/-- L1 and L2: the source table, deliveries, targets, sensing, engines, functions, link, port and Quiet mode; a reset filter holds 0
and counts anew what its input shows (R287). (DESIGN CHOICE, log 147.) -/
def State.resetPlane (s : State) : State :=
  { s with
    filtered := smMap (fun _ => Filt.init) (fun _ x => { x with value := false, since := s.now }) s.filtered
    src := [], late := [], row2 := [], nextObj := [], dlv := [], tgt := [], esc := [], heldOps := [], doorbells := [], sensing := false
    eng := [], badParity := [], func := [], vfEnable := false, numVfs := 0, pfD3 := false, pmeEn := false, wakeLow := false
    linkL0 := false, txWait := [], tdm := .init, port := .init, fw := .init, quiet := .init, nextSw := s.now
    gasp := { Gasp.init with prepared := s.gasp.prepared } }

/-- The chronograph with nothing but the RESET record of a cold start. -/
def State.coldChrono (body : List Byte) (s : State) : State :=
  { s with chr := { Chrono.init with queue := [⟨s.cnt, 3, 0x20, body⟩] }, chrWin := [] }

/-- L1 and L2 cold: payload pool, counter, fault slots. -/
def State.resetCold (s : State) : State :=
  { s with buf := [], poolNext := 0, poolBack := [], time := .init, first := none, multi := false, worst := none, faultB := .init }

/-- R288: an L2 warm reset returns every buffer and clears the records. -/
def State.warmBuffers (s : State) : State :=
  let s := each (fun (e : Nat × Buf) (s : State) => s.returnBuf e.1 false) s.buf s
  { s with buf := smMap (fun _ => Buf.init) (fun _ x => { x with record := none }) s.buf }

/-- An L1 or L2 cold reset; its start applies factory defaults where FW_ACTIVATE 2 asked for it (R340). -/
def State.coldReset (lvl : Level) (cause : Nat) (esc : Bool) (s : State) : State :=
  let defaults := match s.resetReq with | some r => r.defaults | none => false
  let (e, s) := s.phyBack.countReset lvl cause esc
  let s := (s.restore lvl.rank).dropWork.resetPlane.resetCold
  let s := if lvl = .l1 then { s with
      supply := .init, gasp := .init, jtag := ⟨0x02, false, 0, false, [], false⟩, shadow := safeOptions } else s
  let s := s.coldChrono (resetBody e s.backup.resetCount 0)
  { s with start := { Start.init with
      level := lvl, holdPorst := s.start.holdPorst, holdRstn := s.start.holdRstn
      optionsDone := s.start.optionsDone && lvl != .l1
      useDefaults := defaults } }

/-- An L2 warm reset (R288, R411). (DEDUCED, log 78.) -/
def State.warmReset (cause : Nat) (esc : Bool) (s : State) : State :=
  let (e, s) := s.phyBack.countReset .l2w cause esc
  let lost := s.chr.queue.length
  let s := (s.restore 3).dropWork.resetPlane.warmBuffers
  let s := { s with obj := s.obj.filter (fun e => e.1 / 65536 != 0x1212) }
  let t := s.time
  { s with
    time := { t with
      mode := .relock, relockAt := s.now, load := none, watched := false, spanAdv := none, spanTicks := 0, ppsOutUntil := none
      toUpdate := false, resumeAtTick := false, balFrac := 0 }
    chr := { s.chr with
      queue := [⟨s.cnt, 3, 0x20 + b2n s.coarse * 64, resetBody e s.backup.resetCount lost⟩], fresh := 0, lost := 0
      flushing := false, flushOwes := 0, selfRefresh := false, rings := 0 }
    start := { Start.init with
      level := .l2w, holdPorst := s.start.holdPorst, holdRstn := s.start.holdRstn, optionsDone := s.start.optionsDone
      lostRecords := lost } }

/-- Every level reset ends Quiet mode (R362); at L3 the data plane resumes, with the requests held.
(DEDUCED, log 87.) -/
def State.endQuiet (s : State) : State :=
  if s.quiet.code = 0 then s
  else
    let stop := s.quiet.engStopped
    let s := if s.asleep then ({ s with quiet := { s.quiet with code := 3 } } : State).wakeResume
      else { s with quiet := { s.quiet with code := 0, issueStop := false } }
    let s := each State.engStart stop s
    let s := s.phyBack
    { s with chr := { s.chr with selfRefresh := false }, quiet := { Quiet.init with d3Bar := s.quiet.d3Bar } }

/-- An L3 reset (R289): the data plane runs on. Copies of a last gasp that a deferral has not waited for are discarded (R282,
R351). -/
def State.coreReset (cause : Nat) (esc : Bool) (s : State) : State :=
  let (e, s) := s.countReset .l3 cause esc
  let escs := (s.blk.map (·.1)).filter (fun el => el < 8 && !(s.escAt el).failed)
  let s := (s.endQuiet.restore 4).dropWork
  let s := { s with
    quiet := { s.quiet with beginAt := none, d3Waits := false }
    gasp := { s.gasp with sending := false, rounds := 3 }
    tgt := smMap (fun _ => Target.init) (fun _ x => x.stats) s.tgt
    time := { s.time with toUpdate := false }
    chr := { s.chr with rings := 0 }
    start := { Start.init with
      step := 8, level := .l3, stateCode := s.start.stateCode, minimal := s.start.minimal, bringup := s.start.bringup
      boundFrom := some s.now, holdPorst := s.start.holdPorst, holdRstn := s.start.holdRstn
      dictBarUntil := s.now + 1600, optionsDone := s.start.optionsDone } }
  let s := { s with fw := { Firmware.init with bootFrom := s.now, lastBeatOfHeart := s.now } }
  let s := s.regGo (if s.bare then 3 else 0)
  let s := each State.escReturn escs s
  let s := s.chrPut 3 none (resetBody e s.backup.resetCount 0)
  if s.bare then { s with start := { s.start with step := 9 } } else s

/-- A level reset begins, and cuts short what the flash has in progress, but for the update that R302 makes before the reset it
requests (R326). Minimal mode and bring-up last until an L1 or L2 reset, whose start is cold (R303, R304). -/
def State.levelReset (lvl : Level) (cause : Nat) (esc : Bool) (s : State) : State :=
  let s := if cause = 0x0B then s else s.cutBoot
  match lvl with
  | .l1 => s.coldReset .l1 cause esc
  | .l2c => s.coldReset .l2c cause esc
  | .l2w => if s.bare then s.coldReset .l2c cause true else s.warmReset cause esc
  | .l3 => s.coreReset cause esc

/-- R281, R282: the requested level reset takes effect, unless a gasp defers it.
(DEDUCED, log 79.) -/
def State.resetStart (s : State) : State :=
  match s.resetReq with
  | some r =>
    if r.due ≤ s.now && (r.level == .l1 || !s.gasping || r.due + 1760000 ≤ s.now) then s.levelReset r.level r.cause r.escalated
    else s
  | none => s

/-! ## Requests by pins and supplies -/

/-- PORST_N low (`held`), or a main supply out of its window (R280), which zeroes the copies in the backup domain (R312). -/
def State.powerOn (held : Bool) (s : State) : State :=
  let s := s.requestReset .l1 1 16
  if held then { s with start := { s.start with holdPorst := true } }
  else { s with backup := { s.backup with mainGood := false, supplyLive := 0, feedLive := 0, ibvLive := 0 } }

/-- RESET_N has been low for `low` units of 10 ns (R280, R281, R438).
(DESIGN CHOICE, log 21.) (DEDUCED, log 88.) -/
def State.resetPin (low : Nat) (s : State) : State :=
  if low < 100 then s
  else
    let (k, s') := s.draw
    let (go, s) := if low = 100 then (Config.freeResets k, s') else (true, s)
    if go then
      let t := s.requestReset (if s.o 0x1001 0 = 1 then .l2w else .l2c) 3 16
      if t.resetReq = s.resetReq then s else { t with start := { t.start with holdRstn := true } }
    else s

/-- PORST_N or RESET_N rises. (DEDUCED, log 88.) -/
def State.pinRelease (porst : Bool) (s : State) : State :=
  if porst then { s with start := { s.start with holdPorst := false } }
  else { s with start := { s.start with holdRstn := false } }

/-- R312: a main supply leaves its window. -/
def State.supplyOut (s : State) : State :=
  { s with backup := { s.backup with mainGood := false, supplyLive := 0, feedLive := 0, ibvLive := 0 } }

/-- R310: VBAK falls below its retention threshold. -/
def State.vbakLoss (s : State) : State := { s with backup := Backup.cleared false, crown := .init }

/-- R427: VBAK is present again; the supply monitor writes its copies again while the main supplies are good. -/
def State.vbakRestore (s : State) : State :=
  if s.backup.present then s
  else { s with
    backup := { Backup.cleared true with
      mainGood := s.supply.running && (match s.resetReq with | some r => r.level != .l1 | none => true) }
    crown := .init }

/-! ## The steps (Table 12-6) -/

/-- The steps of the start's column; step 3 of a start after an interrupted one runs whatever the level (R295). Step 4
is part of what ends the step before it. -/
def Start.steps (x : Start) : List Nat :=
  match x.level with
  | .l1 => [1, 2, 3, 5, 6, 7, 9, 10, 12]
  | .l2c => if x.optionsDone then [1, 2, 5, 6, 7, 9, 10, 12] else [1, 2, 3, 5, 6, 7, 9, 10, 12]
  | .l2w => if x.optionsDone then [1, 2, 8, 9, 10, 12] else [1, 2, 3, 8, 9, 10, 12]
  | .l3 => [9, 10, 12]

/-- The step in progress; 13 when none is left. -/
def State.nextStep (s : State) : Nat := (s.start.steps.find? (fun k => s.start.step < k)).getD 13

/-- Step `k` may end now. -/
def State.mayStep (s : State) (k : Nat) : Bool :=
  s.nextStep == k && s.start.failedAt.isNone && !s.start.holdPorst && !s.start.holdRstn

/-- Step `k` is completed; step 9 then begins where it is the next: the Regulator boots, or is held (R303). -/
def State.stepDone (k : Nat) (s : State) : State :=
  let s := ({ s with start := { s.start with step := k } } : State).bk (fun x => { x with lastStep := k })
  if k < 9 && s.nextStep == 9 then
    if s.bare then (({ s.regGo 3 with start := { s.start with step := 9 } }) : State).bk (fun x => { x with lastStep := 9 })
    else
      let s := s.regGo 0
      { s with fw := { s.fw with bootFrom := s.now } }
  else s

/-- Step 4: trims applied; the supply monitor runs (R343, R312). -/
def State.trims (s : State) : State :=
  let s := { s with supply := { s.supply with running := true } }
  (s.stepDone 4).bk (fun k => { k with mainGood := true })

def State.supplyGood (s : State) : State := if s.mayStep 1 then s.stepDone 1 else s

/-- R309: a changed strap makes a warm start cold, and its history entry ESCALATED.
(DEDUCED, log 80.) -/
def State.becomeCold (s : State) : State :=
  let e := (s.backup.history.getD 0 0 &&& 0xFFFFF8FF) ||| 0xA00
  let s := s.bk (fun k => { k with history := e :: k.history.drop 1 })
  let s := (s.restore 2).resetCold
  let s := { s with time := { s.time with mode := .perBeat } }
  let s := s.coldChrono (resetBody e s.backup.resetCount s.start.lostRecords)
  { s with start := { s.start with level := .l2c } }

/-- The beat counter after lock (R158). -/
def Time.locked (t : Time) : Time :=
  match t.mode with
  | .relock => { t with mode := .perBeat, counter := t.counter + 1 }
  | _ => { t with mode := .perBeat }

/-- Step 2: PLL locked, straps sampled (R309); L2_REQUEST is cleared (R322); step 3 begins with its attempt (R307). In a wake the
PLL locks too, and the first tick after it restarts the counting per beat (R171, Table 15-7).
(DESIGN CHOICE, log 3, 9.) (DEDUCED, log 81.) -/
def State.pllLock (straps : BitVec 5) (s : State) : State :=
  if s.quiet.code = 3 ∧ s.time.mode = .quiet then { s with time := { s.time with resumeAtTick := true } }
  else if s.mayStep 2 then
    let s := { s with straps := straps, time := s.time.locked }
    let s := s.bk (fun k => { k with latch := k.latch &&& 0xFFF7 })
    let s := { s with start := { s.start with
      boundFrom := some s.now, bringup := field straps.toNat 2 2 == 3 } }
    let s := if s.start.level = .l2w then (if s.backup.strapsCold = straps then s else s.becomeCold) else s
    let s := if s.start.level = .l2w then s else s.bk (fun k => { k with strapsCold := straps })
    let s := s.stepDone 2
    if s.nextStep = 3 then s.bk (fun k => { k with optAttempts := min 255 (k.optAttempts + 1) }) else s.trims
  else s

/-! ## Options (R306–R308) -/

/-- A copy is valid: its CRC over record bits 255 to 0 and its FORMAT. -/
def copyValid (c : BitVec 272) : Bool :=
  crc16 ((List.range 256).map (fun i => c.getLsbD (255 - i))) == c.extractLsb' 256 16 && c.extractLsb' 8 8 == 1#8

/-- The fields of Table 12-8: lowest bit and width. -/
def optFields : List (Nat × Nat) :=
  [(0, 8), (8, 8), (16, 48), (64, 64), (128, 8), (136, 8), (144, 32), (176, 16), (192, 8), (200, 8), (208, 8), (216, 8),
   (224, 8), (232, 8), (240, 8), (248, 8)]

/-- DIFF_MASK: bit k where field k of the two records differs. -/
def diffMask (a b : BitVec 272) : Nat :=
  (optFields.zipIdx.map (fun e =>
    b2n (field a.toNat e.1.1 e.1.2 != field b.toNat e.1.1 e.1.2) * 2 ^ e.2)).sum

/-- Table 12-9: SOURCE (0 safe, 1 A, 2 B) and the OPT_STATUS bits it adds. -/
def resolveCopies (a b : BitVec 272) : Nat × Nat :=
  let m := diffMask a b
  let ga := field a.toNat 0 8
  let gb := field b.toNat 0 8
  match copyValid a, copyValid b with
  | true, true =>
    if m = 0 then (1, 0)
    else if m % 4096 = 0 then (1, 4 + m * 2 ^ 16)
    else if ga = gb then (0, 8 + m * 2 ^ 16)
    else (if ga < gb then 2 else 1, m * 2 ^ 16)
  | true, false => (1, 0)
  | false, true => (2, 0)
  | false, false => (0, 16)

/-- Step 3: the copies are resolved and the shadow registers written in one beat; then step 4.
(DESIGN CHOICE, log 10.) (DEDUCED, log 81.) -/
def State.optionLoad (s : State) : State :=
  if s.mayStep 3 then
    let (src, bits) := resolveCopies s.fuseA s.fuseB
    let st := src + bits + 32 * b2n (copyValid s.fuseA) + 64 * b2n (copyValid s.fuseB)
    let s := { s with shadow := if src = 1 then s.fuseA.setWidth 256 else if src = 2 then s.fuseB.setWidth 256 else safeOptions }
    let s := (s.setO 0x1100 0 st).setO 0x1102 0 (field s.fuseA.toNat 0 8) |>.setO 0x1102 1 (field s.fuseB.toNat 0 8)
    let s := s.bk (fun k => { k with optAttempts := 0, optStatusLast := BitVec.ofNat 32 st })
    let s := if bits % 32 = 8 ∨ bits % 32 = 16 then s.dial 20 0 else s
    let s := { s with start := { s.start with optionsDone := true } }
    (s.stepDone 3).trims
  else s

/-! ## Steps 5 to 12 -/

/-- R321: step 9 has sampled the force-bank latches, and clears those that it saw set. -/
def State.bankTaken (s : State) : State := s.bk (fun k => { k with latch := k.latch &&& 0xFFFC })

/-- R303: the device enters minimal mode: the Regulator is held, the port and the link do not run, and steps 10 and 11 follow with
factory defaults, again if they had been performed. -/
def State.enterMinimal (s : State) : State :=
  let s := s.lanesDown false
  let s := ({ s with
    port := { s.port with up := false, queue := [], job := none }
    start := { s.start with minimal := true, failedAt := none } } : State).bk (fun k => { k with minimalEntered := true })
  let s := s.dial 19 0
  if s.nextStep = 5 then s.stepDone 5
  else if 9 ≤ s.nextStep then
    let s := s.regGo 3
    { s with start := { s.start with step := 9 } }
  else s

/-- The start fails (R301): it is counted, and the reset that follows is found (R302). A step 9 in progress has sampled the latches
(R321). (DEDUCED, log 86.) -/
def State.startFails (s : State) : State :=
  let trial := s.bankIsTrial
  let s := if s.nextStep = 9 then s.bankTaken else s
  let next (lvl : Level) (esc : Bool) (s : State) : State :=
    { s with start := { s.start with failedAt := some s.now, failNext := (lvl, esc) } }
  let k := s.backup
  if s.start.level = .l2w ∨ s.start.level = .l3 then
    if 3 ≤ k.warmFails + 1 then next .l2c true (s.bk (fun k => { k with warmFails := 0 }))
    else next .l2w false (s.bk (fun k => { k with warmFails := k.warmFails + 1 }))
  else if 3 ≤ k.coldFails + 1 then
    let s := s.bk (fun k => { k with coldFails := 0 })
    if trial then next .l2c false (s.rollBack 4) else s.enterMinimal
  else next .l2c false (s.bk (fun k => { k with coldFails := k.coldFails + 1 }))

/-- Step 5. -/
def State.sramBist (ok : Bool) (s : State) : State :=
  if s.mayStep 5 then (if ok then s.stepDone 5 else s.startFails) else s

/-- Step 6 (R299, R410, R414): 1 is a training failure, else the MiB found. (DEDUCED, log 82.) -/
def State.ddrTraining (mib : Nat) (s : State) : State :=
  if s.mayStep 6 then
    let s := { s with chr := { s.chr with trained := true, dramMib := if mib = 1 then 0 else mib } }
    let s := if mib = 1 then s.fault 0x21 0 else if s.chrAvail then s else s.dial 16 0
    (s.ringAnew 0).stepDone 6
  else s

/-- Step 7: every source IDLE with no flags, every buffer FREE at generation 0, every tag counter at 1 (R55, R129). -/
def State.tableInit (s : State) : State :=
  if s.mayStep 7 then ({ s with src := [], dlv := [], tgt := [], buf := [], poolNext := 0, poolBack := [] } : State).stepDone 7
  else s

/-- Step 8. -/
def State.tailStep (s : State) : State :=
  if s.mayStep 8 then (if s.chrAvail then s.tailRecover else s).stepDone 8 else s

/-- The Regulator boots from a flash that passes the checks of R324 (`flash`); from another there is no image. -/
def State.bootFrom (atStart flash : Bool) (s : State) : Boot × State := if flash then s.boot atStart else (.noImage, s)

/-- Step 9, or the boot of a Regulator's block reset (R293, R300). -/
def State.regBoot (flash : Bool) (s : State) : State :=
  if s.mayStep 9 then
    match s.bootFrom true flash with
    | (.running, t) => t.bankTaken.stepDone 9
    | (.noImage, t) => t.startFails
    | (.again, t) => { t.bankTaken with fw := { t.fw with bootFrom := t.now } }
  else if s.fw.regState == 2 && (s.blkAt 0x20).isNone && s.started then
    match s.bootFrom false flash with
    | (.running, t) => t
    | (.noImage, t) => t
    | (.again, t) => t.blkRequest 0x20 false false
  else s

/-- The number of a value's bytes for its type. -/
def recVal (ty : Nat) (bs : List Byte) : Nat := if ty = 11 ∨ ty = 12 then blobEnc bs else leVal bs

/-- The writes the records of a slot make: persistent objects, with values their tables allow; engine programs apart.
(DEDUCED, log 85.) -/
def State.settingsWrites (s : State) (rs : List SetRec) (prog : Bool) : List (Nat × Nat) :=
  rs.filterMap (fun r =>
    match objAt r.1 r.2.1 with
    | some o =>
      let v := recVal o.ty r.2.2
      if o.persist && (o.idx == 0x4100) == prog && lengthOk o.idx o.ty r.2.2.length && s.valueOk 0 o.idx r.2.1 v
      then some (pkey o.idx r.2.1, s.storeVal 0 o.idx v) else none
    | none => none)

/-- R303, R335: factory defaults as the values of a wind: those of every persistent object that stands at another value. -/
def State.defaultWrites (s : State) : List (Nat × Nat) := (s.obj.filter (fun e => s.windReach 0 e.1)).map (fun e => (e.1, dfltKey e.1))

/-- R297: the settings, or factory defaults, as a wind of the Owner scope. (DEDUCED, log 85.) -/
def State.settingsWind (dflt : Bool) (rs : List SetRec) (s : State) : State :=
  let chg := if dflt then s.defaultWrites else s.settingsWrites rs false
  match s.windJudge chg (chg.map (·.1)) with
  | some (st, k) => s.windRefused 0 st k
  | none => (s.windApply chg).windCount 0 chg.length

/-- R96: the engine programs in bank 0, bank 1 zeros, bank 0 active. -/
def State.settingsProgs (rs : List SetRec) (s : State) : State :=
  let s := { s with obj := s.obj.filter (fun e => e.1 / 65536 != 0x4100) }
  let w := (s.settingsWrites rs true).filter (fun e => e.1 % 512 < 256)
  let s := each (fun (e : Nat × Nat) (s : State) => s.setProg (e.1 % 65536) (BitVec.ofNat 32 e.2)) w s
  loop (fun n s => s.setEng n { s.engAt n with bank := false }) 0 8 s

/-- R298, R161, R175: sensing starts, whole seconds are watched, the next boundaries are found. -/
def State.senseOn (s : State) : State :=
  let c := s.cnt.toNat
  { s with sensing := true, time := { s.time with
      watched := true, nextSecond := (c / Config.wholeSecond + 1) * Config.wholeSecond
      nextPeriod := (c / s.o 0x6001 0 + 1) * s.o 0x6001 0 } }

/-- The START record (Table 17-8). (DEDUCED, log 83.) -/
def State.startRecord (s : State) : State :=
  let ring := if s.start.level = .l3 then 2 else if s.chr.recovered then 1 else 0
  s.chrPut 4 none (leBytes 1 s.start.stateCode ++ leBytes 1 ring ++ leBytes 4 (s.o 0xF010 0))

/-- R322: a set L2_REQUEST requests an L2 cold reset between the end of step 2 and the next level reset.
(DEDUCED, log 89.) -/
def State.crownRequest (s : State) : State :=
  if s.backup.latch.getLsbD 3 && 2 ≤ s.start.step then s.requestReset .l2c 5 16 else s

/-- Step 10, with step 11 at its end: PCIe, and but for minimal mode and bring-up the port and the link (R295, R303, R304). -/
def State.settingsLoad (s : State) : State :=
  if s.mayStep 10 then
    if s.start.level = .l3 then
      let s := s.stepDone 10
      if s.bare then s.startRecord.crownRequest else s
    else
      let cold := s.start.level != .l2w
      let dflt := s.bare || s.start.useDefaults || s.backup.latch.getLsbD 2
      let s := if cold && dflt then
          let s := s.bk (fun k => { k with latch := k.latch &&& 0xFFFB })
          { s with fw := { s.fw with slot := 0 } }
        else s
      let rs := match s.slotOf s.fw.slot with | some x => x.recs | none => []
      let s := if cold then s.settingsWind dflt rs else s
      let s := (s.settingsProgs rs).senseOn
      let s := s.stepDone 10
      let s := s.stepDone 11
      if s.bare then
        let s := if s.start.bringup then s.dial 19 0 else s
        ({ s with start := { s.start with stateCode := if s.start.bringup then 3 else 2 } } : State).startRecord.crownRequest
      else s.portStart.newSession
  else s

/-- Step 12 (R295, R302). (DEDUCED, log 84, 89.) -/
def State.ready (s : State) : State :=
  if s.mayStep 12 && !s.bare then
    let s := s.stepDone 12
    let s := s.bk (fun k => { k with warmFails := 0, coldFails := 0, minimalEntered := false })
    let s := { s with start := { s.start with stateCode := 1 } }
    let s := if s.start.level = .l3 then s else loop State.autorun 0 8 s
    let s := (s.dial 29 0).startRecord.crownRequest
    if s.fw.fwState = 0 then ({ s with fw := { s.fw with migrateDue := true } } : State).migrate else s
  else s

/-! ## Failed starts (R301–R303) -/

/-- READY is not reached within 2 s. -/
def State.startTimeout (s : State) : State :=
  match s.start.boundFrom with
  | some b =>
    if b + 1600000000 ≤ s.now && s.start.step < 12 && !s.bare && s.start.failedAt.isNone then s.startFails else s
  | none => s

/-- R301: 10 ms after the failure, the reset that R302 gave is requested. (DEDUCED, log 86.) -/
def State.failedReset (s : State) : State :=
  match s.start.failedAt with
  | none => s
  | some t =>
    if s.now < t + 8000000 || s.resetReq.isSome then s
    else { s with resetReq := some ⟨s.start.failNext.1, 0x0B, s.start.failNext.2, s.now + 16, false⟩ }

/-! ## The meanings -/

def execPowerOn (b : Nat) (held : Bool) (s : State) : Host.Outcome State Fault Refusal := at_ b true (State.powerOn held) s
def execResetPin (b low : Nat) (s : State) : Host.Outcome State Fault Refusal := at_ b true (State.resetPin low) s
def execResetPinRelease (b : Nat) (porst : Bool) (s : State) : Host.Outcome State Fault Refusal :=
  at_ b true (State.pinRelease porst) s
def execLevelResetStart (b : Nat) (s : State) : Host.Outcome State Fault Refusal := at_ b true State.resetStart s
def execSupplyGood (b : Nat) (s : State) : Host.Outcome State Fault Refusal := at_ b true State.supplyGood s
def execPllLock (b : Nat) (straps : BitVec 5) (s : State) : Host.Outcome State Fault Refusal :=
  at_ b true (State.pllLock straps) s
def execOptionLoad (b : Nat) (s : State) : Host.Outcome State Fault Refusal := at_ b true State.optionLoad s
def execSramBist (b : Nat) (ok : Bool) (s : State) : Host.Outcome State Fault Refusal := at_ b true (State.sramBist ok) s
def execDdrTraining (b mib : Nat) (s : State) : Host.Outcome State Fault Refusal :=
  at_ b (mib == 0 || mib == 1 || mib == 512 || mib == 1024) (State.ddrTraining mib) s
def execStateTableInit (b : Nat) (s : State) : Host.Outcome State Fault Refusal := at_ b true State.tableInit s
def execTailRecovery (b : Nat) (s : State) : Host.Outcome State Fault Refusal := at_ b true State.tailStep s
def execRegulatorBoot (b : Nat) (s : State) (flash : Bool := true) : Host.Outcome State Fault Refusal :=
  at_ b true (State.regBoot flash) s
def execSettingsLoad (b : Nat) (s : State) : Host.Outcome State Fault Refusal := at_ b true State.settingsLoad s
def execReady (b : Nat) (s : State) : Host.Outcome State Fault Refusal := at_ b true State.ready s
def execStartTimeout (b : Nat) (s : State) : Host.Outcome State Fault Refusal := at_ b true State.startTimeout s
def execStartFailedReset (b : Nat) (s : State) : Host.Outcome State Fault Refusal := at_ b true State.failedReset s
def execMainSupplyLeavesWindow (b : Nat) (s : State) : Host.Outcome State Fault Refusal := at_ b true State.supplyOut s
def execVbakLoss (b : Nat) (s : State) : Host.Outcome State Fault Refusal := at_ b true State.vbakLoss s
def execVbakRestore (b : Nat) (s : State) : Host.Outcome State Fault Refusal := at_ b true State.vbakRestore s

end Sys2Proof.Machine
end

