-- ==== Sys2Proof/Machine/Crown.lean ====
section
/-! DEFINITION. The crown port (13) and the IEEE 1149.1 port (R305, Table 12-12). -/

namespace Sys2Proof.Machine

open Sys2Proof

/-! ## Crown frames (R313–R318) -/

/-- Table 13-3: the 32 bits that stand behind an even address, or the 16 of an item of one address; none where READ has
no such address. -/
def State.crownItem (s : State) (a : Nat) : Option Nat :=
  let k := s.backup
  if 0x02 ≤ a ∧ a ≤ 0x21 then some (k.history.getD ((a - 2) / 2) 0).toNat
  else if 0xC0 ≤ a ∧ a ≤ 0xDF then some (dfltKey (pkey 0x2004 (a - 0xC0)))
  else match a with
  | 0x00 | 0x01 => some k.resetCount.toNat
  | 0x22 | 0x23 => some k.optStatusLast.toNat
  | 0x24 => some (k.warmFails + 4 * k.coldFails + 16 * b2n k.minimalEntered)
  | 0x25 => some k.lastStep
  | 0x26 => some k.optAttempts
  | 0x27 => some k.strapsCold.toNat
  | 0x28 | 0x29 => some k.dipCount.toNat
  | 0x2A | 0x2B => some k.gaspCount.toNat
  | 0x2C => some k.dipDepth
  | 0x2D => some k.dipTime
  | 0x2E => some k.dipReset
  | 0x2F => some (b2n k.fresh + 2 * b2n (s.crown.unlock == 2) + 4 * b2n k.mainGood)
  | 0x30 | 0x31 => some k.supplyLive.toNat
  | 0x32 => some k.feedLive
  | 0x33 => some k.ibvLive
  | 0x40 => some k.latch.toNat
  | 0x41 => some k.frameErrors
  | _ => none

/-- The items of two addresses. -/
def wideItem (a : Nat) : Bool :=
  a ≤ 0x21 || a == 0x22 || a == 0x23 || 0x28 ≤ a && a ≤ 0x2B || a == 0x30 || a == 0x31

/-- R315, R317: at the first edge of a frame, what the previous frame's READ selected is captured: DATA, and the captures
kept for odd addresses. -/
def State.crownCapture (s : State) : Nat × SMap Dw :=
  match s.crown.reading with
  | none => (0, s.crown.caps)
  | some a =>
    if wideItem a then
      if a % 2 = 0 then
        let v : Dw := BitVec.ofNat 32 ((s.crownItem a).getD 0)
        (v.toNat % 65536, smSet (fun _ => 0) s.crown.caps a v)
      else ((smGet (fun _ => (0 : Dw)) s.crown.caps (a - 1)).toNat / 65536, s.crown.caps)
    else ((s.crownItem a).getD 0 % 65536, s.crown.caps)

/-- The bytes of a frame before its CRC. -/
def crownBytes (op addr : Byte) (data : BitVec 16) : List Byte := [op, addr] ++ beBytes 2 data.toNat

/-- Table 13-2: what the port shifts out during a frame. -/
def crownOut (result addr : Byte) (data : Nat) : BitVec 40 :=
  let bs := crownBytes result addr (BitVec.ofNat 16 data)
  BitVec.ofNat 40 (beVal (bs ++ [crc8 bs]))

/-- Table 13-4: the codes a frame of an opcode earns, CRC and EXTRA_CLOCKS apart; `unlocked` says whether this frame has
the unlock. -/
def State.crownJudge (s : State) (op : Nat) (f : CrownFrame) (unlocked : Bool) : List Nat :=
  let addr (ok : Bool) : List Nat := if ok then [] else [4]
  let data (ok : Bool) : List Nat := if ok then [] else [7]
  let d := f.data.toNat
  match op with
  | 0x01 => addr (f.addr == 0) ++ data (d == 0)
  | 0x02 => addr (s.crownItem f.addr.toNat).isSome ++ data (d == 0)
  | 0x10 => addr (f.addr == 0) ++ data (d == 0xB5A4)
  | 0x11 => addr (f.addr == 0) ++ data (d == 0x4A5B)
  | 0x20 => addr (f.addr == 0x40) ++ (if unlocked then [] else [5]) ++ data (d < 16 && d % 4 != 3)
  | 0x21 => addr (f.addr == 0x40) ++ (if unlocked then [] else [5]) ++ data (d < 16)
  | _ => [3]

/-- The code reported: the lowest that applies. -/
def crownResult (codes : List Nat) (crcOk extra : Bool) : Nat :=
  match (if crcOk then codes else 1 :: codes) with
  | [] => if extra then 6 else 0
  | c :: t => t.foldl min c

/-- R320: the latches after a LATCH_SET of a mask. -/
def latchSet (mask latch : BitVec 16) : BitVec 16 :=
  let l := if mask.getLsbD 0 then latch &&& 0xFFFD else if mask.getLsbD 1 then latch &&& 0xFFFE else latch
  l ||| mask

/-- What a frame whose action stands does. -/
def State.crownAct (op : Nat) (f : CrownFrame) (s : State) : State :=
  match op with
  | 0x20 => (s.bk (fun k => { k with latch := latchSet f.data k.latch })).crownRequest
  | 0x21 => s.bk (fun k => { k with latch := k.latch &&& ~~~ f.data })
  | _ => s

/-- A frame is over: its RESULT and ADDRESS are kept, and FRAME_ERRORS counts one that is not OK. -/
def State.crownEnd (res : Nat) (addr : Byte) (reading : Option Nat) (unlock : Nat) (s : State) : State :=
  let s := { s with crown := { s.crown with
    result := BitVec.ofNat 8 res, addr := addr, reading := reading, unlock := unlock } }
  if res = 0 then s else s.bk (fun k => { k with frameErrors := min 65535 (k.frameErrors + 1) })

/-- A frame of `n` rising edges (40 at the most) from its first on: the capture, and the bits that CRN_SDO carries at those edges,
bit 39 first; it is high-impedance once the frame ends (R313). -/
def State.crownBegin (n : Nat) (s : State) : State :=
  let (d, caps) := s.crownCapture
  let o := crownOut s.crown.result s.crown.addr d
  ({ s with crown := { s.crown with caps := caps, sdo := o } } : State).emit
    (.crown ((List.range n).map (fun i => o.getLsbD (39 - i))))

/-- A frame of 40 edges or more. -/
def State.crownFrame (op : Nat) (f : CrownFrame) (s : State) : State :=
  if !s.backup.present then s
  else
    let s := s.crownBegin 40
    let crcOk := crc8 (crownBytes (BitVec.ofNat 8 op) f.addr f.data) == f.crc
    let codes := s.crownJudge op f (s.crown.unlock == 2)
    let res := crownResult codes crcOk f.extra
    let good := crcOk && codes.isEmpty
    let was := s.crown.unlock
    let s := if good then s.crownAct op f else s
    s.crownEnd res f.addr (if good && op == 2 then some f.addr.toNat else none)
      (if good && op == 0x10 then 1 else if good && op == 0x11 && was == 1 then 2 else 0)

/-- A frame that ends before its 40th edge. Its ADDRESS is reported if all of it was received; otherwise what is reported as its
ADDRESS is a free value. (DESIGN CHOICE, log 26.) -/
def State.crownShort (edges : Nat) (bits : BitVec 40) (s : State) : State :=
  if !s.backup.present then s
  else
    let s := if edges = 0 then s else s.crownBegin edges
    if 16 ≤ edges then s.crownEnd 2 (bits.extractLsb' 24 8) none 0
    else
      let (k, s) := s.draw
      s.crownEnd 2 (Config.freeCrownAddr k) none 0

/-! ## IEEE 1149.1 (R305) -/

/-- The identity register: version 1, part number 0x4096, Bluarn's JEDEC identity, 1. -/
def idcode : Nat := 0x1 * 2 ^ 28 + 0x4096 * 2 ^ 12 + Config.jedecId.toNat * 2 + 1

/-- The data register that the instruction in the instruction register selects, as Capture-DR loads it: its width and value. FLASH_SPI
outside BRINGUP, and every code that Table 12-12 does not list, select the bypass register; the boundary scan is not among them.
(DESIGN CHOICE, log 148.) -/
def State.captureDr (s : State) : Option (Nat × Nat) :=
  match s.jtag.ir.toNat with
  | 0x00 => none
  | 0x01 => none
  | 0x02 => some (32, idcode)
  | 0x20 => if s.start.stateCode = 3 then some (16, s.jtag.rx.toNat + 256 * b2n s.jtag.xferDone) else some (1, 0)
  | _ => some (1, 0)

/-- Capture-DR: what the scan of the data register shifts out. -/
def State.scanDr (s : State) : State :=
  match s.captureDr with
  | some (w, v) => s.emit (.tdo w v)
  | none => s

/-- An instruction is loaded at Update-IR; the scan that loads it shifts out what Capture-IR put there. -/
def State.jtagIr (code : Byte) (s : State) : State :=
  ({ s with jtag := { s.jtag with ir := code } } : State).emit (.tdo 8 0x01)

/-- An instruction is loaded, and its data register scanned. -/
def State.jtagScan (code : Byte) (s : State) : State := (s.jtagIr code).scanDr

/-- CORE_RESET. (PRESUMED, log 17.) -/
def State.jtagReset (s : State) : State := ((s.jtagIr 0x10).requestReset .l3 9 16).scanDr

/-- The flash takes one single-wire command of Table 14-4 that ends with SPI_CS_N rising: write enable, page program,
4 KiB and 64 KiB erase, reset. (DEDUCED, log 92.) -/
def State.spiCommand (bytes : List Byte) (s : State) : State :=
  let bs := bytes.reverse
  let a := beVal ((bs.drop 1).take 4)
  let done (s : State) : State := { s with jtag := { s.jtag with wel := false } }
  match (bs.getD 0 0).toNat with
  | 0x06 => { s with jtag := { s.jtag with wel := true } }
  | 0x12 =>
    if s.jtag.wel && 5 < bs.length then
      done (each (fun (e : Byte × Nat) (s : State) => s.flashProgram (a / 256 * 256 + (a + e.2) % 256) [e.1]) (bs.drop 5).zipIdx s)
    else s
  | 0x21 => if s.jtag.wel && bs.length = 5 then done (s.flashErase (a / 4096 * 4096) 4096) else s
  | 0xDC => if s.jtag.wel && bs.length = 5 then done (s.flashErase (a / 65536 * 65536) 65536) else s
  | 0x99 => done s
  | _ => s

/-- FLASH_SPI: its scan, and at Update-DR one byte on the flash interface, in BRINGUP; else a bypass. -/
def State.flashSpi (xfer : BitVec 16) (miso : Byte) (s : State) : State :=
  let s := s.jtagScan 0x20
  if s.start.stateCode = 3 then
    let out := xfer.setWidth 8
    let keep := xfer.getLsbD 15
    let s := (s.emit (.spi out))
    let all := out :: s.jtag.spi
    let s := { s with jtag := { s.jtag with csLow := keep, rx := miso, xferDone := true, spi := if keep then all else [] } }
    if keep then s else s.spiCommand all
  else s

/-! ## The meanings -/

def execNop (b : Nat) (f : CrownFrame) (s : State) : Host.Outcome State Fault Refusal := at_ b true (State.crownFrame 0x01 f) s
def execRead (b : Nat) (f : CrownFrame) (s : State) : Host.Outcome State Fault Refusal := at_ b true (State.crownFrame 0x02 f) s
def execUnlockA (b : Nat) (f : CrownFrame) (s : State) : Host.Outcome State Fault Refusal :=
  at_ b true (State.crownFrame 0x10 f) s
def execUnlockB (b : Nat) (f : CrownFrame) (s : State) : Host.Outcome State Fault Refusal :=
  at_ b true (State.crownFrame 0x11 f) s
def execLatchSet (b : Nat) (f : CrownFrame) (s : State) : Host.Outcome State Fault Refusal :=
  at_ b true (State.crownFrame 0x20 f) s
def execLatchClr (b : Nat) (f : CrownFrame) (s : State) : Host.Outcome State Fault Refusal :=
  at_ b true (State.crownFrame 0x21 f) s
def execCrownShortFrame (b edges : Nat) (s : State) (bits : BitVec 40 := 0) : Host.Outcome State Fault Refusal :=
  at_ b (edges < 40) (State.crownShort edges bits) s

/-- The opcodes of Table 13-4. -/
def crownOpcode (op : Byte) : Bool :=
  op == 0x01 || op == 0x02 || op == 0x10 || op == 0x11 || op == 0x20 || op == 0x21

def execCrownUndefinedOpcode (b : Nat) (op : Byte) (f : CrownFrame) (s : State) : Host.Outcome State Fault Refusal :=
  at_ b (!crownOpcode op) (State.crownFrame op.toNat f) s
def execExtest (b : Nat) (s : State) : Host.Outcome State Fault Refusal := at_ b true (State.jtagScan 0x00) s
def execSamplePreload (b : Nat) (s : State) : Host.Outcome State Fault Refusal := at_ b true (State.jtagScan 0x01) s
def execIdcode (b : Nat) (s : State) : Host.Outcome State Fault Refusal := at_ b true (State.jtagScan 0x02) s
def execClamp (b : Nat) (s : State) : Host.Outcome State Fault Refusal := at_ b true (State.jtagScan 0x03) s
def execHighz (b : Nat) (s : State) : Host.Outcome State Fault Refusal := at_ b true (State.jtagScan 0x04) s
/-- The codes of Table 12-12 other than BYPASS. -/
def jtagCode (c : Byte) : Bool := c.toNat ≤ 4 || c == 0x10 || c == 0x20
def execBypass (b : Nat) (s : State) (code : Byte := 0xFF) : Host.Outcome State Fault Refusal :=
  at_ b (!jtagCode code) (State.jtagScan code) s
def execCoreReset (b : Nat) (s : State) : Host.Outcome State Fault Refusal := at_ b true State.jtagReset s
def execFlashSpi (b : Nat) (xfer : BitVec 16) (miso : Byte) (s : State) : Host.Outcome State Fault Refusal :=
  at_ b true (State.flashSpi xfer miso) s

end Sys2Proof.Machine
end

