-- ==== Sys2Proof/Machine/Health.lean ====
section
/-! DEFINITION. Protected memories and their faults (17 §17.1): what a scrub or a read finds, the response of Table 17-3. -/

namespace Sys2Proof.Machine

open Sys2Proof

/-! ## Uncorrectable errors (Table 17-3) -/

/-- R396: the source's deliveries end, its staged buffers return, its entry becomes QUARANTINED with QPEND. -/
def State.sourceUe (n : Nat) (s : State) : State :=
  let old := s.srcAt n
  let s := each State.isolate (s.dlv.filter (fun d => d.src == n)) s
  let x := s.srcAt n
  let staged (b : Option Nat) : Bool := match b with | some i => (s.bufAt i).st == .staged | none => false
  let s := s.setSrc n { x.toIdle with st := .quarantined, qpend := true, qreq := false, storm := none }
  let s := if staged x.info.buf then s.discardBuf n x.info.buf else s.checkBuf x.info.buf
  let s := s.discardBuf n x.rep.buf
  (s.note { code := 11 } n old).chrQuar false false 3 n (s.srcTen n)

/-- SLOT_UE: the slot's delivery. -/
def State.slotUe (e k : Nat) (s : State) : State :=
  each State.isolate (s.dlv.filter (fun d => d.esc == e && d.slot == k)) s

/-- PAYLOAD_UE: the buffer reads as zeros until it returns. -/
def State.payloadUe (i : Nat) (s : State) : State :=
  let x := s.bufAt i
  if x.st == .free then s else s.setBuf i { x with bad := true }

/-- DRAFT_UE: the scope's drafts are discarded and its wind refused. -/
def State.draftUe (scope : Nat) (s : State) : State :=
  let waits := s.winding scope
  let s := ({ s with winds := s.winds.filter (fun w => w.scope != scope) } : State).dropDrafts scope
  if waits then s.windRefused scope 6 0xFFFFFFFF else s

/-- MIRROR_UE: the partner source's entry. -/
def State.mirrorUe (k : Nat) (s : State) : State :=
  { s with tdm := { s.tdm with
      inTable := smSet (fun _ => ⟨s.tdm.allIn, 0, false⟩) s.tdm.inTable k .init, mirrorInValid := false } }

/-- QUEUE_UE: a queued record is dropped. (DEDUCED, log 102.) -/
def State.queueUe (k : Nat) (s : State) : State :=
  if k < s.chr.queue.length then
    let n := if s.chr.older.length ≤ k then s.chr.fresh - 1 else s.chr.fresh
    ({ s with chr := { s.chr with queue := s.chr.queue.eraseIdx k, fresh := n, lost := s.chr.lost + 1 } }.bump 0x1721 0 1).dial 18 0
  else s

/-- R398: the defaults of array 1's objects at an element: tables 0 sources, 1 targets, 2 route groups. -/
def copyDefaults (a k : Nat) : List (Nat × Nat) :=
  let lo := if a = 0 then 0x2000 else if a = 1 then 0x3000 else 0x3400
  let hi := if a = 0 then 0x2FFF else if a = 1 then 0x33FF else 0x37FF
  (objRows.filter (fun o => lo ≤ o.idx && o.idx ≤ hi && (o.acc == .rwd || o.acc == .rwi))).flatMap (fun o =>
    let els := if o.idx = 0x3403 ∨ o.idx = 0x3404 then (List.range 16).map (16 * k + ·) else [k]
    (els.filter (fun el => o.lo ≤ el && el ≤ o.hi)).map (fun el => (pkey o.idx el, dfltKey (pkey o.idx el))))

/-- R398: the entry takes its defaults, with what a wind of them would do. (DEDUCED, log 101.) -/
def State.configUe (a k : Nat) (s : State) : State :=
  let s := if a = 0 then s.setEnable k false else s
  let s := if a = 1 then
      let s := s.setO 0x3005 k 0
      let s := each State.withdrawEnd (s.dlv.filter (fun d => d.tgt == some k && !d.active)) s
      let s := if s.isPush k then each State.revoke (s.dlv.filter (fun d => d.tgt == some k && d.active)) s else s
      s.leaveTarget k
    else s
  s.windApply (copyDefaults a k)

/-- What follows from an uncorrectable error in word `a` (and `k`) of an array: the code and INFO of its fault, and the
response. (DEDUCED, log 100, 103.) -/
def State.uncorrectable (array a k : Nat) (s : State) : State :=
  match array with
  | 0 => (s.fault 0x10 a).sourceUe a
  | 1 => (s.fault 0x30 (a * 65536 + k)).lateNow.configUe a k
  | 2 => (s.fault 0x11 (a * 256 + k)).slotUe a k
  | 3 => (s.fault 0x12 a).payloadUe a
  | 4 => (s.fault 0x13 a).draftUe a
  | 5 => (s.fault 0x14 a).mirrorUe a
  | 6 => (s.fault 0x23 0).lockedUp false
  | 7 => (s.queueUe a).fault 0x17 0
  | 8 => (s.fault 0x18 a).aerLog a true
  | 9 => let s := s.fault 0x20 a; s.setTgt a { s.tgtAt a with rebuilding := true }
  | _ => { s with badParity := insertNat (if k < 512 then 512 * a + k else 0x10000 + 16 * a + (k - 512)) s.badParity }

/-- R394, R395: what the scrubber or a reader finds. (DEDUCED, log 104.) -/
def State.scrub (array : Nat) (err : ScrubErr) (a k : Nat) (s : State) : State :=
  match err with
  | .clean => s
  | .corrected => (s.bump 0x1604 array 1).fault 0x01 array
  | .copyBad => s.fault 0x02 (a * 65536 + k)
  | .uncorrectable => s.uncorrectable array a k

/-- How many words an array has: the bound of `a`. -/
def arraySize (array : Nat) : Nat :=
  match array with
  | 0 => 4096
  | 1 => 3
  | 2 => 8
  | 3 => 8192
  | 4 => 32
  | 5 => 4096
  | 6 => 1
  | 7 => 4096
  | 8 => 32
  | 9 => 1024
  | 10 => 8
  | _ => 0

/-- The bound of `k` in an array. -/
def arrayWidth (array a : Nat) : Nat :=
  match array with
  | 1 => if a = 0 then 4096 else 1024
  | 2 => 128
  | 10 => 528
  | _ => 1

/-- A finding names a word, and an error its array can show (Table 17-2). (DEDUCED, log 105.) -/
def scrubOk (array : Nat) (err : ScrubErr) (a k : Nat) : Bool :=
  decide (a < arraySize array) && decide (k < arrayWidth array a)
    && (match err with
        | .clean => decide (array ≤ 8)
        | .corrected => decide (array ≤ 8)
        | .copyBad => array == 1
        | .uncorrectable => true)

/-- R397: the rebuild of a target's bitmaps ends. -/
def State.rebuildEnd (t : Nat) (s : State) : State :=
  let x := s.tgtAt t
  if x.rebuilding then (s.setTgt t { x with rebuilding := false }).letGo else s

/-! ## The meanings -/

def execScrub (b array : Nat) (err : ScrubErr) (a k : Nat) (s : State) : Host.Outcome State Fault Refusal :=
  at_ b (scrubOk array err a k) (State.scrub array err a k) s
def execRankRebuildEnd (b tgt : Nat) (s : State) : Host.Outcome State Fault Refusal :=
  at_ b (tgt < 1024) (State.rebuildEnd tgt) s

end Sys2Proof.Machine
end

