-- ==== Sys2Proof/Machine/Dispatch.lean ====
section
/-! DEFINITION. One arm per command. -/

namespace Sys2Proof.Machine

open Sys2Proof

/-- The effect of a command on everything but the queue. -/
def exec (i : Instr) (s : State) : Host.Outcome State Fault Refusal :=
  match i with
  | .bankSupplyLoss b viob => Sys2Proof.Machine.execBankSupplyLoss b viob s
  | .glitchFilterChange b n level since => Sys2Proof.Machine.execGlitchFilterChange b n level s since
  | .stormWindowClose b src => Sys2Proof.Machine.execStormWindowClose b src s
  | .alarmFire b n => Sys2Proof.Machine.execAlarmFire b n s
  | .alarmCompareWrite b pr n v => Sys2Proof.Machine.execAlarmCompareWrite b pr n v s
  | .alarmPeriodWrite b pr n v => Sys2Proof.Machine.execAlarmPeriodWrite b pr n v s
  | .alarmArmWrite b pr n v => Sys2Proof.Machine.execAlarmArmWrite b pr n v s
  | .todLoad b v => Sys2Proof.Machine.execTodLoad b v s
  | .pendSet b fn k mask => Sys2Proof.Machine.execPendSet b fn k mask s
  | .pendClr b fn k mask => Sys2Proof.Machine.execPendClr b fn k mask s
  | .enableSet b fn k mask => Sys2Proof.Machine.execEnableSet b fn k mask s
  | .enableClr b fn k mask => Sys2Proof.Machine.execEnableClr b fn k mask s
  | .setPending b pr el v => Sys2Proof.Machine.execSetPending b pr el v s
  | .clearPending b pr el v => Sys2Proof.Machine.execClearPending b pr el v s
  | .doorbellWrite b fn w => Sys2Proof.Machine.execDoorbellWrite b fn w s
  | .doorbellArrival b => Sys2Proof.Machine.execDoorbellArrival b s
  | .doorbellRead b fn r => Sys2Proof.Machine.execDoorbellRead b fn r s
  | .payloadRead b fn r => Sys2Proof.Machine.execPayloadRead b fn r s
  | .free b fn page h => Sys2Proof.Machine.execFree b fn page h s
  | .completeFreePair b fn page d h => Sys2Proof.Machine.execCompleteFreePair b fn page d h s
  | .claim b fn page mm => Sys2Proof.Machine.execClaim b fn page mm s
  | .claim64 b fn page mm => Sys2Proof.Machine.execClaim64 b fn page mm s
  | .complete b fn page d => Sys2Proof.Machine.execComplete b fn page d s
  | .thresholdWrite b fn page v mm => Sys2Proof.Machine.execThresholdWrite b fn page v mm s
  | .sourceQuarantine b pr el => Sys2Proof.Machine.execSourceQuarantine b pr el s
  | .sourceRelease b pr el => Sys2Proof.Machine.execSourceRelease b pr el s
  | .escapementIssue b e mm => Sys2Proof.Machine.execEscapementIssue b e mm s
  | .decisionRetry b e mm => Sys2Proof.Machine.execDecisionRetry b e mm s
  | .migrationEnd b e => Sys2Proof.Machine.execMigrationEnd b e s
  | .syncRelease b e mm => Sys2Proof.Machine.execSyncRelease b e mm s
  | .claimTimeout b tgt tag mm => Sys2Proof.Machine.execClaimTimeout b tgt tag mm s
  | .tgtEnableWrite b pr el v => Sys2Proof.Machine.execTgtEnableWrite b pr el v s
  | .targetQuarantine b el mm => Sys2Proof.Machine.execTargetQuarantine b el mm s
  | .targetRelease b el => Sys2Proof.Machine.execTargetRelease b el s
  | .wholeSecond b => Sys2Proof.Machine.execWholeSecond b s
  | .ppsOutPulseEnd b => Sys2Proof.Machine.execPpsOutPulseEnd b s
  | .ppsEdge b => Sys2Proof.Machine.execPpsEdge b s
  | .ppsSignalLoss b => Sys2Proof.Machine.execPpsSignalLoss b s
  | .balanceTick b => Sys2Proof.Machine.execBalanceTick b s
  | .balSpanEnd b => Sys2Proof.Machine.execBalSpanEnd b s
  | .steeringPeriodBoundary b => Sys2Proof.Machine.execSteeringPeriodBoundary b s
  | .regulatorUpdate b mm => Sys2Proof.Machine.execRegulatorUpdate b mm s
  | .featAcceptWrite b fn hi be v => Sys2Proof.Machine.execFeatAcceptWrite b fn hi be v s
  | .featuresOkRequest b fn => Sys2Proof.Machine.execFeaturesOkRequest b fn s
  | .busMasterEnableChange b fn v => Sys2Proof.Machine.execBusMasterEnableChange b fn v s
  | .flr b fn => Sys2Proof.Machine.execFlr b fn s
  | .vfEnableChange b en num => Sys2Proof.Machine.execVfEnableChange b en num s
  | .tenResetQuiesce b n => Sys2Proof.Machine.execTenResetQuiesce b n s
  | .tenResetIsolate b n => Sys2Proof.Machine.execTenResetIsolate b n s
  | .tenantResetBeat b n => Sys2Proof.Machine.execTenantResetBeat b n s
  | .tenantResetEnd b n => Sys2Proof.Machine.execTenantResetEnd b n s
  | .dictGet b fn seq => Sys2Proof.Machine.execDictGet b fn seq s
  | .dictSet b fn seq mm => Sys2Proof.Machine.execDictSet b fn seq s mm
  | .dictGetDraft b fn seq => Sys2Proof.Machine.execDictGetDraft b fn seq s
  | .dictDone b fn => Sys2Proof.Machine.execDictDone b fn s
  | .wind b pr page => Sys2Proof.Machine.execWind b pr page s
  | .windBeat b => Sys2Proof.Machine.execWindBeat b s
  | .draftDiscard b pr v => Sys2Proof.Machine.execDraftDiscard b pr v s
  | .draftDefaults b pr v => Sys2Proof.Machine.execDraftDefaults b pr v s
  | .saveSettings b v => Sys2Proof.Machine.execSaveSettings b v s
  | .saveDone b ok => Sys2Proof.Machine.execSaveDone b ok s
  | .request b addr frame dst => Sys2Proof.Machine.execRequest b addr frame s dst
  | .nrGet b c idx el => Sys2Proof.Machine.execNrGet b c idx el s
  | .nrSet b c idx el v => Sys2Proof.Machine.execNrSet b c idx el v s
  | .nrAction b c idx el v => Sys2Proof.Machine.execNrAction b c idx el v s
  | .nrGetDraft b c idx el => Sys2Proof.Machine.execNrGetDraft b c idx el s
  | .subscribe b c addr idx el v => Sys2Proof.Machine.execSubscribe b c addr idx el v s
  | .unsubscribe b c idx el => Sys2Proof.Machine.execUnsubscribe b c idx el s
  | .ping b addr frame dst => Sys2Proof.Machine.execPing b addr frame s dst
  | .wake b addr frame dst => Sys2Proof.Machine.execWake b addr frame s dst
  | .reset b addr frame dst => Sys2Proof.Machine.execReset b addr frame s dst
  | .reportTick b => Sys2Proof.Machine.execReportTick b s
  | .gaspRound b => Sys2Proof.Machine.execGaspRound b s
  | .arpRequest b target sender => Sys2Proof.Machine.execArpRequest b target sender s
  | .arpReply b ip mac => Sys2Proof.Machine.execArpReply b ip mac s
  | .neighbourSolicitation b target sender => Sys2Proof.Machine.execNeighbourSolicitation b target sender s
  | .neighbourAdvertisement b target mac => Sys2Proof.Machine.execNeighbourAdvertisement b target mac s
  | .echoRequest b addr data dst => Sys2Proof.Machine.execEchoRequest b addr data s dst
  | .unhandledFrame b => Sys2Proof.Machine.execUnhandledFrame b s
  | .dialPendSet b fn hi v => Sys2Proof.Machine.execDialPendSet b fn hi v s
  | .dialPendClr b fn hi v => Sys2Proof.Machine.execDialPendClr b fn hi v s
  | .dialEnSet b fn hi v => Sys2Proof.Machine.execDialEnSet b fn hi v s
  | .dialEnClr b fn hi v => Sys2Proof.Machine.execDialEnClr b fn hi v s
  | .msixPendingSend b fn vec => Sys2Proof.Machine.execMsixPendingSend b fn vec s
  | .registerWrite b fn w => Sys2Proof.Machine.execRegisterWrite b fn w s
  | .atomicopRequest b fn => Sys2Proof.Machine.execAtomicopRequest b fn s
  | .lockedRead b fn => Sys2Proof.Machine.execLockedRead b fn s
  | .configurationRequest b fn op => Sys2Proof.Machine.execConfigurationRequest b fn op s
  | .perstAssert b => Sys2Proof.Machine.execPerstAssert b s
  | .hotReset b => Sys2Proof.Machine.execHotReset b s
  | .linkDown b => Sys2Proof.Machine.execLinkDown b s
  | .d3hotEntry b => Sys2Proof.Machine.execD3hotEntry b s
  | .powerOn b held => Sys2Proof.Machine.execPowerOn b held s
  | .railBrownout b => Sys2Proof.Machine.execRailBrownout b s
  | .resetPin b low => Sys2Proof.Machine.execResetPin b low s
  | .clockFail b => Sys2Proof.Machine.execClockFail b s
  | .resetReqL2Cold b => Sys2Proof.Machine.execResetReqL2Cold b s
  | .resetReqL2Warm b => Sys2Proof.Machine.execResetReqL2Warm b s
  | .resetReqL3 b => Sys2Proof.Machine.execResetReqL3 b s
  | .levelResetStart b => Sys2Proof.Machine.execLevelResetStart b s
  | .wdogTimeoutWrite b v => Sys2Proof.Machine.execWdogTimeoutWrite b v s
  | .wdogKick b v => Sys2Proof.Machine.execWdogKick b v s
  | .watchdog b => Sys2Proof.Machine.execWatchdog b s
  | .regLockup b => Sys2Proof.Machine.execRegLockup b s
  | .regLockupsClear b => Sys2Proof.Machine.execRegLockupsClear b s
  | .blkResetQuiesce b el mm => Sys2Proof.Machine.execBlkResetQuiesce b el s mm
  | .blkResetIsolate b el mm => Sys2Proof.Machine.execBlkResetIsolate b el s mm
  | .quiesceDrained b el => Sys2Proof.Machine.execQuiesceDrained b el s
  | .blkTimeout b el mm => Sys2Proof.Machine.execBlkTimeout b el s mm
  | .blockResetEnd b el => Sys2Proof.Machine.execBlockResetEnd b el s
  | .supplyGood b => Sys2Proof.Machine.execSupplyGood b s
  | .pllLock b straps => Sys2Proof.Machine.execPllLock b straps s
  | .optionLoad b => Sys2Proof.Machine.execOptionLoad b s
  | .sramBist b ok => Sys2Proof.Machine.execSramBist b ok s
  | .ddrTraining b mib => Sys2Proof.Machine.execDdrTraining b mib s
  | .stateTableInit b => Sys2Proof.Machine.execStateTableInit b s
  | .tailRecovery b => Sys2Proof.Machine.execTailRecovery b s
  | .regulatorBoot b flash => Sys2Proof.Machine.execRegulatorBoot b s flash
  | .settingsLoad b => Sys2Proof.Machine.execSettingsLoad b s
  | .ready b => Sys2Proof.Machine.execReady b s
  | .startTimeout b => Sys2Proof.Machine.execStartTimeout b s
  | .startFailedReset b => Sys2Proof.Machine.execStartFailedReset b s
  | .extest b => Sys2Proof.Machine.execExtest b s
  | .samplePreload b => Sys2Proof.Machine.execSamplePreload b s
  | .idcode b => Sys2Proof.Machine.execIdcode b s
  | .clamp b => Sys2Proof.Machine.execClamp b s
  | .highz b => Sys2Proof.Machine.execHighz b s
  | .bypass b code => Sys2Proof.Machine.execBypass b s code
  | .coreReset b => Sys2Proof.Machine.execCoreReset b s
  | .flashSpi b xfer miso => Sys2Proof.Machine.execFlashSpi b xfer miso s
  | .nop b f => Sys2Proof.Machine.execNop b f s
  | .read b f => Sys2Proof.Machine.execRead b f s
  | .unlockA b f => Sys2Proof.Machine.execUnlockA b f s
  | .unlockB b f => Sys2Proof.Machine.execUnlockB b f s
  | .latchSet b f => Sys2Proof.Machine.execLatchSet b f s
  | .latchClr b f => Sys2Proof.Machine.execLatchClr b f s
  | .crownShortFrame b edges bits => Sys2Proof.Machine.execCrownShortFrame b edges s bits
  | .vbakLoss b => Sys2Proof.Machine.execVbakLoss b s
  | .mainSupplyLeavesWindow b => Sys2Proof.Machine.execMainSupplyLeavesWindow b s
  | .fwConfirm b v => Sys2Proof.Machine.execFwConfirm b v s
  | .fwReject b v => Sys2Proof.Machine.execFwReject b v s
  | .fwStageOpen b => Sys2Proof.Machine.execFwStageOpen b s
  | .fwStageData b k v bad => Sys2Proof.Machine.execFwStageData b k v s bad
  | .fwStageClose b => Sys2Proof.Machine.execFwStageClose b s
  | .fwStageAbort b => Sys2Proof.Machine.execFwStageAbort b s
  | .stageEraseDone b ok => Sys2Proof.Machine.execStageEraseDone b ok s
  | .stageVerifyDone b => Sys2Proof.Machine.execStageVerifyDone b s
  | .fwActivateTrial b => Sys2Proof.Machine.execFwActivateTrial b s
  | .fwActivateDefaults b => Sys2Proof.Machine.execFwActivateDefaults b s
  | .trialWindowEnd b => Sys2Proof.Machine.execTrialWindowEnd b s
  | .trialNotRunning b => Sys2Proof.Machine.execTrialNotRunning b s
  | .settingsMigrationDone b ok => Sys2Proof.Machine.execSettingsMigrationDone b ok s
  | .adcConversion b code => Sys2Proof.Machine.execAdcConversion b code s
  | .supplyAlarm b k on level since => Sys2Proof.Machine.execSupplyAlarm b k on s level since
  | .feedWarning b level since => Sys2Proof.Machine.execFeedWarning b s level since
  | .feedRecovery b level since => Sys2Proof.Machine.execFeedRecovery b s level since
  | .gaspCommit b => Sys2Proof.Machine.execGaspCommit b s
  | .gaspRearm b level since => Sys2Proof.Machine.execGaspRearm b s level since
  | .quietEnter b v => Sys2Proof.Machine.execQuietEnter b v s
  | .quietEntryBegin b => Sys2Proof.Machine.execQuietEntryBegin b s
  | .quietDrainEnd b mm r4 r9 => Sys2Proof.Machine.execQuietDrainEnd b s mm r4 r9
  | .quietWake b cause src => Sys2Proof.Machine.execQuietWake b cause src s
  | .wakeResume b => Sys2Proof.Machine.execWakeResume b s
  | .laneRetrain b => Sys2Proof.Machine.execLaneRetrain b s
  | .laneLoss b silent mm => Sys2Proof.Machine.execLaneLoss b s silent mm
  | .hello b h session txNext rxLast rxSession flags => Sys2Proof.Machine.execHello b h session txNext rxLast rxSession flags s
  | .heartbeat b h session flags => Sys2Proof.Machine.execHeartbeat b h session flags s
  | .nak b h expected => Sys2Proof.Machine.execNak b h expected s
  | .forward b h src tag len keep payload => Sys2Proof.Machine.execForward b h src tag len keep payload s
  | .mirrorState b h e => Sys2Proof.Machine.execMirrorState b h e s
  | .syncBegin b h => Sys2Proof.Machine.execSyncBegin b h s
  | .syncEntries b h es => Sys2Proof.Machine.execSyncEntries b h es s
  | .syncEnd b h => Sys2Proof.Machine.execSyncEnd b h s
  | .gasp b h resetCount holdoff => Sys2Proof.Machine.execGasp b h resetCount holdoff s
  | .ack b h => Sys2Proof.Machine.execAck b h s
  | .retransmitTimeout b mm => Sys2Proof.Machine.execRetransmitTimeout b s mm
  | .heartbeatSend b => Sys2Proof.Machine.execHeartbeatSend b s
  | .pairHeartbeatSend b collide => Sys2Proof.Machine.execPairHeartbeatSend b collide s
  | .pairHeartbeat b sfd session flags arg crc => Sys2Proof.Machine.execPairHeartbeat b sfd session flags s arg crc
  | .pairWake b sfd session flags arg crc => Sys2Proof.Machine.execPairWake b sfd session flags s arg crc
  | .pairGasp b sfd session flags arg crc => Sys2Proof.Machine.execPairGasp b sfd session flags arg s crc
  | .pairBackoffEnd b collide => Sys2Proof.Machine.execPairBackoffEnd b collide s
  | .partnerLoss b => Sys2Proof.Machine.execPartnerLoss b s
  | .tandemPromote b v => Sys2Proof.Machine.execTandemPromote b v s
  | .tandemWake b v collide => Sys2Proof.Machine.execTandemWake b v s collide
  | .mirrorResync b => Sys2Proof.Machine.execMirrorResync b s
  | .scrub b array err a k => Sys2Proof.Machine.execScrub b array err a k s
  | .rankRebuildEnd b tgt => Sys2Proof.Machine.execRankRebuildEnd b tgt s
  | .faultClear b v => Sys2Proof.Machine.execFaultClear b v s
  | .chrWrite b => Sys2Proof.Machine.execChrWrite b s
  | .chrFlush b v => Sys2Proof.Machine.execChrFlush b v s
  | .chrFlushDone b => Sys2Proof.Machine.execChrFlushDone b s
  | .chrNewRing b v => Sys2Proof.Machine.execChrNewRing b v s
  | .chrMark b v => Sys2Proof.Machine.execChrMark b v s
  | .chrReadSeqWrite b v => Sys2Proof.Machine.execChrReadSeqWrite b v s
  | .chrCursorWrite b pr el v => Sys2Proof.Machine.execChrCursorWrite b pr el v s
  | .chrWindowRefill b scope => Sys2Proof.Machine.execChrWindowRefill b scope s
  | .engRunStart b n => Sys2Proof.Machine.execEngRunStart b n s
  | .engRunStop b n => Sys2Proof.Machine.execEngRunStop b n s
  | .engSwapCancel b n => Sys2Proof.Machine.execEngSwapCancel b n s
  | .engSwapRequest b n => Sys2Proof.Machine.execEngSwapRequest b n s
  | .engSwapForce b n => Sys2Proof.Machine.execEngSwapForce b n s
  | .engDoorbell b n v => Sys2Proof.Machine.execEngDoorbell b n v s
  | .progWrite b el v => Sys2Proof.Machine.execProgWrite b el v s
  | .engineEventEntry b n => Sys2Proof.Machine.execEngineEventEntry b n s
  | .holdTimeout b n => Sys2Proof.Machine.execHoldTimeout b n s
  | .load b n => Sys2Proof.Machine.execLoad b n s
  | .shift b n din k hold => Sys2Proof.Machine.execShift b n din k s hold
  | .holdw b n hold => Sys2Proof.Machine.execHoldw b n hold s
  | .waitb b n pins => Sys2Proof.Machine.execWaitb b n pins s
  | .movi b n => Sys2Proof.Machine.execMovi b n s
  | .add b n pins => Sys2Proof.Machine.execAdd b n pins s
  | .and b n pins => Sys2Proof.Machine.execAnd b n pins s
  | .xor b n pins => Sys2Proof.Machine.execXor b n pins s
  | .cmp b n pins => Sys2Proof.Machine.execCmp b n pins s
  | .brcc b n pins => Sys2Proof.Machine.execBrcc b n pins s
  | .jmp b n => Sys2Proof.Machine.execJmp b n s
  | .out b n pins => Sys2Proof.Machine.execOut b n pins s
  | .frame b n => Sys2Proof.Machine.execFrame b n s
  | .evt b n => Sys2Proof.Machine.execEvt b n s
  | .stp b n pins => Sys2Proof.Machine.execStp b n pins s
  | .reti b n => Sys2Proof.Machine.execReti b n s
  | .halt b n => Sys2Proof.Machine.execHalt b n s
  | .engineIllegal b n => Sys2Proof.Machine.execEngineIllegal b n s
  | .bankSupplyReturn b viob => Sys2Proof.Machine.execBankSupplyReturn b viob s
  | .vbakRestore b => Sys2Proof.Machine.execVbakRestore b s
  | .resetPinRelease b porst => Sys2Proof.Machine.execResetPinRelease b porst s
  | .perstDeassert b => Sys2Proof.Machine.execPerstDeassert b s
  | .d3hotExit b => Sys2Proof.Machine.execD3hotExit b s
  | .pcieLinkUp b => Sys2Proof.Machine.execPcieLinkUp b s
  | .mgmtLinkChange b up speed => Sys2Proof.Machine.execMgmtLinkChange b up speed s
  | .laneBlockLock b => Sys2Proof.Machine.execLaneBlockLock b s
  | .helloSend b => Sys2Proof.Machine.execHelloSend b s
  | .pairGaspCopy b collide => Sys2Proof.Machine.execPairGaspCopy b s collide
  | .gaspCopyDiscard b => Sys2Proof.Machine.execGaspCopyDiscard b s
  | .holdReleased b n din k hold => Sys2Proof.Machine.execHoldReleased b n din k s hold
  | .crownUndefinedOpcode b op f => Sys2Proof.Machine.execCrownUndefinedOpcode b op f s
  | .selfRefreshExit b => Sys2Proof.Machine.execSelfRefreshExit b s
  | .regulatorResume b => Sys2Proof.Machine.execRegulatorResume b s

end Sys2Proof.Machine
end

