-- ==== Sys2Proof/WellFormed.lean ====
section
/-! DEFINITION. Which commands are well-formed: their operands name something the device has (a source, a target, a
function, an escapement, a bus request that fits its bar). A command that is not well-formed names nothing, and its
meaning stops with `illFormed`. -/

namespace Sys2Proof

open Sys2Proof.Machine

/-- The command's operands lie in range. (DESIGN CHOICE, log 14, 113.) -/
def Instr.wf : Instr → Bool
  | .bankSupplyLoss _ _ => true
  | .glitchFilterChange _ n _ _ => decide (n < 96)
  | .stormWindowClose _ src => decide (src < 4096)
  | .alarmFire _ n => decide (n < 16)
  | .alarmCompareWrite _ pr n v => decide (pr < 32) && decide (n < 65536) && decide (v < 256 ^ typeSize (typeOf 0x1210))
  | .alarmPeriodWrite _ pr n v => decide (pr < 32) && decide (n < 65536) && decide (v < 256 ^ typeSize (typeOf 0x1211))
  | .alarmArmWrite _ pr n v => decide (pr < 32) && decide (n < 65536) && decide (v < 256 ^ typeSize (typeOf 0x1212))
  | .todLoad _ _ => true
  | .pendSet _ fn k _ => decide (k < 128) && decide (fn < 32)
  | .pendClr _ fn k _ => decide (k < 128) && decide (fn < 32)
  | .enableSet _ fn k _ => decide (k < 128) && decide (fn < 32)
  | .enableClr _ fn k _ => decide (k < 128) && decide (fn < 32)
  | .setPending _ pr el v => decide (pr < 32) && decide (el < 65536) && decide (v < 256 ^ typeSize (typeOf 0xF008))
  | .clearPending _ pr el v => decide (pr < 32) && decide (el < 65536) && decide (v < 256 ^ typeSize (typeOf 0xF009))
  | .doorbellWrite _ fn w => (writeFits fn w && decide (regionOf w.off = .doorbell)) && decide (fn < 32)
  | .doorbellArrival _ => true
  | .doorbellRead _ fn r => (readFits fn r && decide (regionOf r.off = .doorbell)) && decide (fn < 32)
  | .payloadRead _ fn r => (readFits fn r) && decide (fn < 32)
  | .free _ fn page _ => decide (page < 1024) && decide (fn < 32)
  | .completeFreePair _ fn page _ _ => decide (page < 1024) && decide (fn < 32)
  | .claim _ fn page _ => decide (page < 1024) && decide (fn < 32)
  | .claim64 _ fn page _ => decide (page < 1024) && decide (fn < 32)
  | .complete _ fn page _ => decide (page < 1024) && decide (fn < 32)
  | .thresholdWrite _ fn page _ _ => decide (page < 1024) && decide (fn < 32)
  | .sourceQuarantine _ pr el => decide (pr < 32) && decide (el < 65536)
  | .sourceRelease _ pr el => decide (pr < 32) && decide (el < 65536)
  | .escapementIssue _ e _ => decide (e < 8)
  | .decisionRetry _ e _ => decide (e < 8)
  | .migrationEnd _ e => decide (e < 8)
  | .syncRelease _ e _ => decide (e < 8)
  | .claimTimeout _ tgt tag _ => decide (tgt < 1024) && decide (tag < 1024)
  | .tgtEnableWrite _ pr el v => decide (pr < 32) && decide (el < 65536) && decide (v < 256 ^ typeSize (typeOf 0x3005))
  | .targetQuarantine _ el _ => decide (el < 65536)
  | .targetRelease _ el => decide (el < 65536)
  | .wholeSecond _ => true
  | .ppsOutPulseEnd _ => true
  | .ppsEdge _ => true
  | .ppsSignalLoss _ => true
  | .balanceTick _ => true
  | .balSpanEnd _ => true
  | .steeringPeriodBoundary _ => true
  | .regulatorUpdate _ _ => true
  | .featAcceptWrite _ fn _ _ _ => decide (fn < 32)
  | .featuresOkRequest _ fn => decide (fn < 32)
  | .busMasterEnableChange _ fn _ => decide (fn < 32)
  | .flr _ fn => decide (fn < 32)
  | .vfEnableChange _ _ num => decide (num < 32)
  | .tenResetQuiesce _ n => decide (n < 65536)
  | .tenResetIsolate _ n => decide (n < 65536)
  | .tenantResetBeat _ n => decide (n < 32)
  | .tenantResetEnd _ n => decide (n < 32)
  | .dictGet _ fn _ => decide (fn < 32)
  | .dictSet _ fn _ _ => decide (fn < 32)
  | .dictGetDraft _ fn _ => decide (fn < 32)
  | .dictDone _ fn => decide (fn < 32)
  | .wind _ pr _ => decide (pr < 32)
  | .windBeat _ => true
  | .draftDiscard _ pr v => decide (pr < 32) && decide (v < 256 ^ typeSize (typeOf 0xF001))
  | .draftDefaults _ pr v => decide (pr < 32) && decide (v < 256 ^ typeSize (typeOf 0xF002))
  | .saveSettings _ v => decide (v < 256 ^ typeSize (typeOf 0xF003))
  | .saveDone _ _ => true
  | .request _ addr fr dst => addrOk addr && addrOk dst && !(beAt 6 1 fr == 2 || beAt 6 1 fr == 3 || beAt 6 1 fr == 4)
  | .nrGet _ c idx el => decide (c < 16) && decide (idx < 65536) && decide (el < 65536)
  | .nrSet _ c idx el v => decide (c < 16) && decide (idx < 65536) && decide (el < 65536) && decide (v.length ≤ 1424)
  | .nrAction _ c idx el v => decide (c < 16) && decide (idx < 65536) && decide (el < 65536) && decide (v.length ≤ 1424)
  | .nrGetDraft _ c idx el => decide (c < 16) && decide (idx < 65536) && decide (el < 65536)
  | .subscribe _ c addr idx el v => decide (c < 16) && addrOk addr && decide (idx < 65536) && decide (el < 65536) && decide (v.length ≤ 1424)
  | .unsubscribe _ c idx el => decide (c < 16) && decide (idx < 65536) && decide (el < 65536)
  | .ping _ addr fr dst => addrOk addr && addrOk dst && beAt 6 1 fr == 2
  | .wake _ addr fr dst => addrOk addr && addrOk dst && beAt 6 1 fr == 3
  | .reset _ addr fr dst => addrOk addr && addrOk dst && beAt 6 1 fr == 4
  | .reportTick _ => true
  | .gaspRound _ => true
  | .arpRequest _ target sender => decide (target < 2 ^ 32) && decide (sender < 2 ^ 48)
  | .arpReply _ ip mac => decide (ip < 2 ^ 32) && decide (mac < 2 ^ 48)
  | .neighbourSolicitation _ target sender => decide (target < 2 ^ 128) && decide (sender < 2 ^ 48)
  | .neighbourAdvertisement _ target mac => decide (target < 2 ^ 128) && decide (mac < 2 ^ 48)
  | .echoRequest _ addr _ dst => addrOk addr && addrOk dst
  | .unhandledFrame _ => true
  | .dialPendSet _ fn _ _ => decide (fn < 32)
  | .dialPendClr _ fn _ _ => decide (fn < 32)
  | .dialEnSet _ fn _ _ => decide (fn < 32)
  | .dialEnClr _ fn _ _ => decide (fn < 32)
  | .msixPendingSend _ fn vec => decide (fn < 32) && decide (vec < 2)
  | .registerWrite _ fn w => (writeFits fn w) && decide (fn < 32)
  | .atomicopRequest _ fn => decide (fn < 32)
  | .lockedRead _ fn => decide (fn < 32)
  | .configurationRequest _ fn _ => decide (fn < 32)
  | .perstAssert _ => true
  | .hotReset _ => true
  | .linkDown _ => true
  | .d3hotEntry _ => true
  | .powerOn _ _ => true
  | .railBrownout _ => true
  | .resetPin _ _ => true
  | .clockFail _ => true
  | .resetReqL2Cold _ => true
  | .resetReqL2Warm _ => true
  | .resetReqL3 _ => true
  | .levelResetStart _ => true
  | .wdogTimeoutWrite _ v => decide (v < 256 ^ typeSize (typeOf 0x1002))
  | .wdogKick _ v => decide (v < 256 ^ typeSize (typeOf 0x1003))
  | .watchdog _ => true
  | .regLockup _ => true
  | .regLockupsClear _ => true
  | .blkResetQuiesce _ el _ => decide (el < 65536)
  | .blkResetIsolate _ el _ => decide (el < 65536)
  | .quiesceDrained _ el => blkElement el
  | .blkTimeout _ el _ => blkElement el
  | .blockResetEnd _ el => blkElement el
  | .supplyGood _ => true
  | .pllLock _ _ => true
  | .optionLoad _ => true
  | .sramBist _ _ => true
  | .ddrTraining _ mib => mib == 0 || mib == 1 || mib == 512 || mib == 1024
  | .stateTableInit _ => true
  | .tailRecovery _ => true
  | .regulatorBoot _ _ => true
  | .settingsLoad _ => true
  | .ready _ => true
  | .startTimeout _ => true
  | .startFailedReset _ => true
  | .extest _ => true
  | .samplePreload _ => true
  | .idcode _ => true
  | .clamp _ => true
  | .highz _ => true
  | .bypass _ code => !jtagCode code
  | .coreReset _ => true
  | .flashSpi _ _ _ => true
  | .nop _ _ => true
  | .read _ _ => true
  | .unlockA _ _ => true
  | .unlockB _ _ => true
  | .latchSet _ _ => true
  | .latchClr _ _ => true
  | .crownShortFrame _ edges _ => decide (edges < 40)
  | .vbakLoss _ => true
  | .mainSupplyLeavesWindow _ => true
  | .fwConfirm _ v => decide (v < 256 ^ typeSize (typeOf 0x1505))
  | .fwReject _ v => decide (v < 256 ^ typeSize (typeOf 0x1506))
  | .fwStageOpen _ => true
  | .fwStageData _ k _ _ => decide (k < 65536)
  | .fwStageClose _ => true
  | .fwStageAbort _ => true
  | .stageEraseDone _ _ => true
  | .stageVerifyDone _ => true
  | .fwActivateTrial _ => true
  | .fwActivateDefaults _ => true
  | .trialWindowEnd _ => true
  | .trialNotRunning _ => true
  | .settingsMigrationDone _ _ => true
  | .adcConversion _ code => decide (code < 4096)
  | .supplyAlarm _ k _ _ _ => decide (k < 3)
  | .feedWarning _ _ _ => true
  | .feedRecovery _ _ _ => true
  | .gaspCommit _ => true
  | .gaspRearm _ _ _ => true
  | .quietEnter _ v => decide (v < 256 ^ typeSize (typeOf 0x1400))
  | .quietEntryBegin _ => true
  | .quietDrainEnd _ _ _ _ => true
  | .quietWake _ cause src => decide (cause < 5) && decide (src < 4096)
  | .wakeResume _ => true
  | .laneRetrain _ => true
  | .laneLoss _ _ _ => true
  | .hello _ h _ _ _ _ _ => laneFits 0x01 h
  | .heartbeat _ h _ _ => laneFits 0x02 h
  | .nak _ h _ => laneFits 0x03 h
  | .forward _ h src _ len _ payload => laneFits 0x10 h && decide (1152 ≤ src ∧ src < 4096 ∧ len < 256 ∧ payload.length ≤ 64)
  | .mirrorState _ h e => laneFits 0x11 h && decide (e.src < 4096 ∧ e.code < 8)
  | .syncBegin _ h => laneFits 0x12 h
  | .syncEntries _ h es => laneFits 0x13 h && decide (es.length ≤ 19) && es.all (fun e => e.src < 4096 && e.code < 8)
  | .syncEnd _ h => laneFits 0x14 h
  | .gasp _ h _ _ => laneFits 0x15 h
  | .ack _ h => laneFits 0x90 h
  | .retransmitTimeout _ _ => true
  | .heartbeatSend _ => true
  | .pairHeartbeatSend _ _ => true
  | .pairHeartbeat _ _ _ _ _ _ => true
  | .pairWake _ _ _ _ _ _ => true
  | .pairGasp _ _ _ _ _ _ => true
  | .pairBackoffEnd _ _ => true
  | .partnerLoss _ => true
  | .tandemPromote _ v => decide (v < 256 ^ typeSize (typeOf 0x1906))
  | .tandemWake _ v _ => decide (v < 256 ^ typeSize (typeOf 0x1907))
  | .mirrorResync _ => true
  | .scrub _ array err a k => scrubOk array err a k
  | .rankRebuildEnd _ tgt => decide (tgt < 1024)
  | .faultClear _ v => decide (v < 256 ^ typeSize (typeOf 0x1601))
  | .chrWrite _ => true
  | .chrFlush _ v => decide (v < 256 ^ typeSize (typeOf 0x170B))
  | .chrFlushDone _ => true
  | .chrNewRing _ v => decide (v < 256 ^ typeSize (typeOf 0x170A))
  | .chrMark _ v => decide (v < 256 ^ typeSize (typeOf 0x170C))
  | .chrReadSeqWrite _ v => decide (v < 256 ^ typeSize (typeOf 0x1706))
  | .chrCursorWrite _ pr el v => decide (pr < 32) && decide (el < 65536) && decide (v < 256 ^ typeSize (typeOf 0x1710))
  | .chrWindowRefill _ scope => decide (scope < 32)
  | .engRunStart _ n => decide (n < 65536)
  | .engRunStop _ n => decide (n < 65536)
  | .engSwapCancel _ n => decide (n < 65536)
  | .engSwapRequest _ n => decide (n < 65536)
  | .engSwapForce _ n => decide (n < 65536)
  | .engDoorbell _ n _ => decide (n < 65536)
  | .progWrite _ el _ => decide (el < 65536)
  | .engineEventEntry _ n => decide (n < 8)
  | .holdTimeout _ n => decide (n < 8)
  | .load _ n => decide (n < 8)
  | .shift _ n _ _ _ => decide (n < 8)
  | .holdw _ n _ => decide (n < 8)
  | .waitb _ n _ => decide (n < 8)
  | .movi _ n => decide (n < 8)
  | .add _ n _ => decide (n < 8)
  | .and _ n _ => decide (n < 8)
  | .xor _ n _ => decide (n < 8)
  | .cmp _ n _ => decide (n < 8)
  | .brcc _ n _ => decide (n < 8)
  | .jmp _ n => decide (n < 8)
  | .out _ n _ => decide (n < 8)
  | .frame _ n => decide (n < 8)
  | .evt _ n => decide (n < 8)
  | .stp _ n _ => decide (n < 8)
  | .reti _ n => decide (n < 8)
  | .halt _ n => decide (n < 8)
  | .engineIllegal _ n => decide (n < 8)
  | .bankSupplyReturn _ _ => true
  | .vbakRestore _ => true
  | .resetPinRelease _ _ => true
  | .perstDeassert _ => true
  | .d3hotExit _ => true
  | .pcieLinkUp _ => true
  | .mgmtLinkChange _ _ speed => decide (speed < 3)
  | .laneBlockLock _ => true
  | .helloSend _ => true
  | .pairGaspCopy _ _ => true
  | .gaspCopyDiscard _ => true
  | .holdReleased _ n _ _ _ => decide (n < 8)
  | .crownUndefinedOpcode _ op _ => !crownOpcode op
  | .selfRefreshExit _ => true
  | .regulatorResume _ => true

end Sys2Proof
end

