-- ==== Sys2Proof/Safety.lean ====
section
/-! DEFINITION. What the claims speak of: a sound state, the state a request meets, and when the dictionary and a
function's BAR0 take what is sent to them. -/

namespace Sys2Proof.Machine

open Sys2Proof

/-- A sound state: the dictionary's objects, the drafts, the flash and the DDR4 contents are in their canonical forms. -/
def State.sound (s : State) : Prop :=
  smWf dfltKey s.obj = true ∧ smWf (fun _ => (none : Option Nat)) s.drafts = true
    ∧ Memory.wf 0xFF s.flash = true ∧ Memory.wf 0 s.dram = true

/-- R211: checks 1 to 9 of Table 09-4 pass for a write of an immediate object, or an action, of value `v`; `e` is the
Owner's element. -/
def State.takes (u : State) (pr idx el v e : Nat) : Prop :=
  u.dictOpen = true ∧ u.asleep = false ∧ u.engRefused idx e = false ∧ u.valueOk pr idx e v = true
    ∧ ∃ o : Obj, u.gate pr idx el .set = .ok (e, o) ∧ lengthOk idx o.ty (typeSize (typeOf idx)) = true ∧ o.acc ≠ .rwd

/-- The state a doorbell write of beat `b` meets: the requests before it are done (R40, R245), and the link carries it in L0
(R296, R361). -/
def State.atBell (s : State) (b : Nat) : State := (s.atReq b).linkUp

/-- The state any other memory request of beat `b` meets: the doorbells received before it have arrived too (R273). -/
def State.atMem (s : State) (b : Nat) : State := (s.atBell b).doorbellsLand

/-- The function takes memory requests now: after step 11 the function is present, not in its tenant's reset phase, and
the device is not quiet (R191, R203, R296, R360). -/
def State.takesMem (u : State) (fn : Nat) : Prop := u.serves fn = true ∧ u.asleep = false

/-- The word engine `n` would execute at beat `b` or when its last instruction ended, if it is a legal instruction of
opcode `op` that no parity fault stops (R79, R80, R445). -/
def State.executes (u : State) (n op : Nat) (w : Dw) : Prop :=
  (u.engAt n).run = .running ∧ (u.engAt n).shifting = none ∧ u.engWord n = w ∧ wOp w = op
    ∧ wIllegal w (u.engAt n).inHandler = false ∧ u.parityFault n w = none

end Sys2Proof.Machine
end

