-- ==== Sys2Proof/Certificates/Slice0/Obligations.lean ====
section
/-! DEFINITION. The statements for the provers. `s.upTo b` is the state when time has passed to beat `b`, `s.atReq b` the
state a request of beat `b` meets; each statement says what the command makes of that state. -/

open Sys2Proof Sys2Proof.Machine

/-- A step with command `c` at the front of the queue is `exec c` on the state with the queue's rest; on an empty queue it
lets one beat pass and does nothing else (the model's choice of the block's form, log 1). -/
def Obligations.StepRunsFrontCommand : Prop :=
  (∀ (c : Instr) (rest : List Instr) (s : State), step { s with pending := c :: rest } = exec c { s with pending := rest })
    ∧ ∀ s : State, s.pending = [] → step s = .next (s.upTo (s.now + 1))

/-- Every well-formed command completes; a command whose operands name nothing in the device stops with `illFormed`
(the model's choice, log 14). -/
def Obligations.WellFormedCompletes : Prop :=
  ∀ (c : Instr) (s : State),
    (c.wf = true → ∃ t, exec c s = .next t) ∧ (c.wf = false → exec c s = .fault .illFormed)

/-- Every step keeps a sound state sound: the dictionary's objects, the drafts, the flash and the chronograph's memory stay
in canonical form. -/
def Obligations.StepKeepsSound : Prop :=
  ∀ s t : State, s.sound → step s = .next t → t.sound

/-- The state after reset is sound. Every object holds its default; the counter is 0; every source is IDLE and every buffer
FREE with generation 0; each tag counter stands at 1; no function has negotiated and none may master the bus; no delivery,
draft, wind or fault is held; the chronograph's queue holds the RESET record alone; the lanes are DOWN, the device is ACTIVE,
the crown port's first RESULT is 0xFF, and the reset is counted. (That State.reset is the first L1 reset is the model's
choice: log 15.) -/
def Obligations.ResetSound : Prop :=
  let r := State.reset
  r.sound ∧ (∀ idx el, r.o idx el = dfltKey (pkey idx el)) ∧ r.time.counter = 0
    ∧ (∀ n, (r.srcAt n).st = .idle ∧ (r.srcAt n).repend = false ∧ (r.bufAt n).st = .free ∧ (r.bufAt n).gen = 0
      ∧ (r.tgtAt n).tagNext = 1 ∧ (r.fn n).bme = false ∧ (r.fn n).ok = false ∧ (r.fn n).dialPend = 0)
    ∧ r.dlv = [] ∧ r.drafts = [] ∧ r.winds = [] ∧ r.first = none ∧ r.worst = none ∧ r.multi = false ∧ r.chr.queue.map (·.kind) = [3]
    ∧ r.tdm.lanes = 0 ∧ r.quiet.code = 0 ∧ r.crown.result = 0xFF ∧ r.backup.resetCount = 1
    ∧ r.start.step = 0 ∧ r.pending = []

/-- No command adds to the queue of commands, takes another one from it, or takes the device back in time. -/
def Obligations.StepQueueAndTime : Prop :=
  ∀ s t : State, step s = .next t → t.pending = s.pending.tail ∧ s.now ≤ t.now

/-- From a sound state whose waiting commands are well-formed, every step answers a sound next state whose waiting commands
are well-formed: such a run never ends in a fault or a refusal. -/
def Obligations.WellFormedQueueRuns : Prop :=
  ∀ s : State, s.sound → s.pending.all Instr.wf = true →
    ∃ t, step s = .next t ∧ t.sound ∧ t.pending = s.pending.tail ∧ t.pending.all Instr.wf = true

/-- BANK_SUPPLY_LOSS and BANK_SUPPLY_RETURN: the bank named is absent, or present, the other as it was; DOUT of the bank's four
ports is low, their balls are not driven while it is absent, and driven low when it returns. From its loss the bank's inputs
are sampled 0; at its return no filter changes. -/
def Obligations.BankSupplies : Prop :=
  ∀ (s : State) (b : Nat) (viob : Bool),
    let u := s.upTo b
    let other (k n : Nat) : Bool := decide (k ≤ n) != viob
    (∃ t, exec (.bankSupplyLoss b viob) s = .next t ∧ t.bankA = (u.bankA && viob) ∧ t.bankB = (u.bankB && !viob)
      ∧ (∀ n, n < 8 → t.engAt n = { u.engAt n with dout := (u.engAt n).dout && other 4 n }
          ∧ (other 4 n = false → t.xpOut n = none))
      ∧ ∀ n, n < 96 → (t.filtAt n).sample = ((u.filtAt n).sample && other 48 n)
          ∧ ((u.filtAt n).sample = true → other 48 n = false → (t.filtAt n).since = max u.now (u.filtAt n).since)
          ∧ (other 48 n = true → t.filtAt n = u.filtAt n))
    ∧ (∃ t, exec (.bankSupplyReturn b viob) s = .next t ∧ t.filtered = u.filtered ∧ t.obj = u.obj ∧ t.src = u.src
      ∧ t.bankA = (u.bankA || !viob) ∧ t.bankB = (u.bankB || viob)
      ∧ ∀ n, n < 8 → t.engAt n = { u.engAt n with dout := (u.engAt n).dout && other 4 n }
          ∧ (other 4 n = false → t.xpOut n = some (false, false, false)))

/-- GLITCH_FILTER_CHANGE: the synchronized samples of IRQ_IN[n] show a level since a beat (an unsupplied bank presents only 0,
and samples before the filter's last restart do not count). Until GLITCH more beats have passed the filtered value holds, and
samples that return to it before start no change; then it takes the level, and where the mode senses that edge it is an
arrival of source 32 + n at row 2 of this beat. -/
def Obligations.GlitchFilterOutput : Prop :=
  ∀ (s : State) (b n : Nat) (level : Bool) (since : Nat),
    let u := s.upTo b
    let x := u.filtAt n
    let c := max (min since u.now) x.since
    let full := c + u.o 0x2005 (32 + n)
    let counts (v : Bool) : State := u.setFilt n { value := v, sample := level, since := c }
    let turned : State := (counts (!level)).setFilt n { value := level, sample := level, since := c }
    n < 96 →
    (x.value = x.sample → (x.sample = level ∨ level = true ∧ u.bankOf n = false) →
      exec (.glitchFilterChange b n level since) s = .next u.hwRow)
    ∧ (x.sample = (!level) → (level = true → u.bankOf n = true) →
      (x.value = level → exec (.glitchFilterChange b n level since) s = .next (counts level).hwRow)
      ∧ (x.value = (!level) → u.now < full →
          exec (.glitchFilterChange b n level since) s = .next (counts (!level)).hwRow)
      ∧ (x.value = (!level) → full ≤ u.now → exec (.glitchFilterChange b n level since) s
          = .next (if u.sensing = true ∧ edgeSensed (u.sense (32 + n)) level = true
            then { turned with row2 := turned.row2 ++ [(32 + n, u.cnt)] } else turned).hwRow))

/-- ALARM_FIRE of an alarm that is due: a one-shot alarm disarms; a periodic one moves its compare value past the counter
by whole periods and counts those it skipped; its source 16 + n has an edge arrival, and the engines that follow the alarm
have their event. ALARM_COMPARE_WRITE, ALARM_PERIOD_WRITE: at once, or on the next beat while the alarm is armed.
ALARM_ARM_WRITE: 1 arms on the next beat and clears the skipped count; 0 disarms at once. -/
def Obligations.Alarms : Prop :=
  ∀ (s : State) (b pr n v e : Nat),
    let u := s.upTo b
    let q := s.atReq b
    let fired (z : State) : State := loop (fun k x => if x.o 0x4004 k = n then x.engEvent k 1 else x) 0 8 (z.edge (16 + n))
    (n < 16 → u.alarmDue n = true → u.o 0x1211 n = 0 →
      exec (.alarmFire b n) s = .next (fired (u.setO 0x1212 n 0)))
    ∧ (n < 16 → u.alarmDue n = true → 0 < u.o 0x1211 n →
      let k := (u.cnt.toNat - u.o 0x1210 n) / u.o 0x1211 n + 1
      exec (.alarmFire b n) s =
        .next (fired ((u.setO 0x1210 n ((u.o 0x1210 n + k * u.o 0x1211 n) % 2 ^ 64)).bump 0x1213 n (k - 1))))
    ∧ ((Instr.alarmCompareWrite b pr n v).wf = true → q.takes pr 0x1210 n v e →
      exec (.alarmCompareWrite b pr n v) s = .next ((if q.o 0x1212 e = 1
        then { q with nextObj := q.nextObj ++ [(pkey 0x1210 e, v)] } else q.setO 0x1210 e v).answer 0))
    ∧ ((Instr.alarmPeriodWrite b pr n v).wf = true → q.takes pr 0x1211 n v e →
      exec (.alarmPeriodWrite b pr n v) s = .next ((if q.o 0x1212 e = 1
        then { q with nextObj := q.nextObj ++ [(pkey 0x1211 e, v)] } else q.setO 0x1211 e v).answer 0))
    ∧ ((Instr.alarmArmWrite b pr n 1).wf = true → q.takes pr 0x1212 n 1 e →
      exec (.alarmArmWrite b pr n 1) s = .next
        (({ q.setO 0x1213 e 0 with nextObj := q.nextObj ++ [(pkey 0x1212 e, 1)] } : State).answer 0))
    ∧ ((Instr.alarmArmWrite b pr n 0).wf = true → q.takes pr 0x1212 n 0 e →
      exec (.alarmArmWrite b pr n 0) s = .next ((q.setO 0x1212 e 0).answer 0))

/-- TOD_LOAD: a TIME record of the old value; the counter takes the new value on the next beat; a load backwards moves the
next whole second to the one after the loaded value. WHOLE_SECOND when the counter has reached it and no load turns it back: the next one is awaited,
1PPS_OUT is high for its width outside Quiet mode, and source S4 is raised. PPS_OUT_PULSE_END: the pulse falls when its time
has come. -/
def Obligations.CounterAndSeconds : Prop :=
  (∀ (s : State) (b : Nat) (v : Beat) (e : Nat),
    let q := s.atReq b
    let r := q.chrPut 9 none (leBytes 8 q.cnt.toNat ++ leBytes 1 1)
    q.takes 0 0x1201 0 v.toNat e →
    ∃ t, exec (.todLoad b v) s = .next t ∧ t.status = 0 ∧ t.time.load = some v ∧ t.time.counter = r.time.counter
      ∧ t.obj = r.obj ∧ t.chr = r.chr ∧ t.src = r.src ∧ t.time.mode = r.time.mode
      ∧ t.time.nextSecond = (if v.toNat < r.cnt.toNat then (v.toNat / Config.wholeSecond + 1) * Config.wholeSecond
          else r.time.nextSecond))
  ∧ ∀ (s : State) (b : Nat),
    let u := s.upTo b
    (u.time.watched = true → u.goesBack = false → u.time.nextSecond ≤ u.cnt.toNat →
      exec (.wholeSecond b) s = .next (({ u with time := { u.time with
        nextSecond := (u.cnt.toNat / Config.wholeSecond + 1) * Config.wholeSecond,
        ppsOutUntil := if u.time.mode = .quiet then u.time.ppsOutUntil
          else some (max (u.now + u.o 0x1205 0) (u.time.ppsOutUntil.getD 0)) } } : State).raiseInt 4))
    ∧ (∀ w, u.time.ppsOutUntil = some w → w ≤ u.now →
      exec (.ppsOutPulseEnd b) s = .next { u with time := { u.time with ppsOutUntil := none } })

/-- PPS_EDGE: an edge too soon after the last accepted one counts and changes nothing else; an accepted one corrects by the
phase error against the nearest whole second. PPS_SIGNAL_LOSS in DISCIPLINE mode: SIGNAL and LOCKED end, HOLDOVER begins at
the average rate, and Dial event 15 latches; in FREE mode SIGNAL and LOCKED end. -/
def Obligations.PpsInput : Prop :=
  ∀ (s : State) (b : Nat),
    let u := s.upTo b
    let x : Int := (u.cnt.toNat : Int) - 3 - toI32 (u.o 0x1203 0)
    let lost : State := { (u.ppsBit 2 false).ppsBit 0 false with time := { u.time with ppsGood := 0 } }
    (∀ l, u.o 0x1202 0 = 1 → u.time.mode = .perBeat → u.time.ppsFirst = false → u.time.ppsLast = some l →
      u.now < l + 720000000 → exec (.ppsEdge b) s = .next (u.bump 0x120B 0 1))
    ∧ (u.o 0x1202 0 = 1 → u.time.mode = .perBeat → (∀ l, u.time.ppsLast = some l → l + 720000000 ≤ u.now) →
      exec (.ppsEdge b) s = .next
        (({ u with time := { u.time with ppsLast := some u.now, ppsFirst := false } } : State).ppsCorrect
          (x - nearestSecond x)))
    ∧ (∀ l, bitOf (u.o 0x1206 0) 2 = true → u.time.mode ≠ .quiet → u.time.ppsLast = some l → l + 800800000 ≤ u.now →
      exec (.ppsSignalLoss b) s = .next (if u.o 0x1202 0 = 1
        then ((lost.ppsBit 1 true).setO 0x1208 0 (lost.o 0x1209 0)).dial 15 0 else lost))

/-- An accepted edge whose error is within the step limit: PPS_PHASE takes the error, the frequency correction loses 5/32 of
it and the rate the frequency less 5/8 of it, both clamped to ±200,000 ppb; SIGNAL is set and HOLDOVER cleared. -/
def Obligations.PpsCorrection : Prop :=
  ∀ (u : State) (e : Int),
    (u.o 0x1204 0 = 0 ∨ e.natAbs ≤ u.o 0x1204 0) → u.time.ppsWake = false →
    let f := clampI 200000 (toI32 (u.o 0x1209 0) - roundDiv (5 * e) 32)
    let t := u.ppsCorrect e
    t.o 0x1207 0 = ofI32 e ∧ t.o 0x1209 0 = ofI32 f ∧ t.o 0x1208 0 = ofI32 (clampI 200000 (f - roundDiv (5 * e) 8))
      ∧ bitOf (t.o 0x1206 0) 2 = true ∧ bitOf (t.o 0x1206 0) 1 = false
      ∧ t.src = u.src ∧ t.time.counter = u.time.counter ∧ t.time.load = u.time.load

/-- BALANCE_TICK in Quiet mode adds BAL_RATE sixteenth-bit fractions to the counter and the alarms that are due fire; the
first one after the oscillator's relock at wake also ends the coarse count. With the oscillator running the first tick opens a
span and the 32,768th after it closes one; BAL_SPAN_END of a closed span: BAL_RATE becomes twice the counter's advance over
it; with none closed it changes nothing. -/
def Obligations.Balance : Prop :=
  ∀ (s : State) (b : Nat),
    let u := s.upTo b
    let t := u.time
    let ticked : Time := { t with
      counter := t.load.getD t.counter + BitVec.ofNat 64 ((t.balFrac + u.o 0x120C 0) / 65536), load := none,
      balFrac := (t.balFrac + u.o 0x120C 0) % 65536 }
    (t.mode = .quiet → t.resumeAtTick = false →
      exec (.balanceTick b) s = .next (loop State.alarmFire 0 16 { u with time := ticked }))
    ∧ (t.mode = .quiet → t.resumeAtTick = true →
      exec (.balanceTick b) s = .next (loop State.alarmFire 0 16 { u with time := { ticked with
        mode := .perBeat, resumeAtTick := false, balFrac := 0, ppsFirst := true, ppsWake := true } }))
    ∧ (t.mode = .perBeat → t.watched = true →
      (t.spanAdv = none → exec (.balanceTick b) s = .next { u with time := { t with spanAdv := some 0, spanTicks := 0 } })
      ∧ (∀ adv, t.spanAdv = some adv → t.spanTicks < 32767 →
          exec (.balanceTick b) s = .next { u with time := { t with spanTicks := t.spanTicks + 1 } })
      ∧ (∀ adv, t.spanAdv = some adv → 32767 ≤ t.spanTicks → exec (.balanceTick b) s
          = .next { u with time := { t with spanAdv := some 0, spanTicks := 0, spanFull := some adv } }))
    ∧ (∀ adv, t.spanFull = some adv → exec (.balSpanEnd b) s =
        .next { u.setO 0x120C 0 (2 * adv % 2 ^ 32) with time := { t with spanFull := none } })
    ∧ (t.spanFull = none → exec (.balSpanEnd b) s = .next u)

/-- STEERING_PERIOD_BOUNDARY when the counter has reached it, no load turning it back: an update not yet made counts as missed, every target's
figures are closed, the next boundary is the next multiple of the period, and an update is due while the Regulator steers.
REGULATOR_UPDATE of a closed period: averages, weights, quarantines and releases in that order, then the update's beat is
shown and none is due. -/
def Obligations.SteeringPeriods : Prop :=
  ∀ (s : State) (b : Nat) (mm : Bool),
    let u := s.upTo b
    (u.goesBack = false → u.time.nextPeriod ≤ u.cnt.toNat →
      let v := if u.time.toUpdate && u.steering then u.bump 0x6008 0 1 else u
      let w := each State.closePeriod (ascending (v.tgt.map (·.1) ++ (v.elems 0x7068 (fun _ => true)).map (· / 4))) v
      ∃ t, exec (.steeringPeriodBoundary b) s = .next t
        ∧ t = { w with time := { w.time with
            nextPeriod := (w.cnt.toNat / u.o 0x6001 0 + 1) * u.o 0x6001 0, toUpdate := w.steering } })
    ∧ (u.time.toUpdate = true → u.steering = true → u.cnt.toNat < u.time.nextPeriod →
      let avg := each State.foldAvg (ascending ((u.elems 0x7068 (fun _ => true)).map (· / 4))) u
      let wgt := each State.weigh (avg.elems 0x3401 (· == 2)) avg
      let qua := each (State.regQuarantine b mm) (u.tgt.map (·.1)) wgt
      let rel := each State.regRelease (ascending (u.elems 0x6012 (· == 2))) qua
      ∃ t, exec (.regulatorUpdate b mm) s = .next t ∧ t.o 0x6007 0 = rel.cnt.toNat ∧ t.time.toUpdate = false
        ∧ t.src = rel.src ∧ t.tgt = rel.tgt ∧ t.dlv = rel.dlv)

/-- PEND_SET, PEND_CLR, ENABLE_SET, ENABLE_CLR: bit i of DW k acts on the source the function knows as 32k + i, in ascending
order; a bit of 0, or one past the view, has no effect. -/
def Obligations.SourceArrays : Prop :=
  ∀ (s : State) (b fn k : Nat) (mask : Dw),
    let q := s.atMem b
    let onBits (f : Nat → State → State) (z : State) : State :=
      loop (fun i z => if mask.getLsbD i then
        match z.fromView 0x2000 fn (32 * k + i) with | some n => f n z | none => z
        else z) 0 32 z
    k < 128 → fn < 32 → q.takesMem fn →
    exec (.pendSet b fn k mask) s = .next (onBits State.setPending q)
    ∧ exec (.pendClr b fn k mask) s = .next (onBits State.clearPending q)
    ∧ exec (.enableSet b fn k mask) s = .next (onBits (fun n => State.setEnable n true) q)
    ∧ exec (.enableClr b fn k mask) s = .next (onBits (fun n => State.setEnable n false) q)

/-- Enabling or disabling leaves a source's state, stamp and payload; a PENDING source is ranked 24 beats later. -/
def Obligations.EnableKeepsSource : Prop :=
  ∀ (u : State) (n : Nat) (on : Bool),
    (State.setEnable n on u).o 0x2006 n = (if (u.o 0x2006 n == 1) = on then u.o 0x2006 n else b2n on)
    ∧ ((State.setEnable n on u).srcAt n).st = (u.srcAt n).st
    ∧ ((State.setEnable n on u).srcAt n).stamp = (u.srcAt n).stamp
    ∧ ((State.setEnable n on u).srcAt n).info = (u.srcAt n).info
    ∧ (∀ m, m ≠ n → (State.setEnable n on u).srcAt m = u.srcAt m)
    ∧ ((u.srcAt n).st = .pending → (u.o 0x2006 n == 1) ≠ on →
        ((State.setEnable n on u).srcAt n).rankedAt = u.now + 24)

/-- SET_PENDING of a source without a storm limit, with no hardware arrival of it in the same beat and outside its tenant's
reset: IDLE becomes PENDING with the beat counter as its stamp; PENDING keeps its stamp and counts COALESCED; IN_FLIGHT and
ACTIVE take REPEND with the stamp, or count COALESCED if they have it; COMPLETED and QUARANTINED count DROPPED, and a
QUARANTINED source takes QPEND. -/
def Obligations.SetPending : Prop :=
  ∀ (s : State) (b pr el e : Nat),
    let q := s.atReq b
    let x := q.srcAt e
    e < 4096 → (Instr.setPending b pr el 1).wf = true → q.takes pr 0xF008 el 1 e → q.sensing = true →
    q.resetting (q.srcTen e) = false → x.hwAt ≠ some q.now → q.o 0x2007 e = 0 →
    ∃ t, exec (.setPending b pr el 1) s = .next t ∧ t.status = 0
      ∧ (x.st = .idle → (t.srcAt e).st = .pending ∧ (t.srcAt e).stamp = q.cnt)
      ∧ (x.st = .pending → (t.srcAt e).st = .pending ∧ (t.srcAt e).stamp = x.stamp
          ∧ (t.srcAt e).lvl = false ∧ t.o 0x7010 e = satAdd 32 (q.o 0x7010 e) 1)
      ∧ (x.st = .inFlight ∨ x.st = .active → (t.srcAt e).st = x.st ∧ (t.srcAt e).repend = true
          ∧ (if x.repend then t.o 0x7010 e = satAdd 32 (q.o 0x7010 e) 1 else (t.srcAt e).rependStamp = q.cnt))
      ∧ (x.st = .completed → (t.srcAt e).st = .completed ∧ t.o 0x7011 e = satAdd 32 (q.o 0x7011 e) 1)
      ∧ (x.st = .quarantined → (t.srcAt e).st = .quarantined ∧ (t.srcAt e).qpend = true
          ∧ t.o 0x7011 e = satAdd 32 (q.o 0x7011 e) 1)

/-- CLEAR_PENDING: PENDING and COMPLETED become IDLE; IN_FLIGHT and ACTIVE lose REPEND alone, with no delivery revoked or
ended; QUARANTINED loses QPEND; IDLE stays. -/
def Obligations.ClearPending : Prop :=
  ∀ (s : State) (b pr el e : Nat),
    let q := s.atReq b
    let x := q.srcAt e
    (Instr.clearPending b pr el 1).wf = true → q.takes pr 0xF009 el 1 e →
    ∃ t, exec (.clearPending b pr el 1) s = .next t ∧ t.status = 0 ∧ t.dlv = q.dlv
      ∧ (x.st = .pending ∨ x.st = .completed ∨ x.st = .idle → (t.srcAt e).st = .idle)
      ∧ (x.st = .inFlight ∨ x.st = .active → (t.srcAt e).st = x.st ∧ (t.srcAt e).repend = false ∧ (t.srcAt e).target = x.target)
      ∧ (x.st = .quarantined → (t.srcAt e).st = .quarantined ∧ (t.srcAt e).qpend = false)

/-- DOORBELL_WRITE: one memory write TLP, not poisoned, at byte 0 of a slot that raises a source, of 8 to 72 enabled bytes in
the form R43 names, waits for its bytes; every other write is dropped whole and counts ACCESS_FAULT with its Dial event, a
poisoned one after its error is logged. DOORBELL_ARRIVAL: the oldest one arrives at its source with its payload; with none
waiting, or asleep, nothing changes. -/
def Obligations.Doorbells : Prop :=
  ∀ (s : State) (b fn n : Nat) (w : MemWrite),
    let q := s.atBell b
    let u := s.upTo b
    let good : Prop := w.off % 128 = 0 ∧ 2 ≤ w.data.length ∧ w.beFirst = 0xF
      ∧ (w.beLast = 1 ∨ w.beLast = 3 ∨ w.beLast = 7 ∨ w.beLast = 0xF)
      ∧ 8 ≤ (writeBytes w).length ∧ (writeBytes w).length ≤ 72
    ((Instr.doorbellWrite b fn w).wf = true → q.takesMem fn → w.poisoned = false →
      q.slotSource fn ((w.off - 0x100000) / 128) = some n → good →
      exec (.doorbellWrite b fn w) s = .next { q with doorbells := q.doorbells ++
        [⟨n, BitVec.ofNat 16 (field (w.data.getD 0 0).toNat 0 16), field (w.data.getD 0 0).toNat 16 8,
          bitOf (w.data.getD 0 0).toNat 24, (writeBytes w).drop 8⟩] })
    ∧ ((Instr.doorbellWrite b fn w).wf = true → q.takesMem fn → w.poisoned = false →
      (q.slotSource fn ((w.off - 0x100000) / 128) = none ∨ ¬ good) →
      exec (.doorbellWrite b fn w) s = .next (q.accessFault fn))
    ∧ ((Instr.doorbellWrite b fn w).wf = true → q.takesMem fn → w.poisoned = true →
      exec (.doorbellWrite b fn w) s = .next ((q.aerLog fn true).accessFault fn))
    ∧ (∀ d rest, u.doorbells = d :: rest → u.asleep = false →
      exec (.doorbellArrival b) s =
        .next (({ u with doorbells := rest } : State).ringSource d.src d.tag d.len d.keepFirst d.bytes))
    ∧ (u.doorbells = [] ∨ u.asleep = true → exec (.doorbellArrival b) s = .next u)

/-- R44: a read in the doorbell window completes with zeros of the requested length and counts ACCESS_FAULT, with its Dial
event; a zero-length read completes with one DW of zeros and does nothing else. -/
def Obligations.DoorbellRead : Prop :=
  ∀ (s : State) (b fn : Nat) (r : MemRead),
    let q := s.atMem b
    (Instr.doorbellRead b fn r).wf = true → q.takesMem fn →
    (¬ (r.dws = 1 ∧ r.beFirst = 0) → exec (.doorbellRead b fn r) s =
      .next (((q.post (.cpl fn false (List.replicate (4 * r.dws) 0))).bump 0x1605 fn 1).dial 0 fn))
    ∧ (r.dws = 1 ∧ r.beFirst = 0 → exec (.doorbellRead b fn r) s = .next (q.post (.cpl fn false [0, 0, 0, 0])))

/-- PAYLOAD_READ within one buffer: the bytes of a buffer that a target of the function's tenant owns (any owned buffer for
the physical function), zeros past its length; zeros and FOREIGN_READ otherwise. Across a boundary: Unsupported Request, its
error logged, and ACCESS_FAULT. -/
def Obligations.PayloadRead : Prop :=
  ∀ (s : State) (b fn : Nat) (r : MemRead),
    let q := s.atMem b
    let a := r.off - 0x200000
    let x := q.bufAt (a / 64)
    let mine : Prop := x.st = .owned ∧ (fn = 0 ∨ ∃ t ∈ x.holders, q.tgtTen t = fn)
    (Instr.payloadRead b fn r).wf = true → q.takesMem fn → regionOf r.off = .payload → ¬ (r.dws = 1 ∧ r.beFirst = 0) →
    (a % 64 + 4 * r.dws ≤ 64 → mine → x.bad = false →
      exec (.payloadRead b fn r) s = .next
        (q.post (.cpl fn false ((List.range (4 * r.dws)).map (fun i => x.bytes.getD (a % 64 + i) 0)))))
    ∧ (a % 64 + 4 * r.dws ≤ 64 → ¬ mine →
      exec (.payloadRead b fn r) s = .next ((q.post (.cpl fn false (List.replicate (4 * r.dws) 0))).bump 0x7036 fn 1))
    ∧ (64 < a % 64 + 4 * r.dws →
      exec (.payloadRead b fn r) s = .next (((q.post (.cpl fn true [])).aerLog fn false).accessFault fn))

/-- FREE through a page: a well-formed handle of an owned buffer of that generation, held by the page's target, ends that
target's hold, no delivery of the target carries the buffer any more, and the buffer returns when no holder is left; every
other FREE leaves every buffer and counts as double or foreign, for the target and its tenant, with the BAD_FREE Dial event. -/
def Obligations.Free : Prop :=
  ∀ (s : State) (b fn page t : Nat) (h : Dw),
    let q := s.atMem b
    let i := field h.toNat 0 13
    let x := q.bufAt i
    let formed : Prop := h.getLsbD 31 = true ∧ field h.toNat 24 7 = 0 ∧ field h.toNat 13 3 = 0
    let good : Prop := formed ∧ x.st = .owned ∧ x.gen = BitVec.ofNat 8 (field h.toNat 16 8) ∧ t ∈ x.holders
    page < 1024 → fn < 32 → q.takesMem fn → q.fromView 0x3000 fn page = some t → q.pageBarred fn t = false →
    let ten := q.tgtTen t
    let y := q.tgtAt t
    let twice : Prop := formed ∧ ∃ r, x.record = some r ∧ r.1 = BitVec.ofNat 8 (field h.toNat 16 8) ∧ t ∈ r.2
    let freed : State := q.setBuf i { x with holders := x.holders.filter (· != t), freed := x.freed ++ [t] }
    (good → exec (.free b fn page h) s = .next (({ freed with
      dlv := freed.dlv.map (fun d => if d.tgt = some t ∧ d.info.buf = some i
        then { d with info := { d.info with buf := none, len := 0 } } else d) } : State).checkBuf (some i)))
    ∧ (¬ good → twice → exec (.free b fn page h) s = .next
        (((q.bump 0x7034 ten 1).setTgt t { y with doubleFree := satAdd 32 y.doubleFree 1 }).dial 2 ten))
    ∧ (¬ good → ¬ twice → exec (.free b fn page h) s = .next
        (((q.bump 0x7035 ten 1).setTgt t { y with foreignFree := satAdd 32 y.foreignFree 1 }).dial 2 ten))

/-- CLAIM and CLAIM64 (its feature accepted) through a page, after the arrivals and levels of the beat: the claim decision of
the target's escapement in this beat. It counts CLAIMS; with no candidate it completes with zeros and no source, delivery or
buffer changes. It waits while the target's claims are held, behind an earlier one or a claim decision of the beat; where a
coupled pair's results differ it is computed again. A CLAIM64 without the feature completes with zeros and is a fault. -/
def Obligations.Claims : Prop :=
  ∀ (s : State) (b fn page t : Nat),
    let q := s.atMem b
    let c := q.row8
    let e := c.servEsc t
    let d := c.setEsc e { c.escAt e with claimAt := some c.now }
    let k0 := d.bump 0x7060 t 1
    let k := k0.setTgt t { k0.tgtAt t with pClaims := (k0.tgtAt t).pClaims + 1 }
    page < 1024 → fn < 32 → q.takesMem fn → q.fromView 0x3000 fn page = some t → q.pageBarred fn t = false →
    (c.mustWait (.claim b fn t false) = false →
      exec (.claim b fn page false) s = .next (d.claimCore fn t false)
      ∧ (c.compares e = true → exec (.claim b fn page true) s = .next (d.mismatch e (.claim b fn t false)))
      ∧ (bestRank (k.pendCands t 0 false) = none → (k.dlv.filter (fun e => e.tgt == some t && !e.active)) = [] →
          exec (.claim b fn page false) s = .next (k.post (.cpl fn false [0, 0, 0, 0]))))
    ∧ (c.mustWait (.claim b fn t false) = true →
      exec (.claim b fn page false) s = .next { c with heldOps := c.heldOps ++ [.claim b fn t false] })
    ∧ (q.hasFeat (q.tgtTen t) 3 = true → c.mustWait (.claim64 b fn t false) = false →
      exec (.claim64 b fn page false) s = .next (d.claimCore fn t true)
      ∧ (c.compares e = true → exec (.claim64 b fn page true) s = .next (d.mismatch e (.claim64 b fn t false))))
    ∧ (q.hasFeat (q.tgtTen t) 3 = false → exec (.claim64 b fn page false) s
      = .next ((q.post (.cpl fn false [0, 0, 0, 0, 0, 0, 0, 0])).pageFault fn t))

/-- A claim whose only candidate is IN_FLIGHT to the target: CLAIMS counts, the source becomes ACTIVE with its tag kept, and
the completion carries the descriptor of that delivery. -/
def Obligations.ClaimInFlight : Prop :=
  ∀ (u : State) (fn t : Nat) (d : Delivery),
    bestRank (u.pendCands t 0 false) = none → u.dlv.filter (fun e => e.tgt == some t && !e.active) = [d] →
    let d' : Delivery := { d with active := true, accept := u.cnt, expire := none }
    let v := u.claimCore fn t false
    let r : Out := .cpl fn false (leBytes 4
      (descWord d.info.kind d.prio (v.toView 0x2000 (v.tgtTen t) d.src) d.tag).toNat)
    v.dlv = u.dlv.map (fun e => if e = d then d' else e) ∧ (v.srcAt d.src).st = .active
      ∧ (∀ m, m ≠ d.src → v.srcAt m = u.srcAt m) ∧ v.o 0x7060 t = satAdd 32 (u.o 0x7060 t) 1
      ∧ (u.linkL0 = true → v.sent = r :: u.sent) ∧ (u.linkL0 = false → v.txWait = u.txWait ++ [r])

/-- COMPLETE through a page whose requests are not held: the delivery of the named source and tag accepted at the target
is sampled and ends; any other COMPLETE counts stray for the target and its tenant and changes no source, delivery or buffer.
The 64-bit pair is the COMPLETE and then the FREE. Held, it waits. THRESHOLD, with its feature, after the arrivals and levels
of the beat: the field takes the value, sources it admits are ranked anew, and notifies at or below it are withdrawn, or where
a coupled pair's results differ on them, computed again. -/
def Obligations.CompleteAndThreshold : Prop :=
  ∀ (s : State) (b fn page t : Nat) (v h : Dw) (th : BitVec 8),
    let q := s.atMem b
    let named (n : Nat) (d : Delivery) : Bool :=
      d.src == n && d.tgt == some t && d.active && d.tag == field v.toNat 0 10
    let c := q.row8
    let low := (c.setTgt t { c.tgtAt t with threshold := th }).admitBelow t (c.thr t) th.toNat
    page < 1024 → fn < 32 → q.takesMem fn → q.fromView 0x3000 fn page = some t → q.pageBarred fn t = false →
    (q.mustWait (.complete b fn t v) = false →
      (∀ n d, q.fromView 0x2000 (q.tgtTen t) (field v.toNat 10 12) = some n → q.dlv.find? (named n) = some d →
        exec (.complete b fn page v) s = .next ((q.sample d t).ended d))
      ∧ ((∀ n, q.fromView 0x2000 (q.tgtTen t) (field v.toNat 10 12) = some n → q.dlv.find? (named n) = none) →
        exec (.complete b fn page v) s = .next ((q.bump 0x7014 t 1).bump 0x7015 (q.tgtTen t) 1))
      ∧ exec (.completeFreePair b fn page v h) s = .next ((q.completeCore t v).freeCore t h))
    ∧ (q.mustWait (.complete b fn t v) = true →
      exec (.complete b fn page v) s = .next { q with heldOps := q.heldOps ++ [.complete b fn t v] })
    ∧ (q.hasFeat (q.tgtTen t) 10 = true →
      exec (.thresholdWrite b fn page th false) s = .next (low.thresholdCore t)
      ∧ (low.thresholdHits t = true → low.compares (low.servEsc t) = true → exec (.thresholdWrite b fn page th true) s
          = .next (low.mismatch (low.servEsc t) (.thresholdWrite b fn t th false))))
    ∧ (q.hasFeat (q.tgtTen t) 10 = false → exec (.thresholdWrite b fn page th false) s = .next q)

/-- SOURCE_QUARANTINE: IDLE, PENDING and COMPLETED sources become QUARANTINED, a PENDING one losing its payload and an arrival
of it waiting as QPEND; IN_FLIGHT and ACTIVE sources take QREQ. SOURCE_RELEASE of a QUARANTINED source with no QPEND: IDLE,
without QREQ, its storm window closed. STORM_WINDOW_CLOSE closes a window whose end has come outside Quiet mode, and nothing
else. -/
def Obligations.SourceQuarantine : Prop :=
  ∀ (s : State) (b pr el e : Nat),
    let q := s.atReq b
    let u := s.upTo b
    let x := q.srcAt e
    ((Instr.sourceQuarantine b pr el).wf = true → q.takes pr 0x2009 el 1 e →
      ∃ t, exec (.sourceQuarantine b pr el) s = .next t ∧ t.status = 0 ∧ t.dlv = q.dlv
        ∧ (x.st ≠ .inFlight → x.st ≠ .active → (t.srcAt e).st = .quarantined)
        ∧ (x.st = .pending → x.lvl = false → (t.srcAt e).qpend = true)
        ∧ (x.st = .inFlight ∨ x.st = .active → (t.srcAt e).st = x.st ∧ (t.srcAt e).qreq = true))
    ∧ ((Instr.sourceRelease b pr el).wf = true → q.takes pr 0x2009 el 0 e → x.st = .quarantined → x.qpend = false →
      ∃ t, exec (.sourceRelease b pr el) s = .next t ∧ t.status = 0 ∧ (t.srcAt e).st = .idle ∧ (t.srcAt e).qreq = false
        ∧ (t.srcAt e).storm = none)
    ∧ (∀ w, el < 4096 → (u.srcAt el).storm = some w → exec (.stormWindowClose b el) s
      = .next (if w.closeAt ≤ u.now ∧ u.asleep = false then u.setSrc el { u.srcAt el with storm := none } else u))

/-- ESCAPEMENT_ISSUE, after the arrivals and levels of the beat, the escapement's one issue decision of it: the target whose
turn it is takes its winner as a new delivery under the target's next free tag, ACTIVE on a push target and IN_FLIGHT on a
pull one, ISSUED counts, and the deliveries held before stay as they were. A mismatch on a coupled pair releases nothing: it
counts, and the target's decision is computed again 8 beats later. A second decision in the beat issues nothing. -/
def Obligations.EscapementIssue : Prop :=
  ∀ (s : State) (b e t n : Nat) (mm : Bool),
    let c := (s.upTo b).row8
    let p := e / 2 * 2
    e < 8 →
    ((c.escAt e).issueAt = some c.now → exec (.escapementIssue b e mm) s = .next c)
    ∧ ((c.escAt e).issueAt ≠ some c.now → t < 1024 → n < 4096 → c.issueTurn e = some t → c.issueReady t = some n →
      (∃ v d, exec (.escapementIssue b e false) s = .next v ∧ v.dlv = c.dlv ++ [d] ∧ d.src = n ∧ d.tgt = some t
        ∧ d.esc = c.servEsc t ∧ d.active = c.isPush t ∧ d.prio = (c.srcAt n).prio ∧ d.accept = c.cnt ∧ d.issuedAt = c.now
        ∧ d.tag = nextTag 1023 (c.tgtAt t).tagNext ((c.dlv.filter (fun x => x.tgt == some t)).map (·.tag))
        ∧ d.info = (c.srcAt n).info ∧ v.o 0x7020 t = satAdd 32 (c.o 0x7020 t) 1
        ∧ (v.escAt e).issueAt = some c.now ∧ (v.escAt e).lastTgt = t ∧ (∀ m, m ≠ n → v.srcAt m = c.srcAt m))
      ∧ (c.compares e = true → ∃ v, exec (.escapementIssue b e true) s = .next v ∧ v.dlv = c.dlv ∧ v.src = c.src
        ∧ v.o 0x7040 p = satAdd 32 (c.o 0x7040 p) 1
        ∧ (v.escAt p).retry = (c.escAt p).retry ++ [(c.now + 8, .escapementIssue t e false)]))

/-- DECISION_RETRY outside Quiet mode: a match counts and releases the oldest undecided decision of the pair and what waited
for it; a second mismatch counts and removes the pair from service. MIGRATION_END with nothing undecided and nothing held:
every target the pair served is now served by the spare, which is engaged for it. -/
def Obligations.PairRetryAndMigration : Prop :=
  ∀ (s : State) (b e : Nat),
    let u := s.upTo b
    let p := e / 2 * 2
    e < 8 → u.asleep = false →
    (∀ due i rest, (u.escAt p).retry = (due, i) :: rest → due ≤ u.now → (u.escAt p).migrating = none →
      exec (.decisionRetry b e false) s = .next
        (((u.setEsc p { u.escAt p with retry := rest }).bump 0x7041 p 1).decide i).letGo
      ∧ exec (.decisionRetry b e true) s = .next
        ((((u.setEsc p { u.escAt p with retry := rest }).bump 0x7040 p 1).dial 14 0).failPair p i))
    ∧ (∀ sp, (u.escAt p).migrating = some sp → (u.escAt p).retry = [] → u.heldOps = [] →
      ∃ v, exec (.migrationEnd b e) s = .next v ∧ (v.escAt p).migrating = none ∧ (v.escAt sp).engagedFor = some p
        ∧ (∀ t ∈ u.servedBy p, (v.tgtAt t).migratedTo = some sp) ∧ v.dlv.length = u.dlv.length ∧ v.src = u.src)

/-- SYNC_RELEASE, after the arrivals and levels of the beat, with one member due since the last undecided release: it is
issued outside the ranking where it is a candidate and its target can take it; otherwise SYNC_LATE counts for its group and it
waits, no longer due; where a coupled pair's results differ, the release of this beat is computed again. CLAIM_TIMEOUT of a
delivery whose timeout has come, outside Quiet mode: CLAIM_TIMEOUTS counts for the target and the delivery is revoked; of any
other nothing changes. -/
def Obligations.SyncReleaseAndTimeout : Prop :=
  ∀ (s : State) (b e t n r g tag : Nat),
    let c := (s.upTo b).row8
    let x := c.srcAt n
    let z := c.setEsc e { c.escAt e with issueAt := some c.now }
    let able : Prop := z.candidate n t r = true ∧ z.room t = true ∧ z.issueOpen t = true
    (e < 8 → (c.escAt e).issueAt ≠ some c.now → c.asleep = false →
      c.dueMembers e (c.undecidedRelease e) c.now = [(t, n)] →
      (x.members.find? (fun y => y.tgt == t)).map (·.rankedAt) = some r →
      (able → exec (.syncRelease b e false) s = .next ((z.setEsc e { z.escAt e with lastTgt := t }).issue n t))
      ∧ (¬ able → exec (.syncRelease b e false) s = .next ((z.bump 0x7050 x.grp 1).setSrc n { x with
          members := x.members.map (fun y => if y.tgt = t then { y with due := false } else y) }))
      ∧ (c.compares e = true →
          exec (.syncRelease b e true) s = .next (z.mismatch e (.syncRelease c.now e false))))
    ∧ (g < 1024 → tag < 1024 →
      (∀ d, c.asleep = false → c.expired g tag = some d → exec (.claimTimeout b g tag false) s = .next
        (((c.bump 0x7021 g 1).setTgt g { c.tgtAt g with pTimeouts := (c.tgtAt g).pTimeouts + 1 }).revoke d)
        ∧ (c.compares (c.servEsc g) = true → exec (.claimTimeout b g tag true) s
            = .next (c.mismatch (c.servEsc g) (.claimTimeout b g tag false))))
      ∧ (c.asleep = true ∨ c.expired g tag = none → exec (.claimTimeout b g tag false) s = .next c))

/-- TGT_ENABLE: 0 disables, the deliveries kept; 1 is refused with FEATURE_STATE where R126 forbids it, and enables
otherwise. TARGET_QUARANTINE of a target in service, after the arrivals and levels of the beat: QUARANTINED with its cause and
beat shown, the sources and members that chose it reselected or ended, then its revocations, which a coupled pair's mismatch
puts off. TARGET_RELEASE of a quarantined target: its quarantine and cause end, and it is eligible again. -/
def Obligations.Targets : Prop :=
  ∀ (s : State) (b pr el e : Nat),
    let q := s.atReq b
    let c := q.row8
    let left := (c.quarFlags e 1).leaveTarget e
    ((Instr.tgtEnableWrite b pr el 0).wf = true → q.takes pr 0x3005 el 0 e → q.o 0x3005 e = 1 →
      exec (.tgtEnableWrite b pr el 0) s = .next ((q.setO 0x3005 e 0).answer 0))
    ∧ ((Instr.tgtEnableWrite b pr el 1).wf = true → q.takes pr 0x3005 el 1 e → q.o 0x3005 e = 0 →
      enableFaults q q e ≠ [] → exec (.tgtEnableWrite b pr el 1) s = .next (q.answer 7))
    ∧ ((Instr.tgtEnableWrite b pr el 1).wf = true → q.takes pr 0x3005 el 1 e → q.o 0x3005 e = 0 → enableFaults q q e = [] →
      exec (.tgtEnableWrite b pr el 1) s = .next ((if (q.setO 0x3005 e 1).eligible e
        then (q.setO 0x3005 e 1).becameEligible e else q.setO 0x3005 e 1).answer 0))
    ∧ ((Instr.targetQuarantine b el false).wf = true → q.takes 0 0x3009 el 1 e → (q.tgtAt e).quarantined = false →
      (c.quarFlags e 1).o 0x6012 e = 1 ∧ ((c.quarFlags e 1).tgtAt e).quarantined = true
      ∧ exec (.targetQuarantine b el false) s = .next ((each State.revoke (left.quarDlvs e) left).answer 0)
      ∧ (left.compares (left.servEsc e) = true → left.quarDlvs e ≠ [] → exec (.targetQuarantine b el true) s
          = .next ((left.mismatch (left.servEsc e) (.targetQuarantine q.now e false)).answer 0)))
    ∧ ((Instr.targetRelease b el).wf = true → q.takes 0 0x3009 el 0 e → (q.tgtAt e).quarantined = true → e < 1024 →
      ∃ z : State, (z.tgtAt e).quarantined = false ∧ z.o 0x6012 e = 0 ∧ z.dlv = q.dlv
        ∧ exec (.targetRelease b el) s = .next ((if z.eligible e then z.becameEligible e else z).answer 0))

/-- Time alone leaves the engines, winds, drafts, the start, the flash, the firmware, the supplies, the banks, the straps and
fuses, the recorded faults, the management port, the crown port and the queue of commands as they were, and does not stop
before the beat asked for. -/
def Obligations.TimeLeaves : Prop :=
  ∀ (s : State) (b : Nat),
    let t := s.upTo b
    b ≤ t.now ∧ t.pending = s.pending ∧ t.eng = s.eng ∧ t.winds = s.winds ∧ t.marks = s.marks ∧ t.bankA = s.bankA
      ∧ t.bankB = s.bankB ∧ t.doorbells = s.doorbells ∧ t.crown = s.crown ∧ t.linkL0 = s.linkL0
      ∧ t.drafts = s.drafts ∧ t.start = s.start ∧ t.flash = s.flash ∧ t.fw = s.fw
      ∧ t.supply = s.supply ∧ t.straps = s.straps ∧ t.fuseA = s.fuseA ∧ t.fuseB = s.fuseB ∧ t.shadow = s.shadow
      ∧ t.first = s.first ∧ t.worst = s.worst ∧ t.dram = s.dram ∧ t.port = s.port ∧ t.status = s.status

/-- MOVI, ADD, AND, XOR, CMP: the destination register takes the result (CMP writes none), the flags are those of Table 04-4
(MOVI keeps them, T is kept by all), PC moves on by one, every other register and every other engine is unchanged. -/
def Obligations.EngineArithmetic : Prop :=
  ∀ (s : State) (b n : Nat) (pins : BitVec 2) (w : Dw),
    let u := s.upTo (max b (s.engAt n).doneAt)
    let e := u.engAt n
    let beat := u.beatOf (max b (s.engAt n).doneAt)
    let x := e.operand pins beat (wSrc w)
    let y (signed : Bool) := e.operand2 pins beat w signed
    let did (t : State) (dst : Option Nat) (r : Dw) (z ng c : Bool) : Prop :=
      (t.engAt n).pc = (e.pc + 1) % 256 ∧ (t.engAt n).run = .running ∧ (t.engAt n).z = z ∧ (t.engAt n).n = ng
        ∧ (t.engAt n).c = c ∧ (t.engAt n).t = e.t ∧ (∀ k, dst = some k → (t.engAt n).reg k = r)
        ∧ (∀ k, dst ≠ some k → (t.engAt n).reg k = e.reg k) ∧ (∀ m, m ≠ n → t.engAt m = u.engAt m) ∧ t.port = u.port
        ∧ t.flash = u.flash
    n < 8 →
    (u.executes n 5 w → ∃ t, exec (.movi b n) s = .next t ∧ did t (some (wDst w))
      (if wH w then (BitVec.ofNat 32 (wImm w) <<< 16) ||| (e.reg (wDst w) &&& 0xFFFF) else BitVec.ofNat 32 (wImm w)) e.z e.n e.c)
    ∧ (u.executes n 6 w → ∃ t, exec (.add b n pins) s = .next t ∧ did t (some (wDst w)) (x + y true)
      (x + y true == 0) ((x + y true).getLsbD 31) (2 ^ 32 ≤ x.toNat + (y true).toNat))
    ∧ (u.executes n 7 w → ∃ t, exec (.and b n pins) s = .next t ∧ did t (some (wDst w)) (x &&& y false)
      (x &&& y false == 0) ((x &&& y false).getLsbD 31) false)
    ∧ (u.executes n 8 w → ∃ t, exec (.xor b n pins) s = .next t ∧ did t (some (wDst w)) (x ^^^ y false)
      (x ^^^ y false == 0) ((x ^^^ y false).getLsbD 31) false)
    ∧ (u.executes n 9 w → ∃ t, exec (.cmp b n pins) s = .next t ∧ did t none 0
      (x - y true == 0) ((x - y true).getLsbD 31) ((y true).toNat ≤ x.toNat))

/-- BRcc goes to its address when its condition holds and on by one otherwise; JMP goes to its address; RETI returns to the
saved PC with the saved flags, ends the handler, and a suspended SHIFT resumes. -/
def Obligations.EngineBranches : Prop :=
  ∀ (s : State) (b n : Nat) (pins : BitVec 2) (w : Dw),
    let u := s.upTo (max b (s.engAt n).doneAt)
    let e := u.engAt n
    n < 8 →
    (u.executes n 0x0A w → ∃ t, exec (.brcc b n pins) s = .next t
      ∧ (t.engAt n).pc = (if e.cond (pins.getLsbD 1) (wDst w) then wLow w % 256 else (e.pc + 1) % 256)
      ∧ (t.engAt n).w = e.w ∧ (t.engAt n).z = e.z ∧ (t.engAt n).n = e.n ∧ (t.engAt n).c = e.c ∧ (t.engAt n).t = e.t)
    ∧ (u.executes n 0x0B w → ∃ t, exec (.jmp b n) s = .next t ∧ (t.engAt n).pc = wLow w % 256 ∧ (t.engAt n).w = e.w)
    ∧ (u.executes n 0x10 w → ∃ t, exec (.reti b n) s = .next t ∧ (t.engAt n).pc = e.retPc % 256
      ∧ (t.engAt n).z = e.svZ ∧ (t.engAt n).n = e.svN ∧ (t.engAt n).c = e.svC ∧ (t.engAt n).t = e.svT
      ∧ (t.engAt n).inHandler = false ∧ (t.engAt n).shifting = e.susp ∧ (t.engAt n).susp = none ∧ (t.engAt n).w = e.w)

/-- HOLDW waits while HOLD is asserted and moves on when it is not; WAITB of a register waits until BEAT_LO has reached it,
by signed difference; WAITB of a number waits that many cycles. HOLD_RELEASED ends a HOLDW one cycle after the second engine
clock. HOLD_TIMEOUT, once HOLD has been asserted for its number of cycles of one wait and not before, sets T and ends a HOLDW,
while a SHIFT goes on waiting. -/
def Obligations.EngineWaits : Prop :=
  ∀ (s : State) (b n : Nat) (pins : BitVec 2) (w : Dw) (din : BitVec 128) (k : Nat) (hold : Option Nat) (d : Bool),
    let u := s.upTo (max b (s.engAt n).doneAt)
    let e := u.engAt n
    let beat := u.beatOf (max b (s.engAt n).doneAt)
    let h := s.upTo b
    let x := h.engAt n
    let passed : Prop := h.o 0x4002 n ≠ 0 ∧ x.holdSince + 8 * h.o 0x4002 n ≤ h.now
    n < 8 →
    (u.executes n 3 w → ∃ t, exec (.holdw b n true) s = .next t ∧ (t.engAt n).waitHold = true ∧ (t.engAt n).pc = e.pc
        ∧ (t.engAt n).holdSince = (if e.waitHold then e.holdSince else max b (s.engAt n).doneAt))
    ∧ (u.executes n 3 w → ∃ t, exec (.holdw b n false) s = .next t ∧ (t.engAt n).waitHold = false
        ∧ (t.engAt n).pc = (e.pc + 1) % 256)
    ∧ (u.executes n 4 w → wI w = false →
        ∃ t, exec (.waitb b n pins) s = .next t
          ∧ (if 0 ≤ (beat - e.operand pins beat (wSrc w)).toInt
             then (t.engAt n).pc = (e.pc + 1) % 256 ∧ (t.engAt n).waitBeat = false
             else (t.engAt n).pc = e.pc ∧ (t.engAt n).waitBeat = true))
    ∧ (u.executes n 4 w → wI w = true → 0 < wImm w → e.waitUntil = none →
        ∃ t, exec (.waitb b n pins) s = .next t ∧ (t.engAt n).pc = e.pc ∧ (t.engAt n).waitBeat = true
          ∧ (t.engAt n).waitUntil = some (max b (s.engAt n).doneAt + 8 * wImm w))
    ∧ (x.run = .running → x.waitHold = true → x.shifting = none →
        ∃ t, exec (.holdReleased b n din k hold) s = .next t ∧ (t.engAt n).waitHold = false
          ∧ (t.engAt n).pc = (x.pc + 1) % 256 ∧ (t.engAt n).doneAt = (b / 8 + 2) * 8 + 8)
    ∧ (x.run = .running → x.waitHold = true → passed → x.shifting = none →
        ∃ t, exec (.holdTimeout b n) s = .next t ∧ (t.engAt n).t = true ∧ (t.engAt n).waitHold = false
          ∧ (t.engAt n).pc = (x.pc + 1) % 256)
    ∧ (x.run = .running → x.waitHold = true → passed → x.shifting = some d →
        ∃ t, exec (.holdTimeout b n) s = .next t ∧ (t.engAt n).t = true ∧ (t.engAt n).waitHold = true
          ∧ (t.engAt n).pc = x.pc ∧ (t.engAt n).shifting = some d)
    ∧ (x.run ≠ .running ∨ x.waitHold = false ∨ ¬ passed → exec (.holdTimeout b n) s = .next h)

/-- LOAD opens an empty frame of the length and the clock divider wound. SHIFT of n bits, none withheld, puts the n sampled
bits at CP and on, moves CP by n (at most to 128) and leaves RC 0; without a LOAD it begins a frame at position 0 with nothing
captured. FRAME of a frame with all the chain's bits captured publishes them and is no longer stale; with fewer, or with no
frame, it keeps what was published and is stale; either way no frame is left. -/
def Obligations.EngineFrames : Prop :=
  ∀ (s : State) (b n k : Nat) (w : Dw) (din : BitVec 128),
    let u := s.upTo (max b (s.engAt n).doneAt)
    let e := u.engAt n
    let cp := if e.frame then e.cp else 0
    let cap := if e.frame then e.cap else 0
    n < 8 → e.susp = none →
    (u.executes n 1 w → ∃ t, exec (.load b n) s = .next t ∧ (t.engAt n).cp = 0 ∧ (t.engAt n).cap = 0
      ∧ (t.engAt n).frame = true ∧ (t.engAt n).aborted = false ∧ (t.engAt n).pc = (e.pc + 1) % 256
      ∧ (t.engAt n).frameLen = u.o 0x4000 n ∧ (t.engAt n).frameDiv = u.o 0x4001 n ∧ (t.engAt n).pub = e.pub)
    ∧ (u.executes n 2 w → wLow w ≤ k → ∃ t, exec (.shift b n din k none) s = .next t ∧ (t.engAt n).rc = 0
      ∧ (t.engAt n).frame = true ∧ (t.engAt n).cp = min 128 (cp + wLow w)
      ∧ (t.engAt n).pc = (e.pc + 1) % 256 ∧ (t.engAt n).pub = e.pub
      ∧ (∀ i, i < wLow w → cp + wLow w ≤ 128 →
          (t.engAt n).cap.getLsbD (cp + i) = (cap.getLsbD (cp + i) || din.getLsbD i)))
    ∧ (u.executes n 0x0D w → e.aborted = false → e.swapPending = false →
      ∃ t, exec (.frame b n) s = .next t ∧ (t.engAt n).frame = false ∧ (t.engAt n).cp = 0 ∧ (t.engAt n).cap = 0
        ∧ (t.engAt n).pc = (e.pc + 1) % 256
        ∧ (if e.frame = true ∧ e.frameLen ≤ e.cp
           then (t.engAt n).pub = (e.cap &&& BitVec.ofNat 128 (2 ^ e.frameLen - 1)) ∧ (t.engAt n).stale = false
           else (t.engAt n).pub = e.pub ∧ (t.engAt n).stale = true))

/-- OUT writes ENG_OUT; EVT raises source S(5 + n); STP stores a word into the engine's active bank; HALT stops the engine,
with no frame left and a pending swap made; an illegal word faults it with code 0x15 at its PC. -/
def Obligations.EngineOutputs : Prop :=
  ∀ (s : State) (b n : Nat) (pins : BitVec 2) (w : Dw),
    let u := s.upTo (max b (s.engAt n).doneAt)
    let e := u.engAt n
    let beat := u.beatOf (max b (s.engAt n).doneAt)
    let v := u.setEng n { e with atFrame := false, doneAt := max b (s.engAt n).doneAt }
    let x := e.operand pins beat (wSrc w)
    n < 8 →
    (u.executes n 0x0C w → ∃ t, exec (.out b n pins) s = .next t ∧ t.o 0x4013 n = x.toNat
      ∧ (t.engAt n).pc = (e.pc + 1) % 256)
    ∧ (u.executes n 0x0E w → exec (.evt b n) s = .next ((v.engEnd n 1 none id).raiseInt (5 + n)))
    ∧ (u.executes n 0x0F w → ∃ t, exec (.stp b n pins) s = .next t ∧ (t.engAt n).pc = (e.pc + 1) % 256
      ∧ t.o 0x4100 (progEl n e.bank (if wH w then field (e.reg (wK w)).toNat 0 8 else wLow w)) = x.toNat)
    ∧ (u.executes n 0x11 w → ∃ t, exec (.halt b n) s = .next t ∧ (t.engAt n).run = .halted
      ∧ (t.engAt n).frame = false ∧ (t.engAt n).pub = e.pub ∧ (t.engAt n).dout = false
      ∧ (t.engAt n).bank = (e.bank != e.swapPending) ∧ (t.engAt n).swapPending = false)
    ∧ (e.run = .running → e.shifting = none → u.engWord n = w → wIllegal w e.inHandler = true → u.parityFault n w = none →
      exec (.engineIllegal b n) s = .next (((u.engIdle n .faulted).setO 0x4016 n e.pc).fault 0x15 (256 * n + e.pc))
      ∧ ((u.engIdle n .faulted).engAt n).run = .faulted)

/-- ENGINE_EVENT_ENTRY outside a handler: HOLD timeout before alarm before doorbell; the flags and PC are saved, a SHIFT in
progress is suspended, the latch is cleared and PC takes the event's vector. -/
def Obligations.EngineEventEntry : Prop :=
  ∀ (s : State) (b n : Nat),
    let u := (s.upTo b).upTo (max b ((s.upTo b).engAt n).doneAt)
    let e := u.engAt n
    n < 8 → e.run = .running → e.inHandler = false → (e.evHold || e.evAlarm || e.evBell) = true →
    ∃ t, exec (.engineEventEntry b n) s = .next t ∧ (t.engAt n).inHandler = true ∧ (t.engAt n).retPc = e.pc
      ∧ (t.engAt n).svZ = e.z ∧ (t.engAt n).svN = e.n ∧ (t.engAt n).svC = e.c ∧ (t.engAt n).svT = e.t
      ∧ (t.engAt n).susp = e.shifting ∧ (t.engAt n).shifting = none ∧ (t.engAt n).w = e.w
      ∧ (t.engAt n).pc = (if e.evHold then 1 else if e.evAlarm then 2 else 3)
      ∧ (t.engAt n).evHold = false ∧ (t.engAt n).evAlarm = (e.evHold && e.evAlarm)
      ∧ (t.engAt n).evBell = ((e.evHold || e.evAlarm) && e.evBell)

/-- ENG_RUN 1 starts an idle engine of a port with a chain at PC 0; ENG_RUN 0 stops a running one; ENG_SWAP 1 swaps the banks
of an idle engine and waits in a running one, 0 cancels, 2 swaps at once; ENG_DOORBELL hands over its argument; PROG stores a
word of the bank that does not run, and is refused with IN_USE for the one that does. -/
def Obligations.EngineCommands : Prop :=
  ∀ (s : State) (b n : Nat) (v : Dw),
    let q := s.atReq b
    let e := q.engAt n
    let g := q.engAt (n / 512)
    n < 65536 →
    (q.takes 0 0x4008 n 1 n → e.run ≠ .running → q.o 0x4000 n ≠ 0 →
      ∃ t, exec (.engRunStart b n) s = .next t ∧ (t.engAt n).run = .running ∧ (t.engAt n).pc = 0
        ∧ (t.engAt n).w = e.w ∧ (t.engAt n).bank = e.bank)
    ∧ (q.takes 0 0x4008 n 0 n → e.run = .running → ∃ t, exec (.engRunStop b n) s = .next t ∧ (t.engAt n).run = .stopped
        ∧ (t.engAt n).frame = false ∧ (t.engAt n).bank = (e.bank != e.swapPending))
    ∧ (q.takes 0 0x4009 n 0 n → exec (.engSwapCancel b n) s = .next ((q.setEng n { e with swapPending := false }).answer 0))
    ∧ (q.takes 0 0x4009 n 1 n → exec (.engSwapRequest b n) s = .next ((q.setEng n (if e.run = .running
        then { e with swapPending := true } else { e with bank := !e.bank, swapPending := false, fetched := none })).answer 0))
    ∧ (q.takes 0 0x4009 n 2 n → ∃ t, exec (.engSwapForce b n) s = .next t ∧ (t.engAt n).bank = !e.bank
        ∧ (t.engAt n).swapPending = false ∧ (t.engAt n).inHandler = false ∧ (t.engAt n).frame = false
        ∧ (e.run = .running → (t.engAt n).pc = 0))
    ∧ (q.takes 0 0x400A n v.toNat n → ∃ t, exec (.engDoorbell b n v) s = .next t ∧ (t.engAt n).dbarg = v)
    ∧ (q.takes 0 0x4100 n v.toNat n → g.bank ≠ decide (256 ≤ n % 512) → g.swapPending = false →
        exec (.progWrite b n v) s = .next (({ q.setO 0x4100 n v.toNat with
          badParity := q.badParity.filter (· != n) } : State).answer 0))
    ∧ (q.takes 0 0x4100 n v.toNat n → g.bank = decide (256 ≤ n % 512) → exec (.progWrite b n v) s = .next (q.answer 9))

/-- While FEATURES_OK is granted or the tenant is being reset, writes of FEAT_ACCEPT and requests of FEATURES_OK change
nothing. Otherwise a write changes exactly the enabled bytes of its half; a request is granted just when no bit is outside
the offer and rows 3 to 5 of Table 08-5 hold, with the value accepted, and is refused otherwise. Bus Master Enable takes
the value written, and nothing else changes. -/
def Obligations.Negotiation : Prop :=
  ∀ (s : State) (b fn : Nat) (hi v : Bool) (be : BitVec 4) (d : Dw),
    let q := s.atMem b
    let u := s.upTo b
    let f := q.fn fn
    let x := f.accept
    fn < 32 →
    (q.takesMem fn → f.ok = true ∨ q.inReset fn = true →
      exec (.featAcceptWrite b fn hi be d) s = .next q ∧ exec (.featuresOkRequest b fn) s = .next q)
    ∧ (q.takesMem fn → f.ok = false → q.inReset fn = false →
      (∃ a, exec (.featAcceptWrite b fn hi be d) s = .next (q.setFn fn { f with accept := a })
        ∧ ∀ k, k < 64 → a.getLsbD k
            = if decide (32 ≤ k) = hi ∧ be.getLsbD (k % 32 / 8) = true then d.getLsbD (k % 32) else x.getLsbD k)
      ∧ ∃ t, exec (.featuresOkRequest b fn) s = .next t ∧ (∀ m, m ≠ fn → t.fn m = q.fn m) ∧ t.obj = q.obj
        ∧ ((t.fn fn).ok = true ↔ x &&& ~~~ (q.offer fn) = 0 ∧ (x.getLsbD 7 = true → x.getLsbD 12 = true)
            ∧ (x.getLsbD 11 = true → x.getLsbD 0 = true ∨ x.getLsbD 1 = true)
            ∧ ¬ (x.getLsbD 2 = true ∧ x.getLsbD 0 = true ∧ x.getLsbD 3 = false))
        ∧ (if (t.fn fn).ok then (t.fn fn).accepted = x ∧ (t.fn fn).refused = false
            else (t.fn fn).accepted = f.accepted ∧ (t.fn fn).refused = true))
    ∧ (u.cfgServed = true → u.present fn = true →
      exec (.busMasterEnableChange b fn v) s = .next (u.setFn fn { u.fn fn with bme := v }))

/-- TEN_RESET 1 starts the wait phase up to BLK_TIMEOUT, 2 the reset beat, also from a wait phase; TENANT_RESET_BEAT ends a
wait phase when the tenant's targets hold nothing or, outside Quiet mode, its time is over, and only then; after the reset
beat the tenant is in its reset phase, without FEATURES_OK, FEAT_ACCEPT 0, and a tenant T1 to T31 has no draft and no mark.
TENANT_RESET_END ends the phase and counts, and the level conditions of the tenant's sources wait for the next beat. An FLR of a virtual function also clears its Bus Master Enable and MSI-X; VF
Enable resets every function that stops being present. -/
def Obligations.TenantResets : Prop :=
  ∀ (s : State) (b n w num : Nat) (en : Bool),
    let q := s.atReq b
    let u := s.upTo b
    let after (z : State) : Prop := (z.fn n).rst = .resetting ∧ (z.fn n).ok = false ∧ (z.fn n).accept = 0
      ∧ (z.fn n).accepted = 0 ∧ (n ≠ 0 → (∀ e ∈ z.drafts, e.1 / 2 ^ 32 ≠ n) ∧ n ∉ z.marks)
    let vf : State := { u with vfEnable := en, numVfs := num }
    let passed : Prop := u.tenantDrained n = true ∨ w ≤ u.now ∧ u.asleep = false
    n < 32 →
    (q.takes 0 0x5003 n 1 n → (q.fn n).rst = .none → exec (.tenResetQuiesce b n) s
      = .next ((q.setFn n { q.fn n with rst := .quiescing (q.now + q.o 0x1005 0) }).answer 0))
    ∧ (q.takes 0 0x5003 n 2 n → (q.fn n).rst ≠ .resetting →
      ∃ z, exec (.tenResetIsolate b n) s = .next z ∧ after z ∧ z.status = 0)
    ∧ ((u.fn n).rst = .quiescing w → passed → ∃ z, exec (.tenantResetBeat b n) s = .next z ∧ after z)
    ∧ ((u.fn n).rst = .quiescing w → ¬ passed → exec (.tenantResetBeat b n) s = .next u)
    ∧ ((u.fn n).rst = .resetting → exec (.tenantResetEnd b n) s
      = .next ((((u.setFn n { u.fn n with rst := .none }).bump 0x5010 n 1).dial 7 n).levelsNextBeat n))
    ∧ (u.cfgServed = true → u.present n = true → n ≠ 0 → (u.fn n).rst ≠ .resetting →
      ∃ z, exec (.flr b n) s = .next z ∧ after z ∧ (z.fn n).bme = false ∧ (z.fn n).msixEn = false)
    ∧ (u.cfgServed = true → u.straps.getLsbD 4 = true → num < 32 → exec (.vfEnableChange b en num) s
      = .next (each State.functionReset (u.presentVfs.filter (fun m => !vf.present m)) vf))

/-- A DICT_CMD in the first beats after a reset (R289) does nothing; one while BUSY sets COLLIDED and does nothing else. One
while idle is accepted: BUSY is set with its SEQ and its status, DONE, COLLIDED and DRAFT_PRESENT clear; a GET or a GET_DRAFT
changes nothing else, and a SET does its write, unless that resets the function itself. At its completion BUSY clears, DONE,
STATUS, SEQ and DRAFT_PRESENT are written, and a value read stands in DICT_DATA, zeros after it, with its length. -/
def Obligations.DictionaryWindow : Prop :=
  ∀ (s : State) (b fn : Nat) (seq : Byte) (mm : Bool) (r : WinResult),
    let q := s.atMem b
    let f := q.fn fn
    let clash := q.setFn fn { f with win := { f.win with collided := true } }
    let z := q.setFn fn { f with win := { f.win with done := false, collided := false, draftPresent := false } }
    let idx := f.win.addr.toNat / 65536
    let el := f.win.addr.toNat % 65536
    let ask (op : DOp) : Ans × State := z.access fn idx el op (f.win.carried idx).1 (f.win.carried idx).2 mm
    let got (op : DOp) : WinResult :=
      ⟨(ask op).1.status, (ask op).1.value, (ask op).1.draft, seq, (ask op).1.wind, regServed idx, 0⟩
    let reads (op : DOp) : State := z.setFn fn { z.fn fn with win := { (z.fn fn).win with busy := some (got op) } }
    let u := s.upTo b
    let g := (u.fn fn).win
    fn < 32 →
    (q.takesMem fn → q.now < q.start.dictBarUntil → exec (.dictGet b fn seq) s = .next q
      ∧ exec (.dictSet b fn seq mm) s = .next q ∧ exec (.dictGetDraft b fn seq) s = .next q)
    ∧ (q.takesMem fn → q.start.dictBarUntil ≤ q.now → f.win.busy.isSome = true →
      exec (.dictGet b fn seq) s = .next clash ∧ exec (.dictSet b fn seq mm) s = .next clash
        ∧ exec (.dictGetDraft b fn seq) s = .next clash)
    ∧ (q.takesMem fn → q.start.dictBarUntil ≤ q.now → f.win.busy = none →
      exec (.dictGet b fn seq) s = .next (reads .get) ∧ exec (.dictGetDraft b fn seq) s = .next (reads .draft)
      ∧ ((ask .set).2.resetting fn = false →
        ∃ t x, exec (.dictSet b fn seq mm) s = .next t ∧ (t.fn fn).win.busy = some x ∧ x.seq = seq
        ∧ x.status = (ask .set).1.status ∧ x.value = none ∧ x.wind = (ask .set).1.wind ∧ t.obj = (ask .set).2.obj))
    ∧ (g.busy = some r → r.wind = true → exec (.dictDone b fn) s = .next u)
    ∧ (g.busy = some r → r.wind = false → ∃ t, exec (.dictDone b fn) s = .next t ∧ (t.fn fn).win.busy = none
      ∧ (t.fn fn).win.done = true ∧ (t.fn fn).win.status = BitVec.ofNat 8 r.status ∧ (t.fn fn).win.seq = r.seq
      ∧ (t.fn fn).win.draftPresent = r.draft ∧ (t.fn fn).win.addr = g.addr ∧ (t.fn fn).win.collided = g.collided
      ∧ (r.value = none → (t.fn fn).win.data = g.data ∧ (t.fn fn).win.len = g.len)
      ∧ (∀ v, r.value = some v → (t.fn fn).win.len = BitVec.ofNat 9 v.length
          ∧ ∀ i, smGet (fun _ => (0 : Byte)) (t.fn fn).win.data i = v.getD i 0)
      ∧ t.obj = u.obj)

/-- WIND, from the dictionary or the global page, queues a wind with the snapshot of its scope's drafts, or is answered
WIND_BUSY while one of the scope waits; so are DRAFT_DISCARD and DRAFT_DEFAULTS, which otherwise drop the scope's drafts
and set its mark. At its beat, ahead of every other event of it, a refused wind keeps the drafts and the epoch and shows its
status, its parameter and its count; a successful one drops the drafts of its snapshot not drafted again and the mark, shows
0, and its scope epoch is the new epoch. -/
def Obligations.Winds : Prop :=
  ∀ (s : State) (b pr st k : Nat) (w : WindReq) (rest : List WindReq),
    let q := s.atReq b
    let m := s.atMem b
    let v := s.toBeat b
    let queued (z : State) : State := { z with winds := z.winds ++ [⟨pr, z.scopeDrafts pr, z.marks.contains pr, []⟩] }
    let beat (z : State) : State := z.hwRow.fwdWake.syncLive.nrDrain
    pr < 32 →
    (q.takes pr 0xF000 0 1 0 → exec (.wind b pr false) s
      = .next (if q.winding pr then q.answer 0x0D else (queued q).answer 0))
    ∧ (m.takesMem pr → m.start.dictBarUntil ≤ m.now → exec (.wind b pr true) s
      = .next (if pr ≠ 0 ∧ m.hasFeat pr 9 = false then m.setO 0xF011 pr 7
        else if m.winding pr then m.setO 0xF011 pr 0x0D else queued m))
    ∧ (q.takes pr 0xF001 0 1 0 → exec (.draftDiscard b pr 1) s = .next (if q.winding pr then q.answer 0x0D
      else ({ q with drafts := q.drafts.filter (fun e => e.1 / 2 ^ 32 != pr), marks := q.marks.filter (· != pr) } : State).answer 0))
    ∧ (q.takes pr 0xF002 0 1 0 → exec (.draftDefaults b pr 1) s = .next (if q.winding pr then q.answer 0x0D
      else ({ q with marks := insertNat pr q.marks } : State).answer 0))
    ∧ (v.winds = [] → exec (.windBeat b) s = .next (beat v))
    ∧ (v.winds = w :: rest → w.scope < 32 → v.windJudge (v.windChanges w) (w.snap.map (·.1)) = some (st, k) →
      ∃ z, exec (.windBeat b) s = .next (beat z) ∧ z.winds = rest ∧ z.drafts = v.drafts ∧ z.marks = v.marks
        ∧ z.src = v.src ∧ z.o 0xF010 0 = v.o 0xF010 0 ∧ z.o 0xF011 w.scope = 256 + st ∧ z.o 0xF012 w.scope = k
        ∧ z.o 0xF015 w.scope = satAdd 32 (v.o 0xF015 w.scope) 1)
    ∧ (v.winds = w :: rest → w.scope < 32 → v.windJudge (v.windChanges w) (w.snap.map (·.1)) = none →
      ∃ z, exec (.windBeat b) s = .next (beat z) ∧ z.winds = rest ∧ w.scope ∉ z.marks ∧ z.o 0xF011 w.scope = 0
        ∧ z.o 0xF014 w.scope = z.o 0xF010 0
        ∧ (∀ d, d < 2 ^ 32 → d ∈ w.snap.map (·.1) → d ∉ w.rewritten → z.draftAt w.scope d = none))

/-- A frame not addressed to the port's address and UDP port changes nothing; one too short, without the magic, of an unknown
client or with a wrong trailer only counts. Of a well-formed authenticated frame to an idle port: a PING is answered with the
session and executes nothing; a newer WAKE and an Owner's newer RESET become the client's H, and their replies are sent to the
sender, from the address it sent to, by its next hop, and cached; a RESET also requests its level reset 8,000 beats on. A newer
REQUEST whose operations fill its body, whose reserved bytes are 0 and whose reply fits begins; one GET of an object that the
Regulator does not serve is read and answered. A request already cached is answered with the cached reply and counts. -/
def Obligations.NarindFrames : Prop :=
  ∀ (s : State) (b a dst c : Nat) (f : List Byte),
    let q := s.nrTo b
    let op := beAt 6 1 f
    let row : Instr := if op = 2 then .ping b a f dst else if op = 3 then .wake b a f dst
      else if op = 4 then .reset b a f dst else .request b a f dst
    let seq : Dw := BitVec.ofNat 32 (beAt 8 4 f)
    let here : Prop := q.nrOn a dst = true ∧ addrPort dst = q.o 0x1808 0
    let signed (k : Nat) : Prop := nrTag (q.nrKey k) (f.take (f.length - 16)) = f.drop (f.length - 16)
    let authentic : Prop := here ∧ 40 ≤ f.length ∧ beAt 0 2 f = 0x4E52 ∧ q.nrEntry (beAt 4 2 f) = some c ∧ signed c
    let formed : Prop := beAt 2 1 f = 1 ∧ beAt 16 2 f + 40 = f.length ∧ f.length ≤ bodyMax a + 40
    let idle : Prop := q.port.queue = [] ∧ q.port.job = none ∧ q.start.dictBarUntil ≤ q.now ∧ q.quiet.code ≠ 2 ∧ q.quiet.code ≠ 3
    let x := q.client c
    let taken : State := (q.setClient c { x with addr := some a, seen := true }).bump 0x1820 0 1
    let reply (op' count : Nat) (body : List Byte) : List Byte :=
      nrFrame (q.nrKey c) (q.o 0x1810 c) op' count seq.toNat q.port.session.toNat 0 body
    let leaves (r : List Byte) : List Out := match q.hopOf a with
      | none => []
      | some h => [.udp dst a h r] ++ (if (smGet (fun _ => none) q.port.arp (hopKey (addrV6 a) h)).isSome then []
          else [if addrV6 a then .ndSolicit h else .arpRequest h])
    let mine : Prop := beAt 12 4 f = q.port.session.toNat
    addrOk a = true → addrOk dst = true →
    (¬ here → exec row s = .next q)
    ∧ (here → (f.length < 40 ∨ beAt 0 2 f ≠ 0x4E52 ∨ q.nrEntry (beAt 4 2 f) = none
          ∨ ∃ k, q.nrEntry (beAt 4 2 f) = some k ∧ ¬ signed k) → exec row s = .next (q.bump 0x1821 0 1))
    ∧ (op = 2 → authentic → formed → idle → f.length = 40 → beAt 7 1 f = 0 →
        ∃ t, exec row s = .next t ∧ t.client c = { x with addr := some a, seen := true }
          ∧ t.o 0x1820 0 = satAdd 32 (q.o 0x1820 0) 1 ∧ t.sent = leaves (reply 0x82 0 (beBytes 4 q.port.session.toNat)) ++ q.sent)
    ∧ (op = 3 → authentic → formed → idle → f.length = 40 → beAt 7 1 f = 0 → mine → x.newer seq = true →
        ∃ t, exec row s = .next t ∧ (t.client c).high = some seq
          ∧ (t.client c).cache = ((seq, reply 0x83 0 (beBytes 4 q.port.session.toNat)) :: x.cache).take 8
          ∧ t.sent = leaves (reply 0x83 0 (beBytes 4 q.port.session.toNat)) ++ q.sent)
    ∧ (op = 4 → authentic → formed → idle → f.length = 44 → beAt 7 1 f = 0 → mine → x.newer seq = true →
        1 ≤ beAt 24 4 f → beAt 24 4 f ≤ 3 → q.o 0x1811 c = 0 → bitOf (q.o 0x1813 c) 1 = true → q.started = true →
        q.resetReq = none →
        ∃ t, exec row s = .next t ∧ (t.client c).high = some seq ∧ t.sent = leaves (reply 0x84 0 []) ++ q.sent
          ∧ t.resetReq = some ⟨reqLevel (beAt 24 4 f), 8, false, q.now + 8000, false⟩)
    ∧ (∀ ops, op = 1 → authentic → formed → idle → mine → x.newer seq = true →
        nrParse (beAt 7 1 f) ((f.drop 24).take (f.length - 40)) = some (ops, []) → requestClean f ops [] = true →
        replyBound ops ≤ bodyMax a →
        let i : NrIn := ⟨c, a, dst, false, f⟩
        let u := (taken.nrBegin i ops).upToReq taken.now
        exec row s = .next (nrRun 8703 (taken.nrBegin i ops))
        ∧ ∀ idx el, ops = [⟨1, idx, el, [], true⟩] → regServed idx = false → u.asleep = false →
          exec row s = .next ((u.setJob none).nrDone i 0x81 1
            (nrRec 1 (u.nrRead c idx el .get).1 idx el (u.nrRead c idx el .get).2)))
    ∧ (∀ (z : State) (i : NrIn) (op' n : Nat) (body : List Byte), z.portLive = true → ∃ t : State, z.nrDone i op' n body = t
        ∧ ∃ r, (t.client i.client).high = some (BitVec.ofNat 32 (beAt 8 4 i.bytes))
          ∧ (t.client i.client).cache = ((BitVec.ofNat 32 (beAt 8 4 i.bytes), r) :: (z.client i.client).cache).take 8
          ∧ (∀ h, z.hopOf i.addr = some h → t.sent.head? = some (.udp i.dst i.addr h r)))
    ∧ (∀ e, op = 1 → authentic → beAt 2 1 f = 1 → idle → mine → x.newer seq = false →
        x.cache.find? (fun y => y.1 == seq) = some e →
        ∃ t, exec row s = .next t ∧ t.sent = leaves e.2 ++ q.sent ∧ (t.client c).high = x.high
          ∧ t.o 0x1822 0 = satAdd 32 (q.o 0x1822 0) 1)

/-- With the port in service and idle and the device awake: GET and GET_DRAFT read as the client's principal and change
nothing; a SET or an ACTION is the access of R211, and its status is answered; a SUBSCRIBE with a valid value and room replaces
or adds the subscription and its address; an UNSUBSCRIBE removes it. Of an object that the Regulator serves the status is
answered within 800,000 beats, the operation applied at once; a WIND is answered by its wind. -/
def Obligations.NarindOperations : Prop :=
  ∀ (s : State) (b c a idx el : Nat) (v : List Byte) (o : Nat × Obj),
    let q := s.nrTo b
    let i (op addr : Nat) (v : List Byte) : NrIn := ⟨c, addr, 0, true, nrRec op 0 idx el v⟩
    let job (op addr : Nat) (v : List Byte) : NrJob := ⟨i op addr v, q.o 0x1811 c, [⟨op, idx, el, v, true⟩], false, [], none, q.now, []⟩
    let u (op addr : Nat) (v : List Byte) : State := (q.setJob (some (job op addr v))).upToReq q.now
    let last := (s.client c).addr.getD 0
    let done (z : State) (op st : Nat) (v : List Byte) : State := ((z.setJob none).answer st).emit (.nrRecord c (nrRec op st idx el v))
    let num := if typeOf idx = 11 ∨ typeOf idx = 12 then blobEnc v else beVal v
    let put (op : Nat) (d : DOp) : Ans × State := (u op last v).access ((u op last v).o 0x1811 c) idx el d v.length num false
    let quietly (op addr : Nat) (v : List Byte) : Prop := (u op addr v).asleep = false
    let ends (op : Nat) (d : DOp) : Prop := (put op d).1.wind = false ∧ (put op d).2.port = (u op last v).port
      ∧ (put op d).2.start.dictBarUntil ≤ (put op d).2.now
    let waits (op : Nat) (v : List Byte) (z : State) (st : Nat) (val : Option (List Byte)) : State :=
      z.draw.2.setJob (some { job op last v with
        pend := some ⟨st, val, false, 0, false, true, 0⟩, due := z.draw.2.now + Config.freeServe z.draw.1 % 800000 })
    let w := u 4 a v
    let y := w.client c
    let rest := y.subs.filter (fun z => !(z.idx == idx && z.el == el))
    c < 16 → idx < 65536 → el < 65536 → v.length ≤ 1424 → q.portLive = true → q.start.dictBarUntil ≤ q.now →
    q.port.queue = [] → q.port.job = none →
    (regServed idx = false → quietly 1 last [] → exec (.nrGet b c idx el) s
        = .next (done (u 1 last []) 1 ((u 1 last []).nrRead c idx el .get).1 ((u 1 last []).nrRead c idx el .get).2))
    ∧ (regServed idx = true → quietly 1 last [] → exec (.nrGet b c idx el) s = .next (nrRun 8702 (waits 1 [] (u 1 last [])
        ((u 1 last []).nrRead c idx el .get).1 (some ((u 1 last []).nrRead c idx el .get).2))))
    ∧ (regServed idx = true → quietly 6 last [] → exec (.nrGetDraft b c idx el) s = .next (nrRun 8702 (waits 6 [] (u 6 last [])
        ((u 6 last []).nrRead c idx el .draft).1 (some ((u 6 last []).nrRead c idx el .draft).2))))
    ∧ (regServed idx = true → quietly 2 last v → ends 2 .nrSet → (u 2 last v).delayBegun (put 2 .nrSet).2 idx = 0 →
        exec (.nrSet b c idx el v) s = .next (nrRun 8702 (waits 2 v (put 2 .nrSet).2 (put 2 .nrSet).1.status none)))
    ∧ (quietly 3 last v → (put 3 .action).1.wind = true → (put 3 .action).2.port = (u 3 last v).port → regServed idx = false →
        (put 3 .action).2.winding (q.o 0x1811 c) = true → (u 3 last v).delayBegun (put 3 .action).2 idx = 0 →
        exec (.nrAction b c idx el v) s = .next ((put 3 .action).2.setJob (some { job 3 last v with
          pend := some ⟨(put 3 .action).1.status, none, false, 0, true, false, 0⟩, due := (put 3 .action).2.now })))
    ∧ (regServed idx = false → quietly 6 last [] → exec (.nrGetDraft b c idx el) s
        = .next (done (u 6 last []) 6 ((u 6 last []).nrRead c idx el .draft).1 ((u 6 last []).nrRead c idx el .draft).2))
    ∧ (regServed idx = false → quietly 2 last v → ends 2 .nrSet → (u 2 last v).delayBegun (put 2 .nrSet).2 idx = 0 →
        exec (.nrSet b c idx el v) s = .next (done (put 2 .nrSet).2 2 (put 2 .nrSet).1.status []))
    ∧ (regServed idx = false → quietly 3 last v → ends 3 .action → (u 3 last v).delayBegun (put 3 .action).2 idx = 0 →
        exec (.nrAction b c idx el v) s = .next (done (put 3 .action).2 3 (put 3 .action).1.status []))
    ∧ (regServed idx = true → quietly 3 last v → ends 3 .action → (u 3 last v).delayBegun (put 3 .action).2 idx = 0 →
        exec (.nrAction b c idx el v) s = .next (nrRun 8702 (waits 3 v (put 3 .action).2 (put 3 .action).1.status none)))
    ∧ (addrOk a = true → quietly 4 a v → w.gate (w.o 0x1811 c) idx el .get = .ok o → w.engRefused idx o.1 = false →
        v.length = 4 → field (beVal v) 0 16 ≤ 6000 → field (beVal v) 0 16 ≠ 0 ∨ bitOf (beVal v) 16 = true → rest.length < 16 →
        ((List.range 16).map (fun k => if k = c then rest.length else (w.client k).subs.length)).sum < 64 →
        exec (.subscribe b c a idx el v) s = .next (done (w.setClient c { y with
          subAddr := a, subs := rest ++ [⟨idx, el, field (beVal v) 0 16, bitOf (beVal v) 16, 0, none⟩] }) 4 0 []))
    ∧ (quietly 5 last [] → let z := u 5 last []
        exec (.unsubscribe b c idx el) s = .next (done (z.setClient c { z.client c with
          subs := (z.client c).subs.filter (fun x => !(x.idx == idx && x.el == el)) }) 5 0 []))

/-- REPORT_TICK before the next 10 ms multiple changes nothing; at one or more of them the ticks are taken, and with the port
in service, the Regulator RUNNING and the device awake the sixteen clients' subscriptions are sampled in turn; otherwise the
ticks only count to their intervals. A due round of the last gasp sends each destination, from the device's own address and by
the next hop, one frame of OP 0x41 with that destination's one number, and counts; the third ends the rounds. -/
def Obligations.ReportsAndGasp : Prop :=
  ∀ (s : State) (b : Nat),
    let q := s.nrTo b
    let k := (q.now - q.port.tickAt) / 8000000
    let p : State := { q with port := { q.port with tickAt := q.port.tickAt + k * 8000000 } }
    let live : Prop := q.portLive = true ∧ q.fw.regState = 1 ∧ q.asleep = false
    let u := s.upTo b
    let g := u.gasp
    let due : Prop := g.sending = true ∧ g.rounds < 3 ∧ g.commitAt + 80000 * g.rounds ≤ u.now ∧ u.portLive = true
    (k = 0 → exec (.reportTick b) s = .next q)
    ∧ (k ≠ 0 → live → exec (.reportTick b) s = .next (each (State.nrReports k) (List.range 16) p))
    ∧ (k ≠ 0 → ¬ live → exec (.reportTick b) s = .next (each (State.ticksPass k) (List.range 16) p))
    ∧ (∀ (z : State) (c m : Nat) (x : Sub), x ∈ ((z.ticksPass m c).client c).subs ↔
        ∃ y ∈ (z.client c).subs, x = { y with since := y.since + m })
    ∧ (due → exec (.gaspRound b) s = .next { each State.gaspCopy g.dests u with
          gasp := { g with rounds := g.rounds + 1, sending := decide (g.rounds < 2) } })
    ∧ (¬ due → exec (.gaspRound b) s = .next u)
    ∧ (∀ (z : State) (d : Nat × Nat) (a src h : Nat), z.portLive = true → (z.client d.1).addr = some a → z.srcFor a = some src →
        z.hopOf a = some h → (smGet (fun _ => none) z.port.arp (hopKey (addrV6 a) h)).isSome = true →
        z.gaspCopy d = z.emit (.udp src a h (nrFrame (z.nrKey d.1) (z.o 0x1810 d.1) 0x41 1 d.2 z.port.session.toNat 0 z.gaspRecord)))

/-- A port with its link, outside Quiet mode, answers an ARP request for its IPv4 address and a neighbour solicitation for an
IPv6 address in use, and no other; takes an answer for a next hop; an advertisement from another station for one of its own
addresses is a conflict; echo requests to its address are answered, at most 100 a second and 1,472 bytes; every other frame
changes nothing. What leaves goes by the next hop of its destination, which is asked for first while it is not resolved, and
nothing leaves to a destination without one. A link change sets the link and the speed, 1000 Mb/s in 1000BASE-X mode, and a
link that comes up has the IPv6 addresses probed. -/
def Obligations.PortFrames : Prop :=
  ∀ (s : State) (b ip mac v6 a dst sp : Nat) (data : List Byte) (up : Bool),
    let u := s.upTo b
    let own := (u.shadow.extractLsb' 16 48).toNat
    let live : Prop := u.portLive = true ∧ u.asleep = false
    let heard (k : Nat) : State := { u with port := { u.port with arp := smSet (fun _ => none) u.port.arp k (some mac) } }
    let fresh : Prop := u.port.echoFrom + 800000000 ≤ u.now ∨ u.port.echoCount = 0
    let counted (z : Port) : State := ({ u with port := z } : State).viaHop a (fun h => .echoReply dst a h data)
    let asked : Prop := u.nrOn a dst = true ∧ u.asleep = false ∧ data.length ≤ 1472
    let linked : State := { u with port := { u.port with
      link := up, speed := if up then (if u.o 0x1800 0 = 1 then 2 else sp) else u.port.speed } }
    ip < 2 ^ 32 → mac < 2 ^ 48 → v6 < 2 ^ 128 → addrOk a = true → addrOk dst = true → sp < 3 →
    (exec (.arpRequest b ip mac) s
        = .next (if live ∧ ip ≠ 0 ∧ ip = u.o 0x1802 0 then u.emit (.arpReply ip own mac) else u))
    ∧ (exec (.arpReply b ip mac) s = .next (if live ∧ u.nextHop false ip = true then heard ip else u))
    ∧ (exec (.neighbourSolicitation b v6 mac) s = .next (if live
        ∧ (v6 = u.linkLocal ∧ u.port.llConflict = false ∨ u.globalV6 0x1805 = some v6 ∧ u.port.glConflict = false)
        then u.emit (.ndAdvert v6 own mac) else u))
    ∧ (¬ live ∨ mac = own → exec (.neighbourAdvertisement b v6 mac) s = .next u)
    ∧ (live → mac ≠ own → exec (.neighbourAdvertisement b v6 mac) s = .next
        (if v6 = u.linkLocal then { u with port := { u.port with llConflict := true } }
         else if u.globalV6 0x1805 = some v6 then { u with port := { u.port with glConflict := true } }
         else if u.nextHop true v6 = true then heard (v6 + 2 ^ 128) else u))
    ∧ (¬ asked → exec (.echoRequest b a data dst) s = .next u)
    ∧ (asked → ¬ fresh → exec (.echoRequest b a data dst) s = .next (if 100 ≤ u.port.echoCount then u
        else counted { u.port with echoCount := u.port.echoCount + 1 }))
    ∧ (asked → fresh → exec (.echoRequest b a data dst) s = .next (counted { u.port with echoFrom := u.now, echoCount := 1 }))
    ∧ (∀ (z : State) (mk : Nat → Out) (h : Nat), (z.hopOf a = none → z.viaHop a mk = z)
        ∧ (z.hopOf a = some h → z.viaHop a mk
          = if (smGet (fun _ => none) z.port.arp (hopKey (addrV6 a) h)).isSome then z.emit (mk h)
            else (z.emit (if addrV6 a then .ndSolicit h else .arpRequest h)).emit (mk h)))
    ∧ exec (.unhandledFrame b) s = .next u
    ∧ (u.port.up = false → exec (.mgmtLinkChange b up sp) s = .next u)
    ∧ (u.port.up = true → exec (.mgmtLinkChange b up sp) s = .next (if up = true ∧ u.port.link = false
        then each (fun x (z : State) => z.emit (.dadProbe x)) (linked.ownIps true) linked else linked))

/-- A write of DIAL_PEND_SET, DIAL_PEND_CLR, DIAL_EN_SET or DIAL_EN_CLR sets or clears exactly the events it names that the
function's block has; within a beat the clears come first, then the events, then the sets, so that a clear leaves an event or
a set of its beat, and a clear of an event's bit takes back its loss. At the end of a beat DIAL is raised if the summary is 1
and was 0 at its start or the beat applied a DIAL_PEND_CLR or a DIAL_EN_SET. A raised vector is discarded while MSI-X Enable
is 0 or in a reset phase; sent, at once or when the link is back, when it may be and none waits; and otherwise pends.
MSIX_PENDING_SEND sends a vector that pends and may be sent, and only such. On a started device ALERT_N is low while the
device Dial's summary is 1, and IRQ_OUT[n], n below 16, is high while that of a function present and not in its reset phase is (both at once: the model's choice, log 116). -/
def Obligations.DialAndMsix : Prop :=
  ∀ (s : State) (b fn : Nat) (hi : Bool) (v : Dw),
    let q := s.atMem b
    let f := q.fn fn
    let d := f.dialB
    let ev : BitVec 64 := (if hi then v ++ (0 : Dw) else (0 : Dw) ++ v) &&& (if fn = 0 then 0x7FFFFFFF else 0xFF)
    fn < 32 →
    (q.takesMem fn →
      exec (.dialPendSet b fn hi v) s = .next (q.setFn fn { f with dialPend := f.dialPend ||| ev, dialB := { d with
        named := d.named ||| ev, fresh := d.fresh ||| (ev &&& ~~~ f.dialPend) } })
      ∧ (∃ g, exec (.dialPendClr b fn hi v) s = .next (q.setFn fn g) ∧ g.dialEn = f.dialEn
        ∧ (∀ k, k < 64 → g.dialPend.getLsbD k
            = (f.dialPend.getLsbD k && !(ev.getLsbD k && !d.events.getLsbD k && !d.named.getLsbD k)))
        ∧ g.dialB.again = (d.again || ev != 0) ∧ g.dialB.lost = d.lost &&& ~~~ ev
        ∧ (ev &&& d.lost = 0 → g.dialLost = f.dialLost))
      ∧ exec (.dialEnSet b fn hi v) s
        = .next (q.setFn fn { f with dialEn := f.dialEn ||| ev, dialB := { d with again := d.again || ev != 0 } })
      ∧ exec (.dialEnClr b fn hi v) s = .next (q.setFn fn { f with dialEn := f.dialEn &&& ~~~ ev }))
    ∧ (∀ z : State,
      let g := z.fn fn
      let one : Prop := g.dialPend &&& g.dialEn ≠ 0
      let ended := z.setFn fn { g with dialB := { DialBeat.init with was := g.dialPend &&& g.dialEn != 0 } }
      z.dialTurn fn = if one ∧ (g.dialB.was = false ∨ g.dialB.again = true) then ended.raiseVec fn 1 else ended)
    ∧ (∀ (z : State) (k : Nat), k < 2 →
      let g := z.fn fn
      let x := g.vec k
      let message : Out := .posted (.msix k) fn x.addr [x.data]
      let may : Prop := g.fmask = false ∧ x.masked = false ∧ g.bme = true ∧ z.quiet.d3Bar = false
      (g.rst = .resetting ∨ g.msixEn = false → z.raiseVec fn k = z)
      ∧ (g.rst ≠ .resetting → g.msixEn = true → may → x.pba = false → z.raiseVec fn k
          = if z.linkL0 then { z with sent := message :: z.sent } else { z with txWait := z.txWait ++ [message] })
      ∧ (g.rst ≠ .resetting → g.msixEn = true → ¬ may ∨ x.pba = true →
          z.raiseVec fn k = z.setFn fn (g.setVec k { x with pba := true })))
    ∧ (∀ k, k < 2 →
      let u := s.upTo b
      let g := u.fn fn
      let x := g.vec k
      let may : Prop := g.msixEn = true ∧ g.fmask = false ∧ x.masked = false ∧ g.bme = true ∧ u.quiet.d3Bar = false
      (x.pba = true → may → exec (.msixPendingSend b fn k) s
        = .next ((u.setFn fn (g.setVec k { x with pba := false })).post (.posted (.msix k) fn x.addr [x.data])))
      ∧ (x.pba = false ∨ ¬ may → exec (.msixPendingSend b fn k) s = .next u))
    ∧ (∀ z : State, z.start.step = 12 → z.start.holdPorst = false → z.start.holdRstn = false →
      let g := z.fn fn
      (z.alertLow = true ↔ (z.fn 0).dialPend &&& (z.fn 0).dialEn ≠ 0)
      ∧ (z.irqOut fn = true ↔ fn < 16 ∧ z.present fn = true ∧ g.rst ≠ .resetting ∧ g.dialPend &&& g.dialEn ≠ 0))

/-- A write TLP of one whole DW to an action register of the global page, of DICT_CMD or of a mailbox page does what that
register's own command does, and the pair at 0x008 COMPLETE then FREE; one into the doorbell window is a DOORBELL_WRITE. A
write into a reserved range changes nothing; one into the payload window or the aperture, one of more than two DWs outside
DICT_DATA, and a poisoned one only count ACCESS_FAULT (a poisoned one logs its error first). An AtomicOp and a locked read
complete UR and log an error. -/
def Obligations.RegisterWrites : Prop :=
  ∀ (s : State) (b fn k : Nat) (d e : Dw) (w : MemWrite),
    let q := s.atMem b
    let one (off : Nat) : Host.Outcome State Fault Refusal := exec (.registerWrite b fn ⟨off, [d], 0xF, 0, false⟩) s
    let seq : Byte := BitVec.ofNat 8 (d.toNat / 256 % 256)
    let ur : State := (q.post (.cpl fn true [])).aerLog fn false
    fn < 32 → q.takesMem fn →
    (k < 128 → one (0x1000 + 4 * k) = exec (.pendSet b fn k d) s ∧ one (0x1200 + 4 * k) = exec (.pendClr b fn k d) s
      ∧ one (0x1600 + 4 * k) = exec (.enableSet b fn k d) s ∧ one (0x1800 + 4 * k) = exec (.enableClr b fn k d) s)
    ∧ (k < 2 → one (0x108 + 4 * k) = exec (.dialPendSet b fn (k == 1) d) s
      ∧ one (0x110 + 4 * k) = exec (.dialPendClr b fn (k == 1) d) s
      ∧ one (0x118 + 4 * k) = exec (.dialEnSet b fn (k == 1) d) s ∧ one (0x120 + 4 * k) = exec (.dialEnClr b fn (k == 1) d) s)
    ∧ (d.getLsbD 0 = true → one 0x30 = exec (.featuresOkRequest b fn) s ∧ one 0x40 = exec (.wind b fn true) s)
    ∧ (d.toNat % 16 = 1 → one 0x10008 = exec (.dictGet b fn seq) s)
    ∧ (d.toNat % 16 = 2 → one 0x10008 = exec (.dictSet b fn seq false) s)
    ∧ (d.toNat % 16 = 3 → one 0x10008 = exec (.dictGetDraft b fn seq) s)
    ∧ (k < 1024 → q.fromView 0x3000 fn k ≠ none → one (0x400000 + 4096 * k + 8) = exec (.complete b fn k d) s
      ∧ one (0x400000 + 4096 * k + 12) = exec (.free b fn k d) s
      ∧ exec (.registerWrite b fn ⟨0x400000 + 4096 * k + 8, [d, e], 0xF, 0xF, false⟩) s = exec (.completeFreePair b fn k d e) s)
    ∧ ((Instr.doorbellWrite b fn w).wf = true → (s.atBell b).takesMem fn →
        exec (.registerWrite b fn w) s = exec (.doorbellWrite b fn w) s)
    ∧ (writeFits fn w = true →
      (regionOf w.off = .reserved → w.poisoned = false → exec (.registerWrite b fn w) s = .next q)
      ∧ (regionOf w.off = .payload ∨ regionOf w.off = .aperture → w.poisoned = false →
          exec (.registerWrite b fn w) s = .next (q.accessFault fn))
      ∧ (regionOf w.off = .global ∨ regionOf w.off = .dict → w.poisoned = false → inDictData w.off w.data.length = false →
          2 < w.data.length → exec (.registerWrite b fn w) s = .next (q.accessFault fn))
      ∧ (regionOf w.off = .global ∨ regionOf w.off = .dict ∨ regionOf w.off = .payload ∨ regionOf w.off = .aperture →
          w.poisoned = true → exec (.registerWrite b fn w) s = .next ((q.aerLog fn true).accessFault fn)))
    ∧ exec (.atomicopRequest b fn) s = .next ur
    ∧ exec (.lockedRead b fn) s = .next ur

/-- From the end of step 2 on and not under PERST# the link carries requests and is up, or comes up in L0, which sends what
waited in order. Until step 11 a configuration request is completed with Request Retry Status, then one to an absent function
UR; a present one answers the field read, with the identification, or takes the field written: a BAR of 64 MiB keeps its low
bits, MSI-X control and PME_En their values. PERST# asserted, a hot reset and a link-down event alike reset the physical
function and clear VF Enable, and leave the link down, PME_En 0 and the function out of D3hot with an entry that waited for it
given up; the last two wake a device whose function was in D3hot (the model's choice, log 135). D3hot entered schedules a
quiet entry just when QUIET_D3 is 1 and none is due. D3hot left and PERST# deasserted lift what they set. -/
def Obligations.PcieLink : Prop :=
  ∀ (s : State) (b fn k : Nat) (op : CfgOp) (r : CfgField) (en mask : Bool) (v w : Dw),
    let u := s.upTo b
    let up : State := { u with linkL0 := true, txWait := [], sent := u.txWait.reverse ++ u.sent }
    let tells (o : Out) (z : State) : State := { z with sent := o :: z.sent }
    let based : State := (up.cfgPut 0 (.barWrite 0 v)).cfgPut 0 (.barWrite 1 w)
    let z := (u.functionReset 0).vfSet false 0
    let down : State := { z with
      pfD3 := false, pmeEn := false, linkL0 := false
      quiet := { z.quiet with
        d3Bar := false, d3Waits := false, beginAt := if z.quiet.d3Waits then none else z.quiet.beginAt } }
    let reset : State := if u.pfD3 then down.wake 3 0 else down
    fn < 32 →
    (u.linkCan = false → exec (.configurationRequest b fn op) s = .next u ∧ exec (.pcieLinkUp b) s = .next u)
    ∧ (u.linkCan = true → exec (.pcieLinkUp b) s = .next up)
    ∧ (u.linkCan = true → u.cfgServed = false →
      exec (.configurationRequest b fn op) s = .next (tells (.cfgCpl fn true 0) up))
    ∧ (u.cfgServed = true → u.present fn = false →
      exec (.configurationRequest b fn op) s = .next (tells (.cpl fn true []) up))
    ∧ (u.cfgServed = true → u.present fn = true →
      exec (.configurationRequest b fn (.read r)) s = .next (tells (.cfgCpl fn false (up.cfgRead fn r)) up)
      ∧ exec (.configurationRequest b fn .other) s = .next (tells (.cfgCpl fn false 0) up)
      ∧ exec (.configurationRequest b fn (.pmeEnable en)) s
        = .next (tells (.cfgCpl fn false 0) { up with pmeEn := if fn = 0 then en else u.pmeEn })
      ∧ exec (.configurationRequest b fn (.msixControl en mask)) s
        = .next (tells (.cfgCpl fn false 0) (up.setFn fn { u.fn fn with msixEn := en, fmask := mask })))
    ∧ (u.cfgServed = true → u.present fn = true →
      exec (.configurationRequest b fn (.barWrite k v)) s = .next (tells (.cfgCpl fn false 0) (up.cfgPut fn (.barWrite k v))))
    ∧ based.cfgRead 0 (.bar 0) = v.toNat / 2 ^ 26 * 2 ^ 26 + 4 ∧ based.cfgRead 0 (.bar 1) = w.toNat
    ∧ exec (.hotReset b) s = .next reset ∧ exec (.linkDown b) s = .next reset
    ∧ exec (.perstAssert b) s = .next { down with perst := true }
    ∧ (u.cfgServed = true → u.o 0x1404 0 = 0 → exec (.d3hotEntry b) s = .next { u with pfD3 := true })
    ∧ (u.cfgServed = true → u.o 0x1404 0 = 1 → u.quiet.code = 0 → u.quiet.beginAt = none → exec (.d3hotEntry b) s
        = .next { u with pfD3 := true, quiet := { u.quiet with beginAt := some (u.now + 8000), d3Waits := true } })
    ∧ (u.pfD3 = true → ∃ t, exec (.d3hotExit b) s = .next t ∧ t.pfD3 = false ∧ t.quiet.d3Bar = false)
    ∧ (u.perst = true → ∃ t, exec (.perstDeassert b) s = .next t ∧ t.perst = false ∧ t.wakeLow = false)

/-- R2: a configuration read of a present function answers Vendor ID, Device ID (0x4096 of the physical function, 0x4097 of
a virtual one) and Revision ID 0x01, and the Vendor ID is what identity object 0x0000:0000 reads. -/
def Obligations.Identification : Prop :=
  ∀ (s : State) (b fn : Nat),
    let u := s.upTo b
    fn < 32 → u.cfgServed = true → u.present fn = true →
    ∃ v, exec (.configurationRequest b fn .readId) s
        = .next { u.linkUp with sent := .cfgCpl fn false v :: u.linkUp.sent }
      ∧ v / 2 ^ 16 % 2 ^ 16 = (if fn = 0 then 0x4096 else 0x4097) ∧ v / 2 ^ 32 = 0x01
      ∧ v % 2 ^ 16 = Config.vendorId.toNat ∧ u.readVal fn 0x0000 0 = v % 2 ^ 16

/-- On a started device with no reset requested, each source requests its level with its cause, 16 beats on, and RESET_REQ
8,000 beats on; a RESET_N pulse under 1 µs requests nothing and one above it the level RESET_N_LEVEL names, held until
RESET_N rises. A wider request replaces a waiting one at once, any other is absorbed. A main supply out of its window zeroes
the copies in the backup domain, a PORST_N reset does not. WDOG_TIMEOUT and WDOG_KICK restart the watchdog's count, 0 disarms
it; its expiry outside Quiet mode requests the level of WDOG_LEVEL. -/
def Obligations.ResetRequests : Prop :=
  ∀ (s : State) (b v low t0 : Nat) (r : ResetReq),
    let u := s.upTo b
    let q := s.atReq b
    let asks (z : State) (l : Level) (cause delay : Nat) : State :=
      { z with resetReq := some ⟨l, cause, false, z.now + delay, false⟩ }
    let free (z : State) : Prop := z.started = true ∧ z.resetReq = none
    let noSupply (k : Backup) : Backup := { k with mainGood := false, supplyLive := 0, feedLive := 0, ibvLive := 0 }
    (free u →
      exec (.railBrownout b) s = .next (asks u .l1 2 16) ∧ exec (.clockFail b) s = .next (asks u .l2c 4 16)
      ∧ exec (.powerOn b true) s = .next { asks u .l1 1 16 with start := { u.start with holdPorst := true } }
      ∧ exec (.powerOn b false) s = .next { asks u .l1 1 16 with backup := noSupply u.backup }
      ∧ exec (.coreReset b) s = .next { asks u .l3 9 16 with
          jtag := { u.jtag with ir := 0x10 }, sent := .tdo 1 0 :: .tdo 8 1 :: u.sent }
      ∧ (100 < low → exec (.resetPin b low) s = .next { asks u (if u.o 0x1001 0 = 1 then .l2w else .l2c) 3 16 with
          start := { u.start with holdRstn := true } }))
    ∧ (low < 100 → exec (.resetPin b low) s = .next u)
    ∧ exec (.resetPinRelease b true) s = .next { u with start := { u.start with holdPorst := false } }
    ∧ exec (.resetPinRelease b false) s = .next { u with start := { u.start with holdRstn := false } }
    ∧ exec (.mainSupplyLeavesWindow b) s = .next { u with backup := noSupply u.backup }
    ∧ (free q →
      (q.takes 0 0x1000 0 1 0 → exec (.resetReqL2Cold b) s = .next ((asks q .l2c 7 8000).answer 0))
      ∧ (q.takes 0 0x1000 0 2 0 → exec (.resetReqL2Warm b) s = .next ((asks q .l2w 7 8000).answer 0))
      ∧ (q.takes 0 0x1000 0 3 0 → exec (.resetReqL3 b) s = .next ((asks q .l3 7 8000).answer 0)))
    ∧ (u.resetReq = some r → exec (.clockFail b) s
      = .next (if r.level = .l1 ∨ r.level = .l2c then u else { u with resetReq := some ⟨.l2c, 4, false, u.now, false⟩ }))
    ∧ (v < 2 ^ 32 → q.takes 0 0x1002 0 v 0 → exec (.wdogTimeoutWrite b v) s
      = .next (({ q.setO 0x1002 0 v with wdogFrom := if v = 0 then none else some q.now } : State).answer 0))
    ∧ (v < 256 → q.takes 0 0x1003 0 v 0 → exec (.wdogKick b v) s
      = .next (({ q with wdogFrom := q.wdogFrom.map (fun _ => q.now) } : State).answer 0))
    ∧ (u.wdogFrom = some t0 → t0 + u.o 0x1002 0 * 800000 ≤ u.now → u.asleep = false → free u → exec (.watchdog b) s
      = .next { asks u (if u.o 0x1004 0 = 1 then .l3 else .l2w) 6 16 with wdogFrom := none })
    ∧ (u.wdogFrom = none ∨ u.wdogFrom = some t0 ∧ u.now < t0 + u.o 0x1002 0 * 800000 ∨ u.asleep = true →
      exec (.watchdog b) s = .next u)

/-- A requested reset takes effect when it is due, an L2 or L3 one not during a gasp until 1,760,000 beats have passed, and
nothing before. Every level drops the drafts and winds. An L1 or an L2 cold reset, or an L2 warm one in minimal mode or
bring-up, leaves an empty source table, no delivery, no buffer, no recorded fault and the counter at 0; another L2 warm one
empties the source table and keeps the counter and the faults; an L3 one, outside Quiet mode and with no block reset under
way, keeps sources, deliveries, buffers, engines, escapements and the counter, and sends no more copies of a gasp. An L1 or L2
reset leaves every glitch filter at 0 with its count anew. The flash stays as it was but for a boot-record copy whose update is
cut short, and a count of L1 and L2 resets rises where the backup domain has power, which keeps its copies. -/
def Obligations.LevelResets : Prop :=
  ∀ (s : State) (b : Nat) (r : ResetReq),
    let u := s.upTo b
    let cuts (k : Nat) : Prop := r.cause ≠ 0x0B ∧ ∃ e, u.fw.bootWrite = some (k, e) ∧ u.now < e
    let every (t : State) (l : Level) : Prop := t.drafts = [] ∧ t.marks = [] ∧ t.winds = [] ∧ t.start.level = l
      ∧ t.now = u.now ∧ t.backup.supplyLive = u.backup.supplyLive ∧ t.backup.mainGood = u.backup.mainGood
      ∧ ((∀ k, ¬ cuts k) → t.flash = u.flash)
      ∧ (∀ k a, cuts k → memGet 0xFF t.flash a
          = if 0x8000 * k ≤ a ∧ a < 0x8000 * k + 0x8000 then 0xFF else memGet 0xFF u.flash a)
    let counted (t : State) : Prop := u.backup.present = true →
      t.backup.resetCount = u.backup.resetCount + 1 ∧ t.backup.fresh = false
    let plane (t : State) : Prop := t.src = [] ∧ t.dlv = [] ∧ t.tgt = [] ∧ t.eng = [] ∧ t.sensing = false ∧ t.linkL0 = false
      ∧ t.resetReq = none ∧ t.gasp.sending = false
      ∧ (∀ n, (t.filtAt n).value = false) ∧ ∀ e ∈ t.filtered, e.2.since = u.now
    let cold (t : State) (l : Level) : Prop := every t l ∧ counted t ∧ plane t ∧ t.buf = [] ∧ t.first = none ∧ t.worst = none
      ∧ t.multi = false ∧ t.cnt = 0 ∧ t.start.step = 0 ∧ t.dram = u.dram
    let goes : Prop := u.resetReq = some r ∧ r.due ≤ u.now
      ∧ (r.level = .l1 ∨ u.gasping = false ∨ r.due + 1760000 ≤ u.now)
    (u.resetReq = none → exec (.levelResetStart b) s = .next u)
    ∧ (u.resetReq = some r → u.now < r.due → exec (.levelResetStart b) s = .next u)
    ∧ (u.resetReq = some r → r.level ≠ .l1 → u.gasping = true → u.now < r.due + 1760000 →
        exec (.levelResetStart b) s = .next u)
    ∧ (goes → r.level = .l1 ∨ r.level = .l2c → ∃ t, exec (.levelResetStart b) s = .next t ∧ cold t r.level)
    ∧ (goes → r.level = .l2w → u.bare = true → ∃ t, exec (.levelResetStart b) s = .next t ∧ cold t .l2c)
    ∧ (goes → r.level = .l2w → u.bare = false → ∃ t, exec (.levelResetStart b) s = .next t ∧ every t .l2w
        ∧ counted t ∧ plane t ∧ t.first = u.first ∧ t.worst = u.worst ∧ t.cnt = u.cnt
        ∧ t.start.step = 0 ∧ t.chr.nextSeq = u.chr.nextSeq ∧ t.dram = u.dram)
    ∧ (goes → r.level = .l3 → u.quiet.code = 0 → u.blk = [] → ∃ t, exec (.levelResetStart b) s = .next t ∧ every t .l3
        ∧ t.start.stateCode = u.start.stateCode ∧ t.start.minimal = u.start.minimal ∧ t.sensing = u.sensing ∧ t.src = u.src
        ∧ t.dlv = u.dlv ∧ t.buf = u.buf ∧ t.eng = u.eng ∧ t.esc = u.esc ∧ t.first = u.first ∧ t.cnt = u.cnt
        ∧ t.filtered = u.filtered ∧ t.gasp.sending = false)

/-- A command that ends a step does so only while its step is the one in progress, and changes nothing otherwise. Step 2
samples the straps and locks the counter; in a wake the PLL's lock restarts the counting at the next tick. Step 3 takes the
options Table 12-9 resolves; a failed step 5 fails the start; step 6 records the DDR4 found; step 7 leaves empty tables; step 9
boots the Regulator, begins its boot again after a trial is rolled back, or fails; step 10 with step 11 begins to sense, and
ends the start in minimal mode and bring-up; step 12 is READY. A start not done in 2 s fails. A failed start is counted at once
and asks for its next reset 10 ms later: the third warm one for a cold reset, and after the third cold one of no trial the
device enters minimal mode instead. -/
def Obligations.StartSteps : Prop :=
  ∀ (s : State) (b mib f : Nat) (straps : BitVec 5) (ok flash : Bool) (w : State),
    let u := s.upTo b
    let k := u.backup
    let mibOk : Prop := mib = 0 ∨ mib = 1 ∨ mib = 512 ∨ mib = 1024
    let waking : Prop := u.quiet.code = 3 ∧ u.time.mode = .quiet
    let freed (z : State) : State := { z with backup := if z.backup.present then
      { z.backup with latch := z.backup.latch &&& 0xFFFC } else z.backup }
    let failed (z : State) (l : Level) (esc : Bool) : State :=
      { z with start := { z.start with failedAt := some z.now, failNext := (l, esc) } }
    ((u.mayStep 1 = false → exec (.supplyGood b) s = .next u)
      ∧ (u.mayStep 2 = false → ¬ waking → exec (.pllLock b straps) s = .next u)
      ∧ (u.mayStep 3 = false → exec (.optionLoad b) s = .next u) ∧ (u.mayStep 5 = false → exec (.sramBist b ok) s = .next u)
      ∧ (mibOk → u.mayStep 6 = false → exec (.ddrTraining b mib) s = .next u)
      ∧ (u.mayStep 7 = false → exec (.stateTableInit b) s = .next u)
      ∧ (u.mayStep 8 = false → exec (.tailRecovery b) s = .next u)
      ∧ (u.mayStep 9 = false → u.fw.regState ≠ 2 → exec (.regulatorBoot b flash) s = .next u)
      ∧ (u.mayStep 10 = false → exec (.settingsLoad b) s = .next u) ∧ (u.mayStep 12 = false → exec (.ready b) s = .next u))
    ∧ (u.mayStep 1 = true → ∃ t, exec (.supplyGood b) s = .next t ∧ t.start = { u.start with step := 1 })
    ∧ (waking → exec (.pllLock b straps) s = .next { u with time := { u.time with resumeAtTick := true } })
    ∧ (u.mayStep 2 = true → ¬ waking → ∃ t, exec (.pllLock b straps) s = .next t ∧ t.straps = straps ∧ t.time.mode = .perBeat
        ∧ t.backup.latch.getLsbD 3 = (!k.present && k.latch.getLsbD 3) ∧ t.start.boundFrom = some u.now
        ∧ t.start.bringup = (field straps.toNat 2 2 == 3))
    ∧ (u.mayStep 3 = true → ∃ t, exec (.optionLoad b) s = .next t ∧ t.supply.running = true ∧ t.start.optionsDone = true
        ∧ t.shadow = (match (resolveCopies u.fuseA u.fuseB).1 with
            | 1 => u.fuseA.setWidth 256
            | 2 => u.fuseB.setWidth 256
            | _ => safeOptions))
    ∧ (u.mayStep 5 = true → exec (.sramBist b false) s = .next u.startFails
        ∧ ∃ t, exec (.sramBist b true) s = .next t ∧ t.start = { u.start with step := 5 })
    ∧ (mibOk → u.mayStep 6 = true → ∃ t, exec (.ddrTraining b mib) s = .next t ∧ t.chr.trained = true
        ∧ t.chr.dramMib = (if mib = 1 then 0 else mib) ∧ t.chr.nextSeq = 0 ∧ t.start = { u.start with step := 6 })
    ∧ (u.mayStep 7 = true → ∃ t, exec (.stateTableInit b) s = .next t ∧ t.src = [] ∧ t.dlv = [] ∧ t.tgt = [] ∧ t.buf = []
        ∧ t.poolNext = 0)
    ∧ (u.mayStep 8 = true → exec (.tailRecovery b) s = .next ((if u.chrAvail then u.tailRecover else u).stepDone 8))
    ∧ (u.mayStep 9 = true →
        exec (.regulatorBoot b false) s = .next u.startFails
        ∧ (u.boot true = (.noImage, w) → exec (.regulatorBoot b true) s = .next w.startFails)
        ∧ (u.boot true = (.running, w) → exec (.regulatorBoot b true) s = .next ((freed w).stepDone 9))
        ∧ (u.boot true = (.again, w) → exec (.regulatorBoot b true) s
          = .next { freed w with fw := { w.fw with bootFrom := w.now } }))
    ∧ (u.mayStep 10 = true → u.start.level = .l3 → u.bare = false → exec (.settingsLoad b) s = .next (u.stepDone 10))
    ∧ (u.mayStep 10 = true → u.start.level ≠ .l3 → ∃ t, exec (.settingsLoad b) s = .next t ∧ t.sensing = true
        ∧ t.start.step = 11 ∧ t.time.watched = true
        ∧ (u.bare = true → t.start.stateCode = if u.start.bringup then 3 else 2))
    ∧ (u.mayStep 12 = true → u.bare = true → exec (.ready b) s = .next u)
    ∧ (u.mayStep 12 = true → u.bare = false → ∃ t, exec (.ready b) s = .next t ∧ t.start.step = 12 ∧ t.start.stateCode = 1
        ∧ (k.present = true → t.backup.warmFails = 0 ∧ t.backup.coldFails = 0 ∧ t.backup.minimalEntered = false))
    ∧ (u.start.boundFrom = some f → u.start.step < 12 → u.bare = false → u.start.failedAt = none → exec (.startTimeout b) s
        = .next (if f + 1600000000 ≤ u.now then u.startFails else u))
    ∧ (∀ z : State, z.backup.present = true →
      let warm : Prop := z.start.level = .l2w ∨ z.start.level = .l3
      let y : State := if z.nextStep = 9 then freed z else z
      let counts (n m : Nat) : State := { y with backup := { y.backup with warmFails := n, coldFails := m } }
      let n := z.backup.warmFails
      let m := z.backup.coldFails
      (warm → z.startFails = if 2 ≤ n then failed (counts 0 m) .l2c true else failed (counts (n + 1) m) .l2w false)
      ∧ (¬ warm → m < 2 → z.startFails = failed (counts n (m + 1)) .l2c false)
      ∧ (¬ warm → 2 ≤ m → z.bankIsTrial = true → z.startFails = failed ((counts n 0).rollBack 4) .l2c false)
      ∧ (¬ warm → 2 ≤ m → z.bankIsTrial = false → z.startFails.start.minimal = true ∧ z.startFails.start.failedAt = none
          ∧ z.startFails.backup.minimalEntered = true ∧ z.startFails.backup.coldFails = 0))
    ∧ (u.start.failedAt = none ∨ u.resetReq.isSome = true → exec (.startFailedReset b) s = .next u)
    ∧ (u.start.failedAt = some f → u.now < f + 8000000 → exec (.startFailedReset b) s = .next u)
    ∧ (u.start.failedAt = some f → f + 8000000 ≤ u.now → u.resetReq = none → exec (.startFailedReset b) s
        = .next { u with resetReq := some ⟨u.start.failNext.1, 0x0B, u.start.failNext.2, u.now + 16, false⟩ })

/-- A QUIESCE of an idle block starts its wait up to BLK_TIMEOUT, an ISOLATE its reset phase, also from a wait; in a reset
phase neither does anything, and a tenant's element is its tenant reset. A wait ends in the reset phase when the block is
drained, or, outside Quiet mode, at its timeout with BLOCK_ISOLATED, and not before. The phase leaves an engine cleared but for
its banks and published bits with no bad register, the chronograph's queue and the port's empty, and takes the lanes down. Its
end counts in BLK_RESETS and restarts the block. A lock-up outside a trial counts and isolates the Regulator, the third requests
an L3 reset; 60 s of RUNNING clear the count. -/
def Obligations.BlockResets : Prop :=
  ∀ (s : State) (b el n w v : Nat) (mm : Bool),
    let u := s.upTo b
    let q := s.atReq b
    let two (t : State) : Prop :=
      if v = 1 then exec (.blkResetQuiesce b el mm) s = .next t else exec (.blkResetIsolate b el mm) s = .next t
    let plain : Prop := 8 ≤ el ∧ el < 0x40 ∧ (el = 0x21 → q.gasping = false)
    let ended (z : State) : State := (z.setBlk el none).bump 0x1008 el 1
    let waits (z : State) : State := z.setBlk el (some (.waiting (z.now + z.o 0x1005 0)))
    let stands : Prop := u.asleep = true ∨ el = 0x20 ∧ u.rebootHeld = true
    blkElement el = true →
    (v = 1 ∨ v = 2 → q.takes 0 0x1006 el v el →
      (0x40 ≤ el → two ((q.tenantReset (el - 0x40) (v == 2)).answer 0))
      ∧ (el < 0x40 → q.blkAt el = some .resetting → two (q.answer 0))
      ∧ (plain ∨ el < 8 → q.blkAt el = some (.waiting w) → two ((if v = 1 then q else q.blkPhase el mm).answer 0))
      ∧ (plain → q.blkAt el = none → v = 2 → two ((q.blkPhase el mm).answer 0))
      ∧ (plain → q.blkAt el = none → v = 1 → two ((waits (if el = 0x23 then q.chrFlush else q)).answer 0))
      ∧ (el < 8 → q.blkAt el = none → v = 1 → two ((waits (q.blkFirstBeat el mm)).answer 0))
      ∧ (el < 8 → q.blkAt el = none → v = 2 → two (((q.blkFirstBeat el mm).blkPhase el mm).answer 0)))
    ∧ (el < 0x40 → u.blkAt el = some (.waiting w) →
      exec (.quiesceDrained b el) s = .next (if u.blkDrained el then u.blkPhase el false else u)
      ∧ (u.now < w ∨ stands → exec (.blkTimeout b el mm) s = .next u)
      ∧ (w ≤ u.now → ¬ stands → u.portDeferred = false → exec (.blkTimeout b el mm) s
        = .next ((u.blkPhase el mm).dial 30 0)))
    ∧ (el < 0x40 → u.blkAt el ≠ some .resetting → exec (.blockResetEnd b el) s = .next u)
    ∧ (u.blkAt el = some .resetting →
      (el < 8 → (u.escAt el).failed = false → exec (.blockResetEnd b el) s = .next ((ended u).escReturn el))
      ∧ (0x10 ≤ el → el < 0x18 → exec (.blockResetEnd b el) s = .next ((ended u).autorun (el - 0x10)))
      ∧ (el = 0x20 → exec (.blockResetEnd b el) s = .next { ended u with fw := { u.fw with bootFrom := u.now } })
      ∧ (el = 0x23 → exec (.blockResetEnd b el) s = .next (ended u))
      ∧ (el = 0x21 → ∃ t, exec (.blockResetEnd b el) s = .next t ∧ t.blkAt el = none
          ∧ t.port.blkResets = u.port.blkResets + 1 ∧ t.port.clients = [])
      ∧ (el = 0x22 → ∃ t, exec (.blockResetEnd b el) s = .next t ∧ t.blkAt el = none ∧ t.tdm.txNext = 1
          ∧ t.tdm.linkResets = u.tdm.linkResets + 1))
    ∧ (∀ z : State, n < 8 →
      ((z.blkPhase (0x10 + n) mm).engAt n) = { Engine.init with
        bank := (z.engAt n).bank, pub := (z.engAt n).pub, stale := ((z.blkPhase (0x10 + n) mm).engAt n).stale }
      ∧ (z.blkPhase (0x10 + n) mm).badParity = z.badParity.filter (fun k => k / 16 != 0x1000 + n)
      ∧ (z.blkPhase 0x20 mm).fw.regState = (if z.bare then 3 else 2) ∧ (z.blkPhase 0x20 mm).fw.stage = 0
      ∧ (z.blkPhase 0x21 mm).port.queue = [] ∧ (z.blkPhase 0x21 mm).port.link = false
      ∧ (z.blkPhase 0x23 mm).chr.queue = []
      ∧ z.blkPhase 0x22 mm = (z.lanesDown mm).setBlk 0x22 (some .resetting))
    ∧ (u.now < u.fw.lastBeatOfHeart + 8000000 → exec (.regLockup b) s = .next u)
    ∧ (u.fw.lastBeatOfHeart + 8000000 ≤ u.now → u.fw.regState ≤ 2 → u.fw.fwState ≠ 1 →
      ∃ t, exec (.regLockup b) s = .next t ∧ t.o 0x1015 0 = min 255 (u.o 0x1015 0 + 1)
        ∧ (2 ≤ u.o 0x1015 0 → u.started = true → u.resetReq = none →
            t.resetReq = some ⟨.l3, 0x0A, false, u.now + 16, false⟩))
    ∧ (u.fw.runningFrom = some w → exec (.regLockupsClear b) s
      = .next (if w + 48000000000 ≤ u.now then u.setO 0x1015 0 0 else u))

/-- A crown frame, without VBAK, changes nothing. With it, its edges shift out the last RESULT and ADDRESS with the DATA of
the last READ, a bit per edge. A frame whose CRC and fields hold, and for a latch opcode the unlock, acts: NOP and READ keep
the latches, UNLOCK_B right after UNLOCK_A unlocks the next frame only, LATCH_SET and LATCH_CLR change the latches. Any other
frame acts in nothing, ends the unlock and counts in FRAME_ERRORS; so does one shorter than 40 edges, SHORT, with its ADDRESS
if that was received. VBAK lost or restored leaves the backup domain in its fresh state. A JTAG instruction is loaded, its
scans shift out what Capture-IR and Capture-DR hold, a code without a meaning selects the bypass; FLASH_SPI moves a byte in
BRINGUP only. -/
def Obligations.CrownAndJtag : Prop :=
  ∀ (s : State) (b op edges : Nat) (f : CrownFrame) (i : Instr) (xfer : BitVec 16) (miso code : Byte) (bits : BitVec 40),
    let u := s.upTo b
    let k := u.backup
    let c := u.crown
    let d := f.data.toNat
    let row : Prop := (op = 0x01 ∧ i = .nop b f) ∨ (op = 0x02 ∧ i = .read b f) ∨ (op = 0x10 ∧ i = .unlockA b f)
      ∨ (op = 0x11 ∧ i = .unlockB b f) ∨ (op = 0x20 ∧ i = .latchSet b f) ∨ (op = 0x21 ∧ i = .latchClr b f)
      ∨ (op < 256 ∧ crownOpcode (BitVec.ofNat 8 op) = false ∧ i = .crownUndefinedOpcode b (BitVec.ofNat 8 op) f)
    let crc : Prop := crc8 ([BitVec.ofNat 8 op, f.addr] ++ beBytes 2 d) = f.crc
    let formed : Prop := (op = 0x01 ∧ f.addr = 0 ∧ d = 0) ∨ (op = 0x02 ∧ (u.crownItem f.addr.toNat).isSome = true ∧ d = 0)
      ∨ (op = 0x10 ∧ f.addr = 0 ∧ d = 0xB5A4) ∨ (op = 0x11 ∧ f.addr = 0 ∧ d = 0x4A5B)
      ∨ (op = 0x20 ∧ f.addr = 0x40 ∧ c.unlock = 2 ∧ d < 16 ∧ d % 4 ≠ 3) ∨ (op = 0x21 ∧ f.addr = 0x40 ∧ c.unlock = 2 ∧ d < 16)
    let o := crownOut c.result c.addr u.crownCapture.1
    let shifts (n : Nat) : Out := .crown ((List.range n).map (fun i => o.getLsbD (39 - i)))
    let errors (n : Nat) : Nat := min 65535 (n + 1)
    let ir (code : Byte) (out : List Out) : State :=
      { u with jtag := { u.jtag with ir := code }, sent := out ++ .tdo 8 1 :: u.sent }
    (row → k.present = false → exec i s = .next u)
    ∧ (row → k.present = true → crc → formed → ∃ t, exec i s = .next t ∧ t.sent = shifts 40 :: u.sent ∧ t.crown.sdo = o
        ∧ t.crown.addr = f.addr ∧ t.crown.result = (if f.extra then 6 else 0)
        ∧ t.backup.frameErrors = (if f.extra then errors k.frameErrors else k.frameErrors)
        ∧ t.crown.unlock = (if op = 0x10 then 1 else if op = 0x11 ∧ c.unlock = 1 then 2 else 0)
        ∧ t.crown.reading = (if op = 0x02 then some f.addr.toNat else none)
        ∧ t.backup.latch = (if op = 0x20 then latchSet f.data k.latch else if op = 0x21 then k.latch &&& ~~~ f.data else k.latch))
    ∧ (row → k.present = true → ¬ crc ∨ ¬ formed → ∃ t, exec i s = .next t ∧ t.sent = shifts 40 :: u.sent
        ∧ t.crown.addr = f.addr ∧ t.crown.result ≠ 0 ∧ (¬ crc → t.crown.result = 1) ∧ t.crown.unlock = 0
        ∧ t.crown.reading = none ∧ t.backup.latch = k.latch ∧ t.backup.frameErrors = errors k.frameErrors
        ∧ t.resetReq = u.resetReq)
    ∧ (edges < 40 → k.present = false → exec (.crownShortFrame b edges bits) s = .next u)
    ∧ (edges < 40 → k.present = true → ∃ t, exec (.crownShortFrame b edges bits) s = .next t ∧ t.crown.result = 2
        ∧ t.crown.unlock = 0 ∧ t.crown.reading = none ∧ t.backup.latch = k.latch
        ∧ t.backup.frameErrors = errors k.frameErrors ∧ (16 ≤ edges → t.crown.addr = bits.extractLsb' 24 8)
        ∧ t.sent = (if edges = 0 then u.sent else shifts edges :: u.sent))
    ∧ exec (.vbakLoss b) s = .next { u with backup := Backup.cleared false, crown := .init }
    ∧ (k.present = true → exec (.vbakRestore b) s = .next u)
    ∧ (k.present = false → ∃ t, exec (.vbakRestore b) s = .next t ∧ t.backup.present = true ∧ t.backup.latch = 0
        ∧ t.backup.resetCount = 0 ∧ t.backup.fresh = true ∧ t.crown = .init)
    ∧ (exec (.extest b) s = .next (ir 0x00 []) ∧ exec (.samplePreload b) s = .next (ir 0x01 [])
      ∧ exec (.idcode b) s = .next (ir 0x02 [.tdo 32 (2 ^ 28 + 0x4096 * 2 ^ 12 + 2 * Config.jedecId.toNat + 1)])
      ∧ exec (.clamp b) s = .next (ir 0x03 [.tdo 1 0]) ∧ exec (.highz b) s = .next (ir 0x04 [.tdo 1 0]))
    ∧ (4 < code.toNat → code ≠ 0x10 → code ≠ 0x20 → exec (.bypass b code) s = .next (ir code [.tdo 1 0]))
    ∧ (u.start.stateCode ≠ 3 → exec (.flashSpi b xfer miso) s = .next (ir 0x20 [.tdo 1 0]))
    ∧ (u.start.stateCode = 3 → ∃ t, exec (.flashSpi b xfer miso) s = .next t
        ∧ t.sent = .spi (xfer.setWidth 8) :: .tdo 16 (u.jtag.rx.toNat + 256 * b2n u.jtag.xferDone) :: .tdo 8 1 :: u.sent
        ∧ t.jtag.ir = 0x20 ∧ t.jtag.rx = miso ∧ t.jtag.xferDone = true ∧ t.jtag.csLow = xfer.getLsbD 15
        ∧ (xfer.getLsbD 15 = true → t.flash = u.flash ∧ t.jtag.spi = xfer.setWidth 8 :: u.jtag.spi)
        ∧ (xfer.getLsbD 15 = false → t.jtag.spi = []))

/-- FW_CONFIRM of a CONFIRMED image does nothing, of any other confirms; FW_REJECT rolls a trial back and is refused of
anything else; a trial already rolled back takes neither (the model's choice, log 141). Staging is refused IN_USE outside
CONFIRMED and during a save: OPEN erases the other bank and opens it, DATA clears bits of its chunk once and touches no other
byte, a page program that fails ends the stage FLASH_ERROR, CLOSE begins the check of an open stage, ABORT ends it. FW_ACTIVATE
needs VERIFIED: 1 lets the Regulator's block reset wait 8,000 beats on, 2 requests an L2 cold reset with factory defaults. A
trial's window is judged when it ends, by FW_CONFIRM_MODE. A save is refused IN_USE while one, a migration or staging is in
progress, and takes the generation above the highest valid; its end makes its slot the one in use, or FAILED. A migration's
end likewise. -/
def Obligations.FirmwareAndSaves : Prop :=
  ∀ (s : State) (b v n t0 : Nat) (bs : List Byte) (ok : Bool),
    let u := s.upTo b
    let q := s.atReq b
    let busy (z : State) : Prop := z.fw.fwState ≠ 0 ∨ z.fw.save = 1 ∨ z.fw.save = 4
    let bank := 1 - q.bootRec.confirmed
    let chunk := bankBase q.fw.stageBank + 256 * n
    let fwOf (z : State) (f : Firmware) : State := { z with fw := f }
    (v < 256 → q.takes 0 0x1505 0 v 0 →
      exec (.fwConfirm b v) s = .next (if q.fw.rolledBack = true then q.answer 8
        else (if q.fw.fwState = 0 then q else q.confirm).answer 0)
      ∧ (q.fw.fwState ≠ 0 → q.fw.rolledBack = false → (q.confirm).fw.fwState = 0 ∧ (q.confirm).fw.trialEnd = none))
    ∧ (v < 256 → q.takes 0 0x1506 0 v 0 → exec (.fwReject b v) s
      = .next (if q.fw.fwState = 1 ∧ q.fw.rolledBack = false then ((q.rollBack 2).blkRequest 0x20 false false).answer 0
        else q.answer 8))
    ∧ (q.takes 0 0x1507 0 1 0 → (busy q → exec (.fwStageOpen b) s = .next (q.answer 8))
      ∧ (¬ busy q → ∃ t, exec (.fwStageOpen b) s = .next t ∧ t.status = 0
          ∧ t.fw = { q.fw with stage := 1, stageBank := bank, chunks := [] }
          ∧ ∀ a, memGet 0xFF t.flash a
              = if bankBase bank ≤ a ∧ a < bankBase bank + 0x400000 then 0xFF else memGet 0xFF q.flash a))
    ∧ (q.takes 0 0x1507 0 2 0 → exec (.fwStageClose b) s
      = .next (if q.fw.fwState = 0 ∧ q.fw.save ≠ 1 ∧ q.fw.save ≠ 4 ∧ q.fw.stage = 2
          then (fwOf q { q.fw with stage := 3 }).answer 0 else q.answer 8))
    ∧ (q.takes 0 0x1507 0 0 0 → (busy q → exec (.fwStageAbort b) s = .next (q.answer 8))
      ∧ (¬ busy q → ∃ z : State, exec (.fwStageAbort b) s = .next (z.migrate.answer 0)
          ∧ z.fw = { q.fw with stage := 0, chunks := [] }))
    ∧ (∀ o, q.dictOpen = true → q.asleep = false → q.gate 0 0x1508 n .set = .ok (n, o) → o.ty = 12 → o.acc ≠ .rwd → n < 16384 →
        bs.length = 256 → q.valueOk 0 0x1508 n (blobEnc bs) = true → lengthOk 0x1508 o.ty 256 = true → q.engRefused 0x1508 n = false →
      (busy q ∨ q.fw.stage ≠ 2 ∨ n ∈ q.fw.chunks → exec (.fwStageData b n bs ok) s = .next (q.answer 8))
      ∧ (¬ busy q → q.fw.stage = 2 → n ∉ q.fw.chunks →
        (∃ t, exec (.fwStageData b n bs false) s = .next t ∧ t.status = 0
          ∧ t.fw = { q.fw with chunks := n :: q.fw.chunks }
          ∧ ∀ a, memGet 0xFF t.flash a = if chunk ≤ a ∧ a < chunk + 256 then memGet 0xFF q.flash a &&& bs.getD (a - chunk) 0
              else memGet 0xFF q.flash a)
        ∧ ∃ z : State, exec (.fwStageData b n bs true) s = .next (z.migrate.answer 0)
          ∧ z.fw = { q.fw with stage := 6, chunks := n :: q.fw.chunks }
          ∧ ∀ a, a < chunk ∨ chunk + 256 ≤ a → memGet 0xFF z.flash a = memGet 0xFF q.flash a))
    ∧ (q.takes 0 0x150A 0 1 0 →
      let z := (q.setBootRec { q.bootRec with trial := q.fw.stageBank }).bootWritten
      (q.fw.stage ≠ 4 → exec (.fwActivateTrial b) s = .next (q.answer 7))
      ∧ (q.fw.stage = 4 → q.blkAt 0x20 ≠ none → exec (.fwActivateTrial b) s = .next (z.answer 0))
      ∧ (q.fw.stage = 4 → q.blkAt 0x20 = none → exec (.fwActivateTrial b) s
        = .next ((fwOf (z.setBlk 0x20 (some (.waiting (z.now + 8000 + z.o 0x1005 0))))
            { z.fw with rebootAt := some (z.now + 8000) }).answer 0)))
    ∧ (q.takes 0 0x150A 0 2 0 → q.fw.stage = 4 → q.started = true → q.resetReq = none →
      ∃ t, exec (.fwActivateDefaults b) s = .next t ∧ t.status = 0
        ∧ t.resetReq = some ⟨.l2c, 7, false, q.now + 16, true⟩)
    ∧ (q.takes 0 0x150A 0 2 0 → q.fw.stage ≠ 4 → exec (.fwActivateDefaults b) s = .next (q.answer 7))
    ∧ (exec (.stageEraseDone b ok) s = .next (if u.fw.stage = 1 then (fwOf u { u.fw with stage := if ok then 2 else 6 }).migrate else u)
      ∧ exec (.stageVerifyDone b) s
        = .next (if u.fw.stage = 3 then (fwOf u { u.fw with stage := if u.imageOk u.fw.stageBank then 4 else 5 }).migrate else u))
    ∧ ((u.fw.trialEnd = none ∨ u.fw.trialEnd = some t0 ∧ u.now < t0 → exec (.trialWindowEnd b) s = .next u)
      ∧ (u.fw.trialEnd = some t0 → t0 ≤ u.now → u.fw.regState = 1 → exec (.trialWindowEnd b) s
        = .next (if u.o 0x1504 0 = 1 then u.confirm else (u.rollBack 1).blkRequest 0x20 false false)))
    ∧ (exec (.trialNotRunning b) s
      = .next (if u.started = true ∧ u.fw.regState = 2 ∧ u.blkAt 0x20 = none ∧ u.forcedBank false = none ∧ u.bootRec.trial ≠ 255
          ∧ u.fw.bootFrom + 1600000000 ≤ u.now then (u.rollBack 6).blkRequest 0x20 true false else u))
    ∧ (v < 256 → q.takes 0 0xF003 0 v 0 →
      (busy q ∨ q.staging = true ∨ q.topGen = 0xFFFFFFFF → exec (.saveSettings b v) s = .next (q.answer 8))
      ∧ (¬ busy q → q.staging = false → q.topGen ≠ 0xFFFFFFFF → ∃ t, exec (.saveSettings b v) s = .next t ∧ t.status = 0
          ∧ t.fw.save = 1 ∧ t.fw.saveSnap = q.snapshot ∧ t.fw.saveGen = q.topGen + 1 ∧ t.fw.saveSlot + 1 ≠ q.fw.slot
          ∧ t.fw.slot = q.fw.slot))
    ∧ (u.fw.save ≠ 1 → exec (.saveDone b ok) s = .next u)
    ∧ (u.fw.save = 1 → exec (.saveDone b false) s = .next u.saveFailed.migrate ∧ ∃ z : State,
      exec (.saveDone b true) s = .next z.migrate ∧ z.fw = { u.fw with save := 2, slot := u.fw.saveSlot + 1, saveSnap := [] })
    ∧ (u.fw.save ≠ 4 → exec (.settingsMigrationDone b ok) s = .next u)
    ∧ (u.fw.save = 4 → exec (.settingsMigrationDone b false) s = .next u.saveFailed
      ∧ (∀ x, u.slotOf u.fw.slot = some x → ∃ t, exec (.settingsMigrationDone b true) s = .next t
        ∧ t.fw = { u.fw with save := 2, slot := u.fw.saveSlot + 1, setFlags := u.fw.setFlags ||| 512 }))

/-- The ADC's next code goes to the object of its slot, and to the dip in HOLDOFF. A condition is established or cleared when its
input has kept the side of its reference for the periods SNS_FILTER gives, and by nothing less: an alarm established sets its
bit, counts and raises its Dial event; cleared, it clears its bit; a warning in ARMED starts the hold-off and a flush, raises S2
and wakes a quiet device; a recovery before the hold-off's end raises S3 and records the dip; a second above the recovery
reference since the last warning re-arms. At the hold-off's end the gasp commits, raises S1 and queues its copies. QUIET_ENTER is
refused IN_USE while something is in progress, else schedules the entry 8,000 beats on; entry stops issues and drains, then the
device is quiet. The first wake cause is recorded with its beat; one in ENTERING abandons entry; one outside Quiet mode does
nothing. The resume makes the device ACTIVE and serves the requests held; the Regulator's resume restores the PHY. -/
def Obligations.SupplyAndQuiet : Prop :=
  ∀ (s : State) (b v k cause src t0 level since : Nat) (on mm : Bool) (r4 r9 : BitVec 16),
    let u := s.upTo b
    let q := s.atReq b
    let x := u.supply
    let slot := x.adcSlot
    let sup (z : State) (y : Supply) : State := { z with supply := y }
    let qui (z : State) (y : Quiet) : State := { z with quiet := y }
    let next := (slot + 1) % 16
    let held (el : Nat) : Prop := since + (u.o 0x1305 el + 7) / 8 * 8 ≤ u.now
    let was : Bool := if k = 0 then x.feedHigh else if k = 1 then x.ibvLow else x.ibvHigh
    let ref := u.o (0x1302 + k) 0
    let back := if k = 0 then u.o 0x1301 0 else 16
    let side : Prop := if on = true then ref ≠ 0 ∧ (if k = 1 then level < ref else ref < level)
      else if k = 1 then ref + back < level else level + back < ref
    let changes : Prop := x.running = true ∧ was ≠ on ∧ side ∧ held (if k = 0 then 0 else 1)
    let alarm : State := sup u (if k = 0 then { x with feedHigh := on } else if k = 1 then { x with ibvLow := on }
      else { x with ibvHigh := on })
    let warns : Prop := x.running = true ∧ u.o 0x1300 0 ≠ 0 ∧ level < u.o 0x1300 0 ∧ held 0
    let above : Prop := u.o 0x1300 0 + u.o 0x1301 0 < level
    let recovers : Prop := x.running = true ∧ above ∧ held 0
    let hold := u.o 0x1306 0
    let warned : State := { u with
      supply := { x with feedLow := true, gaspState := 1, warnAt := u.now, holdLen := hold, holdEnd := u.now + hold,
                         dipMin := u.o 0x1300 0 }
      gasp := { u.gasp with prepared := true } }
    let us := min 65535 ((u.now - x.warnAt) / 800)
    let busy : Prop := q.supply.gaspState = 1 ∨ q.gasp.sending = true ∨ q.supply.feedLow = true ∨ q.winds ≠ [] ∨ q.blk ≠ []
      ∨ (∃ f ∈ q.func, f.2.rst ≠ .none) ∨ q.fw.save = 1 ∨ q.fw.save = 4 ∨ q.fw.migrateDue = true ∨ q.fw.stage = 1
      ∨ q.fw.stage = 2 ∨ q.fw.stage = 3
    let commits (w : State) : State := if w.tdm.lanes = 2 then
        ({ w with tdm := { w.tdm with queue := w.tdm.queue ++ [.gasp w.backup.resetCount (x.holdLen / 800)] } } : State).pump
      else w
    let drained : Prop := u.quiet.code = 1 ∧ (u.dlv = [] ∨ u.quiet.drainUntil ≤ u.now)
    let wakes : Prop := cause < 5 ∧ src < 4096 ∧ (cause = 0 → u.wakes src = true
      ∧ ((∃ l ∈ u.quiet.latch, l.src = src) ∨ u.asserted src = true))
    let bits := 2 ^ cause + (if cause = 0 then src * 65536 else 0)
    (v < 4096 → (x.running = false → exec (.adcConversion b v) s = .next u)
      ∧ (x.running = true → exec (.adcConversion b v) s = .next
          (if slot % 2 = 0 then sup (u.setO 0x1309 0 v)
            { x with adcSlot := next, dipMin := if x.gaspState = 1 then min x.dipMin v else x.dipMin }
          else if slot = 1 then sup (u.setO 0x130A 0 v) { x with adcSlot := next }
          else sup (u.setO 0x130B (slot / 2 - 1) (Config.railMillivolts (slot / 2 - 1) v % 65536)) { x with adcSlot := next })))
    ∧ (k < 3 → (changes → exec (.supplyAlarm b k on level since) s
            = .next (if on = true then (alarm.bump 0x1315 0 1).dial 23 0 else alarm))
      ∧ (¬ changes → exec (.supplyAlarm b k on level since) s = .next u))
    ∧ (¬ warns → exec (.feedWarning b level since) s = .next u)
    ∧ (warns → x.gaspState ≠ 0 → exec (.feedWarning b level since) s
        = .next (sup u { x with feedLow := true, warnAt := if x.gaspState = 2 then u.now else x.warnAt }))
    ∧ (warns → x.gaspState = 0 → ∃ z, z = ((warned.raiseInt 2).chrSupply 1 0).chrFlush ∧ z.chr.flushing = true
        ∧ exec (.feedWarning b level since) s = .next (if z.quiet.code = 0 then z else z.wake 4 0))
    ∧ (¬ recovers → exec (.feedRecovery b level since) s = .next u)
    ∧ (recovers → x.gaspState ≠ 1 ∨ x.holdEnd ≤ u.now →
        exec (.feedRecovery b level since) s = .next (sup u { x with feedLow := false }))
    ∧ (recovers → x.gaspState = 1 → u.now < x.holdEnd →
        ∃ t z, z = ((sup u { x with feedLow := false }).raiseInt 3).chrSupply 2 us
        ∧ exec (.feedRecovery b level since) s = .next t ∧ t.supply.gaspState = 0 ∧ t.gasp.prepared = false
        ∧ t.obj = z.obj ∧ t.src = z.src
        ∧ t.backup = (if z.backup.present then { z.backup with
            dipCount := z.backup.dipCount + 1, dipDepth := x.dipMin, dipTime := us,
            dipReset := field z.backup.resetCount.toNat 0 16 } else z.backup))
    ∧ (x.gaspState ≠ 1 ∨ u.now < x.holdEnd → exec (.gaspCommit b) s = .next u)
    ∧ (x.gaspState = 1 → x.holdEnd ≤ u.now → ∃ z : State, z.supply = { x with gaspState := 2 }
        ∧ z.gasp.commitAt = u.now ∧ z.gasp.holdUs = x.holdLen / 800 ∧ z.gasp.pairLeft = 3
        ∧ z.gasp.dests.map Prod.fst = u.gaspClients ∧ (z.gasp.sending = true ↔ u.gaspClients ≠ [])
        ∧ z.backup.gaspCount = (if u.backup.present then u.backup.gaspCount + 1 else u.backup.gaspCount)
        ∧ z.src = u.src ∧ z.obj = u.obj ∧ z.quiet = u.quiet
        ∧ exec (.gaspCommit b) s = .next (commits ((z.raiseInt 1).chrSupply 3 (x.holdLen / 800))))
    ∧ exec (.gaspRearm b level since) s
        = .next (if x.gaspState = 2 ∧ above ∧ x.warnAt ≤ since ∧ since + 800000000 ≤ u.now
          then sup u { x with gaspState := 0, feedLow := false } else u)
    ∧ exec (.gaspCopyDiscard b) s = .next (if u.gasp.sending = true ∧ u.gasp.commitAt + 1600000 ≤ u.now then
        { u with gasp := { u.gasp with sending := false, rounds := 3 } } else u)
    ∧ (v = 1 → q.takes 0 0x1400 0 v 0 → (busy → exec (.quietEnter b v) s = .next (q.answer 8))
      ∧ (¬ busy → q.quiet.code = 0 → q.quiet.beginAt = none → exec (.quietEnter b v) s
          = .next ((qui q { q.quiet with beginAt := some (q.now + 8000), d3Waits := false }).answer 0)))
    ∧ (u.quiet.beginAt = none ∨ u.quiet.beginAt = some t0 ∧ (u.now < t0 ∨ u.delayHeld 0x1400 = true) →
        exec (.quietEntryBegin b) s = .next u)
    ∧ (u.quiet.beginAt = some t0 → t0 ≤ u.now → u.quiet.code = 0 → u.delayHeld 0x1400 = false →
        u.quiet.d3Waits = false ∨ u.quietBlocked = false →
        exec (.quietEntryBegin b) s = .next (qui u { u.quiet with
          code := 1, beginAt := none, d3Waits := false, issueStop := true, drainUntil := u.now + u.o 0x1403 0 }))
    ∧ (¬ drained → exec (.quietDrainEnd b mm r4 r9) s = .next u)
    ∧ (drained → (∀ e, e < 8 → u.row8.undecidedDrain e = false) → ∃ t, exec (.quietDrainEnd b false r4 r9) s = .next t
        ∧ t.quiet.code = 2 ∧ t.quiet.stepsDone = true ∧ t.quiet.ddrAsleep = true ∧ t.chr.selfRefresh = true
        ∧ t.chr.flushing = false ∧ t.time.mode = .quiet ∧ t.time.ppsOutUntil = none ∧ t.fw.regState = 4 ∧ t.tdm.lanes = 0
        ∧ (t.pfD3 = true ∨ (t.fn 0).aspm = true → t.linkL0 = false) ∧ (t.phyNamed = true → t.quiet.adv ≠ none))
    ∧ (cause < 5 → src < 4096 → ¬ wakes ∨ (u.quiet.code ≠ 1 ∧ u.quiet.code ≠ 2 ∧ u.quiet.code ≠ 3) →
        exec (.quietWake b cause src) s = .next u)
    ∧ (wakes → u.quiet.code = 2 → ∃ t, exec (.quietWake b cause src) s = .next t ∧ t.o 0x1406 0 = bits
        ∧ t.o 0x1407 0 = u.cnt.toNat ∧ t.quiet = { u.quiet with code := 3, d3Bar := u.pfD3 } ∧ t.wakeLow = u.perst)
    ∧ (wakes → u.quiet.code = 3 → exec (.quietWake b cause src) s
        = .next (if bitOf (u.o 0x1406 0) cause = true then u else u.setO 0x1406 0 (u.o 0x1406 0 + bits)))
    ∧ (wakes → u.quiet.code = 1 → ∃ t, exec (.quietWake b cause src) s = .next t ∧ t.o 0x1406 0 = bits + 32
        ∧ t.o 0x1407 0 = u.cnt.toNat ∧ t.quiet = { u.quiet with code := 0, issueStop := false } ∧ t.wakeLow = u.perst)
    ∧ (u.quiet.code ≠ 3 → exec (.wakeResume b) s = .next u)
    ∧ (u.quiet.code = 3 → exec (.wakeResume b) s
        = .next (each (fun i z => (z.upToReq z.now).request i) u.quiet.held (qui u { u.quiet with held := [] }).resume))
    ∧ exec (.selfRefreshExit b) s = .next (if u.quiet.ddrAsleep = true ∧ u.quiet.code = 0 then
        { u with chr := { u.chr with selfRefresh := false }, quiet := { u.quiet with ddrAsleep := false } } else u)
    ∧ (u.quiet.code ≠ 0 ∨ u.fw.regState ≠ 4 ∨ u.fw.regBackTo = 4 → exec (.regulatorResume b) s = .next u)
    ∧ (u.quiet.code = 0 → u.fw.regState = 4 → u.fw.regBackTo ≠ 4 → ∃ t, exec (.regulatorResume b) s = .next t
        ∧ t.quiet.engStopped = [] ∧ t.quiet.adv = none ∧ t.fw.regState = u.fw.regBackTo ∧ t.fw.regBackTo = 4)

/-- A lane frame while the receiver has no footing changes nothing; one whose TYPE, LEN or CRC does not hold only counts
TDM_CRC_ERRORS. Any other shows the partner present, gives its credit while the lanes are UP, and acts. A request, while the lanes
are UP: one whose LSEQ is the one expected has its effect and is acknowledged; an earlier one is acknowledged again and counted, a
later one answered by a NAK and counted, neither with an effect. A heartbeat's FLAGS are taken, a NAK of something sent
retransmits, an ACK ends its request and its forward, a HELLO that has seen ours brings the lanes UP. Mirror requests set the
entries they name and no other, and a sync replaces all. -/
def Obligations.TandemFrames : Prop :=
  ∀ (s : State) (b src len j : Nat) (h : LaneHdr) (sess tx rx rxs : Dw) (fl kind : Byte) (tag ho : BitVec 16) (keep : Bool)
      (bs body : List Byte) (e : MirrorEntry) (es : List MirrorEntry) (i : Instr) (f : State → State),
    let u := s.upTo b
    let tdm (z : State) (y : Tandem) : State := { z with tdm := y }
    let seen : State := tdm u { u.tdm with laneHeardAt := u.now, heardAt := u.now, present := true }
    let here : State := if u.tdm.present = true then seen else (seen.chrTandem 4 0).tandemChanged
    let met : State := if u.tdm.lanes = 2 then here.takeCredit h.credit else here
    let up (g : State → State) (z : State) : State := if z.tdm.lanes = 2 then g z else z
    let request : Prop := (src < 4096 ∧ 1152 ≤ src ∧ len < 256 ∧ bs.length ≤ 64 ∧ i = .forward b h src tag len keep bs
        ∧ kind = 0x10 ∧ body = beBytes 2 src ++ [0, 0] ++ beBytes 2 tag.toNat
            ++ [BitVec.ofNat 8 len, BitVec.ofNat 8 (b2n keep), 0, 0, 0, 0] ++ bs
        ∧ f = State.ringSource src tag len keep bs)
      ∨ (e.src < 4096 ∧ e.code < 8 ∧ i = .mirrorState b h e ∧ kind = 0x11 ∧ body = mirrorBytes e ∧ f = State.setIn e)
      ∨ (i = .syncBegin b h ∧ kind = 0x12 ∧ body = [] ∧ f = State.syncBegin)
      ∨ (es.length ≤ 19 ∧ (∀ e ∈ es, e.src < 4096 ∧ e.code < 8) ∧ i = .syncEntries b h es ∧ kind = 0x13
        ∧ body = [BitVec.ofNat 8 es.length, 0, 0, 0] ++ es.flatMap mirrorBytes ∧ f = each State.setIn es)
      ∨ (i = .syncEnd b h ∧ kind = 0x14 ∧ body = [] ∧ f = State.syncEnd)
      ∨ (i = .gasp b h rx ho ∧ kind = 0x15 ∧ body = beBytes 4 rx.toNat ++ beBytes 2 ho.toNat ++ [0, 0]
        ∧ f = fun z => z.gaspSeen z.tdm.pSession)
    let control : Prop := (i = .heartbeat b h sess fl ∧ kind = 0x02 ∧ body = beBytes 4 sess.toNat ++ [fl, 0, 0, 0]
        ∧ f = State.takeFlags fl)
      ∨ (i = .nak b h tx ∧ kind = 0x03 ∧ body = beBytes 4 tx.toNat
        ∧ f = up (fun z => if lseqBefore tx z.tdm.txNext = true then z.retransmit else z))
      ∨ (i = .ack b h ∧ kind = 0x90 ∧ body = [] ∧ f = up (fun z =>
          let y := tdm z { z.tdm with unacked := z.tdm.unacked.filter (fun r => r.lseq != h.lseq) }
          match y.dlv.find? (fun d => d.tgt.isNone && d.lseq == some h.lseq) with
          | none => y
          | some d =>
            let rtt := min (2 ^ 32 - 1) (y.now - d.issuedAt)
            let w := (y.setO 0x1920 d.grp rtt).setO 0x1921 d.grp (max rtt (y.o 0x1921 d.grp))
            (match d.info.buf with | none => w | some k => w.returnBuf k false).ended d))
      ∨ (i = .hello b h sess tx rx rxs fl ∧ kind = 0x01 ∧ body = helloBody sess tx rx rxs fl
        ∧ f = fun z => if z.tdm.lanes = 1 then
            let y := (tdm z { z.tdm with seen := true }).checkSenior (fl.getLsbD 1)
            let w := tdm y { y.tdm with pPromoted := fl.getLsbD 2 }
            if fl.getLsbD 0 = true then w.laneUp sess tx rx rxs else w
          else z)
    let fits : Prop := h.kind = kind ∨ laneKinds.contains h.kind = false
    let valid : Prop := h.kind = kind ∧ h.len ≤ 80 ∧ h.len = body.length
      ∧ crc32 (laneHead h.kind h.flags h.len h.lseq h.credit ++ body) = h.crc
    let deaf : Prop := u.tdm.lanes = 0 ∨ u.tdm.blockLock = false ∨ u.linkOn = false
    let answers (kind flags : Byte) (lseq : Dw) (body : List Byte) (z : State) : State :=
      z.emit (.lane (laneFrame kind flags lseq z.tdm.executed body))
    let done (z : State) : State := tdm z { z.tdm with expected := nextLseq z.tdm.expected, executed := z.tdm.executed + 1 }
    fits →
    (request ∨ control → deaf → exec i s = .next u)
    ∧ (request ∨ control → ¬ deaf → ¬ valid → exec i s = .next (u.bump 0x1940 0 1))
    ∧ (control → ¬ deaf → valid → exec i s = .next (f met).pump)
    ∧ (request → ¬ deaf → valid → met.tdm.lanes ≠ 2 → exec i s = .next met.pump)
    ∧ (request → ¬ deaf → valid → met.tdm.lanes = 2 →
        (h.lseq = met.tdm.expected → exec i s = .next (answers 0x90 1 h.lseq [] (done (f met))).pump)
        ∧ (lseqBefore h.lseq met.tdm.expected = true → h.lseq ≠ met.tdm.expected →
            exec i s = .next ((answers 0x90 1 h.lseq [] met).bump 0x1942 0 1).pump)
        ∧ (lseqBefore h.lseq met.tdm.expected = false → h.lseq ≠ met.tdm.expected →
            exec i s = .next ((answers 0x03 0 0 (beBytes 4 met.tdm.expected.toNat) met).bump 0x1943 0 1).pump))
    ∧ (u.tdm.frozenIn = false → ((u.setIn e).inAt j = if j = e.src then ⟨true, e.code, e.repend⟩ else u.inAt j))
    ∧ (u.tdm.frozenIn = true → u.setIn e = u)
    ∧ (u.syncBegin.inAt j = ⟨false, 0, false⟩ ∧ u.syncBegin.tdm.syncingIn = true ∧ u.syncBegin.tdm.frozenIn = false)
    ∧ (u.syncEnd.tdm.allIn = true ∧ u.syncEnd.tdm.syncingIn = false ∧ u.syncEnd.tdm.mirrorInValid = true
      ∧ u.syncEnd.tdm.promoted = false)

/-- Lanes retrain 80,000 beats after they went DOWN; HELLO is sent every HB_PERIOD in TRAINING once locked and HEARTBEAT while UP;
a silence is a loss of the lanes after four HB_PERIODs, and 20 µs without an ACK retransmits and the eighth time loses the lanes,
whose forwards are revoked. On the pair a frame waits until the pair has been idle for 32 µs and its back-off is over; a junior
that collides then stops, counts and waits one to eight slots, else the frame is sent; a received HEARTBEAT, WAKE or GASP frame
acts unless its SFD or CRC fails, which counts; PAIR_OK and TDM_MIRROR_RESYNCS act as the model chooses (log 150, 151). A
partner not heard for its misses is lost, which promotes as PROMOTE_MODE
permits; TANDEM_PROMOTE promotes unless promoted already. -/
def Obligations.TandemTimersAndPair : Prop :=
  ∀ (s : State) (b v k : Nat) (a : Dw) (collide silent mm : Bool) (p : PairFrame) (r : Sent) (rs : List Sent)
      (ws : List (Nat × Dw)) (i : Instr),
    let u := s.upTo b
    let q := s.atReq b
    let t := u.tdm
    let tdm (z : State) (y : Tandem) : State := { z with tdm := y }
    let on (z : State) : Prop := z.linkOn = true ∧ z.o 0x1900 0 = 1
    let sends (z : State) (kind : Byte) (body : List Byte) : State := z.emit (.lane (laneFrame kind 0 0 z.tdm.executed body))
    let overdue (last : Option Nat) (idx : Nat) : Prop := ∀ l, last = some l → l + u.o idx 0 ≤ u.now
    let ask (z : State) (kind : Nat) (arg : Dw) : State := (if z.tdm.pairWait.any (fun w => w.1 == kind) = true then z
      else tdm z { z.tdm with pairWait := z.tdm.pairWait ++ [(kind, arg)] }).pairGo collide
    let down : State := tdm u { t with lanes := 0, downAt := u.now, blockLock := false, seen := false, unacked := [],
                                       queue := [], dirty := [], overflow := false, syncing := false }
    let lost : State := if t.lanes = 0 then u else if t.lanes = 2 then
        (((each (State.forwardsDown mm) (List.range 8) down).chrTandem 2 0).dial 24 0).tandemChanged
      else down
    let missed : Prop := t.present = true ∧ t.heardAt + u.o 0x1904 0 * u.o 0x1903 0 ≤ u.now
    let gone : State := ((((tdm u { t with present := false, pairOk := false }).bump 0x1944 0 1).dial 26 0).chrTandem 3 0).tandemChanged
    let promoted (z : State) : State :=
      let w := ((((tdm z { z.tdm with promoted := true, frozenIn := true }).setO 0x190B 0 z.cnt.toNat).bump 0x1946 0 1).dial 28 0).tandemChanged
      if w.asleep = true then { w with quiet := { w.quiet with promote := true } } else w.replay
    let pairRow : Prop := (i = .pairHeartbeat b p.sfd p.session p.flags p.arg p.crc ∧ k = 1) ∨ (i = .pairWake b p.sfd p.session p.flags p.arg p.crc ∧ k = 2) ∨ (i = .pairGasp b p.sfd p.session p.flags p.arg p.crc ∧ k = 3)
    let holds (k : Nat) : Prop := p.sfd = 0xD5 ∧ crc16Bytes
      ([BitVec.ofNat 8 k, p.flags] ++ beBytes 4 p.session.toNat ++ beBytes 4 p.arg.toNat ++ [0]) = p.crc
    let used : State := tdm u { t with pairFrom := max t.pairFrom u.now }
    exec (.laneRetrain b) s = .next (if u.linkOn = true ∧ t.lanes = 0 ∧ u.o 0x1900 0 = 1 ∧ u.quiet.code = 0 ∧ t.downAt + 80000 ≤ u.now
      then tdm u { t with lanes := 1, blockLock := false, seen := false, helloAt := none, executed := 0 } else u)
    ∧ exec (.laneLoss b silent mm) s
        = .next (if silent = true ∧ ¬ (t.blockLock = true ∧ t.laneHeardAt + 4 * u.o 0x1902 0 ≤ u.now) then u else lost)
    ∧ exec (.laneBlockLock b) s = .next (if t.lanes = 1 then tdm u { t with blockLock := true, laneHeardAt := u.now } else u)
    ∧ (t.lanes = 1 → t.blockLock = true → overdue t.helloAt 0x1902 → exec (.helloSend b) s
        = .next (tdm (sends u 0x01 (helloBody t.session t.txNext (prevLseq t.expected) t.pSession
            (BitVec.ofNat 8 (b2n t.seen + 2 * b2n (u.straps.getLsbD 0) + 4 * b2n t.promoted)))) { t with helloAt := some u.now }))
    ∧ (¬ (t.lanes = 1 ∧ t.blockLock = true ∧ overdue t.helloAt 0x1902) → exec (.helloSend b) s = .next u)
    ∧ exec (.heartbeatSend b) s = .next (if t.lanes = 2 ∧ u.o 0x1900 0 = 1 ∧ t.hbAt + u.o 0x1902 0 ≤ u.now then
        tdm (sends u 0x02 (beBytes 4 t.session.toNat ++ [BitVec.ofNat 8 u.hbFlags, 0, 0, 0])) { t with hbAt := u.now }
      else u)
    ∧ (t.unacked = [] ∨ t.lanes ≠ 2 → exec (.retransmitTimeout b mm) s = .next u)
    ∧ (t.unacked = r :: rs → t.lanes = 2 → exec (.retransmitTimeout b mm) s
        = .next (if u.now < r.lastAt + 16000 then u else if 8 ≤ r.tries then lost else u.retransmit))
    ∧ exec (.mirrorResync b) s = .next (if t.overflow = true ∧ t.syncing = false ∧ t.mirrorWaits = 0 ∧ t.lanes = 2
        then u.startSync.bump 0x194B 0 1 else u)
    ∧ (on u → overdue t.pairAt 0x1903 → exec (.pairHeartbeatSend b collide) s
        = .next (ask (tdm u { t with pairAt := some u.now }) 1 0))
    ∧ (¬ (on u ∧ overdue t.pairAt 0x1903) → exec (.pairHeartbeatSend b collide) s = .next u)
    ∧ exec (.pairBackoffEnd b collide) s
        = .next (if u.linkOn = true ∧ u.o 0x1900 0 = 1 ∧ t.backoff ≠ none then u.pairGo collide else u)
    ∧ exec (.pairGaspCopy b collide) s = .next (if 0 < u.gasp.pairLeft ∧ u.linkOn = true ∧ u.o 0x1900 0 = 1
          ∧ (∀ w ∈ t.pairWait, w.1 ≠ 3) ∧ max (t.pairFrom + 25600) (t.backoff.getD 0) ≤ u.now then
        ask { u with gasp := { u.gasp with pairLeft := u.gasp.pairLeft - 1 } } 3 u.backup.resetCount else u)
    ∧ (∀ z : State,
      let y := z.tdm
      let idle := max (y.pairFrom + 25600) (y.backoff.getD 0)
      let yields : Prop := collide = true ∧ (z.straps.getLsbD 0 = false ∨ y.clash = true)
      (y.pairWait = [] ∨ z.now < idle → z.pairGo collide = z)
      ∧ (y.pairWait = (k, a) :: ws → idle ≤ z.now →
        (¬ yields → z.pairGo collide = { z.emit (.pair (pairFrame k (BitVec.ofNat 8 z.hbFlags) y.session a)) with
          tdm := { y with backoff := none, pairWait := ws, pairFrom := z.now + 102400 } })
        ∧ (yields → ∃ n, 1 ≤ n ∧ n ≤ 8
          ∧ (z.pairGo collide).tdm = { y with backoff := some (z.now + n * 128000), pairFrom := z.now + 1600 }
          ∧ (z.pairGo collide).sent = z.sent ∧ (z.pairGo collide).o 0x1945 0 = satAdd 32 (z.o 0x1945 0) 1)))
    ∧ (pairRow → u.linkOn = false → exec i s = .next u)
    ∧ (pairRow → u.linkOn = true → ¬ holds k → exec i s = .next (used.bump 0x1940 0 1))
    ∧ (u.linkOn = true →
        (holds 1 → exec (.pairHeartbeat b p.sfd p.session p.flags p.arg p.crc) s
          = .next ((tdm used { used.tdm with pairOk := true }).heard.takeFlags p.flags))
        ∧ (holds 2 → exec (.pairWake b p.sfd p.session p.flags p.arg p.crc) s = .next ((used.checkSenior (p.flags.getLsbD 0)).wake 2 0))
        ∧ (holds 3 → exec (.pairGasp b p.sfd p.session p.flags p.arg p.crc) s
          = .next (((used.checkSenior (p.flags.getLsbD 0)).gaspSeen p.session).wake 2 0)))
    ∧ (¬ missed → exec (.partnerLoss b) s = .next u)
    ∧ (missed → exec (.partnerLoss b) s
        = .next (if 1 ≤ gone.o 0x1901 0 ∧ gone.tdm.promoted = false then promoted gone else gone))
    ∧ (v = 1 → q.takes 0 0x1906 0 v 0 → exec (.tandemPromote b v) s
        = .next (if q.tdm.promoted = true then q.answer 8 else (promoted q).answer 0))
    ∧ (v = 1 → q.takes 0 0x1907 0 v 0 → (on q → exec (.tandemWake b v collide) s = .next ((ask q 2 0).answer 0))
        ∧ (¬ on q → exec (.tandemWake b v collide) s = .next (q.answer 0)))

/-- A clean word changes nothing; a corrected one counts and records SRAM_CORRECTED; an uncorrectable one records the fault of
its array and has its response. A fault takes the next FAULT_SEQ, fills FIRST or sets MULTI, takes WORST over a lower class
and counts for its class; of two faults of one beat the one of the lower code, then INFO, is numbered first, whichever is found
first. FAULT_CLEAR empties the slots of its SEQ before the faults of its beat take them. The writer writes the oldest queued record to the next
slot and nowhere else, advances SEQ, and CHR_READ_SEQ over a lapped record. A flush owes what is queued; a new ring starts at
SEQ 0; CHR_READ_SEQ takes a number in the ring; a cursor's write owes its window a refill. -/
def Obligations.FaultsAndChronograph : Prop :=
  ∀ (s : State) (b array a k v pr el e code info scope tgt : Nat) (err : ScrubErr) (r : ChrRec) (rest : List ChrRec) (x : Nat),
    let u := s.upTo b
    let q := s.atReq b
    let chr (z : State) (y : Chrono) : State := { z with chr := y }
    let after (y : Nat) : Nat := if (y + 1) % 2 ^ 32 = 0 then 1 else (y + 1) % 2 ^ 32
    let seq := after (u.o 0x1602 0)
    let cls := faultClass code
    let rec_ (sq code info : Nat) : FaultRec := ⟨BitVec.ofNat 32 sq, code, faultClass code, info, u.cnt⟩
    let outranked (r : FaultRec) (y : Option FaultRec) : Option FaultRec := match y with
      | none => some r
      | some w => if w.cls < r.cls then some r else some w
    let base := q.faultBase
    let ue (code info : Nat) (f : State → State) : Prop := exec (.scrub b array err a k) s = .next (f (u.fault code info))
    let hit (y : Option FaultRec) : Prop := v ≠ 0 ∧ ∃ f, y = some f ∧ f.seq.toNat = v
    let gone (y : Option FaultRec) : Option FaultRec := match y with
      | some f => if v ≠ 0 ∧ f.seq.toNat = v then none else some f
      | none => none
    let c := u.chr
    let blocked : Prop := c.queue = [] ∨ u.chrAvail = false ∨ c.selfRefresh = true ∨ (u.start.level = .l2w ∧ u.start.step < 8)
    let slot := c.nextSeq.toNat % u.slots
    let addr := u.slotAddr slot
    let lap : Prop := u.chrFill = u.slots
    let stale (n : Nat) (z : State) : State := if visibleTo n r.attr = true then
      { z with chrWin := smSet (fun _ => ChrWin.init) z.chrWin n { smGet (fun _ => ChrWin.init) z.chrWin n with stale := true } } else z
    let win (z : State) (n : Nat) : ChrWin := smGet (fun _ => ChrWin.init) z.chrWin n
    let cur : Dw := BitVec.ofNat 32 (u.o 0x1710 scope)
    let lapped : Prop := (cur - u.oldest).toInt < 0
    let from_ := if lapped then u.oldest else cur
    let got := if u.chrAvail = true then u.scan scope (c.nextSeq - from_).toInt.toNat 7 from_ else (from_, [])
    (scrubOk array err a k = true →
      (err = .clean → exec (.scrub b array err a k) s = .next u)
      ∧ (err = .corrected → exec (.scrub b array err a k) s = .next ((u.bump 0x1604 array 1).fault 0x01 array))
      ∧ (err = .copyBad → ue 0x02 (a * 65536 + k) id)
      ∧ (err = .uncorrectable → (array = 0 → ue 0x10 a (State.sourceUe a))
        ∧ (array = 1 → ue 0x30 (a * 65536 + k) (fun z => z.lateNow.configUe a k))
        ∧ (array = 2 → ue 0x11 (a * 256 + k) (State.slotUe a k)) ∧ (array = 3 → ue 0x12 a (State.payloadUe a))
        ∧ (array = 4 → ue 0x13 a (State.draftUe a)) ∧ (array = 5 → ue 0x14 a (State.mirrorUe a))
        ∧ (array = 6 → ue 0x23 0 (State.lockedUp false)) ∧ (array = 8 → ue 0x18 a (State.aerLog a true))
        ∧ (array = 7 → exec (.scrub b array err a k) s = .next ((u.queueUe a).fault 0x17 0))
        ∧ (array = 9 → ue 0x20 a (fun z => z.setTgt a { z.tgtAt a with rebuilding := true }))
        ∧ (array = 10 → ∃ t, exec (.scrub b array err a k) s = .next t ∧ t.obj = u.obj ∧ t.first = u.first ∧ t.eng = u.eng
          ∧ (∀ n, n ∈ t.badParity ↔ n = (if k < 512 then 512 * a + k else 0x10000 + 16 * a + (k - 512)) ∨ n ∈ u.badParity))))
    ∧ (u.faultB.list = [] → (u.fault code info).first = (if u.first = none then some (rec_ seq code info) else u.first)
      ∧ (u.fault code info).multi = (u.multi || u.first.isSome)
      ∧ (u.fault code info).worst = outranked (rec_ seq code info) u.worst
      ∧ (u.fault code info).o 0x1602 0 = seq
      ∧ (code < a ∨ code = a ∧ info < k → ∀ z : State, z = (u.fault code info).fault a k ∨ z = (u.fault a k).fault code info →
          z.first = (if u.first = none then some (rec_ seq code info) else u.first) ∧ z.multi = true
          ∧ z.worst = outranked (rec_ (after seq) a k) (outranked (rec_ seq code info) u.worst) ∧ z.o 0x1602 0 = after seq))
    ∧ (u.fault code info).o 0x1603 (cls - 1) = satAdd 32 (u.o 0x1603 (cls - 1)) 1
    ∧ (tgt < 1024 → exec (.rankRebuildEnd b tgt) s = .next (if (u.tgtAt tgt).rebuilding = true
        then (u.setTgt tgt { u.tgtAt tgt with rebuilding := false }).letGo else u))
    ∧ (v < 2 ^ 32 → q.takes 0 0x1601 0 v 0 → (¬ hit base.first ∧ ¬ hit base.worst → exec (.faultClear b v) s = .next (q.answer 6))
      ∧ (q.faultB.list = [] → base.first = q.first ∧ base.worst = q.worst ∧ base.multi = q.multi)
      ∧ (hit base.first ∨ hit base.worst → ∃ t, exec (.faultClear b v) s = .next t ∧ t.status = 0 ∧ t.obj = q.obj
        ∧ (q.faultB.list = [] → t.first = gone q.first ∧ t.worst = gone q.worst ∧ (hit q.first → t.multi = false)
          ∧ (¬ hit q.first → t.multi = q.multi))
        ∧ (q.faultB.list ≠ [] → t.first = (if gone base.first = none
          then (faultRun q.cnt base.list base).2.head? else base.first))))
    ∧ (blocked → exec (.chrWrite b) s = .next u)
    ∧ (c.queue = r :: rest → ¬ blocked → ∃ w : State, w.slotBytes slot = recordBytes c.ringId c.nextSeq r
        ∧ (x < addr ∨ addr + 32 ≤ x → memGet 0 w.dram x = memGet 0 u.dram x)
        ∧ w.chr.queue = rest ∧ w.chr.nextSeq = c.nextSeq + 1 ∧ (lap → w.chr.readSeq = c.readSeq + 1)
        ∧ (¬ lap → w.chr.readSeq = c.readSeq) ∧ w.src = u.src ∧ w.chrWin = u.chrWin
        ∧ w.o 0x1720 0 = satAdd 32 (u.o 0x1720 0) 1 ∧ (lap → w.o 0x1722 0 = satAdd 32 (u.o 0x1722 0) 1)
        ∧ exec (.chrWrite b) s = .next (loop stale 0 32 (if u.o 0x1702 0 ≠ 0 ∧ u.chrFill < u.o 0x1702 0
            ∧ u.o 0x1702 0 ≤ w.chrFill then w.raiseInt 13 else w).chrLost))
    ∧ (v = 1 → q.takes 0 0x170B 0 v 0 → exec (.chrFlush b v) s
        = .next ((chr q { q.chr with flushing := true, flushOwes := q.chr.queue.length }).answer 0))
    ∧ exec (.chrFlushDone b) s = .next (if c.flushing = true ∧ (c.flushOwes = 0 ∨ u.chrAvail = false)
        then chr u { c with flushing := false } else u)
    ∧ (v = 1 → q.takes 0 0x170A 0 v 0 → ∃ t, exec (.chrNewRing b v) s = .next t ∧ t.status = 0 ∧ t.chr.nextSeq = 0
        ∧ t.chr.readSeq = 0 ∧ t.chr.wrapped = false ∧ t.chr.rings = q.chr.rings + 1 ∧ t.dram = q.dram
        ∧ t.chr.ringId = field q.backup.resetCount.toNat 0 12 * 16 + q.chr.rings % 16)
    ∧ (v < 2 ^ 64 → q.takes 0 0x170C 0 v 0 → exec (.chrMark b v) s = .next ((q.chrPut 0x0A none (leBytes 8 v)).answer 0))
    ∧ (v < 2 ^ 32 → q.takes 0 0x1706 0 v 0 →
      (¬ (BitVec.ofNat 32 v - q.oldest).toNat ≤ (q.chr.nextSeq - q.oldest).toNat → exec (.chrReadSeqWrite b v) s = .next (q.answer 6))
      ∧ ((BitVec.ofNat 32 v - q.oldest).toNat ≤ (q.chr.nextSeq - q.oldest).toNat → ∃ t, exec (.chrReadSeqWrite b v) s = .next t
          ∧ t.status = 0 ∧ t.chr.readSeq.toNat = v ∧ t.chr.nextSeq = q.chr.nextSeq ∧ t.dram = q.dram ∧ t.obj = q.obj))
    ∧ (pr < 32 → el < 65536 → v < 2 ^ 32 → q.takes pr 0x1710 el v e → ∃ t, exec (.chrCursorWrite b pr el v) s = .next t
        ∧ t.status = 0 ∧ t.o 0x1710 e = v ∧ win t e = { win q e with stale := true } ∧ (x ≠ e → win t x = win q x))
    ∧ (scope < 32 → (win u scope).stale = false → exec (.chrWindowRefill b scope) s = .next u)
    ∧ (scope < 32 → (win u scope).stale = true → ∃ t, exec (.chrWindowRefill b scope) s = .next t
        ∧ win t scope = ⟨leBytes 4 got.1.toNat ++ leBytes 1 (got.2.length / 32)
            ++ leBytes 1 (b2n (decide ((cur - u.oldest).toInt < 0))) ++ [0, 0] ++ got.2, false⟩
        ∧ (x ≠ scope → win t x = win u x) ∧ t.obj = u.obj ∧ t.chr = u.chr)
end

