-- ==== Sys2Proof/Laws/Maps.lean ====
section
/-! SUPPORT. Sparse maps: a read after a write, and every operation keeps the canonical form. -/

namespace Sys2Proof.Machine

theorem smRising_mono {α : Type} {m : SMap α} {a b : Nat} (h : a ≤ b) (hm : smRising b m = true) : smRising a m = true := by
  cases m with
  | nil => rfl
  | cons e t => simp only [smRising, Bool.and_eq_true, decide_eq_true_eq] at *; exact ⟨by omega, hm.2⟩

theorem smGet_low {α : Type} (d : Nat → α) {m : SMap α} {lo k : Nat} (h : smRising lo m = true) (hk : k < lo) :
    smGet d m k = d k := by
  induction m generalizing lo with
  | nil => rfl
  | cons e t ih =>
    simp only [smRising, Bool.and_eq_true, decide_eq_true_eq] at h
    simp only [smGet]
    rw [if_neg (by omega)]
    exact ih h.2 (by omega)

theorem smRising_put {α : Type} {m : SMap α} {lo k : Nat} {v : α} (h : smRising lo m = true) (hk : lo ≤ k) :
    smRising lo (smPut m k v) = true := by
  induction m generalizing lo with
  | nil => simp [smPut, smRising, hk]
  | cons e t ih =>
    simp only [smRising, Bool.and_eq_true, decide_eq_true_eq] at h
    simp only [smPut]
    split
    · simp only [smRising, Bool.and_eq_true, decide_eq_true_eq]; exact ⟨hk, by omega, h.2⟩
    · split
      · subst_vars; simp only [smRising, Bool.and_eq_true, decide_eq_true_eq]; exact h
      · simp only [smRising, Bool.and_eq_true, decide_eq_true_eq]; exact ⟨h.1, ih h.2 (by omega)⟩

theorem smRising_erase {α : Type} {m : SMap α} {lo k : Nat} (h : smRising lo m = true) : smRising lo (smErase m k) = true := by
  induction m generalizing lo with
  | nil => rfl
  | cons e t ih =>
    simp only [smRising, Bool.and_eq_true, decide_eq_true_eq] at h
    simp only [smErase]
    split
    · exact smRising_mono (by omega) (ih h.2)
    · simp only [smRising, Bool.and_eq_true, decide_eq_true_eq]; exact ⟨h.1, ih h.2⟩

theorem smRising_filter {α : Type} {m : SMap α} {lo : Nat} (p : Nat × α → Bool) (h : smRising lo m = true) :
    smRising lo (m.filter p) = true := by
  induction m generalizing lo with
  | nil => rfl
  | cons e t ih =>
    simp only [smRising, Bool.and_eq_true, decide_eq_true_eq] at h
    simp only [List.filter_cons]
    split
    · simp only [smRising, Bool.and_eq_true, decide_eq_true_eq]; exact ⟨h.1, ih h.2⟩
    · exact smRising_mono (by omega) (ih h.2)

theorem smPut_all {α : Type} {m : SMap α} {k : Nat} {v : α} (p : Nat × α → Bool) (h : m.all p = true) (hv : p (k, v) = true) :
    (smPut m k v).all p = true := by
  induction m with
  | nil => simp [smPut, hv]
  | cons e t ih =>
    simp only [List.all_cons, Bool.and_eq_true] at h
    simp only [smPut]
    split
    · simp only [List.all_cons, Bool.and_eq_true]; exact ⟨hv, h⟩
    · split
      · simp only [List.all_cons, Bool.and_eq_true]; exact ⟨hv, h.2⟩
      · simp only [List.all_cons, Bool.and_eq_true]; exact ⟨h.1, ih h.2⟩

theorem smErase_all {α : Type} {m : SMap α} {k : Nat} (p : Nat × α → Bool) (h : m.all p = true) : (smErase m k).all p = true := by
  induction m with
  | nil => rfl
  | cons e t ih =>
    simp only [List.all_cons, Bool.and_eq_true] at h
    simp only [smErase]
    split
    · exact ih h.2
    · simp only [List.all_cons, Bool.and_eq_true]; exact ⟨h.1, ih h.2⟩

/-- A write keeps the canonical form. -/
theorem smWf_set {α : Type} [DecidableEq α] (d : Nat → α) {m : SMap α} {k : Nat} {v : α} (h : smWf d m = true) :
    smWf d (smSet d m k v) = true := by
  simp only [smWf, Bool.and_eq_true] at h
  simp only [smSet, smWf]
  split
  · simp only [Bool.and_eq_true]; exact ⟨smRising_erase h.1, smErase_all _ h.2⟩
  · simp only [Bool.and_eq_true]
    exact ⟨smRising_put h.1 (Nat.zero_le _), smPut_all _ h.2 (by simpa using ‹_›)⟩

/-- The empty map is in canonical form. -/
theorem smWf_nil {α : Type} [DecidableEq α] (d : Nat → α) : smWf d ([] : SMap α) = true := rfl

/-- Dropping entries keeps the canonical form. -/
theorem smWf_filter {α : Type} [DecidableEq α] (d : Nat → α) {m : SMap α} (p : Nat × α → Bool) (h : smWf d m = true) :
    smWf d (m.filter p) = true := by
  simp only [smWf, Bool.and_eq_true] at *
  refine ⟨smRising_filter p h.1, ?_⟩
  rw [List.all_eq_true] at *
  intro e he
  exact h.2 e (List.mem_filter.mp he).1

theorem smGet_put_same {α : Type} (d : Nat → α) (m : SMap α) (k : Nat) (v : α) : smGet d (smPut m k v) k = v := by
  induction m with
  | nil => simp [smPut, smGet]
  | cons e t ih =>
    simp only [smPut]
    split
    · simp [smGet]
    · split
      · simp [smGet]
      · simp only [smGet]; rw [if_neg (by omega)]; exact ih

theorem smGet_put_other {α : Type} (d : Nat → α) (m : SMap α) {k j : Nat} (v : α) (h : j ≠ k) :
    smGet d (smPut m k v) j = smGet d m j := by
  induction m with
  | nil => simp only [smPut, smGet]; rw [if_neg (by omega)]
  | cons e t ih =>
    simp only [smPut]
    split
    · simp only [smGet]; rw [if_neg (by omega)]
    · split
      · subst_vars; simp only [smGet]; rw [if_neg (by omega), if_neg (by omega)]
      · simp only [smGet, ih]

theorem smGet_erase_same {α : Type} (d : Nat → α) (m : SMap α) (k : Nat) : smGet d (smErase m k) k = d k := by
  induction m with
  | nil => rfl
  | cons e t ih =>
    simp only [smErase]
    split
    · exact ih
    · simp only [smGet]; rw [if_neg ‹_›]; exact ih

theorem smGet_erase_other {α : Type} (d : Nat → α) (m : SMap α) {k j : Nat} (h : j ≠ k) :
    smGet d (smErase m k) j = smGet d m j := by
  induction m with
  | nil => rfl
  | cons e t ih =>
    simp only [smErase]
    split
    · subst_vars; simp only [smGet]; rw [if_neg (by omega)]; exact ih
    · simp only [smGet, ih]

/-- A read after a write to the same key. -/
@[simp] theorem smGet_set_same {α : Type} [DecidableEq α] (d : Nat → α) (m : SMap α) (k : Nat) (v : α) :
    smGet d (smSet d m k v) k = v := by
  simp only [smSet]
  split
  · subst_vars; exact smGet_erase_same d m k
  · exact smGet_put_same d m k v

/-- A write leaves every other key alone. -/
theorem smGet_set_other {α : Type} [DecidableEq α] (d : Nat → α) (m : SMap α) {k j : Nat} (v : α) (h : j ≠ k) :
    smGet d (smSet d m k v) j = smGet d m j := by
  simp only [smSet]
  split
  · exact smGet_erase_other d m h
  · exact smGet_put_other d m v h

/-- Applying `f` along a list keeps what each application keeps. -/
theorem each_keep {α σ : Type} (P : σ → Prop) (f : α → σ → σ) (hf : ∀ a s, P s → P (f a s)) (l : List α) :
    ∀ s, P s → P (each f l s) := by
  induction l with
  | nil => intro s h; exact h
  | cons a t ih => intro s h; exact ih _ (hf a s h)

end Sys2Proof.Machine
end

