-- ==== Sys2Proof/Laws/State.lean ====
section
/-! SUPPORT. One lemma for each field and each named update of the state, and what each table reads after a write. -/

namespace Sys2Proof.Machine

open Sys2Proof

/-! ## `setO` -/

@[simp] theorem State.setO_pending (idx el v : Nat) (s : State) : (s.setO idx el v).pending = s.pending := rfl
@[simp] theorem State.setO_now (idx el v : Nat) (s : State) : (s.setO idx el v).now = s.now := rfl
@[simp] theorem State.setO_nextSw (idx el v : Nat) (s : State) : (s.setO idx el v).nextSw = s.nextSw := rfl
@[simp] theorem State.setO_status (idx el v : Nat) (s : State) : (s.setO idx el v).status = s.status := rfl
@[simp] theorem State.setO_time (idx el v : Nat) (s : State) : (s.setO idx el v).time = s.time := rfl
@[simp] theorem State.setO_drafts (idx el v : Nat) (s : State) : (s.setO idx el v).drafts = s.drafts := rfl
@[simp] theorem State.setO_marks (idx el v : Nat) (s : State) : (s.setO idx el v).marks = s.marks := rfl
@[simp] theorem State.setO_winds (idx el v : Nat) (s : State) : (s.setO idx el v).winds = s.winds := rfl
@[simp] theorem State.setO_src (idx el v : Nat) (s : State) : (s.setO idx el v).src = s.src := rfl
@[simp] theorem State.setO_filtered (idx el v : Nat) (s : State) : (s.setO idx el v).filtered = s.filtered := rfl
@[simp] theorem State.setO_bankA (idx el v : Nat) (s : State) : (s.setO idx el v).bankA = s.bankA := rfl
@[simp] theorem State.setO_bankB (idx el v : Nat) (s : State) : (s.setO idx el v).bankB = s.bankB := rfl
@[simp] theorem State.setO_sensing (idx el v : Nat) (s : State) : (s.setO idx el v).sensing = s.sensing := rfl
@[simp] theorem State.setO_late (idx el v : Nat) (s : State) : (s.setO idx el v).late = s.late := rfl
@[simp] theorem State.setO_row2 (idx el v : Nat) (s : State) : (s.setO idx el v).row2 = s.row2 := rfl
@[simp] theorem State.setO_nextObj (idx el v : Nat) (s : State) : (s.setO idx el v).nextObj = s.nextObj := rfl
@[simp] theorem State.setO_dlv (idx el v : Nat) (s : State) : (s.setO idx el v).dlv = s.dlv := rfl
@[simp] theorem State.setO_tgt (idx el v : Nat) (s : State) : (s.setO idx el v).tgt = s.tgt := rfl
@[simp] theorem State.setO_esc (idx el v : Nat) (s : State) : (s.setO idx el v).esc = s.esc := rfl
@[simp] theorem State.setO_heldOps (idx el v : Nat) (s : State) : (s.setO idx el v).heldOps = s.heldOps := rfl
@[simp] theorem State.setO_buf (idx el v : Nat) (s : State) : (s.setO idx el v).buf = s.buf := rfl
@[simp] theorem State.setO_poolNext (idx el v : Nat) (s : State) : (s.setO idx el v).poolNext = s.poolNext := rfl
@[simp] theorem State.setO_poolBack (idx el v : Nat) (s : State) : (s.setO idx el v).poolBack = s.poolBack := rfl
@[simp] theorem State.setO_doorbells (idx el v : Nat) (s : State) : (s.setO idx el v).doorbells = s.doorbells := rfl
@[simp] theorem State.setO_func (idx el v : Nat) (s : State) : (s.setO idx el v).func = s.func := rfl
@[simp] theorem State.setO_vfEnable (idx el v : Nat) (s : State) : (s.setO idx el v).vfEnable = s.vfEnable := rfl
@[simp] theorem State.setO_numVfs (idx el v : Nat) (s : State) : (s.setO idx el v).numVfs = s.numVfs := rfl
@[simp] theorem State.setO_pfD3 (idx el v : Nat) (s : State) : (s.setO idx el v).pfD3 = s.pfD3 := rfl
@[simp] theorem State.setO_pmeEn (idx el v : Nat) (s : State) : (s.setO idx el v).pmeEn = s.pmeEn := rfl
@[simp] theorem State.setO_perst (idx el v : Nat) (s : State) : (s.setO idx el v).perst = s.perst := rfl
@[simp] theorem State.setO_wakeLow (idx el v : Nat) (s : State) : (s.setO idx el v).wakeLow = s.wakeLow := rfl
@[simp] theorem State.setO_linkL0 (idx el v : Nat) (s : State) : (s.setO idx el v).linkL0 = s.linkL0 := rfl
@[simp] theorem State.setO_txWait (idx el v : Nat) (s : State) : (s.setO idx el v).txWait = s.txWait := rfl
@[simp] theorem State.setO_eng (idx el v : Nat) (s : State) : (s.setO idx el v).eng = s.eng := rfl
@[simp] theorem State.setO_badParity (idx el v : Nat) (s : State) : (s.setO idx el v).badParity = s.badParity := rfl
@[simp] theorem State.setO_start (idx el v : Nat) (s : State) : (s.setO idx el v).start = s.start := rfl
@[simp] theorem State.setO_resetReq (idx el v : Nat) (s : State) : (s.setO idx el v).resetReq = s.resetReq := rfl
@[simp] theorem State.setO_portDeferred (idx el v : Nat) (s : State) : (s.setO idx el v).portDeferred = s.portDeferred := rfl
@[simp] theorem State.setO_wdogFrom (idx el v : Nat) (s : State) : (s.setO idx el v).wdogFrom = s.wdogFrom := rfl
@[simp] theorem State.setO_blk (idx el v : Nat) (s : State) : (s.setO idx el v).blk = s.blk := rfl
@[simp] theorem State.setO_backup (idx el v : Nat) (s : State) : (s.setO idx el v).backup = s.backup := rfl
@[simp] theorem State.setO_crown (idx el v : Nat) (s : State) : (s.setO idx el v).crown = s.crown := rfl
@[simp] theorem State.setO_straps (idx el v : Nat) (s : State) : (s.setO idx el v).straps = s.straps := rfl
@[simp] theorem State.setO_fuseA (idx el v : Nat) (s : State) : (s.setO idx el v).fuseA = s.fuseA := rfl
@[simp] theorem State.setO_fuseB (idx el v : Nat) (s : State) : (s.setO idx el v).fuseB = s.fuseB := rfl
@[simp] theorem State.setO_shadow (idx el v : Nat) (s : State) : (s.setO idx el v).shadow = s.shadow := rfl
@[simp] theorem State.setO_jtag (idx el v : Nat) (s : State) : (s.setO idx el v).jtag = s.jtag := rfl
@[simp] theorem State.setO_flash (idx el v : Nat) (s : State) : (s.setO idx el v).flash = s.flash := rfl
@[simp] theorem State.setO_fw (idx el v : Nat) (s : State) : (s.setO idx el v).fw = s.fw := rfl
@[simp] theorem State.setO_supply (idx el v : Nat) (s : State) : (s.setO idx el v).supply = s.supply := rfl
@[simp] theorem State.setO_gasp (idx el v : Nat) (s : State) : (s.setO idx el v).gasp = s.gasp := rfl
@[simp] theorem State.setO_quiet (idx el v : Nat) (s : State) : (s.setO idx el v).quiet = s.quiet := rfl
@[simp] theorem State.setO_tdm (idx el v : Nat) (s : State) : (s.setO idx el v).tdm = s.tdm := rfl
@[simp] theorem State.setO_port (idx el v : Nat) (s : State) : (s.setO idx el v).port = s.port := rfl
@[simp] theorem State.setO_first (idx el v : Nat) (s : State) : (s.setO idx el v).first = s.first := rfl
@[simp] theorem State.setO_multi (idx el v : Nat) (s : State) : (s.setO idx el v).multi = s.multi := rfl
@[simp] theorem State.setO_worst (idx el v : Nat) (s : State) : (s.setO idx el v).worst = s.worst := rfl
@[simp] theorem State.setO_faultB (idx el v : Nat) (s : State) : (s.setO idx el v).faultB = s.faultB := rfl
@[simp] theorem State.setO_chr (idx el v : Nat) (s : State) : (s.setO idx el v).chr = s.chr := rfl
@[simp] theorem State.setO_dram (idx el v : Nat) (s : State) : (s.setO idx el v).dram = s.dram := rfl
@[simp] theorem State.setO_chrWin (idx el v : Nat) (s : State) : (s.setO idx el v).chrWin = s.chrWin := rfl
@[simp] theorem State.setO_sent (idx el v : Nat) (s : State) : (s.setO idx el v).sent = s.sent := rfl
@[simp] theorem State.setO_free (idx el v : Nat) (s : State) : (s.setO idx el v).free = s.free := rfl

/-! ## `setSrc` -/

@[simp] theorem State.setSrc_pending (n : Nat) (x : Source) (s : State) : (s.setSrc n x).pending = s.pending := rfl
@[simp] theorem State.setSrc_now (n : Nat) (x : Source) (s : State) : (s.setSrc n x).now = s.now := rfl
@[simp] theorem State.setSrc_nextSw (n : Nat) (x : Source) (s : State) : (s.setSrc n x).nextSw = s.nextSw := rfl
@[simp] theorem State.setSrc_status (n : Nat) (x : Source) (s : State) : (s.setSrc n x).status = s.status := rfl
@[simp] theorem State.setSrc_time (n : Nat) (x : Source) (s : State) : (s.setSrc n x).time = s.time := rfl
@[simp] theorem State.setSrc_obj (n : Nat) (x : Source) (s : State) : (s.setSrc n x).obj = s.obj := rfl
@[simp] theorem State.setSrc_drafts (n : Nat) (x : Source) (s : State) : (s.setSrc n x).drafts = s.drafts := rfl
@[simp] theorem State.setSrc_marks (n : Nat) (x : Source) (s : State) : (s.setSrc n x).marks = s.marks := rfl
@[simp] theorem State.setSrc_winds (n : Nat) (x : Source) (s : State) : (s.setSrc n x).winds = s.winds := rfl
@[simp] theorem State.setSrc_filtered (n : Nat) (x : Source) (s : State) : (s.setSrc n x).filtered = s.filtered := rfl
@[simp] theorem State.setSrc_bankA (n : Nat) (x : Source) (s : State) : (s.setSrc n x).bankA = s.bankA := rfl
@[simp] theorem State.setSrc_bankB (n : Nat) (x : Source) (s : State) : (s.setSrc n x).bankB = s.bankB := rfl
@[simp] theorem State.setSrc_sensing (n : Nat) (x : Source) (s : State) : (s.setSrc n x).sensing = s.sensing := rfl
@[simp] theorem State.setSrc_late (n : Nat) (x : Source) (s : State) : (s.setSrc n x).late = s.late := rfl
@[simp] theorem State.setSrc_row2 (n : Nat) (x : Source) (s : State) : (s.setSrc n x).row2 = s.row2 := rfl
@[simp] theorem State.setSrc_nextObj (n : Nat) (x : Source) (s : State) : (s.setSrc n x).nextObj = s.nextObj := rfl
@[simp] theorem State.setSrc_dlv (n : Nat) (x : Source) (s : State) : (s.setSrc n x).dlv = s.dlv := rfl
@[simp] theorem State.setSrc_tgt (n : Nat) (x : Source) (s : State) : (s.setSrc n x).tgt = s.tgt := rfl
@[simp] theorem State.setSrc_esc (n : Nat) (x : Source) (s : State) : (s.setSrc n x).esc = s.esc := rfl
@[simp] theorem State.setSrc_heldOps (n : Nat) (x : Source) (s : State) : (s.setSrc n x).heldOps = s.heldOps := rfl
@[simp] theorem State.setSrc_buf (n : Nat) (x : Source) (s : State) : (s.setSrc n x).buf = s.buf := rfl
@[simp] theorem State.setSrc_poolNext (n : Nat) (x : Source) (s : State) : (s.setSrc n x).poolNext = s.poolNext := rfl
@[simp] theorem State.setSrc_poolBack (n : Nat) (x : Source) (s : State) : (s.setSrc n x).poolBack = s.poolBack := rfl
@[simp] theorem State.setSrc_doorbells (n : Nat) (x : Source) (s : State) : (s.setSrc n x).doorbells = s.doorbells := rfl
@[simp] theorem State.setSrc_func (n : Nat) (x : Source) (s : State) : (s.setSrc n x).func = s.func := rfl
@[simp] theorem State.setSrc_vfEnable (n : Nat) (x : Source) (s : State) : (s.setSrc n x).vfEnable = s.vfEnable := rfl
@[simp] theorem State.setSrc_numVfs (n : Nat) (x : Source) (s : State) : (s.setSrc n x).numVfs = s.numVfs := rfl
@[simp] theorem State.setSrc_pfD3 (n : Nat) (x : Source) (s : State) : (s.setSrc n x).pfD3 = s.pfD3 := rfl
@[simp] theorem State.setSrc_pmeEn (n : Nat) (x : Source) (s : State) : (s.setSrc n x).pmeEn = s.pmeEn := rfl
@[simp] theorem State.setSrc_perst (n : Nat) (x : Source) (s : State) : (s.setSrc n x).perst = s.perst := rfl
@[simp] theorem State.setSrc_wakeLow (n : Nat) (x : Source) (s : State) : (s.setSrc n x).wakeLow = s.wakeLow := rfl
@[simp] theorem State.setSrc_linkL0 (n : Nat) (x : Source) (s : State) : (s.setSrc n x).linkL0 = s.linkL0 := rfl
@[simp] theorem State.setSrc_txWait (n : Nat) (x : Source) (s : State) : (s.setSrc n x).txWait = s.txWait := rfl
@[simp] theorem State.setSrc_eng (n : Nat) (x : Source) (s : State) : (s.setSrc n x).eng = s.eng := rfl
@[simp] theorem State.setSrc_badParity (n : Nat) (x : Source) (s : State) : (s.setSrc n x).badParity = s.badParity := rfl
@[simp] theorem State.setSrc_start (n : Nat) (x : Source) (s : State) : (s.setSrc n x).start = s.start := rfl
@[simp] theorem State.setSrc_resetReq (n : Nat) (x : Source) (s : State) : (s.setSrc n x).resetReq = s.resetReq := rfl
@[simp] theorem State.setSrc_portDeferred (n : Nat) (x : Source) (s : State) : (s.setSrc n x).portDeferred = s.portDeferred := rfl
@[simp] theorem State.setSrc_wdogFrom (n : Nat) (x : Source) (s : State) : (s.setSrc n x).wdogFrom = s.wdogFrom := rfl
@[simp] theorem State.setSrc_blk (n : Nat) (x : Source) (s : State) : (s.setSrc n x).blk = s.blk := rfl
@[simp] theorem State.setSrc_backup (n : Nat) (x : Source) (s : State) : (s.setSrc n x).backup = s.backup := rfl
@[simp] theorem State.setSrc_crown (n : Nat) (x : Source) (s : State) : (s.setSrc n x).crown = s.crown := rfl
@[simp] theorem State.setSrc_straps (n : Nat) (x : Source) (s : State) : (s.setSrc n x).straps = s.straps := rfl
@[simp] theorem State.setSrc_fuseA (n : Nat) (x : Source) (s : State) : (s.setSrc n x).fuseA = s.fuseA := rfl
@[simp] theorem State.setSrc_fuseB (n : Nat) (x : Source) (s : State) : (s.setSrc n x).fuseB = s.fuseB := rfl
@[simp] theorem State.setSrc_shadow (n : Nat) (x : Source) (s : State) : (s.setSrc n x).shadow = s.shadow := rfl
@[simp] theorem State.setSrc_jtag (n : Nat) (x : Source) (s : State) : (s.setSrc n x).jtag = s.jtag := rfl
@[simp] theorem State.setSrc_flash (n : Nat) (x : Source) (s : State) : (s.setSrc n x).flash = s.flash := rfl
@[simp] theorem State.setSrc_fw (n : Nat) (x : Source) (s : State) : (s.setSrc n x).fw = s.fw := rfl
@[simp] theorem State.setSrc_supply (n : Nat) (x : Source) (s : State) : (s.setSrc n x).supply = s.supply := rfl
@[simp] theorem State.setSrc_gasp (n : Nat) (x : Source) (s : State) : (s.setSrc n x).gasp = s.gasp := rfl
@[simp] theorem State.setSrc_quiet (n : Nat) (x : Source) (s : State) : (s.setSrc n x).quiet = s.quiet := rfl
@[simp] theorem State.setSrc_tdm (n : Nat) (x : Source) (s : State) : (s.setSrc n x).tdm = s.tdm := rfl
@[simp] theorem State.setSrc_port (n : Nat) (x : Source) (s : State) : (s.setSrc n x).port = s.port := rfl
@[simp] theorem State.setSrc_first (n : Nat) (x : Source) (s : State) : (s.setSrc n x).first = s.first := rfl
@[simp] theorem State.setSrc_multi (n : Nat) (x : Source) (s : State) : (s.setSrc n x).multi = s.multi := rfl
@[simp] theorem State.setSrc_worst (n : Nat) (x : Source) (s : State) : (s.setSrc n x).worst = s.worst := rfl
@[simp] theorem State.setSrc_faultB (n : Nat) (x : Source) (s : State) : (s.setSrc n x).faultB = s.faultB := rfl
@[simp] theorem State.setSrc_chr (n : Nat) (x : Source) (s : State) : (s.setSrc n x).chr = s.chr := rfl
@[simp] theorem State.setSrc_dram (n : Nat) (x : Source) (s : State) : (s.setSrc n x).dram = s.dram := rfl
@[simp] theorem State.setSrc_chrWin (n : Nat) (x : Source) (s : State) : (s.setSrc n x).chrWin = s.chrWin := rfl
@[simp] theorem State.setSrc_sent (n : Nat) (x : Source) (s : State) : (s.setSrc n x).sent = s.sent := rfl
@[simp] theorem State.setSrc_free (n : Nat) (x : Source) (s : State) : (s.setSrc n x).free = s.free := rfl

/-! ## `setTgt` -/

@[simp] theorem State.setTgt_pending (n : Nat) (x : Target) (s : State) : (s.setTgt n x).pending = s.pending := rfl
@[simp] theorem State.setTgt_now (n : Nat) (x : Target) (s : State) : (s.setTgt n x).now = s.now := rfl
@[simp] theorem State.setTgt_nextSw (n : Nat) (x : Target) (s : State) : (s.setTgt n x).nextSw = s.nextSw := rfl
@[simp] theorem State.setTgt_status (n : Nat) (x : Target) (s : State) : (s.setTgt n x).status = s.status := rfl
@[simp] theorem State.setTgt_time (n : Nat) (x : Target) (s : State) : (s.setTgt n x).time = s.time := rfl
@[simp] theorem State.setTgt_obj (n : Nat) (x : Target) (s : State) : (s.setTgt n x).obj = s.obj := rfl
@[simp] theorem State.setTgt_drafts (n : Nat) (x : Target) (s : State) : (s.setTgt n x).drafts = s.drafts := rfl
@[simp] theorem State.setTgt_marks (n : Nat) (x : Target) (s : State) : (s.setTgt n x).marks = s.marks := rfl
@[simp] theorem State.setTgt_winds (n : Nat) (x : Target) (s : State) : (s.setTgt n x).winds = s.winds := rfl
@[simp] theorem State.setTgt_src (n : Nat) (x : Target) (s : State) : (s.setTgt n x).src = s.src := rfl
@[simp] theorem State.setTgt_filtered (n : Nat) (x : Target) (s : State) : (s.setTgt n x).filtered = s.filtered := rfl
@[simp] theorem State.setTgt_bankA (n : Nat) (x : Target) (s : State) : (s.setTgt n x).bankA = s.bankA := rfl
@[simp] theorem State.setTgt_bankB (n : Nat) (x : Target) (s : State) : (s.setTgt n x).bankB = s.bankB := rfl
@[simp] theorem State.setTgt_sensing (n : Nat) (x : Target) (s : State) : (s.setTgt n x).sensing = s.sensing := rfl
@[simp] theorem State.setTgt_late (n : Nat) (x : Target) (s : State) : (s.setTgt n x).late = s.late := rfl
@[simp] theorem State.setTgt_row2 (n : Nat) (x : Target) (s : State) : (s.setTgt n x).row2 = s.row2 := rfl
@[simp] theorem State.setTgt_nextObj (n : Nat) (x : Target) (s : State) : (s.setTgt n x).nextObj = s.nextObj := rfl
@[simp] theorem State.setTgt_dlv (n : Nat) (x : Target) (s : State) : (s.setTgt n x).dlv = s.dlv := rfl
@[simp] theorem State.setTgt_esc (n : Nat) (x : Target) (s : State) : (s.setTgt n x).esc = s.esc := rfl
@[simp] theorem State.setTgt_heldOps (n : Nat) (x : Target) (s : State) : (s.setTgt n x).heldOps = s.heldOps := rfl
@[simp] theorem State.setTgt_buf (n : Nat) (x : Target) (s : State) : (s.setTgt n x).buf = s.buf := rfl
@[simp] theorem State.setTgt_poolNext (n : Nat) (x : Target) (s : State) : (s.setTgt n x).poolNext = s.poolNext := rfl
@[simp] theorem State.setTgt_poolBack (n : Nat) (x : Target) (s : State) : (s.setTgt n x).poolBack = s.poolBack := rfl
@[simp] theorem State.setTgt_doorbells (n : Nat) (x : Target) (s : State) : (s.setTgt n x).doorbells = s.doorbells := rfl
@[simp] theorem State.setTgt_func (n : Nat) (x : Target) (s : State) : (s.setTgt n x).func = s.func := rfl
@[simp] theorem State.setTgt_vfEnable (n : Nat) (x : Target) (s : State) : (s.setTgt n x).vfEnable = s.vfEnable := rfl
@[simp] theorem State.setTgt_numVfs (n : Nat) (x : Target) (s : State) : (s.setTgt n x).numVfs = s.numVfs := rfl
@[simp] theorem State.setTgt_pfD3 (n : Nat) (x : Target) (s : State) : (s.setTgt n x).pfD3 = s.pfD3 := rfl
@[simp] theorem State.setTgt_pmeEn (n : Nat) (x : Target) (s : State) : (s.setTgt n x).pmeEn = s.pmeEn := rfl
@[simp] theorem State.setTgt_perst (n : Nat) (x : Target) (s : State) : (s.setTgt n x).perst = s.perst := rfl
@[simp] theorem State.setTgt_wakeLow (n : Nat) (x : Target) (s : State) : (s.setTgt n x).wakeLow = s.wakeLow := rfl
@[simp] theorem State.setTgt_linkL0 (n : Nat) (x : Target) (s : State) : (s.setTgt n x).linkL0 = s.linkL0 := rfl
@[simp] theorem State.setTgt_txWait (n : Nat) (x : Target) (s : State) : (s.setTgt n x).txWait = s.txWait := rfl
@[simp] theorem State.setTgt_eng (n : Nat) (x : Target) (s : State) : (s.setTgt n x).eng = s.eng := rfl
@[simp] theorem State.setTgt_badParity (n : Nat) (x : Target) (s : State) : (s.setTgt n x).badParity = s.badParity := rfl
@[simp] theorem State.setTgt_start (n : Nat) (x : Target) (s : State) : (s.setTgt n x).start = s.start := rfl
@[simp] theorem State.setTgt_resetReq (n : Nat) (x : Target) (s : State) : (s.setTgt n x).resetReq = s.resetReq := rfl
@[simp] theorem State.setTgt_portDeferred (n : Nat) (x : Target) (s : State) : (s.setTgt n x).portDeferred = s.portDeferred := rfl
@[simp] theorem State.setTgt_wdogFrom (n : Nat) (x : Target) (s : State) : (s.setTgt n x).wdogFrom = s.wdogFrom := rfl
@[simp] theorem State.setTgt_blk (n : Nat) (x : Target) (s : State) : (s.setTgt n x).blk = s.blk := rfl
@[simp] theorem State.setTgt_backup (n : Nat) (x : Target) (s : State) : (s.setTgt n x).backup = s.backup := rfl
@[simp] theorem State.setTgt_crown (n : Nat) (x : Target) (s : State) : (s.setTgt n x).crown = s.crown := rfl
@[simp] theorem State.setTgt_straps (n : Nat) (x : Target) (s : State) : (s.setTgt n x).straps = s.straps := rfl
@[simp] theorem State.setTgt_fuseA (n : Nat) (x : Target) (s : State) : (s.setTgt n x).fuseA = s.fuseA := rfl
@[simp] theorem State.setTgt_fuseB (n : Nat) (x : Target) (s : State) : (s.setTgt n x).fuseB = s.fuseB := rfl
@[simp] theorem State.setTgt_shadow (n : Nat) (x : Target) (s : State) : (s.setTgt n x).shadow = s.shadow := rfl
@[simp] theorem State.setTgt_jtag (n : Nat) (x : Target) (s : State) : (s.setTgt n x).jtag = s.jtag := rfl
@[simp] theorem State.setTgt_flash (n : Nat) (x : Target) (s : State) : (s.setTgt n x).flash = s.flash := rfl
@[simp] theorem State.setTgt_fw (n : Nat) (x : Target) (s : State) : (s.setTgt n x).fw = s.fw := rfl
@[simp] theorem State.setTgt_supply (n : Nat) (x : Target) (s : State) : (s.setTgt n x).supply = s.supply := rfl
@[simp] theorem State.setTgt_gasp (n : Nat) (x : Target) (s : State) : (s.setTgt n x).gasp = s.gasp := rfl
@[simp] theorem State.setTgt_quiet (n : Nat) (x : Target) (s : State) : (s.setTgt n x).quiet = s.quiet := rfl
@[simp] theorem State.setTgt_tdm (n : Nat) (x : Target) (s : State) : (s.setTgt n x).tdm = s.tdm := rfl
@[simp] theorem State.setTgt_port (n : Nat) (x : Target) (s : State) : (s.setTgt n x).port = s.port := rfl
@[simp] theorem State.setTgt_first (n : Nat) (x : Target) (s : State) : (s.setTgt n x).first = s.first := rfl
@[simp] theorem State.setTgt_multi (n : Nat) (x : Target) (s : State) : (s.setTgt n x).multi = s.multi := rfl
@[simp] theorem State.setTgt_worst (n : Nat) (x : Target) (s : State) : (s.setTgt n x).worst = s.worst := rfl
@[simp] theorem State.setTgt_faultB (n : Nat) (x : Target) (s : State) : (s.setTgt n x).faultB = s.faultB := rfl
@[simp] theorem State.setTgt_chr (n : Nat) (x : Target) (s : State) : (s.setTgt n x).chr = s.chr := rfl
@[simp] theorem State.setTgt_dram (n : Nat) (x : Target) (s : State) : (s.setTgt n x).dram = s.dram := rfl
@[simp] theorem State.setTgt_chrWin (n : Nat) (x : Target) (s : State) : (s.setTgt n x).chrWin = s.chrWin := rfl
@[simp] theorem State.setTgt_sent (n : Nat) (x : Target) (s : State) : (s.setTgt n x).sent = s.sent := rfl
@[simp] theorem State.setTgt_free (n : Nat) (x : Target) (s : State) : (s.setTgt n x).free = s.free := rfl

/-! ## `setEsc` -/

@[simp] theorem State.setEsc_pending (n : Nat) (x : Esc) (s : State) : (s.setEsc n x).pending = s.pending := rfl
@[simp] theorem State.setEsc_now (n : Nat) (x : Esc) (s : State) : (s.setEsc n x).now = s.now := rfl
@[simp] theorem State.setEsc_nextSw (n : Nat) (x : Esc) (s : State) : (s.setEsc n x).nextSw = s.nextSw := rfl
@[simp] theorem State.setEsc_status (n : Nat) (x : Esc) (s : State) : (s.setEsc n x).status = s.status := rfl
@[simp] theorem State.setEsc_time (n : Nat) (x : Esc) (s : State) : (s.setEsc n x).time = s.time := rfl
@[simp] theorem State.setEsc_obj (n : Nat) (x : Esc) (s : State) : (s.setEsc n x).obj = s.obj := rfl
@[simp] theorem State.setEsc_drafts (n : Nat) (x : Esc) (s : State) : (s.setEsc n x).drafts = s.drafts := rfl
@[simp] theorem State.setEsc_marks (n : Nat) (x : Esc) (s : State) : (s.setEsc n x).marks = s.marks := rfl
@[simp] theorem State.setEsc_winds (n : Nat) (x : Esc) (s : State) : (s.setEsc n x).winds = s.winds := rfl
@[simp] theorem State.setEsc_src (n : Nat) (x : Esc) (s : State) : (s.setEsc n x).src = s.src := rfl
@[simp] theorem State.setEsc_filtered (n : Nat) (x : Esc) (s : State) : (s.setEsc n x).filtered = s.filtered := rfl
@[simp] theorem State.setEsc_bankA (n : Nat) (x : Esc) (s : State) : (s.setEsc n x).bankA = s.bankA := rfl
@[simp] theorem State.setEsc_bankB (n : Nat) (x : Esc) (s : State) : (s.setEsc n x).bankB = s.bankB := rfl
@[simp] theorem State.setEsc_sensing (n : Nat) (x : Esc) (s : State) : (s.setEsc n x).sensing = s.sensing := rfl
@[simp] theorem State.setEsc_late (n : Nat) (x : Esc) (s : State) : (s.setEsc n x).late = s.late := rfl
@[simp] theorem State.setEsc_row2 (n : Nat) (x : Esc) (s : State) : (s.setEsc n x).row2 = s.row2 := rfl
@[simp] theorem State.setEsc_nextObj (n : Nat) (x : Esc) (s : State) : (s.setEsc n x).nextObj = s.nextObj := rfl
@[simp] theorem State.setEsc_dlv (n : Nat) (x : Esc) (s : State) : (s.setEsc n x).dlv = s.dlv := rfl
@[simp] theorem State.setEsc_tgt (n : Nat) (x : Esc) (s : State) : (s.setEsc n x).tgt = s.tgt := rfl
@[simp] theorem State.setEsc_heldOps (n : Nat) (x : Esc) (s : State) : (s.setEsc n x).heldOps = s.heldOps := rfl
@[simp] theorem State.setEsc_buf (n : Nat) (x : Esc) (s : State) : (s.setEsc n x).buf = s.buf := rfl
@[simp] theorem State.setEsc_poolNext (n : Nat) (x : Esc) (s : State) : (s.setEsc n x).poolNext = s.poolNext := rfl
@[simp] theorem State.setEsc_poolBack (n : Nat) (x : Esc) (s : State) : (s.setEsc n x).poolBack = s.poolBack := rfl
@[simp] theorem State.setEsc_doorbells (n : Nat) (x : Esc) (s : State) : (s.setEsc n x).doorbells = s.doorbells := rfl
@[simp] theorem State.setEsc_func (n : Nat) (x : Esc) (s : State) : (s.setEsc n x).func = s.func := rfl
@[simp] theorem State.setEsc_vfEnable (n : Nat) (x : Esc) (s : State) : (s.setEsc n x).vfEnable = s.vfEnable := rfl
@[simp] theorem State.setEsc_numVfs (n : Nat) (x : Esc) (s : State) : (s.setEsc n x).numVfs = s.numVfs := rfl
@[simp] theorem State.setEsc_pfD3 (n : Nat) (x : Esc) (s : State) : (s.setEsc n x).pfD3 = s.pfD3 := rfl
@[simp] theorem State.setEsc_pmeEn (n : Nat) (x : Esc) (s : State) : (s.setEsc n x).pmeEn = s.pmeEn := rfl
@[simp] theorem State.setEsc_perst (n : Nat) (x : Esc) (s : State) : (s.setEsc n x).perst = s.perst := rfl
@[simp] theorem State.setEsc_wakeLow (n : Nat) (x : Esc) (s : State) : (s.setEsc n x).wakeLow = s.wakeLow := rfl
@[simp] theorem State.setEsc_linkL0 (n : Nat) (x : Esc) (s : State) : (s.setEsc n x).linkL0 = s.linkL0 := rfl
@[simp] theorem State.setEsc_txWait (n : Nat) (x : Esc) (s : State) : (s.setEsc n x).txWait = s.txWait := rfl
@[simp] theorem State.setEsc_eng (n : Nat) (x : Esc) (s : State) : (s.setEsc n x).eng = s.eng := rfl
@[simp] theorem State.setEsc_badParity (n : Nat) (x : Esc) (s : State) : (s.setEsc n x).badParity = s.badParity := rfl
@[simp] theorem State.setEsc_start (n : Nat) (x : Esc) (s : State) : (s.setEsc n x).start = s.start := rfl
@[simp] theorem State.setEsc_resetReq (n : Nat) (x : Esc) (s : State) : (s.setEsc n x).resetReq = s.resetReq := rfl
@[simp] theorem State.setEsc_portDeferred (n : Nat) (x : Esc) (s : State) : (s.setEsc n x).portDeferred = s.portDeferred := rfl
@[simp] theorem State.setEsc_wdogFrom (n : Nat) (x : Esc) (s : State) : (s.setEsc n x).wdogFrom = s.wdogFrom := rfl
@[simp] theorem State.setEsc_blk (n : Nat) (x : Esc) (s : State) : (s.setEsc n x).blk = s.blk := rfl
@[simp] theorem State.setEsc_backup (n : Nat) (x : Esc) (s : State) : (s.setEsc n x).backup = s.backup := rfl
@[simp] theorem State.setEsc_crown (n : Nat) (x : Esc) (s : State) : (s.setEsc n x).crown = s.crown := rfl
@[simp] theorem State.setEsc_straps (n : Nat) (x : Esc) (s : State) : (s.setEsc n x).straps = s.straps := rfl
@[simp] theorem State.setEsc_fuseA (n : Nat) (x : Esc) (s : State) : (s.setEsc n x).fuseA = s.fuseA := rfl
@[simp] theorem State.setEsc_fuseB (n : Nat) (x : Esc) (s : State) : (s.setEsc n x).fuseB = s.fuseB := rfl
@[simp] theorem State.setEsc_shadow (n : Nat) (x : Esc) (s : State) : (s.setEsc n x).shadow = s.shadow := rfl
@[simp] theorem State.setEsc_jtag (n : Nat) (x : Esc) (s : State) : (s.setEsc n x).jtag = s.jtag := rfl
@[simp] theorem State.setEsc_flash (n : Nat) (x : Esc) (s : State) : (s.setEsc n x).flash = s.flash := rfl
@[simp] theorem State.setEsc_fw (n : Nat) (x : Esc) (s : State) : (s.setEsc n x).fw = s.fw := rfl
@[simp] theorem State.setEsc_supply (n : Nat) (x : Esc) (s : State) : (s.setEsc n x).supply = s.supply := rfl
@[simp] theorem State.setEsc_gasp (n : Nat) (x : Esc) (s : State) : (s.setEsc n x).gasp = s.gasp := rfl
@[simp] theorem State.setEsc_quiet (n : Nat) (x : Esc) (s : State) : (s.setEsc n x).quiet = s.quiet := rfl
@[simp] theorem State.setEsc_tdm (n : Nat) (x : Esc) (s : State) : (s.setEsc n x).tdm = s.tdm := rfl
@[simp] theorem State.setEsc_port (n : Nat) (x : Esc) (s : State) : (s.setEsc n x).port = s.port := rfl
@[simp] theorem State.setEsc_first (n : Nat) (x : Esc) (s : State) : (s.setEsc n x).first = s.first := rfl
@[simp] theorem State.setEsc_multi (n : Nat) (x : Esc) (s : State) : (s.setEsc n x).multi = s.multi := rfl
@[simp] theorem State.setEsc_worst (n : Nat) (x : Esc) (s : State) : (s.setEsc n x).worst = s.worst := rfl
@[simp] theorem State.setEsc_faultB (n : Nat) (x : Esc) (s : State) : (s.setEsc n x).faultB = s.faultB := rfl
@[simp] theorem State.setEsc_chr (n : Nat) (x : Esc) (s : State) : (s.setEsc n x).chr = s.chr := rfl
@[simp] theorem State.setEsc_dram (n : Nat) (x : Esc) (s : State) : (s.setEsc n x).dram = s.dram := rfl
@[simp] theorem State.setEsc_chrWin (n : Nat) (x : Esc) (s : State) : (s.setEsc n x).chrWin = s.chrWin := rfl
@[simp] theorem State.setEsc_sent (n : Nat) (x : Esc) (s : State) : (s.setEsc n x).sent = s.sent := rfl
@[simp] theorem State.setEsc_free (n : Nat) (x : Esc) (s : State) : (s.setEsc n x).free = s.free := rfl

/-! ## `setBuf` -/

@[simp] theorem State.setBuf_pending (n : Nat) (x : Buf) (s : State) : (s.setBuf n x).pending = s.pending := rfl
@[simp] theorem State.setBuf_now (n : Nat) (x : Buf) (s : State) : (s.setBuf n x).now = s.now := rfl
@[simp] theorem State.setBuf_nextSw (n : Nat) (x : Buf) (s : State) : (s.setBuf n x).nextSw = s.nextSw := rfl
@[simp] theorem State.setBuf_status (n : Nat) (x : Buf) (s : State) : (s.setBuf n x).status = s.status := rfl
@[simp] theorem State.setBuf_time (n : Nat) (x : Buf) (s : State) : (s.setBuf n x).time = s.time := rfl
@[simp] theorem State.setBuf_obj (n : Nat) (x : Buf) (s : State) : (s.setBuf n x).obj = s.obj := rfl
@[simp] theorem State.setBuf_drafts (n : Nat) (x : Buf) (s : State) : (s.setBuf n x).drafts = s.drafts := rfl
@[simp] theorem State.setBuf_marks (n : Nat) (x : Buf) (s : State) : (s.setBuf n x).marks = s.marks := rfl
@[simp] theorem State.setBuf_winds (n : Nat) (x : Buf) (s : State) : (s.setBuf n x).winds = s.winds := rfl
@[simp] theorem State.setBuf_src (n : Nat) (x : Buf) (s : State) : (s.setBuf n x).src = s.src := rfl
@[simp] theorem State.setBuf_filtered (n : Nat) (x : Buf) (s : State) : (s.setBuf n x).filtered = s.filtered := rfl
@[simp] theorem State.setBuf_bankA (n : Nat) (x : Buf) (s : State) : (s.setBuf n x).bankA = s.bankA := rfl
@[simp] theorem State.setBuf_bankB (n : Nat) (x : Buf) (s : State) : (s.setBuf n x).bankB = s.bankB := rfl
@[simp] theorem State.setBuf_sensing (n : Nat) (x : Buf) (s : State) : (s.setBuf n x).sensing = s.sensing := rfl
@[simp] theorem State.setBuf_late (n : Nat) (x : Buf) (s : State) : (s.setBuf n x).late = s.late := rfl
@[simp] theorem State.setBuf_row2 (n : Nat) (x : Buf) (s : State) : (s.setBuf n x).row2 = s.row2 := rfl
@[simp] theorem State.setBuf_nextObj (n : Nat) (x : Buf) (s : State) : (s.setBuf n x).nextObj = s.nextObj := rfl
@[simp] theorem State.setBuf_dlv (n : Nat) (x : Buf) (s : State) : (s.setBuf n x).dlv = s.dlv := rfl
@[simp] theorem State.setBuf_tgt (n : Nat) (x : Buf) (s : State) : (s.setBuf n x).tgt = s.tgt := rfl
@[simp] theorem State.setBuf_esc (n : Nat) (x : Buf) (s : State) : (s.setBuf n x).esc = s.esc := rfl
@[simp] theorem State.setBuf_heldOps (n : Nat) (x : Buf) (s : State) : (s.setBuf n x).heldOps = s.heldOps := rfl
@[simp] theorem State.setBuf_poolNext (n : Nat) (x : Buf) (s : State) : (s.setBuf n x).poolNext = s.poolNext := rfl
@[simp] theorem State.setBuf_poolBack (n : Nat) (x : Buf) (s : State) : (s.setBuf n x).poolBack = s.poolBack := rfl
@[simp] theorem State.setBuf_doorbells (n : Nat) (x : Buf) (s : State) : (s.setBuf n x).doorbells = s.doorbells := rfl
@[simp] theorem State.setBuf_func (n : Nat) (x : Buf) (s : State) : (s.setBuf n x).func = s.func := rfl
@[simp] theorem State.setBuf_vfEnable (n : Nat) (x : Buf) (s : State) : (s.setBuf n x).vfEnable = s.vfEnable := rfl
@[simp] theorem State.setBuf_numVfs (n : Nat) (x : Buf) (s : State) : (s.setBuf n x).numVfs = s.numVfs := rfl
@[simp] theorem State.setBuf_pfD3 (n : Nat) (x : Buf) (s : State) : (s.setBuf n x).pfD3 = s.pfD3 := rfl
@[simp] theorem State.setBuf_pmeEn (n : Nat) (x : Buf) (s : State) : (s.setBuf n x).pmeEn = s.pmeEn := rfl
@[simp] theorem State.setBuf_perst (n : Nat) (x : Buf) (s : State) : (s.setBuf n x).perst = s.perst := rfl
@[simp] theorem State.setBuf_wakeLow (n : Nat) (x : Buf) (s : State) : (s.setBuf n x).wakeLow = s.wakeLow := rfl
@[simp] theorem State.setBuf_linkL0 (n : Nat) (x : Buf) (s : State) : (s.setBuf n x).linkL0 = s.linkL0 := rfl
@[simp] theorem State.setBuf_txWait (n : Nat) (x : Buf) (s : State) : (s.setBuf n x).txWait = s.txWait := rfl
@[simp] theorem State.setBuf_eng (n : Nat) (x : Buf) (s : State) : (s.setBuf n x).eng = s.eng := rfl
@[simp] theorem State.setBuf_badParity (n : Nat) (x : Buf) (s : State) : (s.setBuf n x).badParity = s.badParity := rfl
@[simp] theorem State.setBuf_start (n : Nat) (x : Buf) (s : State) : (s.setBuf n x).start = s.start := rfl
@[simp] theorem State.setBuf_resetReq (n : Nat) (x : Buf) (s : State) : (s.setBuf n x).resetReq = s.resetReq := rfl
@[simp] theorem State.setBuf_portDeferred (n : Nat) (x : Buf) (s : State) : (s.setBuf n x).portDeferred = s.portDeferred := rfl
@[simp] theorem State.setBuf_wdogFrom (n : Nat) (x : Buf) (s : State) : (s.setBuf n x).wdogFrom = s.wdogFrom := rfl
@[simp] theorem State.setBuf_blk (n : Nat) (x : Buf) (s : State) : (s.setBuf n x).blk = s.blk := rfl
@[simp] theorem State.setBuf_backup (n : Nat) (x : Buf) (s : State) : (s.setBuf n x).backup = s.backup := rfl
@[simp] theorem State.setBuf_crown (n : Nat) (x : Buf) (s : State) : (s.setBuf n x).crown = s.crown := rfl
@[simp] theorem State.setBuf_straps (n : Nat) (x : Buf) (s : State) : (s.setBuf n x).straps = s.straps := rfl
@[simp] theorem State.setBuf_fuseA (n : Nat) (x : Buf) (s : State) : (s.setBuf n x).fuseA = s.fuseA := rfl
@[simp] theorem State.setBuf_fuseB (n : Nat) (x : Buf) (s : State) : (s.setBuf n x).fuseB = s.fuseB := rfl
@[simp] theorem State.setBuf_shadow (n : Nat) (x : Buf) (s : State) : (s.setBuf n x).shadow = s.shadow := rfl
@[simp] theorem State.setBuf_jtag (n : Nat) (x : Buf) (s : State) : (s.setBuf n x).jtag = s.jtag := rfl
@[simp] theorem State.setBuf_flash (n : Nat) (x : Buf) (s : State) : (s.setBuf n x).flash = s.flash := rfl
@[simp] theorem State.setBuf_fw (n : Nat) (x : Buf) (s : State) : (s.setBuf n x).fw = s.fw := rfl
@[simp] theorem State.setBuf_supply (n : Nat) (x : Buf) (s : State) : (s.setBuf n x).supply = s.supply := rfl
@[simp] theorem State.setBuf_gasp (n : Nat) (x : Buf) (s : State) : (s.setBuf n x).gasp = s.gasp := rfl
@[simp] theorem State.setBuf_quiet (n : Nat) (x : Buf) (s : State) : (s.setBuf n x).quiet = s.quiet := rfl
@[simp] theorem State.setBuf_tdm (n : Nat) (x : Buf) (s : State) : (s.setBuf n x).tdm = s.tdm := rfl
@[simp] theorem State.setBuf_port (n : Nat) (x : Buf) (s : State) : (s.setBuf n x).port = s.port := rfl
@[simp] theorem State.setBuf_first (n : Nat) (x : Buf) (s : State) : (s.setBuf n x).first = s.first := rfl
@[simp] theorem State.setBuf_multi (n : Nat) (x : Buf) (s : State) : (s.setBuf n x).multi = s.multi := rfl
@[simp] theorem State.setBuf_worst (n : Nat) (x : Buf) (s : State) : (s.setBuf n x).worst = s.worst := rfl
@[simp] theorem State.setBuf_faultB (n : Nat) (x : Buf) (s : State) : (s.setBuf n x).faultB = s.faultB := rfl
@[simp] theorem State.setBuf_chr (n : Nat) (x : Buf) (s : State) : (s.setBuf n x).chr = s.chr := rfl
@[simp] theorem State.setBuf_dram (n : Nat) (x : Buf) (s : State) : (s.setBuf n x).dram = s.dram := rfl
@[simp] theorem State.setBuf_chrWin (n : Nat) (x : Buf) (s : State) : (s.setBuf n x).chrWin = s.chrWin := rfl
@[simp] theorem State.setBuf_sent (n : Nat) (x : Buf) (s : State) : (s.setBuf n x).sent = s.sent := rfl
@[simp] theorem State.setBuf_free (n : Nat) (x : Buf) (s : State) : (s.setBuf n x).free = s.free := rfl

/-! ## `setFn` -/

@[simp] theorem State.setFn_pending (n : Nat) (x : Func) (s : State) : (s.setFn n x).pending = s.pending := rfl
@[simp] theorem State.setFn_now (n : Nat) (x : Func) (s : State) : (s.setFn n x).now = s.now := rfl
@[simp] theorem State.setFn_nextSw (n : Nat) (x : Func) (s : State) : (s.setFn n x).nextSw = s.nextSw := rfl
@[simp] theorem State.setFn_status (n : Nat) (x : Func) (s : State) : (s.setFn n x).status = s.status := rfl
@[simp] theorem State.setFn_time (n : Nat) (x : Func) (s : State) : (s.setFn n x).time = s.time := rfl
@[simp] theorem State.setFn_obj (n : Nat) (x : Func) (s : State) : (s.setFn n x).obj = s.obj := rfl
@[simp] theorem State.setFn_drafts (n : Nat) (x : Func) (s : State) : (s.setFn n x).drafts = s.drafts := rfl
@[simp] theorem State.setFn_marks (n : Nat) (x : Func) (s : State) : (s.setFn n x).marks = s.marks := rfl
@[simp] theorem State.setFn_winds (n : Nat) (x : Func) (s : State) : (s.setFn n x).winds = s.winds := rfl
@[simp] theorem State.setFn_src (n : Nat) (x : Func) (s : State) : (s.setFn n x).src = s.src := rfl
@[simp] theorem State.setFn_filtered (n : Nat) (x : Func) (s : State) : (s.setFn n x).filtered = s.filtered := rfl
@[simp] theorem State.setFn_bankA (n : Nat) (x : Func) (s : State) : (s.setFn n x).bankA = s.bankA := rfl
@[simp] theorem State.setFn_bankB (n : Nat) (x : Func) (s : State) : (s.setFn n x).bankB = s.bankB := rfl
@[simp] theorem State.setFn_sensing (n : Nat) (x : Func) (s : State) : (s.setFn n x).sensing = s.sensing := rfl
@[simp] theorem State.setFn_late (n : Nat) (x : Func) (s : State) : (s.setFn n x).late = s.late := rfl
@[simp] theorem State.setFn_row2 (n : Nat) (x : Func) (s : State) : (s.setFn n x).row2 = s.row2 := rfl
@[simp] theorem State.setFn_nextObj (n : Nat) (x : Func) (s : State) : (s.setFn n x).nextObj = s.nextObj := rfl
@[simp] theorem State.setFn_dlv (n : Nat) (x : Func) (s : State) : (s.setFn n x).dlv = s.dlv := rfl
@[simp] theorem State.setFn_tgt (n : Nat) (x : Func) (s : State) : (s.setFn n x).tgt = s.tgt := rfl
@[simp] theorem State.setFn_esc (n : Nat) (x : Func) (s : State) : (s.setFn n x).esc = s.esc := rfl
@[simp] theorem State.setFn_heldOps (n : Nat) (x : Func) (s : State) : (s.setFn n x).heldOps = s.heldOps := rfl
@[simp] theorem State.setFn_buf (n : Nat) (x : Func) (s : State) : (s.setFn n x).buf = s.buf := rfl
@[simp] theorem State.setFn_poolNext (n : Nat) (x : Func) (s : State) : (s.setFn n x).poolNext = s.poolNext := rfl
@[simp] theorem State.setFn_poolBack (n : Nat) (x : Func) (s : State) : (s.setFn n x).poolBack = s.poolBack := rfl
@[simp] theorem State.setFn_doorbells (n : Nat) (x : Func) (s : State) : (s.setFn n x).doorbells = s.doorbells := rfl
@[simp] theorem State.setFn_vfEnable (n : Nat) (x : Func) (s : State) : (s.setFn n x).vfEnable = s.vfEnable := rfl
@[simp] theorem State.setFn_numVfs (n : Nat) (x : Func) (s : State) : (s.setFn n x).numVfs = s.numVfs := rfl
@[simp] theorem State.setFn_pfD3 (n : Nat) (x : Func) (s : State) : (s.setFn n x).pfD3 = s.pfD3 := rfl
@[simp] theorem State.setFn_pmeEn (n : Nat) (x : Func) (s : State) : (s.setFn n x).pmeEn = s.pmeEn := rfl
@[simp] theorem State.setFn_perst (n : Nat) (x : Func) (s : State) : (s.setFn n x).perst = s.perst := rfl
@[simp] theorem State.setFn_wakeLow (n : Nat) (x : Func) (s : State) : (s.setFn n x).wakeLow = s.wakeLow := rfl
@[simp] theorem State.setFn_linkL0 (n : Nat) (x : Func) (s : State) : (s.setFn n x).linkL0 = s.linkL0 := rfl
@[simp] theorem State.setFn_txWait (n : Nat) (x : Func) (s : State) : (s.setFn n x).txWait = s.txWait := rfl
@[simp] theorem State.setFn_eng (n : Nat) (x : Func) (s : State) : (s.setFn n x).eng = s.eng := rfl
@[simp] theorem State.setFn_badParity (n : Nat) (x : Func) (s : State) : (s.setFn n x).badParity = s.badParity := rfl
@[simp] theorem State.setFn_start (n : Nat) (x : Func) (s : State) : (s.setFn n x).start = s.start := rfl
@[simp] theorem State.setFn_resetReq (n : Nat) (x : Func) (s : State) : (s.setFn n x).resetReq = s.resetReq := rfl
@[simp] theorem State.setFn_portDeferred (n : Nat) (x : Func) (s : State) : (s.setFn n x).portDeferred = s.portDeferred := rfl
@[simp] theorem State.setFn_wdogFrom (n : Nat) (x : Func) (s : State) : (s.setFn n x).wdogFrom = s.wdogFrom := rfl
@[simp] theorem State.setFn_blk (n : Nat) (x : Func) (s : State) : (s.setFn n x).blk = s.blk := rfl
@[simp] theorem State.setFn_backup (n : Nat) (x : Func) (s : State) : (s.setFn n x).backup = s.backup := rfl
@[simp] theorem State.setFn_crown (n : Nat) (x : Func) (s : State) : (s.setFn n x).crown = s.crown := rfl
@[simp] theorem State.setFn_straps (n : Nat) (x : Func) (s : State) : (s.setFn n x).straps = s.straps := rfl
@[simp] theorem State.setFn_fuseA (n : Nat) (x : Func) (s : State) : (s.setFn n x).fuseA = s.fuseA := rfl
@[simp] theorem State.setFn_fuseB (n : Nat) (x : Func) (s : State) : (s.setFn n x).fuseB = s.fuseB := rfl
@[simp] theorem State.setFn_shadow (n : Nat) (x : Func) (s : State) : (s.setFn n x).shadow = s.shadow := rfl
@[simp] theorem State.setFn_jtag (n : Nat) (x : Func) (s : State) : (s.setFn n x).jtag = s.jtag := rfl
@[simp] theorem State.setFn_flash (n : Nat) (x : Func) (s : State) : (s.setFn n x).flash = s.flash := rfl
@[simp] theorem State.setFn_fw (n : Nat) (x : Func) (s : State) : (s.setFn n x).fw = s.fw := rfl
@[simp] theorem State.setFn_supply (n : Nat) (x : Func) (s : State) : (s.setFn n x).supply = s.supply := rfl
@[simp] theorem State.setFn_gasp (n : Nat) (x : Func) (s : State) : (s.setFn n x).gasp = s.gasp := rfl
@[simp] theorem State.setFn_quiet (n : Nat) (x : Func) (s : State) : (s.setFn n x).quiet = s.quiet := rfl
@[simp] theorem State.setFn_tdm (n : Nat) (x : Func) (s : State) : (s.setFn n x).tdm = s.tdm := rfl
@[simp] theorem State.setFn_port (n : Nat) (x : Func) (s : State) : (s.setFn n x).port = s.port := rfl
@[simp] theorem State.setFn_first (n : Nat) (x : Func) (s : State) : (s.setFn n x).first = s.first := rfl
@[simp] theorem State.setFn_multi (n : Nat) (x : Func) (s : State) : (s.setFn n x).multi = s.multi := rfl
@[simp] theorem State.setFn_worst (n : Nat) (x : Func) (s : State) : (s.setFn n x).worst = s.worst := rfl
@[simp] theorem State.setFn_faultB (n : Nat) (x : Func) (s : State) : (s.setFn n x).faultB = s.faultB := rfl
@[simp] theorem State.setFn_chr (n : Nat) (x : Func) (s : State) : (s.setFn n x).chr = s.chr := rfl
@[simp] theorem State.setFn_dram (n : Nat) (x : Func) (s : State) : (s.setFn n x).dram = s.dram := rfl
@[simp] theorem State.setFn_chrWin (n : Nat) (x : Func) (s : State) : (s.setFn n x).chrWin = s.chrWin := rfl
@[simp] theorem State.setFn_sent (n : Nat) (x : Func) (s : State) : (s.setFn n x).sent = s.sent := rfl
@[simp] theorem State.setFn_free (n : Nat) (x : Func) (s : State) : (s.setFn n x).free = s.free := rfl

/-! ## `setEng` -/

@[simp] theorem State.setEng_pending (n : Nat) (x : Engine) (s : State) : (s.setEng n x).pending = s.pending := rfl
@[simp] theorem State.setEng_now (n : Nat) (x : Engine) (s : State) : (s.setEng n x).now = s.now := rfl
@[simp] theorem State.setEng_nextSw (n : Nat) (x : Engine) (s : State) : (s.setEng n x).nextSw = s.nextSw := rfl
@[simp] theorem State.setEng_status (n : Nat) (x : Engine) (s : State) : (s.setEng n x).status = s.status := rfl
@[simp] theorem State.setEng_time (n : Nat) (x : Engine) (s : State) : (s.setEng n x).time = s.time := rfl
@[simp] theorem State.setEng_obj (n : Nat) (x : Engine) (s : State) : (s.setEng n x).obj = s.obj := rfl
@[simp] theorem State.setEng_drafts (n : Nat) (x : Engine) (s : State) : (s.setEng n x).drafts = s.drafts := rfl
@[simp] theorem State.setEng_marks (n : Nat) (x : Engine) (s : State) : (s.setEng n x).marks = s.marks := rfl
@[simp] theorem State.setEng_winds (n : Nat) (x : Engine) (s : State) : (s.setEng n x).winds = s.winds := rfl
@[simp] theorem State.setEng_src (n : Nat) (x : Engine) (s : State) : (s.setEng n x).src = s.src := rfl
@[simp] theorem State.setEng_filtered (n : Nat) (x : Engine) (s : State) : (s.setEng n x).filtered = s.filtered := rfl
@[simp] theorem State.setEng_bankA (n : Nat) (x : Engine) (s : State) : (s.setEng n x).bankA = s.bankA := rfl
@[simp] theorem State.setEng_bankB (n : Nat) (x : Engine) (s : State) : (s.setEng n x).bankB = s.bankB := rfl
@[simp] theorem State.setEng_sensing (n : Nat) (x : Engine) (s : State) : (s.setEng n x).sensing = s.sensing := rfl
@[simp] theorem State.setEng_late (n : Nat) (x : Engine) (s : State) : (s.setEng n x).late = s.late := rfl
@[simp] theorem State.setEng_row2 (n : Nat) (x : Engine) (s : State) : (s.setEng n x).row2 = s.row2 := rfl
@[simp] theorem State.setEng_nextObj (n : Nat) (x : Engine) (s : State) : (s.setEng n x).nextObj = s.nextObj := rfl
@[simp] theorem State.setEng_dlv (n : Nat) (x : Engine) (s : State) : (s.setEng n x).dlv = s.dlv := rfl
@[simp] theorem State.setEng_tgt (n : Nat) (x : Engine) (s : State) : (s.setEng n x).tgt = s.tgt := rfl
@[simp] theorem State.setEng_esc (n : Nat) (x : Engine) (s : State) : (s.setEng n x).esc = s.esc := rfl
@[simp] theorem State.setEng_heldOps (n : Nat) (x : Engine) (s : State) : (s.setEng n x).heldOps = s.heldOps := rfl
@[simp] theorem State.setEng_buf (n : Nat) (x : Engine) (s : State) : (s.setEng n x).buf = s.buf := rfl
@[simp] theorem State.setEng_poolNext (n : Nat) (x : Engine) (s : State) : (s.setEng n x).poolNext = s.poolNext := rfl
@[simp] theorem State.setEng_poolBack (n : Nat) (x : Engine) (s : State) : (s.setEng n x).poolBack = s.poolBack := rfl
@[simp] theorem State.setEng_doorbells (n : Nat) (x : Engine) (s : State) : (s.setEng n x).doorbells = s.doorbells := rfl
@[simp] theorem State.setEng_func (n : Nat) (x : Engine) (s : State) : (s.setEng n x).func = s.func := rfl
@[simp] theorem State.setEng_vfEnable (n : Nat) (x : Engine) (s : State) : (s.setEng n x).vfEnable = s.vfEnable := rfl
@[simp] theorem State.setEng_numVfs (n : Nat) (x : Engine) (s : State) : (s.setEng n x).numVfs = s.numVfs := rfl
@[simp] theorem State.setEng_pfD3 (n : Nat) (x : Engine) (s : State) : (s.setEng n x).pfD3 = s.pfD3 := rfl
@[simp] theorem State.setEng_pmeEn (n : Nat) (x : Engine) (s : State) : (s.setEng n x).pmeEn = s.pmeEn := rfl
@[simp] theorem State.setEng_perst (n : Nat) (x : Engine) (s : State) : (s.setEng n x).perst = s.perst := rfl
@[simp] theorem State.setEng_wakeLow (n : Nat) (x : Engine) (s : State) : (s.setEng n x).wakeLow = s.wakeLow := rfl
@[simp] theorem State.setEng_linkL0 (n : Nat) (x : Engine) (s : State) : (s.setEng n x).linkL0 = s.linkL0 := rfl
@[simp] theorem State.setEng_txWait (n : Nat) (x : Engine) (s : State) : (s.setEng n x).txWait = s.txWait := rfl
@[simp] theorem State.setEng_badParity (n : Nat) (x : Engine) (s : State) : (s.setEng n x).badParity = s.badParity := rfl
@[simp] theorem State.setEng_start (n : Nat) (x : Engine) (s : State) : (s.setEng n x).start = s.start := rfl
@[simp] theorem State.setEng_resetReq (n : Nat) (x : Engine) (s : State) : (s.setEng n x).resetReq = s.resetReq := rfl
@[simp] theorem State.setEng_portDeferred (n : Nat) (x : Engine) (s : State) : (s.setEng n x).portDeferred = s.portDeferred := rfl
@[simp] theorem State.setEng_wdogFrom (n : Nat) (x : Engine) (s : State) : (s.setEng n x).wdogFrom = s.wdogFrom := rfl
@[simp] theorem State.setEng_blk (n : Nat) (x : Engine) (s : State) : (s.setEng n x).blk = s.blk := rfl
@[simp] theorem State.setEng_backup (n : Nat) (x : Engine) (s : State) : (s.setEng n x).backup = s.backup := rfl
@[simp] theorem State.setEng_crown (n : Nat) (x : Engine) (s : State) : (s.setEng n x).crown = s.crown := rfl
@[simp] theorem State.setEng_straps (n : Nat) (x : Engine) (s : State) : (s.setEng n x).straps = s.straps := rfl
@[simp] theorem State.setEng_fuseA (n : Nat) (x : Engine) (s : State) : (s.setEng n x).fuseA = s.fuseA := rfl
@[simp] theorem State.setEng_fuseB (n : Nat) (x : Engine) (s : State) : (s.setEng n x).fuseB = s.fuseB := rfl
@[simp] theorem State.setEng_shadow (n : Nat) (x : Engine) (s : State) : (s.setEng n x).shadow = s.shadow := rfl
@[simp] theorem State.setEng_jtag (n : Nat) (x : Engine) (s : State) : (s.setEng n x).jtag = s.jtag := rfl
@[simp] theorem State.setEng_flash (n : Nat) (x : Engine) (s : State) : (s.setEng n x).flash = s.flash := rfl
@[simp] theorem State.setEng_fw (n : Nat) (x : Engine) (s : State) : (s.setEng n x).fw = s.fw := rfl
@[simp] theorem State.setEng_supply (n : Nat) (x : Engine) (s : State) : (s.setEng n x).supply = s.supply := rfl
@[simp] theorem State.setEng_gasp (n : Nat) (x : Engine) (s : State) : (s.setEng n x).gasp = s.gasp := rfl
@[simp] theorem State.setEng_quiet (n : Nat) (x : Engine) (s : State) : (s.setEng n x).quiet = s.quiet := rfl
@[simp] theorem State.setEng_tdm (n : Nat) (x : Engine) (s : State) : (s.setEng n x).tdm = s.tdm := rfl
@[simp] theorem State.setEng_port (n : Nat) (x : Engine) (s : State) : (s.setEng n x).port = s.port := rfl
@[simp] theorem State.setEng_first (n : Nat) (x : Engine) (s : State) : (s.setEng n x).first = s.first := rfl
@[simp] theorem State.setEng_multi (n : Nat) (x : Engine) (s : State) : (s.setEng n x).multi = s.multi := rfl
@[simp] theorem State.setEng_worst (n : Nat) (x : Engine) (s : State) : (s.setEng n x).worst = s.worst := rfl
@[simp] theorem State.setEng_faultB (n : Nat) (x : Engine) (s : State) : (s.setEng n x).faultB = s.faultB := rfl
@[simp] theorem State.setEng_chr (n : Nat) (x : Engine) (s : State) : (s.setEng n x).chr = s.chr := rfl
@[simp] theorem State.setEng_dram (n : Nat) (x : Engine) (s : State) : (s.setEng n x).dram = s.dram := rfl
@[simp] theorem State.setEng_chrWin (n : Nat) (x : Engine) (s : State) : (s.setEng n x).chrWin = s.chrWin := rfl
@[simp] theorem State.setEng_sent (n : Nat) (x : Engine) (s : State) : (s.setEng n x).sent = s.sent := rfl
@[simp] theorem State.setEng_free (n : Nat) (x : Engine) (s : State) : (s.setEng n x).free = s.free := rfl

/-! ## `bump` -/

@[simp] theorem State.bump_pending (idx el n : Nat) (s : State) : (s.bump idx el n).pending = s.pending := rfl
@[simp] theorem State.bump_now (idx el n : Nat) (s : State) : (s.bump idx el n).now = s.now := rfl
@[simp] theorem State.bump_nextSw (idx el n : Nat) (s : State) : (s.bump idx el n).nextSw = s.nextSw := rfl
@[simp] theorem State.bump_status (idx el n : Nat) (s : State) : (s.bump idx el n).status = s.status := rfl
@[simp] theorem State.bump_time (idx el n : Nat) (s : State) : (s.bump idx el n).time = s.time := rfl
@[simp] theorem State.bump_drafts (idx el n : Nat) (s : State) : (s.bump idx el n).drafts = s.drafts := rfl
@[simp] theorem State.bump_marks (idx el n : Nat) (s : State) : (s.bump idx el n).marks = s.marks := rfl
@[simp] theorem State.bump_winds (idx el n : Nat) (s : State) : (s.bump idx el n).winds = s.winds := rfl
@[simp] theorem State.bump_src (idx el n : Nat) (s : State) : (s.bump idx el n).src = s.src := rfl
@[simp] theorem State.bump_filtered (idx el n : Nat) (s : State) : (s.bump idx el n).filtered = s.filtered := rfl
@[simp] theorem State.bump_bankA (idx el n : Nat) (s : State) : (s.bump idx el n).bankA = s.bankA := rfl
@[simp] theorem State.bump_bankB (idx el n : Nat) (s : State) : (s.bump idx el n).bankB = s.bankB := rfl
@[simp] theorem State.bump_sensing (idx el n : Nat) (s : State) : (s.bump idx el n).sensing = s.sensing := rfl
@[simp] theorem State.bump_late (idx el n : Nat) (s : State) : (s.bump idx el n).late = s.late := rfl
@[simp] theorem State.bump_row2 (idx el n : Nat) (s : State) : (s.bump idx el n).row2 = s.row2 := rfl
@[simp] theorem State.bump_nextObj (idx el n : Nat) (s : State) : (s.bump idx el n).nextObj = s.nextObj := rfl
@[simp] theorem State.bump_dlv (idx el n : Nat) (s : State) : (s.bump idx el n).dlv = s.dlv := rfl
@[simp] theorem State.bump_tgt (idx el n : Nat) (s : State) : (s.bump idx el n).tgt = s.tgt := rfl
@[simp] theorem State.bump_esc (idx el n : Nat) (s : State) : (s.bump idx el n).esc = s.esc := rfl
@[simp] theorem State.bump_heldOps (idx el n : Nat) (s : State) : (s.bump idx el n).heldOps = s.heldOps := rfl
@[simp] theorem State.bump_buf (idx el n : Nat) (s : State) : (s.bump idx el n).buf = s.buf := rfl
@[simp] theorem State.bump_poolNext (idx el n : Nat) (s : State) : (s.bump idx el n).poolNext = s.poolNext := rfl
@[simp] theorem State.bump_poolBack (idx el n : Nat) (s : State) : (s.bump idx el n).poolBack = s.poolBack := rfl
@[simp] theorem State.bump_doorbells (idx el n : Nat) (s : State) : (s.bump idx el n).doorbells = s.doorbells := rfl
@[simp] theorem State.bump_func (idx el n : Nat) (s : State) : (s.bump idx el n).func = s.func := rfl
@[simp] theorem State.bump_vfEnable (idx el n : Nat) (s : State) : (s.bump idx el n).vfEnable = s.vfEnable := rfl
@[simp] theorem State.bump_numVfs (idx el n : Nat) (s : State) : (s.bump idx el n).numVfs = s.numVfs := rfl
@[simp] theorem State.bump_pfD3 (idx el n : Nat) (s : State) : (s.bump idx el n).pfD3 = s.pfD3 := rfl
@[simp] theorem State.bump_pmeEn (idx el n : Nat) (s : State) : (s.bump idx el n).pmeEn = s.pmeEn := rfl
@[simp] theorem State.bump_perst (idx el n : Nat) (s : State) : (s.bump idx el n).perst = s.perst := rfl
@[simp] theorem State.bump_wakeLow (idx el n : Nat) (s : State) : (s.bump idx el n).wakeLow = s.wakeLow := rfl
@[simp] theorem State.bump_linkL0 (idx el n : Nat) (s : State) : (s.bump idx el n).linkL0 = s.linkL0 := rfl
@[simp] theorem State.bump_txWait (idx el n : Nat) (s : State) : (s.bump idx el n).txWait = s.txWait := rfl
@[simp] theorem State.bump_eng (idx el n : Nat) (s : State) : (s.bump idx el n).eng = s.eng := rfl
@[simp] theorem State.bump_badParity (idx el n : Nat) (s : State) : (s.bump idx el n).badParity = s.badParity := rfl
@[simp] theorem State.bump_start (idx el n : Nat) (s : State) : (s.bump idx el n).start = s.start := rfl
@[simp] theorem State.bump_resetReq (idx el n : Nat) (s : State) : (s.bump idx el n).resetReq = s.resetReq := rfl
@[simp] theorem State.bump_portDeferred (idx el n : Nat) (s : State) : (s.bump idx el n).portDeferred = s.portDeferred := rfl
@[simp] theorem State.bump_wdogFrom (idx el n : Nat) (s : State) : (s.bump idx el n).wdogFrom = s.wdogFrom := rfl
@[simp] theorem State.bump_blk (idx el n : Nat) (s : State) : (s.bump idx el n).blk = s.blk := rfl
@[simp] theorem State.bump_backup (idx el n : Nat) (s : State) : (s.bump idx el n).backup = s.backup := rfl
@[simp] theorem State.bump_crown (idx el n : Nat) (s : State) : (s.bump idx el n).crown = s.crown := rfl
@[simp] theorem State.bump_straps (idx el n : Nat) (s : State) : (s.bump idx el n).straps = s.straps := rfl
@[simp] theorem State.bump_fuseA (idx el n : Nat) (s : State) : (s.bump idx el n).fuseA = s.fuseA := rfl
@[simp] theorem State.bump_fuseB (idx el n : Nat) (s : State) : (s.bump idx el n).fuseB = s.fuseB := rfl
@[simp] theorem State.bump_shadow (idx el n : Nat) (s : State) : (s.bump idx el n).shadow = s.shadow := rfl
@[simp] theorem State.bump_jtag (idx el n : Nat) (s : State) : (s.bump idx el n).jtag = s.jtag := rfl
@[simp] theorem State.bump_flash (idx el n : Nat) (s : State) : (s.bump idx el n).flash = s.flash := rfl
@[simp] theorem State.bump_fw (idx el n : Nat) (s : State) : (s.bump idx el n).fw = s.fw := rfl
@[simp] theorem State.bump_supply (idx el n : Nat) (s : State) : (s.bump idx el n).supply = s.supply := rfl
@[simp] theorem State.bump_gasp (idx el n : Nat) (s : State) : (s.bump idx el n).gasp = s.gasp := rfl
@[simp] theorem State.bump_quiet (idx el n : Nat) (s : State) : (s.bump idx el n).quiet = s.quiet := rfl
@[simp] theorem State.bump_tdm (idx el n : Nat) (s : State) : (s.bump idx el n).tdm = s.tdm := rfl
@[simp] theorem State.bump_port (idx el n : Nat) (s : State) : (s.bump idx el n).port = s.port := rfl
@[simp] theorem State.bump_first (idx el n : Nat) (s : State) : (s.bump idx el n).first = s.first := rfl
@[simp] theorem State.bump_multi (idx el n : Nat) (s : State) : (s.bump idx el n).multi = s.multi := rfl
@[simp] theorem State.bump_worst (idx el n : Nat) (s : State) : (s.bump idx el n).worst = s.worst := rfl
@[simp] theorem State.bump_faultB (idx el n : Nat) (s : State) : (s.bump idx el n).faultB = s.faultB := rfl
@[simp] theorem State.bump_chr (idx el n : Nat) (s : State) : (s.bump idx el n).chr = s.chr := rfl
@[simp] theorem State.bump_dram (idx el n : Nat) (s : State) : (s.bump idx el n).dram = s.dram := rfl
@[simp] theorem State.bump_chrWin (idx el n : Nat) (s : State) : (s.bump idx el n).chrWin = s.chrWin := rfl
@[simp] theorem State.bump_sent (idx el n : Nat) (s : State) : (s.bump idx el n).sent = s.sent := rfl
@[simp] theorem State.bump_free (idx el n : Nat) (s : State) : (s.bump idx el n).free = s.free := rfl

/-! ## `answer` -/

@[simp] theorem State.answer_pending (n : Nat) (s : State) : (s.answer n).pending = s.pending := rfl
@[simp] theorem State.answer_now (n : Nat) (s : State) : (s.answer n).now = s.now := rfl
@[simp] theorem State.answer_nextSw (n : Nat) (s : State) : (s.answer n).nextSw = s.nextSw := rfl
@[simp] theorem State.answer_time (n : Nat) (s : State) : (s.answer n).time = s.time := rfl
@[simp] theorem State.answer_obj (n : Nat) (s : State) : (s.answer n).obj = s.obj := rfl
@[simp] theorem State.answer_drafts (n : Nat) (s : State) : (s.answer n).drafts = s.drafts := rfl
@[simp] theorem State.answer_marks (n : Nat) (s : State) : (s.answer n).marks = s.marks := rfl
@[simp] theorem State.answer_winds (n : Nat) (s : State) : (s.answer n).winds = s.winds := rfl
@[simp] theorem State.answer_src (n : Nat) (s : State) : (s.answer n).src = s.src := rfl
@[simp] theorem State.answer_filtered (n : Nat) (s : State) : (s.answer n).filtered = s.filtered := rfl
@[simp] theorem State.answer_bankA (n : Nat) (s : State) : (s.answer n).bankA = s.bankA := rfl
@[simp] theorem State.answer_bankB (n : Nat) (s : State) : (s.answer n).bankB = s.bankB := rfl
@[simp] theorem State.answer_sensing (n : Nat) (s : State) : (s.answer n).sensing = s.sensing := rfl
@[simp] theorem State.answer_late (n : Nat) (s : State) : (s.answer n).late = s.late := rfl
@[simp] theorem State.answer_row2 (n : Nat) (s : State) : (s.answer n).row2 = s.row2 := rfl
@[simp] theorem State.answer_nextObj (n : Nat) (s : State) : (s.answer n).nextObj = s.nextObj := rfl
@[simp] theorem State.answer_dlv (n : Nat) (s : State) : (s.answer n).dlv = s.dlv := rfl
@[simp] theorem State.answer_tgt (n : Nat) (s : State) : (s.answer n).tgt = s.tgt := rfl
@[simp] theorem State.answer_esc (n : Nat) (s : State) : (s.answer n).esc = s.esc := rfl
@[simp] theorem State.answer_heldOps (n : Nat) (s : State) : (s.answer n).heldOps = s.heldOps := rfl
@[simp] theorem State.answer_buf (n : Nat) (s : State) : (s.answer n).buf = s.buf := rfl
@[simp] theorem State.answer_poolNext (n : Nat) (s : State) : (s.answer n).poolNext = s.poolNext := rfl
@[simp] theorem State.answer_poolBack (n : Nat) (s : State) : (s.answer n).poolBack = s.poolBack := rfl
@[simp] theorem State.answer_doorbells (n : Nat) (s : State) : (s.answer n).doorbells = s.doorbells := rfl
@[simp] theorem State.answer_func (n : Nat) (s : State) : (s.answer n).func = s.func := rfl
@[simp] theorem State.answer_vfEnable (n : Nat) (s : State) : (s.answer n).vfEnable = s.vfEnable := rfl
@[simp] theorem State.answer_numVfs (n : Nat) (s : State) : (s.answer n).numVfs = s.numVfs := rfl
@[simp] theorem State.answer_pfD3 (n : Nat) (s : State) : (s.answer n).pfD3 = s.pfD3 := rfl
@[simp] theorem State.answer_pmeEn (n : Nat) (s : State) : (s.answer n).pmeEn = s.pmeEn := rfl
@[simp] theorem State.answer_perst (n : Nat) (s : State) : (s.answer n).perst = s.perst := rfl
@[simp] theorem State.answer_wakeLow (n : Nat) (s : State) : (s.answer n).wakeLow = s.wakeLow := rfl
@[simp] theorem State.answer_linkL0 (n : Nat) (s : State) : (s.answer n).linkL0 = s.linkL0 := rfl
@[simp] theorem State.answer_txWait (n : Nat) (s : State) : (s.answer n).txWait = s.txWait := rfl
@[simp] theorem State.answer_eng (n : Nat) (s : State) : (s.answer n).eng = s.eng := rfl
@[simp] theorem State.answer_badParity (n : Nat) (s : State) : (s.answer n).badParity = s.badParity := rfl
@[simp] theorem State.answer_start (n : Nat) (s : State) : (s.answer n).start = s.start := rfl
@[simp] theorem State.answer_resetReq (n : Nat) (s : State) : (s.answer n).resetReq = s.resetReq := rfl
@[simp] theorem State.answer_portDeferred (n : Nat) (s : State) : (s.answer n).portDeferred = s.portDeferred := rfl
@[simp] theorem State.answer_wdogFrom (n : Nat) (s : State) : (s.answer n).wdogFrom = s.wdogFrom := rfl
@[simp] theorem State.answer_blk (n : Nat) (s : State) : (s.answer n).blk = s.blk := rfl
@[simp] theorem State.answer_backup (n : Nat) (s : State) : (s.answer n).backup = s.backup := rfl
@[simp] theorem State.answer_crown (n : Nat) (s : State) : (s.answer n).crown = s.crown := rfl
@[simp] theorem State.answer_straps (n : Nat) (s : State) : (s.answer n).straps = s.straps := rfl
@[simp] theorem State.answer_fuseA (n : Nat) (s : State) : (s.answer n).fuseA = s.fuseA := rfl
@[simp] theorem State.answer_fuseB (n : Nat) (s : State) : (s.answer n).fuseB = s.fuseB := rfl
@[simp] theorem State.answer_shadow (n : Nat) (s : State) : (s.answer n).shadow = s.shadow := rfl
@[simp] theorem State.answer_jtag (n : Nat) (s : State) : (s.answer n).jtag = s.jtag := rfl
@[simp] theorem State.answer_flash (n : Nat) (s : State) : (s.answer n).flash = s.flash := rfl
@[simp] theorem State.answer_fw (n : Nat) (s : State) : (s.answer n).fw = s.fw := rfl
@[simp] theorem State.answer_supply (n : Nat) (s : State) : (s.answer n).supply = s.supply := rfl
@[simp] theorem State.answer_gasp (n : Nat) (s : State) : (s.answer n).gasp = s.gasp := rfl
@[simp] theorem State.answer_quiet (n : Nat) (s : State) : (s.answer n).quiet = s.quiet := rfl
@[simp] theorem State.answer_tdm (n : Nat) (s : State) : (s.answer n).tdm = s.tdm := rfl
@[simp] theorem State.answer_port (n : Nat) (s : State) : (s.answer n).port = s.port := rfl
@[simp] theorem State.answer_first (n : Nat) (s : State) : (s.answer n).first = s.first := rfl
@[simp] theorem State.answer_multi (n : Nat) (s : State) : (s.answer n).multi = s.multi := rfl
@[simp] theorem State.answer_worst (n : Nat) (s : State) : (s.answer n).worst = s.worst := rfl
@[simp] theorem State.answer_faultB (n : Nat) (s : State) : (s.answer n).faultB = s.faultB := rfl
@[simp] theorem State.answer_chr (n : Nat) (s : State) : (s.answer n).chr = s.chr := rfl
@[simp] theorem State.answer_dram (n : Nat) (s : State) : (s.answer n).dram = s.dram := rfl
@[simp] theorem State.answer_chrWin (n : Nat) (s : State) : (s.answer n).chrWin = s.chrWin := rfl
@[simp] theorem State.answer_sent (n : Nat) (s : State) : (s.answer n).sent = s.sent := rfl
@[simp] theorem State.answer_free (n : Nat) (s : State) : (s.answer n).free = s.free := rfl

/-! ## `emit` -/

@[simp] theorem State.emit_pending (x : Out) (s : State) : (s.emit x).pending = s.pending := rfl
@[simp] theorem State.emit_now (x : Out) (s : State) : (s.emit x).now = s.now := rfl
@[simp] theorem State.emit_nextSw (x : Out) (s : State) : (s.emit x).nextSw = s.nextSw := rfl
@[simp] theorem State.emit_status (x : Out) (s : State) : (s.emit x).status = s.status := rfl
@[simp] theorem State.emit_time (x : Out) (s : State) : (s.emit x).time = s.time := rfl
@[simp] theorem State.emit_obj (x : Out) (s : State) : (s.emit x).obj = s.obj := rfl
@[simp] theorem State.emit_drafts (x : Out) (s : State) : (s.emit x).drafts = s.drafts := rfl
@[simp] theorem State.emit_marks (x : Out) (s : State) : (s.emit x).marks = s.marks := rfl
@[simp] theorem State.emit_winds (x : Out) (s : State) : (s.emit x).winds = s.winds := rfl
@[simp] theorem State.emit_src (x : Out) (s : State) : (s.emit x).src = s.src := rfl
@[simp] theorem State.emit_filtered (x : Out) (s : State) : (s.emit x).filtered = s.filtered := rfl
@[simp] theorem State.emit_bankA (x : Out) (s : State) : (s.emit x).bankA = s.bankA := rfl
@[simp] theorem State.emit_bankB (x : Out) (s : State) : (s.emit x).bankB = s.bankB := rfl
@[simp] theorem State.emit_sensing (x : Out) (s : State) : (s.emit x).sensing = s.sensing := rfl
@[simp] theorem State.emit_late (x : Out) (s : State) : (s.emit x).late = s.late := rfl
@[simp] theorem State.emit_row2 (x : Out) (s : State) : (s.emit x).row2 = s.row2 := rfl
@[simp] theorem State.emit_nextObj (x : Out) (s : State) : (s.emit x).nextObj = s.nextObj := rfl
@[simp] theorem State.emit_dlv (x : Out) (s : State) : (s.emit x).dlv = s.dlv := rfl
@[simp] theorem State.emit_tgt (x : Out) (s : State) : (s.emit x).tgt = s.tgt := rfl
@[simp] theorem State.emit_esc (x : Out) (s : State) : (s.emit x).esc = s.esc := rfl
@[simp] theorem State.emit_heldOps (x : Out) (s : State) : (s.emit x).heldOps = s.heldOps := rfl
@[simp] theorem State.emit_buf (x : Out) (s : State) : (s.emit x).buf = s.buf := rfl
@[simp] theorem State.emit_poolNext (x : Out) (s : State) : (s.emit x).poolNext = s.poolNext := rfl
@[simp] theorem State.emit_poolBack (x : Out) (s : State) : (s.emit x).poolBack = s.poolBack := rfl
@[simp] theorem State.emit_doorbells (x : Out) (s : State) : (s.emit x).doorbells = s.doorbells := rfl
@[simp] theorem State.emit_func (x : Out) (s : State) : (s.emit x).func = s.func := rfl
@[simp] theorem State.emit_vfEnable (x : Out) (s : State) : (s.emit x).vfEnable = s.vfEnable := rfl
@[simp] theorem State.emit_numVfs (x : Out) (s : State) : (s.emit x).numVfs = s.numVfs := rfl
@[simp] theorem State.emit_pfD3 (x : Out) (s : State) : (s.emit x).pfD3 = s.pfD3 := rfl
@[simp] theorem State.emit_pmeEn (x : Out) (s : State) : (s.emit x).pmeEn = s.pmeEn := rfl
@[simp] theorem State.emit_perst (x : Out) (s : State) : (s.emit x).perst = s.perst := rfl
@[simp] theorem State.emit_wakeLow (x : Out) (s : State) : (s.emit x).wakeLow = s.wakeLow := rfl
@[simp] theorem State.emit_linkL0 (x : Out) (s : State) : (s.emit x).linkL0 = s.linkL0 := rfl
@[simp] theorem State.emit_txWait (x : Out) (s : State) : (s.emit x).txWait = s.txWait := rfl
@[simp] theorem State.emit_eng (x : Out) (s : State) : (s.emit x).eng = s.eng := rfl
@[simp] theorem State.emit_badParity (x : Out) (s : State) : (s.emit x).badParity = s.badParity := rfl
@[simp] theorem State.emit_start (x : Out) (s : State) : (s.emit x).start = s.start := rfl
@[simp] theorem State.emit_resetReq (x : Out) (s : State) : (s.emit x).resetReq = s.resetReq := rfl
@[simp] theorem State.emit_portDeferred (x : Out) (s : State) : (s.emit x).portDeferred = s.portDeferred := rfl
@[simp] theorem State.emit_wdogFrom (x : Out) (s : State) : (s.emit x).wdogFrom = s.wdogFrom := rfl
@[simp] theorem State.emit_blk (x : Out) (s : State) : (s.emit x).blk = s.blk := rfl
@[simp] theorem State.emit_backup (x : Out) (s : State) : (s.emit x).backup = s.backup := rfl
@[simp] theorem State.emit_crown (x : Out) (s : State) : (s.emit x).crown = s.crown := rfl
@[simp] theorem State.emit_straps (x : Out) (s : State) : (s.emit x).straps = s.straps := rfl
@[simp] theorem State.emit_fuseA (x : Out) (s : State) : (s.emit x).fuseA = s.fuseA := rfl
@[simp] theorem State.emit_fuseB (x : Out) (s : State) : (s.emit x).fuseB = s.fuseB := rfl
@[simp] theorem State.emit_shadow (x : Out) (s : State) : (s.emit x).shadow = s.shadow := rfl
@[simp] theorem State.emit_jtag (x : Out) (s : State) : (s.emit x).jtag = s.jtag := rfl
@[simp] theorem State.emit_flash (x : Out) (s : State) : (s.emit x).flash = s.flash := rfl
@[simp] theorem State.emit_fw (x : Out) (s : State) : (s.emit x).fw = s.fw := rfl
@[simp] theorem State.emit_supply (x : Out) (s : State) : (s.emit x).supply = s.supply := rfl
@[simp] theorem State.emit_gasp (x : Out) (s : State) : (s.emit x).gasp = s.gasp := rfl
@[simp] theorem State.emit_quiet (x : Out) (s : State) : (s.emit x).quiet = s.quiet := rfl
@[simp] theorem State.emit_tdm (x : Out) (s : State) : (s.emit x).tdm = s.tdm := rfl
@[simp] theorem State.emit_port (x : Out) (s : State) : (s.emit x).port = s.port := rfl
@[simp] theorem State.emit_first (x : Out) (s : State) : (s.emit x).first = s.first := rfl
@[simp] theorem State.emit_multi (x : Out) (s : State) : (s.emit x).multi = s.multi := rfl
@[simp] theorem State.emit_worst (x : Out) (s : State) : (s.emit x).worst = s.worst := rfl
@[simp] theorem State.emit_faultB (x : Out) (s : State) : (s.emit x).faultB = s.faultB := rfl
@[simp] theorem State.emit_chr (x : Out) (s : State) : (s.emit x).chr = s.chr := rfl
@[simp] theorem State.emit_dram (x : Out) (s : State) : (s.emit x).dram = s.dram := rfl
@[simp] theorem State.emit_chrWin (x : Out) (s : State) : (s.emit x).chrWin = s.chrWin := rfl
@[simp] theorem State.emit_free (x : Out) (s : State) : (s.emit x).free = s.free := rfl

/-! ## Read after write -/

@[simp] theorem State.answer_status (n : Nat) (s : State) : (s.answer n).status = n := rfl
@[simp] theorem State.emit_sent (x : Out) (s : State) : (s.emit x).sent = x :: s.sent := rfl
@[simp] theorem State.o_setO (idx el v : Nat) (s : State) : (s.setO idx el v).o idx el = v := smGet_set_same _ _ _ _
theorem State.o_setO_ne (idx el v : Nat) {i e : Nat} (s : State) (h : pkey i e ≠ pkey idx el) :
    (s.setO idx el v).o i e = s.o i e := smGet_set_other _ _ _ h
@[simp] theorem State.o_bump (idx el n : Nat) (s : State) : (s.bump idx el n).o idx el = satAdd 32 (s.o idx el) n :=
  smGet_set_same _ _ _ _
theorem State.o_bump_ne (idx el n : Nat) {i e : Nat} (s : State) (h : pkey i e ≠ pkey idx el) :
    (s.bump idx el n).o i e = s.o i e := smGet_set_other _ _ _ h
@[simp] theorem State.srcAt_setSrc (n : Nat) (x : Source) (s : State) : (s.setSrc n x).srcAt n = x := smGet_set_same _ _ _ _
theorem State.srcAt_setSrc_ne {n m : Nat} (x : Source) (s : State) (h : m ≠ n) : (s.setSrc n x).srcAt m = s.srcAt m :=
  smGet_set_other _ _ _ h
@[simp] theorem State.tgtAt_setTgt (n : Nat) (x : Target) (s : State) : (s.setTgt n x).tgtAt n = x := smGet_set_same _ _ _ _
theorem State.tgtAt_setTgt_ne {n m : Nat} (x : Target) (s : State) (h : m ≠ n) : (s.setTgt n x).tgtAt m = s.tgtAt m :=
  smGet_set_other _ _ _ h
@[simp] theorem State.escAt_setEsc (n : Nat) (x : Esc) (s : State) : (s.setEsc n x).escAt n = x := smGet_set_same _ _ _ _
theorem State.escAt_setEsc_ne {n m : Nat} (x : Esc) (s : State) (h : m ≠ n) : (s.setEsc n x).escAt m = s.escAt m :=
  smGet_set_other _ _ _ h
@[simp] theorem State.bufAt_setBuf (n : Nat) (x : Buf) (s : State) : (s.setBuf n x).bufAt n = x := smGet_set_same _ _ _ _
theorem State.bufAt_setBuf_ne {n m : Nat} (x : Buf) (s : State) (h : m ≠ n) : (s.setBuf n x).bufAt m = s.bufAt m :=
  smGet_set_other _ _ _ h
@[simp] theorem State.fn_setFn (n : Nat) (x : Func) (s : State) : (s.setFn n x).fn n = x := smGet_set_same _ _ _ _
theorem State.fn_setFn_ne {n m : Nat} (x : Func) (s : State) (h : m ≠ n) : (s.setFn n x).fn m = s.fn m :=
  smGet_set_other _ _ _ h
@[simp] theorem State.engAt_setEng (n : Nat) (x : Engine) (s : State) : (s.setEng n x).engAt n = x := smGet_set_same _ _ _ _
theorem State.engAt_setEng_ne {n m : Nat} (x : Engine) (s : State) (h : m ≠ n) : (s.setEng n x).engAt m = s.engAt m :=
  smGet_set_other _ _ _ h
@[simp] theorem State.o_setSrc (n : Nat) (x : Source) (i e : Nat) (s : State) : (s.setSrc n x).o i e = s.o i e := rfl
@[simp] theorem State.o_setTgt (n : Nat) (x : Target) (i e : Nat) (s : State) : (s.setTgt n x).o i e = s.o i e := rfl
@[simp] theorem State.o_setEsc (n : Nat) (x : Esc) (i e : Nat) (s : State) : (s.setEsc n x).o i e = s.o i e := rfl
@[simp] theorem State.o_setBuf (n : Nat) (x : Buf) (i e : Nat) (s : State) : (s.setBuf n x).o i e = s.o i e := rfl
@[simp] theorem State.o_setFn (n : Nat) (x : Func) (i e : Nat) (s : State) : (s.setFn n x).o i e = s.o i e := rfl
@[simp] theorem State.o_setEng (n : Nat) (x : Engine) (i e : Nat) (s : State) : (s.setEng n x).o i e = s.o i e := rfl
@[simp] theorem State.o_answer (n : Nat) (i e : Nat) (s : State) : (s.answer n).o i e = s.o i e := rfl
@[simp] theorem State.o_emit (x : Out) (i e : Nat) (s : State) : (s.emit x).o i e = s.o i e := rfl
@[simp] theorem State.srcAt_setO (idx el v : Nat) (i : Nat) (s : State) : (s.setO idx el v).srcAt i = s.srcAt i := rfl
@[simp] theorem State.srcAt_setTgt (n : Nat) (x : Target) (i : Nat) (s : State) : (s.setTgt n x).srcAt i = s.srcAt i := rfl
@[simp] theorem State.srcAt_setEsc (n : Nat) (x : Esc) (i : Nat) (s : State) : (s.setEsc n x).srcAt i = s.srcAt i := rfl
@[simp] theorem State.srcAt_setBuf (n : Nat) (x : Buf) (i : Nat) (s : State) : (s.setBuf n x).srcAt i = s.srcAt i := rfl
@[simp] theorem State.srcAt_setFn (n : Nat) (x : Func) (i : Nat) (s : State) : (s.setFn n x).srcAt i = s.srcAt i := rfl
@[simp] theorem State.srcAt_setEng (n : Nat) (x : Engine) (i : Nat) (s : State) : (s.setEng n x).srcAt i = s.srcAt i := rfl
@[simp] theorem State.srcAt_bump (idx el n : Nat) (i : Nat) (s : State) : (s.bump idx el n).srcAt i = s.srcAt i := rfl
@[simp] theorem State.srcAt_answer (n : Nat) (i : Nat) (s : State) : (s.answer n).srcAt i = s.srcAt i := rfl
@[simp] theorem State.srcAt_emit (x : Out) (i : Nat) (s : State) : (s.emit x).srcAt i = s.srcAt i := rfl
@[simp] theorem State.tgtAt_setO (idx el v : Nat) (i : Nat) (s : State) : (s.setO idx el v).tgtAt i = s.tgtAt i := rfl
@[simp] theorem State.tgtAt_setSrc (n : Nat) (x : Source) (i : Nat) (s : State) : (s.setSrc n x).tgtAt i = s.tgtAt i := rfl
@[simp] theorem State.tgtAt_setEsc (n : Nat) (x : Esc) (i : Nat) (s : State) : (s.setEsc n x).tgtAt i = s.tgtAt i := rfl
@[simp] theorem State.tgtAt_setBuf (n : Nat) (x : Buf) (i : Nat) (s : State) : (s.setBuf n x).tgtAt i = s.tgtAt i := rfl
@[simp] theorem State.tgtAt_setFn (n : Nat) (x : Func) (i : Nat) (s : State) : (s.setFn n x).tgtAt i = s.tgtAt i := rfl
@[simp] theorem State.tgtAt_setEng (n : Nat) (x : Engine) (i : Nat) (s : State) : (s.setEng n x).tgtAt i = s.tgtAt i := rfl
@[simp] theorem State.tgtAt_bump (idx el n : Nat) (i : Nat) (s : State) : (s.bump idx el n).tgtAt i = s.tgtAt i := rfl
@[simp] theorem State.tgtAt_answer (n : Nat) (i : Nat) (s : State) : (s.answer n).tgtAt i = s.tgtAt i := rfl
@[simp] theorem State.tgtAt_emit (x : Out) (i : Nat) (s : State) : (s.emit x).tgtAt i = s.tgtAt i := rfl
@[simp] theorem State.escAt_setO (idx el v : Nat) (i : Nat) (s : State) : (s.setO idx el v).escAt i = s.escAt i := rfl
@[simp] theorem State.escAt_setSrc (n : Nat) (x : Source) (i : Nat) (s : State) : (s.setSrc n x).escAt i = s.escAt i := rfl
@[simp] theorem State.escAt_setTgt (n : Nat) (x : Target) (i : Nat) (s : State) : (s.setTgt n x).escAt i = s.escAt i := rfl
@[simp] theorem State.escAt_setBuf (n : Nat) (x : Buf) (i : Nat) (s : State) : (s.setBuf n x).escAt i = s.escAt i := rfl
@[simp] theorem State.escAt_setFn (n : Nat) (x : Func) (i : Nat) (s : State) : (s.setFn n x).escAt i = s.escAt i := rfl
@[simp] theorem State.escAt_setEng (n : Nat) (x : Engine) (i : Nat) (s : State) : (s.setEng n x).escAt i = s.escAt i := rfl
@[simp] theorem State.escAt_bump (idx el n : Nat) (i : Nat) (s : State) : (s.bump idx el n).escAt i = s.escAt i := rfl
@[simp] theorem State.escAt_answer (n : Nat) (i : Nat) (s : State) : (s.answer n).escAt i = s.escAt i := rfl
@[simp] theorem State.escAt_emit (x : Out) (i : Nat) (s : State) : (s.emit x).escAt i = s.escAt i := rfl
@[simp] theorem State.bufAt_setO (idx el v : Nat) (i : Nat) (s : State) : (s.setO idx el v).bufAt i = s.bufAt i := rfl
@[simp] theorem State.bufAt_setSrc (n : Nat) (x : Source) (i : Nat) (s : State) : (s.setSrc n x).bufAt i = s.bufAt i := rfl
@[simp] theorem State.bufAt_setTgt (n : Nat) (x : Target) (i : Nat) (s : State) : (s.setTgt n x).bufAt i = s.bufAt i := rfl
@[simp] theorem State.bufAt_setEsc (n : Nat) (x : Esc) (i : Nat) (s : State) : (s.setEsc n x).bufAt i = s.bufAt i := rfl
@[simp] theorem State.bufAt_setFn (n : Nat) (x : Func) (i : Nat) (s : State) : (s.setFn n x).bufAt i = s.bufAt i := rfl
@[simp] theorem State.bufAt_setEng (n : Nat) (x : Engine) (i : Nat) (s : State) : (s.setEng n x).bufAt i = s.bufAt i := rfl
@[simp] theorem State.bufAt_bump (idx el n : Nat) (i : Nat) (s : State) : (s.bump idx el n).bufAt i = s.bufAt i := rfl
@[simp] theorem State.bufAt_answer (n : Nat) (i : Nat) (s : State) : (s.answer n).bufAt i = s.bufAt i := rfl
@[simp] theorem State.bufAt_emit (x : Out) (i : Nat) (s : State) : (s.emit x).bufAt i = s.bufAt i := rfl
@[simp] theorem State.fn_setO (idx el v : Nat) (i : Nat) (s : State) : (s.setO idx el v).fn i = s.fn i := rfl
@[simp] theorem State.fn_setSrc (n : Nat) (x : Source) (i : Nat) (s : State) : (s.setSrc n x).fn i = s.fn i := rfl
@[simp] theorem State.fn_setTgt (n : Nat) (x : Target) (i : Nat) (s : State) : (s.setTgt n x).fn i = s.fn i := rfl
@[simp] theorem State.fn_setEsc (n : Nat) (x : Esc) (i : Nat) (s : State) : (s.setEsc n x).fn i = s.fn i := rfl
@[simp] theorem State.fn_setBuf (n : Nat) (x : Buf) (i : Nat) (s : State) : (s.setBuf n x).fn i = s.fn i := rfl
@[simp] theorem State.fn_setEng (n : Nat) (x : Engine) (i : Nat) (s : State) : (s.setEng n x).fn i = s.fn i := rfl
@[simp] theorem State.fn_bump (idx el n : Nat) (i : Nat) (s : State) : (s.bump idx el n).fn i = s.fn i := rfl
@[simp] theorem State.fn_answer (n : Nat) (i : Nat) (s : State) : (s.answer n).fn i = s.fn i := rfl
@[simp] theorem State.fn_emit (x : Out) (i : Nat) (s : State) : (s.emit x).fn i = s.fn i := rfl
@[simp] theorem State.engAt_setO (idx el v : Nat) (i : Nat) (s : State) : (s.setO idx el v).engAt i = s.engAt i := rfl
@[simp] theorem State.engAt_setSrc (n : Nat) (x : Source) (i : Nat) (s : State) : (s.setSrc n x).engAt i = s.engAt i := rfl
@[simp] theorem State.engAt_setTgt (n : Nat) (x : Target) (i : Nat) (s : State) : (s.setTgt n x).engAt i = s.engAt i := rfl
@[simp] theorem State.engAt_setEsc (n : Nat) (x : Esc) (i : Nat) (s : State) : (s.setEsc n x).engAt i = s.engAt i := rfl
@[simp] theorem State.engAt_setBuf (n : Nat) (x : Buf) (i : Nat) (s : State) : (s.setBuf n x).engAt i = s.engAt i := rfl
@[simp] theorem State.engAt_setFn (n : Nat) (x : Func) (i : Nat) (s : State) : (s.setFn n x).engAt i = s.engAt i := rfl
@[simp] theorem State.engAt_bump (idx el n : Nat) (i : Nat) (s : State) : (s.bump idx el n).engAt i = s.engAt i := rfl
@[simp] theorem State.engAt_answer (n : Nat) (i : Nat) (s : State) : (s.answer n).engAt i = s.engAt i := rfl
@[simp] theorem State.engAt_emit (x : Out) (i : Nat) (s : State) : (s.emit x).engAt i = s.engAt i := rfl

end Sys2Proof.Machine
end

