-- ==== Sys2Proof/Laws/Records.lean ====
section
/-! SUPPORT. What a Dial event, a record, a fault of access and a note of a source change can do: which fields they may
change, said once for each, and what follows for the fields they leave. -/

namespace Sys2Proof.Machine

open Sys2Proof

theorem State.post_eq (x : Out) (s : State) :
    s.post x = { s with sent := (s.post x).sent, txWait := (s.post x).txWait } := by
  unfold State.post; split <;> rfl

@[simp] theorem State.post_pending (x : Out) (s : State) : (s.post x).pending = s.pending := by rw [State.post_eq]
@[simp] theorem State.post_now (x : Out) (s : State) : (s.post x).now = s.now := by rw [State.post_eq]
@[simp] theorem State.post_nextSw (x : Out) (s : State) : (s.post x).nextSw = s.nextSw := by rw [State.post_eq]
@[simp] theorem State.post_status (x : Out) (s : State) : (s.post x).status = s.status := by rw [State.post_eq]
@[simp] theorem State.post_time (x : Out) (s : State) : (s.post x).time = s.time := by rw [State.post_eq]
@[simp] theorem State.post_obj (x : Out) (s : State) : (s.post x).obj = s.obj := by rw [State.post_eq]
@[simp] theorem State.post_drafts (x : Out) (s : State) : (s.post x).drafts = s.drafts := by rw [State.post_eq]
@[simp] theorem State.post_marks (x : Out) (s : State) : (s.post x).marks = s.marks := by rw [State.post_eq]
@[simp] theorem State.post_winds (x : Out) (s : State) : (s.post x).winds = s.winds := by rw [State.post_eq]
@[simp] theorem State.post_src (x : Out) (s : State) : (s.post x).src = s.src := by rw [State.post_eq]
@[simp] theorem State.post_filtered (x : Out) (s : State) : (s.post x).filtered = s.filtered := by rw [State.post_eq]
@[simp] theorem State.post_bankA (x : Out) (s : State) : (s.post x).bankA = s.bankA := by rw [State.post_eq]
@[simp] theorem State.post_bankB (x : Out) (s : State) : (s.post x).bankB = s.bankB := by rw [State.post_eq]
@[simp] theorem State.post_sensing (x : Out) (s : State) : (s.post x).sensing = s.sensing := by rw [State.post_eq]
@[simp] theorem State.post_late (x : Out) (s : State) : (s.post x).late = s.late := by rw [State.post_eq]
@[simp] theorem State.post_row2 (x : Out) (s : State) : (s.post x).row2 = s.row2 := by rw [State.post_eq]
@[simp] theorem State.post_nextObj (x : Out) (s : State) : (s.post x).nextObj = s.nextObj := by rw [State.post_eq]
@[simp] theorem State.post_dlv (x : Out) (s : State) : (s.post x).dlv = s.dlv := by rw [State.post_eq]
@[simp] theorem State.post_tgt (x : Out) (s : State) : (s.post x).tgt = s.tgt := by rw [State.post_eq]
@[simp] theorem State.post_esc (x : Out) (s : State) : (s.post x).esc = s.esc := by rw [State.post_eq]
@[simp] theorem State.post_heldOps (x : Out) (s : State) : (s.post x).heldOps = s.heldOps := by rw [State.post_eq]
@[simp] theorem State.post_buf (x : Out) (s : State) : (s.post x).buf = s.buf := by rw [State.post_eq]
@[simp] theorem State.post_poolNext (x : Out) (s : State) : (s.post x).poolNext = s.poolNext := by rw [State.post_eq]
@[simp] theorem State.post_poolBack (x : Out) (s : State) : (s.post x).poolBack = s.poolBack := by rw [State.post_eq]
@[simp] theorem State.post_doorbells (x : Out) (s : State) : (s.post x).doorbells = s.doorbells := by rw [State.post_eq]
@[simp] theorem State.post_func (x : Out) (s : State) : (s.post x).func = s.func := by rw [State.post_eq]
@[simp] theorem State.post_vfEnable (x : Out) (s : State) : (s.post x).vfEnable = s.vfEnable := by rw [State.post_eq]
@[simp] theorem State.post_numVfs (x : Out) (s : State) : (s.post x).numVfs = s.numVfs := by rw [State.post_eq]
@[simp] theorem State.post_pfD3 (x : Out) (s : State) : (s.post x).pfD3 = s.pfD3 := by rw [State.post_eq]
@[simp] theorem State.post_pmeEn (x : Out) (s : State) : (s.post x).pmeEn = s.pmeEn := by rw [State.post_eq]
@[simp] theorem State.post_perst (x : Out) (s : State) : (s.post x).perst = s.perst := by rw [State.post_eq]
@[simp] theorem State.post_wakeLow (x : Out) (s : State) : (s.post x).wakeLow = s.wakeLow := by rw [State.post_eq]
@[simp] theorem State.post_linkL0 (x : Out) (s : State) : (s.post x).linkL0 = s.linkL0 := by rw [State.post_eq]
@[simp] theorem State.post_eng (x : Out) (s : State) : (s.post x).eng = s.eng := by rw [State.post_eq]
@[simp] theorem State.post_badParity (x : Out) (s : State) : (s.post x).badParity = s.badParity := by rw [State.post_eq]
@[simp] theorem State.post_start (x : Out) (s : State) : (s.post x).start = s.start := by rw [State.post_eq]
@[simp] theorem State.post_resetReq (x : Out) (s : State) : (s.post x).resetReq = s.resetReq := by rw [State.post_eq]
@[simp] theorem State.post_portDeferred (x : Out) (s : State) : (s.post x).portDeferred = s.portDeferred := by rw [State.post_eq]
@[simp] theorem State.post_wdogFrom (x : Out) (s : State) : (s.post x).wdogFrom = s.wdogFrom := by rw [State.post_eq]
@[simp] theorem State.post_blk (x : Out) (s : State) : (s.post x).blk = s.blk := by rw [State.post_eq]
@[simp] theorem State.post_backup (x : Out) (s : State) : (s.post x).backup = s.backup := by rw [State.post_eq]
@[simp] theorem State.post_crown (x : Out) (s : State) : (s.post x).crown = s.crown := by rw [State.post_eq]
@[simp] theorem State.post_straps (x : Out) (s : State) : (s.post x).straps = s.straps := by rw [State.post_eq]
@[simp] theorem State.post_fuseA (x : Out) (s : State) : (s.post x).fuseA = s.fuseA := by rw [State.post_eq]
@[simp] theorem State.post_fuseB (x : Out) (s : State) : (s.post x).fuseB = s.fuseB := by rw [State.post_eq]
@[simp] theorem State.post_shadow (x : Out) (s : State) : (s.post x).shadow = s.shadow := by rw [State.post_eq]
@[simp] theorem State.post_jtag (x : Out) (s : State) : (s.post x).jtag = s.jtag := by rw [State.post_eq]
@[simp] theorem State.post_flash (x : Out) (s : State) : (s.post x).flash = s.flash := by rw [State.post_eq]
@[simp] theorem State.post_fw (x : Out) (s : State) : (s.post x).fw = s.fw := by rw [State.post_eq]
@[simp] theorem State.post_supply (x : Out) (s : State) : (s.post x).supply = s.supply := by rw [State.post_eq]
@[simp] theorem State.post_gasp (x : Out) (s : State) : (s.post x).gasp = s.gasp := by rw [State.post_eq]
@[simp] theorem State.post_quiet (x : Out) (s : State) : (s.post x).quiet = s.quiet := by rw [State.post_eq]
@[simp] theorem State.post_tdm (x : Out) (s : State) : (s.post x).tdm = s.tdm := by rw [State.post_eq]
@[simp] theorem State.post_port (x : Out) (s : State) : (s.post x).port = s.port := by rw [State.post_eq]
@[simp] theorem State.post_first (x : Out) (s : State) : (s.post x).first = s.first := by rw [State.post_eq]
@[simp] theorem State.post_multi (x : Out) (s : State) : (s.post x).multi = s.multi := by rw [State.post_eq]
@[simp] theorem State.post_worst (x : Out) (s : State) : (s.post x).worst = s.worst := by rw [State.post_eq]
@[simp] theorem State.post_faultB (x : Out) (s : State) : (s.post x).faultB = s.faultB := by rw [State.post_eq]
@[simp] theorem State.post_chr (x : Out) (s : State) : (s.post x).chr = s.chr := by rw [State.post_eq]
@[simp] theorem State.post_dram (x : Out) (s : State) : (s.post x).dram = s.dram := by rw [State.post_eq]
@[simp] theorem State.post_chrWin (x : Out) (s : State) : (s.post x).chrWin = s.chrWin := by rw [State.post_eq]
@[simp] theorem State.post_free (x : Out) (s : State) : (s.post x).free = s.free := by rw [State.post_eq]

theorem State.raiseVec_eq (n v : Nat) (s : State) :
    s.raiseVec n v = { s with func := (s.raiseVec n v).func, sent := (s.raiseVec n v).sent, txWait := (s.raiseVec n v).txWait } := by
  unfold State.raiseVec
  dsimp only
  split
  · rfl
  · split
    · simp only [State.post]; split <;> rfl
    · rfl

theorem State.latchDial_eq (n k : Nat) (s : State) : s.latchDial n k = { s with func := (s.latchDial n k).func } := rfl

theorem State.dial_eq (k n : Nat) (s : State) : s.dial k n = { s with func := (s.dial k n).func } := by
  unfold State.dial
  dsimp only
  split <;> rfl

@[simp] theorem State.dial_sent (k n : Nat) (s : State) : (s.dial k n).sent = s.sent := by rw [State.dial_eq]
@[simp] theorem State.dial_txWait (k n : Nat) (s : State) : (s.dial k n).txWait = s.txWait := by rw [State.dial_eq]
@[simp] theorem State.dial_pending (k n : Nat) (s : State) : (s.dial k n).pending = s.pending := by rw [State.dial_eq]
@[simp] theorem State.dial_now (k n : Nat) (s : State) : (s.dial k n).now = s.now := by rw [State.dial_eq]
@[simp] theorem State.dial_nextSw (k n : Nat) (s : State) : (s.dial k n).nextSw = s.nextSw := by rw [State.dial_eq]
@[simp] theorem State.dial_status (k n : Nat) (s : State) : (s.dial k n).status = s.status := by rw [State.dial_eq]
@[simp] theorem State.dial_time (k n : Nat) (s : State) : (s.dial k n).time = s.time := by rw [State.dial_eq]
@[simp] theorem State.dial_obj (k n : Nat) (s : State) : (s.dial k n).obj = s.obj := by rw [State.dial_eq]
@[simp] theorem State.dial_drafts (k n : Nat) (s : State) : (s.dial k n).drafts = s.drafts := by rw [State.dial_eq]
@[simp] theorem State.dial_marks (k n : Nat) (s : State) : (s.dial k n).marks = s.marks := by rw [State.dial_eq]
@[simp] theorem State.dial_winds (k n : Nat) (s : State) : (s.dial k n).winds = s.winds := by rw [State.dial_eq]
@[simp] theorem State.dial_src (k n : Nat) (s : State) : (s.dial k n).src = s.src := by rw [State.dial_eq]
@[simp] theorem State.dial_filtered (k n : Nat) (s : State) : (s.dial k n).filtered = s.filtered := by rw [State.dial_eq]
@[simp] theorem State.dial_bankA (k n : Nat) (s : State) : (s.dial k n).bankA = s.bankA := by rw [State.dial_eq]
@[simp] theorem State.dial_bankB (k n : Nat) (s : State) : (s.dial k n).bankB = s.bankB := by rw [State.dial_eq]
@[simp] theorem State.dial_sensing (k n : Nat) (s : State) : (s.dial k n).sensing = s.sensing := by rw [State.dial_eq]
@[simp] theorem State.dial_late (k n : Nat) (s : State) : (s.dial k n).late = s.late := by rw [State.dial_eq]
@[simp] theorem State.dial_row2 (k n : Nat) (s : State) : (s.dial k n).row2 = s.row2 := by rw [State.dial_eq]
@[simp] theorem State.dial_nextObj (k n : Nat) (s : State) : (s.dial k n).nextObj = s.nextObj := by rw [State.dial_eq]
@[simp] theorem State.dial_dlv (k n : Nat) (s : State) : (s.dial k n).dlv = s.dlv := by rw [State.dial_eq]
@[simp] theorem State.dial_tgt (k n : Nat) (s : State) : (s.dial k n).tgt = s.tgt := by rw [State.dial_eq]
@[simp] theorem State.dial_esc (k n : Nat) (s : State) : (s.dial k n).esc = s.esc := by rw [State.dial_eq]
@[simp] theorem State.dial_heldOps (k n : Nat) (s : State) : (s.dial k n).heldOps = s.heldOps := by rw [State.dial_eq]
@[simp] theorem State.dial_buf (k n : Nat) (s : State) : (s.dial k n).buf = s.buf := by rw [State.dial_eq]
@[simp] theorem State.dial_poolNext (k n : Nat) (s : State) : (s.dial k n).poolNext = s.poolNext := by rw [State.dial_eq]
@[simp] theorem State.dial_poolBack (k n : Nat) (s : State) : (s.dial k n).poolBack = s.poolBack := by rw [State.dial_eq]
@[simp] theorem State.dial_doorbells (k n : Nat) (s : State) : (s.dial k n).doorbells = s.doorbells := by rw [State.dial_eq]
@[simp] theorem State.dial_vfEnable (k n : Nat) (s : State) : (s.dial k n).vfEnable = s.vfEnable := by rw [State.dial_eq]
@[simp] theorem State.dial_numVfs (k n : Nat) (s : State) : (s.dial k n).numVfs = s.numVfs := by rw [State.dial_eq]
@[simp] theorem State.dial_pfD3 (k n : Nat) (s : State) : (s.dial k n).pfD3 = s.pfD3 := by rw [State.dial_eq]
@[simp] theorem State.dial_pmeEn (k n : Nat) (s : State) : (s.dial k n).pmeEn = s.pmeEn := by rw [State.dial_eq]
@[simp] theorem State.dial_perst (k n : Nat) (s : State) : (s.dial k n).perst = s.perst := by rw [State.dial_eq]
@[simp] theorem State.dial_wakeLow (k n : Nat) (s : State) : (s.dial k n).wakeLow = s.wakeLow := by rw [State.dial_eq]
@[simp] theorem State.dial_linkL0 (k n : Nat) (s : State) : (s.dial k n).linkL0 = s.linkL0 := by rw [State.dial_eq]
@[simp] theorem State.dial_eng (k n : Nat) (s : State) : (s.dial k n).eng = s.eng := by rw [State.dial_eq]
@[simp] theorem State.dial_badParity (k n : Nat) (s : State) : (s.dial k n).badParity = s.badParity := by rw [State.dial_eq]
@[simp] theorem State.dial_start (k n : Nat) (s : State) : (s.dial k n).start = s.start := by rw [State.dial_eq]
@[simp] theorem State.dial_resetReq (k n : Nat) (s : State) : (s.dial k n).resetReq = s.resetReq := by rw [State.dial_eq]
@[simp] theorem State.dial_portDeferred (k n : Nat) (s : State) : (s.dial k n).portDeferred = s.portDeferred := by rw [State.dial_eq]
@[simp] theorem State.dial_wdogFrom (k n : Nat) (s : State) : (s.dial k n).wdogFrom = s.wdogFrom := by rw [State.dial_eq]
@[simp] theorem State.dial_blk (k n : Nat) (s : State) : (s.dial k n).blk = s.blk := by rw [State.dial_eq]
@[simp] theorem State.dial_backup (k n : Nat) (s : State) : (s.dial k n).backup = s.backup := by rw [State.dial_eq]
@[simp] theorem State.dial_crown (k n : Nat) (s : State) : (s.dial k n).crown = s.crown := by rw [State.dial_eq]
@[simp] theorem State.dial_straps (k n : Nat) (s : State) : (s.dial k n).straps = s.straps := by rw [State.dial_eq]
@[simp] theorem State.dial_fuseA (k n : Nat) (s : State) : (s.dial k n).fuseA = s.fuseA := by rw [State.dial_eq]
@[simp] theorem State.dial_fuseB (k n : Nat) (s : State) : (s.dial k n).fuseB = s.fuseB := by rw [State.dial_eq]
@[simp] theorem State.dial_shadow (k n : Nat) (s : State) : (s.dial k n).shadow = s.shadow := by rw [State.dial_eq]
@[simp] theorem State.dial_jtag (k n : Nat) (s : State) : (s.dial k n).jtag = s.jtag := by rw [State.dial_eq]
@[simp] theorem State.dial_flash (k n : Nat) (s : State) : (s.dial k n).flash = s.flash := by rw [State.dial_eq]
@[simp] theorem State.dial_fw (k n : Nat) (s : State) : (s.dial k n).fw = s.fw := by rw [State.dial_eq]
@[simp] theorem State.dial_supply (k n : Nat) (s : State) : (s.dial k n).supply = s.supply := by rw [State.dial_eq]
@[simp] theorem State.dial_gasp (k n : Nat) (s : State) : (s.dial k n).gasp = s.gasp := by rw [State.dial_eq]
@[simp] theorem State.dial_quiet (k n : Nat) (s : State) : (s.dial k n).quiet = s.quiet := by rw [State.dial_eq]
@[simp] theorem State.dial_tdm (k n : Nat) (s : State) : (s.dial k n).tdm = s.tdm := by rw [State.dial_eq]
@[simp] theorem State.dial_port (k n : Nat) (s : State) : (s.dial k n).port = s.port := by rw [State.dial_eq]
@[simp] theorem State.dial_first (k n : Nat) (s : State) : (s.dial k n).first = s.first := by rw [State.dial_eq]
@[simp] theorem State.dial_multi (k n : Nat) (s : State) : (s.dial k n).multi = s.multi := by rw [State.dial_eq]
@[simp] theorem State.dial_worst (k n : Nat) (s : State) : (s.dial k n).worst = s.worst := by rw [State.dial_eq]
@[simp] theorem State.dial_faultB (k n : Nat) (s : State) : (s.dial k n).faultB = s.faultB := by rw [State.dial_eq]
@[simp] theorem State.dial_chr (k n : Nat) (s : State) : (s.dial k n).chr = s.chr := by rw [State.dial_eq]
@[simp] theorem State.dial_dram (k n : Nat) (s : State) : (s.dial k n).dram = s.dram := by rw [State.dial_eq]
@[simp] theorem State.dial_chrWin (k n : Nat) (s : State) : (s.dial k n).chrWin = s.chrWin := by rw [State.dial_eq]
@[simp] theorem State.dial_free (k n : Nat) (s : State) : (s.dial k n).free = s.free := by rw [State.dial_eq]

theorem State.chrAppend_eq (r : ChrRec) (s : State) :
    s.chrAppend r = { s with obj := (s.chrAppend r).obj, chr := (s.chrAppend r).chr, func := (s.chrAppend r).func } := by
  unfold State.chrAppend
  split
  · rfl
  · rw [State.dial_eq]; rfl

theorem State.chrLost_eq (s : State) : s.chrLost = { s with chr := s.chrLost.chr } := by
  unfold State.chrLost; split <;> rfl

theorem State.chrPut_eq (kind : Nat) (ten : Option Nat) (body : List Byte) (s : State) :
    s.chrPut kind ten body = { s with obj := (s.chrPut kind ten body).obj, chr := (s.chrPut kind ten body).chr, func := (s.chrPut kind ten body).func } := by
  unfold State.chrPut
  dsimp only
  split
  · rw [State.dial_eq]; rfl
  · rw [State.chrAppend_eq, State.chrLost_eq]

@[simp] theorem State.chrPut_pending (kind : Nat) (ten : Option Nat) (body : List Byte) (s : State) : (s.chrPut kind ten body).pending = s.pending := by rw [State.chrPut_eq]
@[simp] theorem State.chrPut_now (kind : Nat) (ten : Option Nat) (body : List Byte) (s : State) : (s.chrPut kind ten body).now = s.now := by rw [State.chrPut_eq]
@[simp] theorem State.chrPut_nextSw (kind : Nat) (ten : Option Nat) (body : List Byte) (s : State) : (s.chrPut kind ten body).nextSw = s.nextSw := by rw [State.chrPut_eq]
@[simp] theorem State.chrPut_status (kind : Nat) (ten : Option Nat) (body : List Byte) (s : State) : (s.chrPut kind ten body).status = s.status := by rw [State.chrPut_eq]
@[simp] theorem State.chrPut_time (kind : Nat) (ten : Option Nat) (body : List Byte) (s : State) : (s.chrPut kind ten body).time = s.time := by rw [State.chrPut_eq]
@[simp] theorem State.chrPut_drafts (kind : Nat) (ten : Option Nat) (body : List Byte) (s : State) : (s.chrPut kind ten body).drafts = s.drafts := by rw [State.chrPut_eq]
@[simp] theorem State.chrPut_marks (kind : Nat) (ten : Option Nat) (body : List Byte) (s : State) : (s.chrPut kind ten body).marks = s.marks := by rw [State.chrPut_eq]
@[simp] theorem State.chrPut_winds (kind : Nat) (ten : Option Nat) (body : List Byte) (s : State) : (s.chrPut kind ten body).winds = s.winds := by rw [State.chrPut_eq]
@[simp] theorem State.chrPut_src (kind : Nat) (ten : Option Nat) (body : List Byte) (s : State) : (s.chrPut kind ten body).src = s.src := by rw [State.chrPut_eq]
@[simp] theorem State.chrPut_filtered (kind : Nat) (ten : Option Nat) (body : List Byte) (s : State) : (s.chrPut kind ten body).filtered = s.filtered := by rw [State.chrPut_eq]
@[simp] theorem State.chrPut_bankA (kind : Nat) (ten : Option Nat) (body : List Byte) (s : State) : (s.chrPut kind ten body).bankA = s.bankA := by rw [State.chrPut_eq]
@[simp] theorem State.chrPut_bankB (kind : Nat) (ten : Option Nat) (body : List Byte) (s : State) : (s.chrPut kind ten body).bankB = s.bankB := by rw [State.chrPut_eq]
@[simp] theorem State.chrPut_sensing (kind : Nat) (ten : Option Nat) (body : List Byte) (s : State) : (s.chrPut kind ten body).sensing = s.sensing := by rw [State.chrPut_eq]
@[simp] theorem State.chrPut_late (kind : Nat) (ten : Option Nat) (body : List Byte) (s : State) : (s.chrPut kind ten body).late = s.late := by rw [State.chrPut_eq]
@[simp] theorem State.chrPut_row2 (kind : Nat) (ten : Option Nat) (body : List Byte) (s : State) : (s.chrPut kind ten body).row2 = s.row2 := by rw [State.chrPut_eq]
@[simp] theorem State.chrPut_nextObj (kind : Nat) (ten : Option Nat) (body : List Byte) (s : State) : (s.chrPut kind ten body).nextObj = s.nextObj := by rw [State.chrPut_eq]
@[simp] theorem State.chrPut_dlv (kind : Nat) (ten : Option Nat) (body : List Byte) (s : State) : (s.chrPut kind ten body).dlv = s.dlv := by rw [State.chrPut_eq]
@[simp] theorem State.chrPut_tgt (kind : Nat) (ten : Option Nat) (body : List Byte) (s : State) : (s.chrPut kind ten body).tgt = s.tgt := by rw [State.chrPut_eq]
@[simp] theorem State.chrPut_esc (kind : Nat) (ten : Option Nat) (body : List Byte) (s : State) : (s.chrPut kind ten body).esc = s.esc := by rw [State.chrPut_eq]
@[simp] theorem State.chrPut_heldOps (kind : Nat) (ten : Option Nat) (body : List Byte) (s : State) : (s.chrPut kind ten body).heldOps = s.heldOps := by rw [State.chrPut_eq]
@[simp] theorem State.chrPut_buf (kind : Nat) (ten : Option Nat) (body : List Byte) (s : State) : (s.chrPut kind ten body).buf = s.buf := by rw [State.chrPut_eq]
@[simp] theorem State.chrPut_poolNext (kind : Nat) (ten : Option Nat) (body : List Byte) (s : State) : (s.chrPut kind ten body).poolNext = s.poolNext := by rw [State.chrPut_eq]
@[simp] theorem State.chrPut_poolBack (kind : Nat) (ten : Option Nat) (body : List Byte) (s : State) : (s.chrPut kind ten body).poolBack = s.poolBack := by rw [State.chrPut_eq]
@[simp] theorem State.chrPut_doorbells (kind : Nat) (ten : Option Nat) (body : List Byte) (s : State) : (s.chrPut kind ten body).doorbells = s.doorbells := by rw [State.chrPut_eq]
@[simp] theorem State.chrPut_vfEnable (kind : Nat) (ten : Option Nat) (body : List Byte) (s : State) : (s.chrPut kind ten body).vfEnable = s.vfEnable := by rw [State.chrPut_eq]
@[simp] theorem State.chrPut_numVfs (kind : Nat) (ten : Option Nat) (body : List Byte) (s : State) : (s.chrPut kind ten body).numVfs = s.numVfs := by rw [State.chrPut_eq]
@[simp] theorem State.chrPut_pfD3 (kind : Nat) (ten : Option Nat) (body : List Byte) (s : State) : (s.chrPut kind ten body).pfD3 = s.pfD3 := by rw [State.chrPut_eq]
@[simp] theorem State.chrPut_pmeEn (kind : Nat) (ten : Option Nat) (body : List Byte) (s : State) : (s.chrPut kind ten body).pmeEn = s.pmeEn := by rw [State.chrPut_eq]
@[simp] theorem State.chrPut_perst (kind : Nat) (ten : Option Nat) (body : List Byte) (s : State) : (s.chrPut kind ten body).perst = s.perst := by rw [State.chrPut_eq]
@[simp] theorem State.chrPut_wakeLow (kind : Nat) (ten : Option Nat) (body : List Byte) (s : State) : (s.chrPut kind ten body).wakeLow = s.wakeLow := by rw [State.chrPut_eq]
@[simp] theorem State.chrPut_linkL0 (kind : Nat) (ten : Option Nat) (body : List Byte) (s : State) : (s.chrPut kind ten body).linkL0 = s.linkL0 := by rw [State.chrPut_eq]
@[simp] theorem State.chrPut_eng (kind : Nat) (ten : Option Nat) (body : List Byte) (s : State) : (s.chrPut kind ten body).eng = s.eng := by rw [State.chrPut_eq]
@[simp] theorem State.chrPut_badParity (kind : Nat) (ten : Option Nat) (body : List Byte) (s : State) : (s.chrPut kind ten body).badParity = s.badParity := by rw [State.chrPut_eq]
@[simp] theorem State.chrPut_start (kind : Nat) (ten : Option Nat) (body : List Byte) (s : State) : (s.chrPut kind ten body).start = s.start := by rw [State.chrPut_eq]
@[simp] theorem State.chrPut_resetReq (kind : Nat) (ten : Option Nat) (body : List Byte) (s : State) : (s.chrPut kind ten body).resetReq = s.resetReq := by rw [State.chrPut_eq]
@[simp] theorem State.chrPut_portDeferred (kind : Nat) (ten : Option Nat) (body : List Byte) (s : State) : (s.chrPut kind ten body).portDeferred = s.portDeferred := by rw [State.chrPut_eq]
@[simp] theorem State.chrPut_wdogFrom (kind : Nat) (ten : Option Nat) (body : List Byte) (s : State) : (s.chrPut kind ten body).wdogFrom = s.wdogFrom := by rw [State.chrPut_eq]
@[simp] theorem State.chrPut_blk (kind : Nat) (ten : Option Nat) (body : List Byte) (s : State) : (s.chrPut kind ten body).blk = s.blk := by rw [State.chrPut_eq]
@[simp] theorem State.chrPut_backup (kind : Nat) (ten : Option Nat) (body : List Byte) (s : State) : (s.chrPut kind ten body).backup = s.backup := by rw [State.chrPut_eq]
@[simp] theorem State.chrPut_crown (kind : Nat) (ten : Option Nat) (body : List Byte) (s : State) : (s.chrPut kind ten body).crown = s.crown := by rw [State.chrPut_eq]
@[simp] theorem State.chrPut_straps (kind : Nat) (ten : Option Nat) (body : List Byte) (s : State) : (s.chrPut kind ten body).straps = s.straps := by rw [State.chrPut_eq]
@[simp] theorem State.chrPut_fuseA (kind : Nat) (ten : Option Nat) (body : List Byte) (s : State) : (s.chrPut kind ten body).fuseA = s.fuseA := by rw [State.chrPut_eq]
@[simp] theorem State.chrPut_fuseB (kind : Nat) (ten : Option Nat) (body : List Byte) (s : State) : (s.chrPut kind ten body).fuseB = s.fuseB := by rw [State.chrPut_eq]
@[simp] theorem State.chrPut_shadow (kind : Nat) (ten : Option Nat) (body : List Byte) (s : State) : (s.chrPut kind ten body).shadow = s.shadow := by rw [State.chrPut_eq]
@[simp] theorem State.chrPut_jtag (kind : Nat) (ten : Option Nat) (body : List Byte) (s : State) : (s.chrPut kind ten body).jtag = s.jtag := by rw [State.chrPut_eq]
@[simp] theorem State.chrPut_flash (kind : Nat) (ten : Option Nat) (body : List Byte) (s : State) : (s.chrPut kind ten body).flash = s.flash := by rw [State.chrPut_eq]
@[simp] theorem State.chrPut_fw (kind : Nat) (ten : Option Nat) (body : List Byte) (s : State) : (s.chrPut kind ten body).fw = s.fw := by rw [State.chrPut_eq]
@[simp] theorem State.chrPut_supply (kind : Nat) (ten : Option Nat) (body : List Byte) (s : State) : (s.chrPut kind ten body).supply = s.supply := by rw [State.chrPut_eq]
@[simp] theorem State.chrPut_gasp (kind : Nat) (ten : Option Nat) (body : List Byte) (s : State) : (s.chrPut kind ten body).gasp = s.gasp := by rw [State.chrPut_eq]
@[simp] theorem State.chrPut_quiet (kind : Nat) (ten : Option Nat) (body : List Byte) (s : State) : (s.chrPut kind ten body).quiet = s.quiet := by rw [State.chrPut_eq]
@[simp] theorem State.chrPut_tdm (kind : Nat) (ten : Option Nat) (body : List Byte) (s : State) : (s.chrPut kind ten body).tdm = s.tdm := by rw [State.chrPut_eq]
@[simp] theorem State.chrPut_port (kind : Nat) (ten : Option Nat) (body : List Byte) (s : State) : (s.chrPut kind ten body).port = s.port := by rw [State.chrPut_eq]
@[simp] theorem State.chrPut_first (kind : Nat) (ten : Option Nat) (body : List Byte) (s : State) : (s.chrPut kind ten body).first = s.first := by rw [State.chrPut_eq]
@[simp] theorem State.chrPut_multi (kind : Nat) (ten : Option Nat) (body : List Byte) (s : State) : (s.chrPut kind ten body).multi = s.multi := by rw [State.chrPut_eq]
@[simp] theorem State.chrPut_worst (kind : Nat) (ten : Option Nat) (body : List Byte) (s : State) : (s.chrPut kind ten body).worst = s.worst := by rw [State.chrPut_eq]
@[simp] theorem State.chrPut_faultB (kind : Nat) (ten : Option Nat) (body : List Byte) (s : State) : (s.chrPut kind ten body).faultB = s.faultB := by rw [State.chrPut_eq]
@[simp] theorem State.chrPut_dram (kind : Nat) (ten : Option Nat) (body : List Byte) (s : State) : (s.chrPut kind ten body).dram = s.dram := by rw [State.chrPut_eq]
@[simp] theorem State.chrPut_chrWin (kind : Nat) (ten : Option Nat) (body : List Byte) (s : State) : (s.chrPut kind ten body).chrWin = s.chrWin := by rw [State.chrPut_eq]
@[simp] theorem State.chrPut_free (kind : Nat) (ten : Option Nat) (body : List Byte) (s : State) : (s.chrPut kind ten body).free = s.free := by rw [State.chrPut_eq]
@[simp] theorem State.chrPut_sent (kind : Nat) (ten : Option Nat) (body : List Byte) (s : State) : (s.chrPut kind ten body).sent = s.sent := by rw [State.chrPut_eq]
@[simp] theorem State.chrPut_txWait (kind : Nat) (ten : Option Nat) (body : List Byte) (s : State) : (s.chrPut kind ten body).txWait = s.txWait := by rw [State.chrPut_eq]

theorem State.note_eq (ev : Ev) (n : Nat) (old : Source) (s : State) :
    s.note ev n old = { s with obj := (s.note ev n old).obj, chr := (s.note ev n old).chr, func := (s.note ev n old).func, tdm := (s.note ev n old).tdm } := by
  unfold State.note
  dsimp only
  split <;> split <;> first | rfl | (rw [State.chrPut_eq])

@[simp] theorem State.note_pending (ev : Ev) (n : Nat) (old : Source) (s : State) : (s.note ev n old).pending = s.pending := by rw [State.note_eq]
@[simp] theorem State.note_now (ev : Ev) (n : Nat) (old : Source) (s : State) : (s.note ev n old).now = s.now := by rw [State.note_eq]
@[simp] theorem State.note_nextSw (ev : Ev) (n : Nat) (old : Source) (s : State) : (s.note ev n old).nextSw = s.nextSw := by rw [State.note_eq]
@[simp] theorem State.note_status (ev : Ev) (n : Nat) (old : Source) (s : State) : (s.note ev n old).status = s.status := by rw [State.note_eq]
@[simp] theorem State.note_time (ev : Ev) (n : Nat) (old : Source) (s : State) : (s.note ev n old).time = s.time := by rw [State.note_eq]
@[simp] theorem State.note_drafts (ev : Ev) (n : Nat) (old : Source) (s : State) : (s.note ev n old).drafts = s.drafts := by rw [State.note_eq]
@[simp] theorem State.note_marks (ev : Ev) (n : Nat) (old : Source) (s : State) : (s.note ev n old).marks = s.marks := by rw [State.note_eq]
@[simp] theorem State.note_winds (ev : Ev) (n : Nat) (old : Source) (s : State) : (s.note ev n old).winds = s.winds := by rw [State.note_eq]
@[simp] theorem State.note_src (ev : Ev) (n : Nat) (old : Source) (s : State) : (s.note ev n old).src = s.src := by rw [State.note_eq]
@[simp] theorem State.note_filtered (ev : Ev) (n : Nat) (old : Source) (s : State) : (s.note ev n old).filtered = s.filtered := by rw [State.note_eq]
@[simp] theorem State.note_bankA (ev : Ev) (n : Nat) (old : Source) (s : State) : (s.note ev n old).bankA = s.bankA := by rw [State.note_eq]
@[simp] theorem State.note_bankB (ev : Ev) (n : Nat) (old : Source) (s : State) : (s.note ev n old).bankB = s.bankB := by rw [State.note_eq]
@[simp] theorem State.note_sensing (ev : Ev) (n : Nat) (old : Source) (s : State) : (s.note ev n old).sensing = s.sensing := by rw [State.note_eq]
@[simp] theorem State.note_late (ev : Ev) (n : Nat) (old : Source) (s : State) : (s.note ev n old).late = s.late := by rw [State.note_eq]
@[simp] theorem State.note_row2 (ev : Ev) (n : Nat) (old : Source) (s : State) : (s.note ev n old).row2 = s.row2 := by rw [State.note_eq]
@[simp] theorem State.note_nextObj (ev : Ev) (n : Nat) (old : Source) (s : State) : (s.note ev n old).nextObj = s.nextObj := by rw [State.note_eq]
@[simp] theorem State.note_dlv (ev : Ev) (n : Nat) (old : Source) (s : State) : (s.note ev n old).dlv = s.dlv := by rw [State.note_eq]
@[simp] theorem State.note_tgt (ev : Ev) (n : Nat) (old : Source) (s : State) : (s.note ev n old).tgt = s.tgt := by rw [State.note_eq]
@[simp] theorem State.note_esc (ev : Ev) (n : Nat) (old : Source) (s : State) : (s.note ev n old).esc = s.esc := by rw [State.note_eq]
@[simp] theorem State.note_heldOps (ev : Ev) (n : Nat) (old : Source) (s : State) : (s.note ev n old).heldOps = s.heldOps := by rw [State.note_eq]
@[simp] theorem State.note_buf (ev : Ev) (n : Nat) (old : Source) (s : State) : (s.note ev n old).buf = s.buf := by rw [State.note_eq]
@[simp] theorem State.note_poolNext (ev : Ev) (n : Nat) (old : Source) (s : State) : (s.note ev n old).poolNext = s.poolNext := by rw [State.note_eq]
@[simp] theorem State.note_poolBack (ev : Ev) (n : Nat) (old : Source) (s : State) : (s.note ev n old).poolBack = s.poolBack := by rw [State.note_eq]
@[simp] theorem State.note_doorbells (ev : Ev) (n : Nat) (old : Source) (s : State) : (s.note ev n old).doorbells = s.doorbells := by rw [State.note_eq]
@[simp] theorem State.note_vfEnable (ev : Ev) (n : Nat) (old : Source) (s : State) : (s.note ev n old).vfEnable = s.vfEnable := by rw [State.note_eq]
@[simp] theorem State.note_numVfs (ev : Ev) (n : Nat) (old : Source) (s : State) : (s.note ev n old).numVfs = s.numVfs := by rw [State.note_eq]
@[simp] theorem State.note_pfD3 (ev : Ev) (n : Nat) (old : Source) (s : State) : (s.note ev n old).pfD3 = s.pfD3 := by rw [State.note_eq]
@[simp] theorem State.note_pmeEn (ev : Ev) (n : Nat) (old : Source) (s : State) : (s.note ev n old).pmeEn = s.pmeEn := by rw [State.note_eq]
@[simp] theorem State.note_perst (ev : Ev) (n : Nat) (old : Source) (s : State) : (s.note ev n old).perst = s.perst := by rw [State.note_eq]
@[simp] theorem State.note_wakeLow (ev : Ev) (n : Nat) (old : Source) (s : State) : (s.note ev n old).wakeLow = s.wakeLow := by rw [State.note_eq]
@[simp] theorem State.note_linkL0 (ev : Ev) (n : Nat) (old : Source) (s : State) : (s.note ev n old).linkL0 = s.linkL0 := by rw [State.note_eq]
@[simp] theorem State.note_eng (ev : Ev) (n : Nat) (old : Source) (s : State) : (s.note ev n old).eng = s.eng := by rw [State.note_eq]
@[simp] theorem State.note_badParity (ev : Ev) (n : Nat) (old : Source) (s : State) : (s.note ev n old).badParity = s.badParity := by rw [State.note_eq]
@[simp] theorem State.note_start (ev : Ev) (n : Nat) (old : Source) (s : State) : (s.note ev n old).start = s.start := by rw [State.note_eq]
@[simp] theorem State.note_resetReq (ev : Ev) (n : Nat) (old : Source) (s : State) : (s.note ev n old).resetReq = s.resetReq := by rw [State.note_eq]
@[simp] theorem State.note_portDeferred (ev : Ev) (n : Nat) (old : Source) (s : State) : (s.note ev n old).portDeferred = s.portDeferred := by rw [State.note_eq]
@[simp] theorem State.note_wdogFrom (ev : Ev) (n : Nat) (old : Source) (s : State) : (s.note ev n old).wdogFrom = s.wdogFrom := by rw [State.note_eq]
@[simp] theorem State.note_blk (ev : Ev) (n : Nat) (old : Source) (s : State) : (s.note ev n old).blk = s.blk := by rw [State.note_eq]
@[simp] theorem State.note_backup (ev : Ev) (n : Nat) (old : Source) (s : State) : (s.note ev n old).backup = s.backup := by rw [State.note_eq]
@[simp] theorem State.note_crown (ev : Ev) (n : Nat) (old : Source) (s : State) : (s.note ev n old).crown = s.crown := by rw [State.note_eq]
@[simp] theorem State.note_straps (ev : Ev) (n : Nat) (old : Source) (s : State) : (s.note ev n old).straps = s.straps := by rw [State.note_eq]
@[simp] theorem State.note_fuseA (ev : Ev) (n : Nat) (old : Source) (s : State) : (s.note ev n old).fuseA = s.fuseA := by rw [State.note_eq]
@[simp] theorem State.note_fuseB (ev : Ev) (n : Nat) (old : Source) (s : State) : (s.note ev n old).fuseB = s.fuseB := by rw [State.note_eq]
@[simp] theorem State.note_shadow (ev : Ev) (n : Nat) (old : Source) (s : State) : (s.note ev n old).shadow = s.shadow := by rw [State.note_eq]
@[simp] theorem State.note_jtag (ev : Ev) (n : Nat) (old : Source) (s : State) : (s.note ev n old).jtag = s.jtag := by rw [State.note_eq]
@[simp] theorem State.note_flash (ev : Ev) (n : Nat) (old : Source) (s : State) : (s.note ev n old).flash = s.flash := by rw [State.note_eq]
@[simp] theorem State.note_fw (ev : Ev) (n : Nat) (old : Source) (s : State) : (s.note ev n old).fw = s.fw := by rw [State.note_eq]
@[simp] theorem State.note_supply (ev : Ev) (n : Nat) (old : Source) (s : State) : (s.note ev n old).supply = s.supply := by rw [State.note_eq]
@[simp] theorem State.note_gasp (ev : Ev) (n : Nat) (old : Source) (s : State) : (s.note ev n old).gasp = s.gasp := by rw [State.note_eq]
@[simp] theorem State.note_quiet (ev : Ev) (n : Nat) (old : Source) (s : State) : (s.note ev n old).quiet = s.quiet := by rw [State.note_eq]
@[simp] theorem State.note_port (ev : Ev) (n : Nat) (old : Source) (s : State) : (s.note ev n old).port = s.port := by rw [State.note_eq]
@[simp] theorem State.note_first (ev : Ev) (n : Nat) (old : Source) (s : State) : (s.note ev n old).first = s.first := by rw [State.note_eq]
@[simp] theorem State.note_multi (ev : Ev) (n : Nat) (old : Source) (s : State) : (s.note ev n old).multi = s.multi := by rw [State.note_eq]
@[simp] theorem State.note_worst (ev : Ev) (n : Nat) (old : Source) (s : State) : (s.note ev n old).worst = s.worst := by rw [State.note_eq]
@[simp] theorem State.note_faultB (ev : Ev) (n : Nat) (old : Source) (s : State) : (s.note ev n old).faultB = s.faultB := by rw [State.note_eq]
@[simp] theorem State.note_dram (ev : Ev) (n : Nat) (old : Source) (s : State) : (s.note ev n old).dram = s.dram := by rw [State.note_eq]
@[simp] theorem State.note_chrWin (ev : Ev) (n : Nat) (old : Source) (s : State) : (s.note ev n old).chrWin = s.chrWin := by rw [State.note_eq]
@[simp] theorem State.note_free (ev : Ev) (n : Nat) (old : Source) (s : State) : (s.note ev n old).free = s.free := by rw [State.note_eq]
@[simp] theorem State.note_sent (ev : Ev) (n : Nat) (old : Source) (s : State) : (s.note ev n old).sent = s.sent := by rw [State.note_eq]
@[simp] theorem State.note_txWait (ev : Ev) (n : Nat) (old : Source) (s : State) : (s.note ev n old).txWait = s.txWait := by rw [State.note_eq]

theorem State.accessFault_eq (n : Nat) (s : State) :
    s.accessFault n = { s with obj := (s.accessFault n).obj, func := (s.accessFault n).func } := by
  unfold State.accessFault; rw [State.dial_eq]; rfl

@[simp] theorem State.accessFault_pending (n : Nat) (s : State) : (s.accessFault n).pending = s.pending := by rw [State.accessFault_eq]
@[simp] theorem State.accessFault_now (n : Nat) (s : State) : (s.accessFault n).now = s.now := by rw [State.accessFault_eq]
@[simp] theorem State.accessFault_nextSw (n : Nat) (s : State) : (s.accessFault n).nextSw = s.nextSw := by rw [State.accessFault_eq]
@[simp] theorem State.accessFault_status (n : Nat) (s : State) : (s.accessFault n).status = s.status := by rw [State.accessFault_eq]
@[simp] theorem State.accessFault_time (n : Nat) (s : State) : (s.accessFault n).time = s.time := by rw [State.accessFault_eq]
@[simp] theorem State.accessFault_drafts (n : Nat) (s : State) : (s.accessFault n).drafts = s.drafts := by rw [State.accessFault_eq]
@[simp] theorem State.accessFault_marks (n : Nat) (s : State) : (s.accessFault n).marks = s.marks := by rw [State.accessFault_eq]
@[simp] theorem State.accessFault_winds (n : Nat) (s : State) : (s.accessFault n).winds = s.winds := by rw [State.accessFault_eq]
@[simp] theorem State.accessFault_src (n : Nat) (s : State) : (s.accessFault n).src = s.src := by rw [State.accessFault_eq]
@[simp] theorem State.accessFault_filtered (n : Nat) (s : State) : (s.accessFault n).filtered = s.filtered := by rw [State.accessFault_eq]
@[simp] theorem State.accessFault_bankA (n : Nat) (s : State) : (s.accessFault n).bankA = s.bankA := by rw [State.accessFault_eq]
@[simp] theorem State.accessFault_bankB (n : Nat) (s : State) : (s.accessFault n).bankB = s.bankB := by rw [State.accessFault_eq]
@[simp] theorem State.accessFault_sensing (n : Nat) (s : State) : (s.accessFault n).sensing = s.sensing := by rw [State.accessFault_eq]
@[simp] theorem State.accessFault_late (n : Nat) (s : State) : (s.accessFault n).late = s.late := by rw [State.accessFault_eq]
@[simp] theorem State.accessFault_row2 (n : Nat) (s : State) : (s.accessFault n).row2 = s.row2 := by rw [State.accessFault_eq]
@[simp] theorem State.accessFault_nextObj (n : Nat) (s : State) : (s.accessFault n).nextObj = s.nextObj := by rw [State.accessFault_eq]
@[simp] theorem State.accessFault_dlv (n : Nat) (s : State) : (s.accessFault n).dlv = s.dlv := by rw [State.accessFault_eq]
@[simp] theorem State.accessFault_tgt (n : Nat) (s : State) : (s.accessFault n).tgt = s.tgt := by rw [State.accessFault_eq]
@[simp] theorem State.accessFault_esc (n : Nat) (s : State) : (s.accessFault n).esc = s.esc := by rw [State.accessFault_eq]
@[simp] theorem State.accessFault_heldOps (n : Nat) (s : State) : (s.accessFault n).heldOps = s.heldOps := by rw [State.accessFault_eq]
@[simp] theorem State.accessFault_buf (n : Nat) (s : State) : (s.accessFault n).buf = s.buf := by rw [State.accessFault_eq]
@[simp] theorem State.accessFault_poolNext (n : Nat) (s : State) : (s.accessFault n).poolNext = s.poolNext := by rw [State.accessFault_eq]
@[simp] theorem State.accessFault_poolBack (n : Nat) (s : State) : (s.accessFault n).poolBack = s.poolBack := by rw [State.accessFault_eq]
@[simp] theorem State.accessFault_doorbells (n : Nat) (s : State) : (s.accessFault n).doorbells = s.doorbells := by rw [State.accessFault_eq]
@[simp] theorem State.accessFault_vfEnable (n : Nat) (s : State) : (s.accessFault n).vfEnable = s.vfEnable := by rw [State.accessFault_eq]
@[simp] theorem State.accessFault_numVfs (n : Nat) (s : State) : (s.accessFault n).numVfs = s.numVfs := by rw [State.accessFault_eq]
@[simp] theorem State.accessFault_pfD3 (n : Nat) (s : State) : (s.accessFault n).pfD3 = s.pfD3 := by rw [State.accessFault_eq]
@[simp] theorem State.accessFault_pmeEn (n : Nat) (s : State) : (s.accessFault n).pmeEn = s.pmeEn := by rw [State.accessFault_eq]
@[simp] theorem State.accessFault_perst (n : Nat) (s : State) : (s.accessFault n).perst = s.perst := by rw [State.accessFault_eq]
@[simp] theorem State.accessFault_wakeLow (n : Nat) (s : State) : (s.accessFault n).wakeLow = s.wakeLow := by rw [State.accessFault_eq]
@[simp] theorem State.accessFault_linkL0 (n : Nat) (s : State) : (s.accessFault n).linkL0 = s.linkL0 := by rw [State.accessFault_eq]
@[simp] theorem State.accessFault_eng (n : Nat) (s : State) : (s.accessFault n).eng = s.eng := by rw [State.accessFault_eq]
@[simp] theorem State.accessFault_badParity (n : Nat) (s : State) : (s.accessFault n).badParity = s.badParity := by rw [State.accessFault_eq]
@[simp] theorem State.accessFault_start (n : Nat) (s : State) : (s.accessFault n).start = s.start := by rw [State.accessFault_eq]
@[simp] theorem State.accessFault_resetReq (n : Nat) (s : State) : (s.accessFault n).resetReq = s.resetReq := by rw [State.accessFault_eq]
@[simp] theorem State.accessFault_portDeferred (n : Nat) (s : State) : (s.accessFault n).portDeferred = s.portDeferred := by rw [State.accessFault_eq]
@[simp] theorem State.accessFault_wdogFrom (n : Nat) (s : State) : (s.accessFault n).wdogFrom = s.wdogFrom := by rw [State.accessFault_eq]
@[simp] theorem State.accessFault_blk (n : Nat) (s : State) : (s.accessFault n).blk = s.blk := by rw [State.accessFault_eq]
@[simp] theorem State.accessFault_backup (n : Nat) (s : State) : (s.accessFault n).backup = s.backup := by rw [State.accessFault_eq]
@[simp] theorem State.accessFault_crown (n : Nat) (s : State) : (s.accessFault n).crown = s.crown := by rw [State.accessFault_eq]
@[simp] theorem State.accessFault_straps (n : Nat) (s : State) : (s.accessFault n).straps = s.straps := by rw [State.accessFault_eq]
@[simp] theorem State.accessFault_fuseA (n : Nat) (s : State) : (s.accessFault n).fuseA = s.fuseA := by rw [State.accessFault_eq]
@[simp] theorem State.accessFault_fuseB (n : Nat) (s : State) : (s.accessFault n).fuseB = s.fuseB := by rw [State.accessFault_eq]
@[simp] theorem State.accessFault_shadow (n : Nat) (s : State) : (s.accessFault n).shadow = s.shadow := by rw [State.accessFault_eq]
@[simp] theorem State.accessFault_jtag (n : Nat) (s : State) : (s.accessFault n).jtag = s.jtag := by rw [State.accessFault_eq]
@[simp] theorem State.accessFault_flash (n : Nat) (s : State) : (s.accessFault n).flash = s.flash := by rw [State.accessFault_eq]
@[simp] theorem State.accessFault_fw (n : Nat) (s : State) : (s.accessFault n).fw = s.fw := by rw [State.accessFault_eq]
@[simp] theorem State.accessFault_supply (n : Nat) (s : State) : (s.accessFault n).supply = s.supply := by rw [State.accessFault_eq]
@[simp] theorem State.accessFault_gasp (n : Nat) (s : State) : (s.accessFault n).gasp = s.gasp := by rw [State.accessFault_eq]
@[simp] theorem State.accessFault_quiet (n : Nat) (s : State) : (s.accessFault n).quiet = s.quiet := by rw [State.accessFault_eq]
@[simp] theorem State.accessFault_tdm (n : Nat) (s : State) : (s.accessFault n).tdm = s.tdm := by rw [State.accessFault_eq]
@[simp] theorem State.accessFault_port (n : Nat) (s : State) : (s.accessFault n).port = s.port := by rw [State.accessFault_eq]
@[simp] theorem State.accessFault_first (n : Nat) (s : State) : (s.accessFault n).first = s.first := by rw [State.accessFault_eq]
@[simp] theorem State.accessFault_multi (n : Nat) (s : State) : (s.accessFault n).multi = s.multi := by rw [State.accessFault_eq]
@[simp] theorem State.accessFault_worst (n : Nat) (s : State) : (s.accessFault n).worst = s.worst := by rw [State.accessFault_eq]
@[simp] theorem State.accessFault_faultB (n : Nat) (s : State) : (s.accessFault n).faultB = s.faultB := by rw [State.accessFault_eq]
@[simp] theorem State.accessFault_chr (n : Nat) (s : State) : (s.accessFault n).chr = s.chr := by rw [State.accessFault_eq]
@[simp] theorem State.accessFault_dram (n : Nat) (s : State) : (s.accessFault n).dram = s.dram := by rw [State.accessFault_eq]
@[simp] theorem State.accessFault_chrWin (n : Nat) (s : State) : (s.accessFault n).chrWin = s.chrWin := by rw [State.accessFault_eq]
@[simp] theorem State.accessFault_free (n : Nat) (s : State) : (s.accessFault n).free = s.free := by rw [State.accessFault_eq]
@[simp] theorem State.accessFault_sent (n : Nat) (s : State) : (s.accessFault n).sent = s.sent := by rw [State.accessFault_eq]
@[simp] theorem State.accessFault_txWait (n : Nat) (s : State) : (s.accessFault n).txWait = s.txWait := by rw [State.accessFault_eq]

/-! ## Objects -/

@[simp] theorem State.o_dial (k n i e : Nat) (s : State) : (s.dial k n).o i e = s.o i e := by
  unfold State.o; rw [State.dial_obj]

theorem State.o_chrPut (kind : Nat) (ten : Option Nat) (body : List Byte) {i e : Nat} (s : State)
    (h : pkey i e ≠ pkey 0x1721 0) : (s.chrPut kind ten body).o i e = s.o i e := by
  unfold State.chrPut
  dsimp only
  split
  · rw [State.o_dial]; exact State.o_bump_ne _ _ _ _ h
  · unfold State.chrAppend
    dsimp only
    have hl : s.chrLost.o i e = s.o i e := by unfold State.o; rw [State.chrLost_eq]
    split
    · exact hl
    · rw [State.o_dial]; exact (State.o_bump_ne _ _ _ _ h).trans hl

theorem State.o_note (ev : Ev) (n : Nat) (old : Source) {i e : Nat} (s : State) (h : pkey i e ≠ pkey 0x1721 0) :
    (s.note ev n old).o i e = s.o i e := by
  have key (y : State) (hy : y.o i e = s.o i e) (c : Bool) :
      (if c = true then { y with tdm := { y.tdm with dirty := insertNat n y.tdm.dirty } } else y).o i e = s.o i e := by
    cases c <;> exact hy
  unfold State.note
  refine key _ ?_ _
  split
  · exact State.o_chrPut _ _ _ _ h
  · rfl

@[simp] theorem State.srcAt_note (ev : Ev) (n : Nat) (old : Source) (m : Nat) (s : State) :
    (s.note ev n old).srcAt m = s.srcAt m := by unfold State.srcAt; rw [State.note_src]

@[simp] theorem State.srcAt_chrPut (kind : Nat) (ten : Option Nat) (body : List Byte) (m : Nat) (s : State) :
    (s.chrPut kind ten body).srcAt m = s.srcAt m := by unfold State.srcAt; rw [State.chrPut_src]

@[simp] theorem State.srcAt_dial (k n m : Nat) (s : State) : (s.dial k n).srcAt m = s.srcAt m := by
  unfold State.srcAt; rw [State.dial_src]

end Sys2Proof.Machine
end

