-- ==== Sys2Proof/Laws/Arrivals.lean ====
section
/-! SUPPORT. What choosing a target, selecting for a source and entering PENDING do to the source itself, to the others and
to the objects. -/

namespace Sys2Proof.Machine

open Sys2Proof

/-- Choosing a member changes the group's next index alone. -/
theorem State.choose_eq (g : Nat) (cands : List (Nat × Nat)) (s : State) :
    (s.choose g cands).2 = { s with obj := (s.choose g cands).2.obj } := by
  unfold State.choose
  dsimp only
  split
  · split <;> rfl
  · split <;> rfl

theorem State.o_choose (g : Nat) (cands : List (Nat × Nat)) {i e : Nat} (s : State) (h : i ≠ 0x3408) (he : e < 65536)
    (hg : g < 65536) : (s.choose g cands).2.o i e = s.o i e := by
  unfold State.choose
  dsimp only
  split
  · split
    · rfl
    · refine State.o_setO_ne _ _ _ _ ?_
      unfold pkey; omega
  · split <;> rfl

/-- Selection changes the source's choice alone, and objects. -/
theorem State.select_eq (n : Nat) (s : State) :
    s.select n = { s with src := (s.select n).src, obj := (s.select n).obj } := by
  unfold State.select
  dsimp only
  split
  · rfl
  · split
    · rfl
    · split
      · rfl
      · rw [State.choose_eq]; rfl

theorem State.srcAt_choose (g : Nat) (cands : List (Nat × Nat)) (m : Nat) (s : State) :
    (s.choose g cands).2.srcAt m = s.srcAt m := by
  unfold State.srcAt; rw [State.choose_eq]

/-- What selection leaves of the source. -/
theorem State.srcAt_select (n : Nat) (s : State) :
    ((s.select n).srcAt n).st = (s.srcAt n).st ∧ ((s.select n).srcAt n).stamp = (s.srcAt n).stamp
      ∧ ((s.select n).srcAt n).info = (s.srcAt n).info ∧ ((s.select n).srcAt n).lvl = (s.srcAt n).lvl
      ∧ ((s.select n).srcAt n).repend = (s.srcAt n).repend ∧ ((s.select n).srcAt n).qpend = (s.srcAt n).qpend
      ∧ ((s.select n).srcAt n).qreq = (s.srcAt n).qreq ∧ ((s.select n).srcAt n).storm = (s.srcAt n).storm
      ∧ ((s.select n).srcAt n).rankedAt = s.now + 24 := by
  unfold State.select
  dsimp only
  split
  · simp
  · split
    · simp
    · split
      · simp
      · simp

/-- Selection leaves the other sources. -/
theorem State.srcAt_select_ne {n m : Nat} (s : State) (h : m ≠ n) : (s.select n).srcAt m = s.srcAt m := by
  unfold State.select
  dsimp only
  split
  · exact State.srcAt_setSrc_ne _ _ h
  · split
    · exact State.srcAt_setSrc_ne _ _ h
    · split
      · rw [State.srcAt_bump, State.srcAt_setSrc_ne _ _ h, State.srcAt_setSrc_ne _ _ h]
      · rw [State.srcAt_setSrc_ne _ _ h, State.srcAt_choose, State.srcAt_setSrc_ne _ _ h]

/-- Entering PENDING: the source's state, stamp, LVL and arrival. -/
theorem State.srcAt_toPending (n : Nat) (stamp : Beat) (lvl : Bool) (info : Arrival) (s : State) :
    ((s.toPending n stamp lvl info).srcAt n).st = .pending ∧ ((s.toPending n stamp lvl info).srcAt n).stamp = stamp
      ∧ ((s.toPending n stamp lvl info).srcAt n).info = info ∧ ((s.toPending n stamp lvl info).srcAt n).lvl = lvl
      ∧ ((s.toPending n stamp lvl info).srcAt n).storm = (s.srcAt n).storm := by
  unfold State.toPending
  dsimp only
  obtain ⟨h1, h2, h3, h4, -, -, -, h8, -⟩ := State.srcAt_select n
    (s.setSrc n { s.srcAt n with st := .pending, stamp := stamp, lvl := lvl, info := info })
  rw [h1, h2, h3, h4, h8]
  simp

theorem State.srcAt_toPending_ne {n m : Nat} (stamp : Beat) (lvl : Bool) (info : Arrival) (s : State) (h : m ≠ n) :
    (s.toPending n stamp lvl info).srcAt m = s.srcAt m := by
  unfold State.toPending
  dsimp only
  rw [State.srcAt_select_ne _ h, State.srcAt_setSrc_ne _ _ h]

/-- Selection leaves the objects of every index below those of the groups' next indexes. -/
theorem State.o_select (n : Nat) {i e : Nat} (s : State) (h : pkey i e < pkey 0x3408 0) : (s.select n).o i e = s.o i e := by
  have h8 (g : Nat) : pkey i e ≠ pkey 0x3408 g := by unfold pkey at *; omega
  have h7 (g : Nat) : pkey i e ≠ pkey 0x7051 g := by unfold pkey at *; omega
  unfold State.select
  dsimp only
  split
  · rfl
  · split
    · rfl
    · split
      · rw [State.o_bump_ne _ _ _ _ (h7 _), State.o_setSrc, State.o_setSrc]
      · rw [State.o_setSrc]
        unfold State.choose
        dsimp only
        split
        · split
          · rfl
          · exact State.o_setO_ne _ _ _ _ (h8 _)
        · split <;> rfl

theorem State.o_toPending (n : Nat) (stamp : Beat) (lvl : Bool) (info : Arrival) {i e : Nat} (s : State)
    (h : pkey i e < pkey 0x3408 0) : (s.toPending n stamp lvl info).o i e = s.o i e := by
  unfold State.toPending
  dsimp only
  rw [State.o_select _ _ h, State.o_setSrc]

/-- With no storm limit an arrival is not counted. -/
theorem State.stormCount_off (n : Nat) (s : State) (h : s.o 0x2007 n = 0) : s.stormCount n = s := by
  unfold State.stormCount; simp [h]

end Sys2Proof.Machine
end

