-- ==== Sys2Proof/Laws/Memory.lean ====
section
/-! SUPPORT. Byte memories: a write keeps the canonical form, a read after it gives the bytes written, and every other
address reads as before. -/

namespace Sys2Proof.Machine

open Sys2Proof

theorem memGet_eq (d : Byte) (m : List Host.Cell) (a : Nat) : memGet d m a = smGet (fun _ => d) m a := by
  induction m with
  | nil => rfl
  | cons e t ih => simp only [memGet, smGet, ih]

theorem smRising_append {α : Type} {m n : SMap α} {lo mid : Nat} (hm : smRising lo m = true) (hn : smRising mid n = true)
    (hlt : ∀ e ∈ m, e.1 < mid) (hle : lo ≤ mid) : smRising lo (m ++ n) = true := by
  induction m generalizing lo with
  | nil => exact smRising_mono hle hn
  | cons e t ih =>
    simp only [smRising, Bool.and_eq_true, decide_eq_true_eq, List.cons_append] at *
    exact ⟨hm.1, ih hm.2 (fun e he => hlt e (List.mem_cons_of_mem _ he)) (by have := hlt e (List.mem_cons_self ..); omega)⟩

theorem memCells_rising (d : Byte) (bs : List Byte) (a : Nat) : smRising a (memCells d a bs) = true := by
  induction bs generalizing a with
  | nil => rfl
  | cons v t ih =>
    simp only [memCells]
    split
    · exact smRising_mono (Nat.le_succ a) (ih (a + 1))
    · simp only [smRising, Bool.and_eq_true, decide_eq_true_eq]; exact ⟨Nat.le_refl _, ih _⟩

theorem memCells_below (d : Byte) (bs : List Byte) (a : Nat) : ∀ e ∈ memCells d a bs, e.1 < a + bs.length := by
  induction bs generalizing a with
  | nil => intro e he; simp [memCells] at he
  | cons v t ih =>
    intro e he
    simp only [memCells] at he
    simp only [List.length_cons]
    split at he
    · have := ih _ e he; omega
    · rcases List.mem_cons.mp he with rfl | he
      · simp
      · have := ih _ e he; omega

theorem memCells_all (d : Byte) (bs : List Byte) (a : Nat) : (memCells d a bs).all (fun e => decide (e.2 ≠ d)) = true := by
  induction bs generalizing a with
  | nil => rfl
  | cons v t ih =>
    simp only [memCells]
    split
    · exact ih _
    · simp only [List.all_cons, Bool.and_eq_true, decide_eq_true_eq]; exact ⟨‹_›, ih _⟩

theorem smRising_from {α : Type} {m : SMap α} {lo b : Nat} (h : smRising lo m = true) :
    smRising b (m.filter (fun e => decide (b ≤ e.1))) = true := by
  induction m generalizing lo with
  | nil => rfl
  | cons e t ih =>
    simp only [smRising, Bool.and_eq_true, decide_eq_true_eq] at h
    simp only [List.filter_cons]
    split
    · rename_i hb
      simp only [decide_eq_true_eq] at hb
      simp only [smRising, Bool.and_eq_true, decide_eq_true_eq]
      exact ⟨hb, smRising_filter _ h.2⟩
    · exact ih h.2

/-- A write keeps the canonical form. -/
theorem memSetAll_wf (d : Byte) {m : List Host.Cell} (a : Nat) (bs : List Byte) (h : Memory.wf d m = true) :
    Memory.wf d (memSetAll d m a bs) = true := by
  simp only [Memory.wf, smWf, Bool.and_eq_true] at h ⊢
  have hall (p : Host.Cell → Bool) : (m.filter p).all (fun e => decide (e.2 ≠ d)) = true := by
    rw [List.all_eq_true] at *
    intro e he
    exact h.2 e (List.mem_filter.mp he).1
  constructor
  · simp only [memSetAll]
    refine smRising_append (mid := a + bs.length) (smRising_append (mid := a) (smRising_filter _ h.1) (memCells_rising d bs a)
      (fun e he => by simpa using (List.mem_filter.mp he).2) (Nat.zero_le _)) (smRising_from h.1) ?_ (Nat.zero_le _)
    intro e he
    rcases List.mem_append.mp he with he | he
    · have : e.1 < a := by simpa using (List.mem_filter.mp he).2
      omega
    · exact memCells_below d bs a e he
  · simp only [memSetAll, List.all_append, Bool.and_eq_true]
    exact ⟨⟨hall _, memCells_all d bs a⟩, hall _⟩

/-- Dropping cells (an erase) keeps the canonical form. -/
theorem memFilter_wf (d : Byte) {m : List Host.Cell} (p : Host.Cell → Bool) (h : Memory.wf d m = true) :
    Memory.wf d (m.filter p) = true := smWf_filter _ p h

theorem memGet_append (d : Byte) (m n : List Host.Cell) (a : Nat) (h : ∀ e ∈ m, e.1 ≠ a) :
    memGet d (m ++ n) a = memGet d n a := by
  induction m with
  | nil => rfl
  | cons e t ih =>
    simp only [List.cons_append, memGet]
    rw [if_neg (h e (List.mem_cons_self ..))]
    exact ih (fun e he => h e (List.mem_cons_of_mem _ he))

theorem memGet_append_left (d : Byte) (m n : List Host.Cell) (a : Nat) (h : ∀ e ∈ n, e.1 ≠ a) :
    memGet d (m ++ n) a = memGet d m a := by
  induction m with
  | nil => simpa [memGet] using memGet_append d n [] a h
  | cons e t ih => simp only [List.cons_append, memGet, ih]

theorem memGet_filter (d : Byte) (m : List Host.Cell) (p : Host.Cell → Bool) (a : Nat) (h : ∀ e ∈ m, e.1 = a → p e = true) :
    memGet d (m.filter p) a = memGet d m a := by
  induction m with
  | nil => rfl
  | cons e t ih =>
    have ih := ih (fun e he => h e (List.mem_cons_of_mem _ he))
    simp only [List.filter_cons]
    split
    · simp only [memGet, ih]
    · rename_i hp
      have : e.1 ≠ a := fun hk => hp (h e (List.mem_cons_self ..) hk)
      simp only [memGet, if_neg this, ih]

theorem memCells_above (d : Byte) (bs : List Byte) (a : Nat) : ∀ e ∈ memCells d a bs, a ≤ e.1 := by
  induction bs generalizing a with
  | nil => intro e he; simp [memCells] at he
  | cons v t ih =>
    intro e he
    simp only [memCells] at he
    split at he
    · have := ih _ e he; omega
    · rcases List.mem_cons.mp he with rfl | he
      · exact Nat.le_refl _
      · have := ih _ e he; omega

theorem memGet_cells (d : Byte) (bs : List Byte) (a i : Nat) (h : i < bs.length) :
    memGet d (memCells d a bs) (a + i) = bs[i] := by
  induction bs generalizing a i with
  | nil => simp at h
  | cons v t ih =>
    simp only [memCells]
    cases i with
    | zero =>
      split
      · rename_i hv
        have := memGet_append d (memCells d (a + 1) t) [] (a + 0) (fun e he hk => by
          have := memCells_above d t (a + 1) e he; omega)
        simp only [List.append_nil] at this
        simpa [memGet, hv] using this
      · simp [memGet]
    | succ i =>
      have hi := ih (a + 1) i (by simpa using h)
      have e : a + (i + 1) = a + 1 + i := by omega
      rw [e, List.getElem_cons_succ]
      split
      · exact hi
      · simp only [memGet]; rw [if_neg (by omega)]; exact hi

/-- The bytes written are read back. -/
theorem memGet_set_in (d : Byte) (m : List Host.Cell) (a : Nat) (bs : List Byte) (i : Nat) (h : i < bs.length) :
    memGet d (memSetAll d m a bs) (a + i) = bs[i] := by
  simp only [memSetAll]
  rw [memGet_append_left, memGet_append]
  · exact memGet_cells d bs a i h
  · intro e he hk
    have : e.1 < a := by simpa using (List.mem_filter.mp he).2
    omega
  · intro e he hk
    have : a + bs.length ≤ e.1 := by simpa using (List.mem_filter.mp he).2
    omega

/-- Every other address reads as before. -/
theorem memGet_set_out (d : Byte) (m : List Host.Cell) (a : Nat) (bs : List Byte) (j : Nat) (h : j < a ∨ a + bs.length ≤ j) :
    memGet d (memSetAll d m a bs) j = memGet d m j := by
  simp only [memSetAll]
  rcases h with h | h
  · rw [memGet_append_left, memGet_append_left]
    · exact memGet_filter d m _ j (fun e _ hk => by simpa [hk] using h)
    · intro e he hk; have := memCells_above d bs a e he; omega
    · intro e he hk
      have : a + bs.length ≤ e.1 := by simpa using (List.mem_filter.mp he).2
      omega
  · rw [memGet_append]
    · exact memGet_filter d m _ j (fun e _ hk => by simpa [hk] using h)
    · intro e he hk
      rcases List.mem_append.mp he with he | he
      · have : e.1 < a := by simpa using (List.mem_filter.mp he).2
        omega
      · have := memCells_below d bs a e he; omega

end Sys2Proof.Machine
end

