-- ==== Sys2Proof/Laws/Bytes.lean ====
section
/-! SUPPORT. Bytes: BLOBs, lengths, and what the flash reads after an erase or a program. -/

set_option linter.all false

namespace Sys2Proof.Machine

open Sys2Proof

/-- A BLOB comes back from its code. -/
theorem blobDec_blobEnc (l : List Byte) (f : Nat) (h : l.length ≤ f) : blobDec f (blobEnc l) = l := by
  have pos : ∀ l : List Byte, 1 ≤ blobEnc l := by
    intro l; induction l with
    | nil => exact Nat.le_refl _
    | cons b t ih => show 1 ≤ b.toNat + 256 * blobEnc t; omega
  induction l generalizing f with
  | nil => cases f <;> rfl
  | cons b t ih =>
    cases f with
    | zero => simp at h
    | succ f =>
      have hp := pos t
      have hb := b.isLt
      show (if b.toNat + 256 * blobEnc t ≤ 1 then [] else BitVec.ofNat 8 (b.toNat + 256 * blobEnc t) :: blobDec f ((b.toNat + 256 * blobEnc t) / 256)) = b :: t
      rw [if_neg (by omega), show (b.toNat + 256 * blobEnc t) / 256 = blobEnc t by omega, ih f (by simpa using h)]
      congr 1
      apply BitVec.eq_of_toNat_eq
      simp
      omega

theorem memGet_erased (m : List Host.Cell) (p : Host.Cell → Bool) (a : Nat) (h : ∀ e : Host.Cell, e.1 = a → p e = false) : memGet 0xFF (m.filter p) a = 0xFF := by
  induction m with
  | nil => rfl
  | cons e t ih =>
    rw [List.filter_cons]
    split
    · rename_i he
      show (if e.1 = a then _ else _) = _
      rw [if_neg (fun hh => by rw [h e hh] at he; cases he)]; exact ih
    · exact ih

/-- After an erase the region reads 0xFF and every other byte as before. -/
theorem State.flash_erase (z : State) (b n a : Nat) : memGet 0xFF (z.flashErase b n).flash a = if b ≤ a ∧ a < b + n then 0xFF else memGet 0xFF z.flash a := by
  show memGet 0xFF (z.flash.filter _) a = _
  split
  · rename_i h; exact memGet_erased _ _ _ (fun e he => by simp; omega)
  · rename_i h; exact memGet_filter _ _ _ _ (fun e _ he => by simp; omega)

/-- A program clears bits of the bytes it names and of no other. -/
theorem State.flash_program (z : State) (b : Nat) (bs : List Byte) (a : Nat) : memGet 0xFF (z.flashProgram b bs).flash a = if b ≤ a ∧ a < b + bs.length then memGet 0xFF z.flash a &&& bs.getD (a - b) 0 else memGet 0xFF z.flash a := by
  show memGet 0xFF (memSetAll 0xFF z.flash b (((memGetAll 0xFF z.flash b bs.length).zip bs).map (fun x => x.1 &&& x.2))) a = _
  have hl : (((memGetAll 0xFF z.flash b bs.length).zip bs).map (fun x => x.1 &&& x.2)).length = bs.length := by simp [memGetAll]
  split
  · rename_i h
    obtain ⟨i, rfl⟩ : ∃ i, a = b + i := ⟨a - b, by omega⟩
    have hi : i < bs.length := by omega
    rw [memGet_set_in _ _ _ _ _ (by rw [hl]; exact hi)]
    simp [memGetAll, hi, Nat.add_sub_cancel_left]
  · rename_i h
    exact memGet_set_out _ _ _ _ _ (by rw [hl]; omega)

theorem leBytes_length (n v : Nat) : (leBytes n v).length = n := by
  induction n generalizing v with
  | zero => rfl
  | succ n ih => simp [leBytes, ih]

theorem recordBytes_length (a : Nat) (q : Dw) (r : ChrRec) : (recordBytes a q r).length = 32 := by
  unfold recordBytes; simp [leBytes_length]

end Sys2Proof.Machine
end

