-- ==== Sys2Proof/Laws/Still.lean ====
section
/-! SUPPORT. What the passing of time leaves as it was: `Still s t` holds of every operation that time alone makes. -/

set_option linter.all false

namespace Sys2Proof.Machine

open Sys2Proof

/-- From `s` to `t` nothing changed but what time alone works on: the sources, deliveries, targets, escapements and buffers (held
claims and arrivals), the filters, objects, the time base, what leaves the device, the records waiting for the chronograph,
the lanes, and the power the wake states ask for. -/
structure Still (s t : State) : Prop where
  pending : t.pending = s.pending
  status : t.status = s.status
  drafts : t.drafts = s.drafts
  marks : t.marks = s.marks
  winds : t.winds = s.winds
  bankA : t.bankA = s.bankA
  bankB : t.bankB = s.bankB
  sensing : t.sensing = s.sensing
  doorbells : t.doorbells = s.doorbells
  vfEnable : t.vfEnable = s.vfEnable
  numVfs : t.numVfs = s.numVfs
  pfD3 : t.pfD3 = s.pfD3
  pmeEn : t.pmeEn = s.pmeEn
  perst : t.perst = s.perst
  linkL0 : t.linkL0 = s.linkL0
  eng : t.eng = s.eng
  badParity : t.badParity = s.badParity
  start : t.start = s.start
  resetReq : t.resetReq = s.resetReq
  portDeferred : t.portDeferred = s.portDeferred
  wdogFrom : t.wdogFrom = s.wdogFrom
  blk : t.blk = s.blk
  crown : t.crown = s.crown
  straps : t.straps = s.straps
  fuseA : t.fuseA = s.fuseA
  fuseB : t.fuseB = s.fuseB
  shadow : t.shadow = s.shadow
  jtag : t.jtag = s.jtag
  flash : t.flash = s.flash
  fw : t.fw = s.fw
  supply : t.supply = s.supply
  gasp : t.gasp = s.gasp
  port : t.port = s.port
  first : t.first = s.first
  multi : t.multi = s.multi
  worst : t.worst = s.worst
  dram : t.dram = s.dram
  chrWin : t.chrWin = s.chrWin

theorem Still.refl (s : State) : Still s s := by constructor <;> rfl

/-- A change of other fields. -/
theorem Still.of {s0 s : State} (h : Still s0 s)
    {f_pending : List Instr} {f_now : Nat} {f_nextSw : Nat} {f_status : Nat} {f_time : Time} {f_obj : SMap Nat} {f_drafts : SMap (Option Nat)} {f_marks : List Nat} {f_winds : List WindReq} {f_src : SMap Source} {f_filtered : SMap Filt} {f_bankA : Bool} {f_bankB : Bool} {f_sensing : Bool} {f_late : List (Nat × Beat)} {f_row2 : List (Nat × Beat)} {f_nextObj : List (Nat × Nat)} {f_dlv : List Delivery} {f_tgt : SMap Target} {f_esc : SMap Esc} {f_heldOps : List Instr} {f_buf : SMap Buf} {f_poolNext : Nat} {f_poolBack : List (Nat × Nat)} {f_doorbells : List Doorbell} {f_func : SMap Func} {f_vfEnable : Bool} {f_numVfs : Nat} {f_pfD3 : Bool} {f_pmeEn : Bool} {f_perst : Bool} {f_wakeLow : Bool} {f_linkL0 : Bool} {f_txWait : List Out} {f_eng : SMap Engine} {f_badParity : List Nat} {f_start : Start} {f_resetReq : Option ResetReq} {f_portDeferred : Bool} {f_wdogFrom : Option Nat} {f_blk : SMap (Option BlkPhase)} {f_backup : Backup} {f_crown : Crown} {f_straps : BitVec 5} {f_fuseA : BitVec 272} {f_fuseB : BitVec 272} {f_shadow : BitVec 256} {f_jtag : Jtag} {f_flash : List Host.Cell} {f_fw : Firmware} {f_supply : Supply} {f_gasp : Gasp} {f_quiet : Quiet} {f_tdm : Tandem} {f_port : Port} {f_first : Option FaultRec} {f_multi : Bool} {f_worst : Option FaultRec} {f_faultB : FaultBeat} {f_chr : Chrono} {f_dram : List Host.Cell} {f_chrWin : SMap ChrWin} {f_sent : List Out} {f_free : Nat}
    (e_pending : f_pending = s.pending) (e_status : f_status = s.status) (e_drafts : f_drafts = s.drafts) (e_marks : f_marks = s.marks) (e_winds : f_winds = s.winds) (e_bankA : f_bankA = s.bankA) (e_bankB : f_bankB = s.bankB) (e_sensing : f_sensing = s.sensing) (e_doorbells : f_doorbells = s.doorbells) (e_vfEnable : f_vfEnable = s.vfEnable) (e_numVfs : f_numVfs = s.numVfs) (e_pfD3 : f_pfD3 = s.pfD3) (e_pmeEn : f_pmeEn = s.pmeEn) (e_perst : f_perst = s.perst) (e_linkL0 : f_linkL0 = s.linkL0) (e_eng : f_eng = s.eng) (e_badParity : f_badParity = s.badParity) (e_start : f_start = s.start) (e_resetReq : f_resetReq = s.resetReq) (e_portDeferred : f_portDeferred = s.portDeferred) (e_wdogFrom : f_wdogFrom = s.wdogFrom) (e_blk : f_blk = s.blk) (e_crown : f_crown = s.crown) (e_straps : f_straps = s.straps) (e_fuseA : f_fuseA = s.fuseA) (e_fuseB : f_fuseB = s.fuseB) (e_shadow : f_shadow = s.shadow) (e_jtag : f_jtag = s.jtag) (e_flash : f_flash = s.flash) (e_fw : f_fw = s.fw) (e_supply : f_supply = s.supply) (e_gasp : f_gasp = s.gasp) (e_port : f_port = s.port) (e_first : f_first = s.first) (e_multi : f_multi = s.multi) (e_worst : f_worst = s.worst) (e_dram : f_dram = s.dram) (e_chrWin : f_chrWin = s.chrWin) :
    Still s0 (State.mk f_pending f_now f_nextSw f_status f_time f_obj f_drafts f_marks f_winds f_src f_filtered f_bankA f_bankB f_sensing f_late f_row2 f_nextObj f_dlv f_tgt f_esc f_heldOps f_buf f_poolNext f_poolBack f_doorbells f_func f_vfEnable f_numVfs f_pfD3 f_pmeEn f_perst f_wakeLow f_linkL0 f_txWait f_eng f_badParity f_start f_resetReq f_portDeferred f_wdogFrom f_blk f_backup f_crown f_straps f_fuseA f_fuseB f_shadow f_jtag f_flash f_fw f_supply f_gasp f_quiet f_tdm f_port f_first f_multi f_worst f_faultB f_chr f_dram f_chrWin f_sent f_free) := by
  subst_vars
  exact { pending := h.pending, status := h.status, drafts := h.drafts, marks := h.marks, winds := h.winds, bankA := h.bankA, bankB := h.bankB, sensing := h.sensing, doorbells := h.doorbells, vfEnable := h.vfEnable, numVfs := h.numVfs, pfD3 := h.pfD3, pmeEn := h.pmeEn, perst := h.perst, linkL0 := h.linkL0, eng := h.eng, badParity := h.badParity, start := h.start, resetReq := h.resetReq, portDeferred := h.portDeferred, wdogFrom := h.wdogFrom, blk := h.blk, crown := h.crown, straps := h.straps, fuseA := h.fuseA, fuseB := h.fuseB, shadow := h.shadow, jtag := h.jtag, flash := h.flash, fw := h.fw, supply := h.supply, gasp := h.gasp, port := h.port, first := h.first, multi := h.multi, worst := h.worst, dram := h.dram, chrWin := h.chrWin }

theorem State.setO_still {s0 : State} (idx el v : Nat) (s : State) (h : Still s0 s) : Still s0 (s.setO idx el v) :=
  Still.of h rfl rfl rfl rfl rfl rfl rfl rfl rfl rfl rfl rfl rfl rfl rfl rfl rfl rfl rfl rfl rfl rfl rfl rfl rfl rfl rfl rfl rfl rfl rfl rfl rfl rfl rfl rfl rfl rfl

theorem each_still {α : Type} {s0 : State} (f : α → State → State) (l : List α) (s : State)
    (hf : ∀ a z, Still s0 z → Still s0 (f a z)) (h : Still s0 s) : Still s0 (each f l s) :=
  each_keep (Still s0) f hf l s h

theorem Still.ite {s0 a b : State} {c : Prop} [Decidable c] (ha : Still s0 a) (hb : Still s0 b) :
    Still s0 (if c then a else b) := by split <;> assumption

theorem loop_still {s0 : State} (f : Nat → State → State) (lo n : Nat) (s : State)
    (hf : ∀ a z, Still s0 z → Still s0 (f a z)) (h : Still s0 s) : Still s0 (loop f lo n s) := by
  induction n generalizing lo s with
  | zero => exact h
  | succ n ih => exact ih _ _ (hf _ _ h)

theorem State.bump_still {s0 : State} (idx el n : Nat) (s : State) (hK : Still s0 s) :
    Still s0 (State.bump idx el n s) := by
  unfold State.bump
  repeat' (first | with_reducible assumption | intro _ | with_reducible apply State.setO_still | split)

theorem State.setSrc_still {s0 : State} (n : Nat) (x : Source) (s : State) (hK : Still s0 s) :
    Still s0 (State.setSrc n x s) := by
  unfold State.setSrc
  repeat' (first | with_reducible assumption | intro _ | split | (with_reducible refine Still.of ?_ rfl rfl rfl rfl rfl rfl rfl rfl rfl rfl rfl rfl rfl rfl rfl rfl rfl rfl rfl rfl rfl rfl rfl rfl rfl rfl rfl rfl rfl rfl rfl rfl rfl rfl rfl rfl rfl rfl; first | with_reducible assumption | split))

theorem State.setTgt_still {s0 : State} (t : Nat) (x : Target) (s : State) (hK : Still s0 s) :
    Still s0 (State.setTgt t x s) := by
  unfold State.setTgt
  repeat' (first | with_reducible assumption | intro _ | split | (with_reducible refine Still.of ?_ rfl rfl rfl rfl rfl rfl rfl rfl rfl rfl rfl rfl rfl rfl rfl rfl rfl rfl rfl rfl rfl rfl rfl rfl rfl rfl rfl rfl rfl rfl rfl rfl rfl rfl rfl rfl rfl rfl; first | with_reducible assumption | split))

theorem State.setEsc_still {s0 : State} (e : Nat) (x : Esc) (s : State) (hK : Still s0 s) :
    Still s0 (State.setEsc e x s) := by
  unfold State.setEsc
  repeat' (first | with_reducible assumption | intro _ | split | (with_reducible refine Still.of ?_ rfl rfl rfl rfl rfl rfl rfl rfl rfl rfl rfl rfl rfl rfl rfl rfl rfl rfl rfl rfl rfl rfl rfl rfl rfl rfl rfl rfl rfl rfl rfl rfl rfl rfl rfl rfl rfl rfl; first | with_reducible assumption | split))

theorem State.setBuf_still {s0 : State} (i : Nat) (x : Buf) (s : State) (hK : Still s0 s) :
    Still s0 (State.setBuf i x s) := by
  unfold State.setBuf
  repeat' (first | with_reducible assumption | intro _ | split | (with_reducible refine Still.of ?_ rfl rfl rfl rfl rfl rfl rfl rfl rfl rfl rfl rfl rfl rfl rfl rfl rfl rfl rfl rfl rfl rfl rfl rfl rfl rfl rfl rfl rfl rfl rfl rfl rfl rfl rfl rfl rfl rfl; first | with_reducible assumption | split))

theorem State.setFn_still {s0 : State} (n : Nat) (x : Func) (s : State) (hK : Still s0 s) :
    Still s0 (State.setFn n x s) := by
  unfold State.setFn
  repeat' (first | with_reducible assumption | intro _ | split | (with_reducible refine Still.of ?_ rfl rfl rfl rfl rfl rfl rfl rfl rfl rfl rfl rfl rfl rfl rfl rfl rfl rfl rfl rfl rfl rfl rfl rfl rfl rfl rfl rfl rfl rfl rfl rfl rfl rfl rfl rfl rfl rfl; first | with_reducible assumption | split))

theorem State.draw_still {s0 : State} (s : State) (hK : Still s0 s) :
    Still s0 (State.draw s).2 := by
  unfold State.draw
  repeat' (first | with_reducible assumption | intro _ | split | (with_reducible refine Still.of ?_ rfl rfl rfl rfl rfl rfl rfl rfl rfl rfl rfl rfl rfl rfl rfl rfl rfl rfl rfl rfl rfl rfl rfl rfl rfl rfl rfl rfl rfl rfl rfl rfl rfl rfl rfl rfl rfl rfl; first | with_reducible assumption | split))

theorem State.draw_still' {s0 tK : State} (s : State) {xK : Nat} (eK : State.draw s = (xK, tK)) (hK : Still s0 s) :
    Still s0 tK := by
  have := State.draw_still s hK
  rw [eK] at this; exact this

theorem State.bk_still {s0 : State} (f : Backup → Backup) (s : State) (hK : Still s0 s) :
    Still s0 (State.bk f s) := by
  unfold State.bk
  repeat' (first | with_reducible assumption | intro _ | with_reducible apply Still.ite | split | (with_reducible refine Still.of ?_ rfl rfl rfl rfl rfl rfl rfl rfl rfl rfl rfl rfl rfl rfl rfl rfl rfl rfl rfl rfl rfl rfl rfl rfl rfl rfl rfl rfl rfl rfl rfl rfl rfl rfl rfl rfl rfl rfl; first | with_reducible assumption | with_reducible apply Still.ite | split))

theorem State.emit_still {s0 : State} (o : Out) (s : State) (hK : Still s0 s) :
    Still s0 (State.emit o s) := by
  unfold State.emit
  repeat' (first | with_reducible assumption | intro _ | split | (with_reducible refine Still.of ?_ rfl rfl rfl rfl rfl rfl rfl rfl rfl rfl rfl rfl rfl rfl rfl rfl rfl rfl rfl rfl rfl rfl rfl rfl rfl rfl rfl rfl rfl rfl rfl rfl rfl rfl rfl rfl rfl rfl; first | with_reducible assumption | split))

theorem State.post_still {s0 : State} (o : Out) (s : State) (hK : Still s0 s) :
    Still s0 (State.post o s) := by
  unfold State.post
  repeat' (first | with_reducible assumption | intro _ | with_reducible apply Still.ite | with_reducible apply State.emit_still | split | (with_reducible refine Still.of ?_ rfl rfl rfl rfl rfl rfl rfl rfl rfl rfl rfl rfl rfl rfl rfl rfl rfl rfl rfl rfl rfl rfl rfl rfl rfl rfl rfl rfl rfl rfl rfl rfl rfl rfl rfl rfl rfl rfl; first | with_reducible assumption | with_reducible apply Still.ite | with_reducible apply State.emit_still | split))

theorem State.raiseVec_still {s0 : State} (n v : Nat) (s : State) (hK : Still s0 s) :
    Still s0 (State.raiseVec n v s) := by
  unfold State.raiseVec
  repeat' (first | with_reducible assumption | intro _ | (extract_lets +onlyGivenNames x; first | ((first | refine (fun hx => ?_ : Still s0 x → Still s0 _) ?_); (on_goal 1 => clear_value x); (on_goal 2 => subst x)) | (refine (fun hx => ?_ : Still s0 x → Still s0 _) ?_; (on_goal 2 => subst x)) | clear_value x | skip) | with_reducible apply Still.ite | with_reducible apply State.post_still | with_reducible apply State.setFn_still | split | (with_reducible refine Still.of ?_ rfl rfl rfl rfl rfl rfl rfl rfl rfl rfl rfl rfl rfl rfl rfl rfl rfl rfl rfl rfl rfl rfl rfl rfl rfl rfl rfl rfl rfl rfl rfl rfl rfl rfl rfl rfl rfl rfl; first | with_reducible assumption | with_reducible apply Still.ite | with_reducible apply State.post_still | with_reducible apply State.setFn_still | split))

theorem State.latchDial_still {s0 : State} (n k : Nat) (s : State) (hK : Still s0 s) :
    Still s0 (State.latchDial n k s) := by
  unfold State.latchDial
  repeat' (first | with_reducible assumption | intro _ | with_reducible apply State.setFn_still | split)

theorem State.dialTurn_still {s0 : State} (n : Nat) (s : State) (hK : Still s0 s) :
    Still s0 (State.dialTurn n s) := by
  unfold State.dialTurn
  repeat' (first | with_reducible assumption | intro _ | (extract_lets +onlyGivenNames x; first | ((first | refine (fun hx => ?_ : Still s0 x → Still s0 _) ?_); (on_goal 1 => clear_value x); (on_goal 2 => subst x)) | (refine (fun hx => ?_ : Still s0 x → Still s0 _) ?_; (on_goal 2 => subst x)) | clear_value x | skip) | with_reducible apply Still.ite | with_reducible apply State.raiseVec_still | with_reducible apply State.setFn_still | split | (with_reducible refine Still.of ?_ rfl rfl rfl rfl rfl rfl rfl rfl rfl rfl rfl rfl rfl rfl rfl rfl rfl rfl rfl rfl rfl rfl rfl rfl rfl rfl rfl rfl rfl rfl rfl rfl rfl rfl rfl rfl rfl rfl; first | with_reducible assumption | with_reducible apply Still.ite | with_reducible apply State.raiseVec_still | with_reducible apply State.setFn_still | split))

theorem State.dial_still {s0 : State} (k ten : Nat) (s : State) (hK : Still s0 s) :
    Still s0 (State.dial k ten s) := by
  unfold State.dial
  repeat' (first | with_reducible assumption | intro _ | (extract_lets +onlyGivenNames x; first | ((first | refine (fun hx => ?_ : Still s0 x → Still s0 _) ?_); (on_goal 1 => clear_value x); (on_goal 2 => subst x)) | (refine (fun hx => ?_ : Still s0 x → Still s0 _) ?_; (on_goal 2 => subst x)) | clear_value x | skip) | with_reducible apply Still.ite | with_reducible apply State.latchDial_still | split)

theorem State.chrAppend_still {s0 : State} (r : ChrRec) (s : State) (hK : Still s0 s) :
    Still s0 (State.chrAppend r s) := by
  unfold State.chrAppend
  repeat' (first | with_reducible assumption | intro _ | (extract_lets +onlyGivenNames x; first | ((first | refine (fun hx => ?_ : Still s0 x → Still s0 _) ?_); (on_goal 1 => clear_value x); (on_goal 2 => subst x)) | (refine (fun hx => ?_ : Still s0 x → Still s0 _) ?_; (on_goal 2 => subst x)) | clear_value x | skip) | with_reducible apply Still.ite | with_reducible apply State.dial_still | with_reducible apply State.bump_still | split | (with_reducible refine Still.of ?_ rfl rfl rfl rfl rfl rfl rfl rfl rfl rfl rfl rfl rfl rfl rfl rfl rfl rfl rfl rfl rfl rfl rfl rfl rfl rfl rfl rfl rfl rfl rfl rfl rfl rfl rfl rfl rfl rfl; first | with_reducible assumption | with_reducible apply Still.ite | with_reducible apply State.dial_still | with_reducible apply State.bump_still | split))

theorem State.chrLost_still {s0 : State} (s : State) (hK : Still s0 s) :
    Still s0 (State.chrLost s) := by
  unfold State.chrLost
  repeat' (first | with_reducible assumption | intro _ | with_reducible apply Still.ite | split | (with_reducible refine Still.of ?_ rfl rfl rfl rfl rfl rfl rfl rfl rfl rfl rfl rfl rfl rfl rfl rfl rfl rfl rfl rfl rfl rfl rfl rfl rfl rfl rfl rfl rfl rfl rfl rfl rfl rfl rfl rfl rfl rfl; first | with_reducible assumption | with_reducible apply Still.ite | split))

theorem State.chrPut_still {s0 : State} (kind : Nat) (ten : Option Nat) (body : List Byte) (s : State) (hK : Still s0
    s) :
    Still s0 (State.chrPut kind ten body s) := by
  unfold State.chrPut
  repeat' (first | with_reducible assumption | intro _ | (extract_lets +onlyGivenNames x; first | ((first | refine (fun hx => ?_ : Still s0 x → Still s0 _) ?_); (on_goal 1 => clear_value x); (on_goal 2 => subst x)) | (refine (fun hx => ?_ : Still s0 x → Still s0 _) ?_; (on_goal 2 => subst x)) | clear_value x | skip) | with_reducible apply Still.ite | with_reducible apply State.chrLost_still | with_reducible apply State.chrAppend_still | with_reducible apply State.dial_still | with_reducible apply State.bump_still | split | (with_reducible refine Still.of ?_ rfl rfl rfl rfl rfl rfl rfl rfl rfl rfl rfl rfl rfl rfl rfl rfl rfl rfl rfl rfl rfl rfl rfl rfl rfl rfl rfl rfl rfl rfl rfl rfl rfl rfl rfl rfl rfl rfl; first | with_reducible assumption | with_reducible apply Still.ite | with_reducible apply State.chrLost_still | with_reducible apply State.chrAppend_still | with_reducible apply State.dial_still | with_reducible apply State.bump_still | split))

theorem State.allocBuf_still {s0 : State} (ten : Nat) (bytes : List Byte) (s : State) (hK : Still s0 s) :
    Still s0 (State.allocBuf ten bytes s).2 := by
  unfold State.allocBuf
  dsimp only
  split
  · exact hK
  · split
    · exact State.setBuf_still _ _ _ (Still.of hK rfl rfl rfl rfl rfl rfl rfl rfl rfl rfl rfl rfl rfl rfl rfl rfl rfl rfl rfl rfl rfl rfl rfl rfl rfl rfl rfl rfl rfl rfl rfl rfl rfl rfl rfl rfl rfl rfl)
    · split
      · exact hK
      · exact State.setBuf_still _ _ _ (Still.of hK rfl rfl rfl rfl rfl rfl rfl rfl rfl rfl rfl rfl rfl rfl rfl rfl rfl rfl rfl rfl rfl rfl rfl rfl rfl rfl rfl rfl rfl rfl rfl rfl rfl rfl rfl rfl rfl rfl)


theorem State.allocBuf_still' {s0 tK : State} (ten : Nat) (bytes : List Byte) (s : State) {xK : Option Nat}
    (eK : State.allocBuf ten bytes s = (xK, tK)) (hK : Still s0 s) : Still s0 tK := by
  have := State.allocBuf_still ten bytes s hK
  rw [eK] at this; exact this

theorem State.returnBuf_still {s0 : State} (i : Nat) (period : Bool) (s : State) (hK : Still s0 s) :
    Still s0 (State.returnBuf i period s) := by
  unfold State.returnBuf
  repeat' (first | with_reducible assumption | intro _ | (extract_lets +onlyGivenNames x; first | ((first | refine (fun hx => ?_ : Still s0 x → Still s0 _) ?_); (on_goal 1 => clear_value x); (on_goal 2 => subst x)) | (refine (fun hx => ?_ : Still s0 x → Still s0 _) ?_; (on_goal 2 => subst x)) | clear_value x | skip) | with_reducible apply Still.ite | with_reducible apply State.setBuf_still | split | (with_reducible refine Still.of ?_ rfl rfl rfl rfl rfl rfl rfl rfl rfl rfl rfl rfl rfl rfl rfl rfl rfl rfl rfl rfl rfl rfl rfl rfl rfl rfl rfl rfl rfl rfl rfl rfl rfl rfl rfl rfl rfl rfl; first | with_reducible assumption | with_reducible apply Still.ite | with_reducible apply State.setBuf_still | split))

theorem State.discardBuf_still {s0 : State} (n : Nat) (b : Option Nat) (s : State) (hK : Still s0 s) :
    Still s0 (State.discardBuf n b s) := by
  unfold State.discardBuf
  repeat' (first | with_reducible assumption | intro _ | with_reducible apply State.returnBuf_still | with_reducible apply State.bump_still | split)

theorem State.forget_still {s0 : State} (i : Nat) (s : State) (hK : Still s0 s) :
    Still s0 (State.forget i s) := by
  unfold State.forget
  repeat' (first | with_reducible assumption | intro _ | with_reducible apply Still.ite | split | (with_reducible refine Still.of ?_ rfl rfl rfl rfl rfl rfl rfl rfl rfl rfl rfl rfl rfl rfl rfl rfl rfl rfl rfl rfl rfl rfl rfl rfl rfl rfl rfl rfl rfl rfl rfl rfl rfl rfl rfl rfl rfl rfl; first | with_reducible assumption | with_reducible apply Still.ite | split))

theorem State.checkBuf_still {s0 : State} (b : Option Nat) (s : State) (hK : Still s0 s) :
    Still s0 (State.checkBuf b s) := by
  unfold State.checkBuf
  repeat' (first | with_reducible assumption | intro _ | (extract_lets +onlyGivenNames x; first | ((first | refine (fun hx => ?_ : Still s0 x → Still s0 _) ?_); (on_goal 1 => clear_value x); (on_goal 2 => subst x)) | (refine (fun hx => ?_ : Still s0 x → Still s0 _) ?_; (on_goal 2 => subst x)) | clear_value x | skip) | with_reducible apply Still.ite | with_reducible apply State.forget_still | with_reducible apply State.returnBuf_still | split)

theorem State.ownBuf_still {s0 : State} (b : Option Nat) (t : Nat) (s : State) (hK : Still s0 s) :
    Still s0 (State.ownBuf b t s) := by
  unfold State.ownBuf
  repeat' (first | with_reducible assumption | intro _ | (extract_lets +onlyGivenNames x; first | ((first | refine (fun hx => ?_ : Still s0 x → Still s0 _) ?_); (on_goal 1 => clear_value x); (on_goal 2 => subst x)) | (refine (fun hx => ?_ : Still s0 x → Still s0 _) ?_; (on_goal 2 => subst x)) | clear_value x | skip) | with_reducible apply State.setBuf_still | split | (with_reducible refine Still.of ?_ rfl rfl rfl rfl rfl rfl rfl rfl rfl rfl rfl rfl rfl rfl rfl rfl rfl rfl rfl rfl rfl rfl rfl rfl rfl rfl rfl rfl rfl rfl rfl rfl rfl rfl rfl rfl rfl rfl; first | with_reducible assumption | with_reducible apply State.setBuf_still | split))

theorem State.bufSt_still {s0 : State} (b : Option Nat) (st : BufState) (s : State) (hK : Still s0 s) :
    Still s0 (State.bufSt b st s) := by
  unfold State.bufSt
  repeat' (first | with_reducible assumption | intro _ | with_reducible apply State.setBuf_still | split | (with_reducible refine Still.of ?_ rfl rfl rfl rfl rfl rfl rfl rfl rfl rfl rfl rfl rfl rfl rfl rfl rfl rfl rfl rfl rfl rfl rfl rfl rfl rfl rfl rfl rfl rfl rfl rfl rfl rfl rfl rfl rfl rfl; first | with_reducible assumption | with_reducible apply State.setBuf_still | split))

theorem State.revokeBuf_still {s0 : State} (b : Option Nat) (st : BufState) (s : State) (hK : Still s0 s) :
    Still s0 (State.revokeBuf b st s) := by
  unfold State.revokeBuf
  repeat' (first | with_reducible assumption | intro _ | (extract_lets +onlyGivenNames x; first | ((first | refine (fun hx => ?_ : Still s0 x → Still s0 _) ?_); (on_goal 1 => clear_value x); (on_goal 2 => subst x)) | (refine (fun hx => ?_ : Still s0 x → Still s0 _) ?_; (on_goal 2 => subst x)) | clear_value x | skip) | with_reducible apply State.setBuf_still | split | (with_reducible refine Still.of ?_ rfl rfl rfl rfl rfl rfl rfl rfl rfl rfl rfl rfl rfl rfl rfl rfl rfl rfl rfl rfl rfl rfl rfl rfl rfl rfl rfl rfl rfl rfl rfl rfl rfl rfl rfl rfl rfl rfl; first | with_reducible assumption | with_reducible apply State.setBuf_still | split))

theorem State.note_still {s0 : State} (ev : Ev) (n : Nat) (old : Source) (s : State) (hK : Still s0 s) :
    Still s0 (State.note ev n old s) := by
  unfold State.note
  repeat' (first | with_reducible assumption | intro _ | (extract_lets +onlyGivenNames x; first | ((first | refine (fun hx => ?_ : Still s0 x → Still s0 _) ?_); (on_goal 1 => clear_value x); (on_goal 2 => subst x)) | (refine (fun hx => ?_ : Still s0 x → Still s0 _) ?_; (on_goal 2 => subst x)) | clear_value x | skip) | with_reducible apply Still.ite | with_reducible apply State.chrPut_still | split | (with_reducible refine Still.of ?_ rfl rfl rfl rfl rfl rfl rfl rfl rfl rfl rfl rfl rfl rfl rfl rfl rfl rfl rfl rfl rfl rfl rfl rfl rfl rfl rfl rfl rfl rfl rfl rfl rfl rfl rfl rfl rfl rfl; first | with_reducible assumption | with_reducible apply Still.ite | with_reducible apply State.chrPut_still | split))

theorem State.choose_still {s0 : State} (g : Nat) (cands : List (Nat × Nat)) (s : State) (hK : Still s0 s) :
    Still s0 (State.choose g cands s).2 := by
  unfold State.choose
  repeat' (first | with_reducible assumption | intro _ | (extract_lets +onlyGivenNames x; first | ((first | refine (fun hx => ?_ : Still s0 x → Still s0 _) ?_); (on_goal 1 => clear_value x); (on_goal 2 => subst x)) | (refine (fun hx => ?_ : Still s0 x → Still s0 _) ?_; (on_goal 2 => subst x)) | clear_value x | skip) | with_reducible apply Still.ite | with_reducible apply State.setO_still | split)

theorem State.choose_still' {s0 tK : State} (g : Nat) (cands : List (Nat × Nat)) (s : State) {xK : Option Nat} (eK : State.choose g cands s = (xK, tK)) (hK : Still s0 s) :
    Still s0 tK := by
  have := State.choose_still g cands s hK
  rw [eK] at this; exact this

theorem State.select_still {s0 : State} (n : Nat) (s : State) (hK : Still s0 s) :
    Still s0 (State.select n s) := by
  unfold State.select
  repeat' (first | with_reducible assumption | intro _ | (extract_lets +onlyGivenNames x; first | ((first | refine (fun hx => ?_ : Still s0 x → Still s0 _) ?_); (on_goal 1 => clear_value x); (on_goal 2 => subst x)) | (refine (fun hx => ?_ : Still s0 x → Still s0 _) ?_; (on_goal 2 => subst x)) | clear_value x | skip) | with_reducible apply Still.ite | with_reducible apply State.choose_still | (with_reducible apply State.choose_still'; on_goal 1 => with_reducible assumption) | with_reducible apply State.setSrc_still | with_reducible apply State.bump_still | split | (with_reducible refine Still.of ?_ rfl rfl rfl rfl rfl rfl rfl rfl rfl rfl rfl rfl rfl rfl rfl rfl rfl rfl rfl rfl rfl rfl rfl rfl rfl rfl rfl rfl rfl rfl rfl rfl rfl rfl rfl rfl rfl rfl; first | with_reducible assumption | with_reducible apply Still.ite | with_reducible apply State.choose_still | (with_reducible apply State.choose_still'; on_goal 1 => with_reducible assumption) | with_reducible apply State.setSrc_still | with_reducible apply State.bump_still | split))

theorem State.toPending_still {s0 : State} (n : Nat) (stamp : Beat) (lvl : Bool) (info : Arrival) (s : State) (hK :
    Still s0 s) :
    Still s0 (State.toPending n stamp lvl info s) := by
  unfold State.toPending
  repeat' (first | with_reducible assumption | intro _ | (extract_lets +onlyGivenNames x; first | ((first | refine (fun hx => ?_ : Still s0 x → Still s0 _) ?_); (on_goal 1 => clear_value x); (on_goal 2 => subst x)) | (refine (fun hx => ?_ : Still s0 x → Still s0 _) ?_; (on_goal 2 => subst x)) | clear_value x | skip) | with_reducible apply State.select_still | with_reducible apply State.setSrc_still | split | (with_reducible refine Still.of ?_ rfl rfl rfl rfl rfl rfl rfl rfl rfl rfl rfl rfl rfl rfl rfl rfl rfl rfl rfl rfl rfl rfl rfl rfl rfl rfl rfl rfl rfl rfl rfl rfl rfl rfl rfl rfl rfl rfl; first | with_reducible assumption | with_reducible apply State.select_still | with_reducible apply State.setSrc_still | split))

theorem State.outcome_still {s0 : State} (n : Nat) (s : State) (hK : Still s0 s) :
    Still s0 (State.outcome n s) := by
  unfold State.outcome
  repeat' (first | with_reducible assumption | intro _ | (extract_lets +onlyGivenNames x; first | ((first | refine (fun hx => ?_ : Still s0 x → Still s0 _) ?_); (on_goal 1 => clear_value x); (on_goal 2 => subst x)) | (refine (fun hx => ?_ : Still s0 x → Still s0 _) ?_; (on_goal 2 => subst x)) | clear_value x | skip) | with_reducible apply Still.ite | with_reducible apply State.toPending_still | with_reducible apply State.discardBuf_still | with_reducible apply State.setSrc_still | split | (with_reducible refine Still.of ?_ rfl rfl rfl rfl rfl rfl rfl rfl rfl rfl rfl rfl rfl rfl rfl rfl rfl rfl rfl rfl rfl rfl rfl rfl rfl rfl rfl rfl rfl rfl rfl rfl rfl rfl rfl rfl rfl rfl; first | with_reducible assumption | with_reducible apply Still.ite | with_reducible apply State.toPending_still | with_reducible apply State.discardBuf_still | with_reducible apply State.setSrc_still | split))

theorem State.mergeRepend_still {s0 : State} (n : Nat) (old new : Arrival) (s : State) (hK : Still s0 s) :
    Still s0 (State.mergeRepend n old new s).2 := by
  unfold State.mergeRepend
  repeat' (first | with_reducible assumption | intro _ | (extract_lets +onlyGivenNames x; first | ((first | refine (fun hx => ?_ : Still s0 x → Still s0 _) ?_); (on_goal 1 => clear_value x); (on_goal 2 => subst x)) | (refine (fun hx => ?_ : Still s0 x → Still s0 _) ?_; (on_goal 2 => subst x)) | clear_value x | skip) | with_reducible apply Still.ite | with_reducible apply State.discardBuf_still | with_reducible apply State.returnBuf_still | with_reducible apply State.bump_still | split | (with_reducible refine Still.of ?_ rfl rfl rfl rfl rfl rfl rfl rfl rfl rfl rfl rfl rfl rfl rfl rfl rfl rfl rfl rfl rfl rfl rfl rfl rfl rfl rfl rfl rfl rfl rfl rfl rfl rfl rfl rfl rfl rfl; first | with_reducible assumption | with_reducible apply Still.ite | with_reducible apply State.discardBuf_still | with_reducible apply State.returnBuf_still | with_reducible apply State.bump_still | split))

theorem State.mergeRepend_still' {s0 tK : State} (n : Nat) (old new : Arrival) (s : State) {xK : Arrival} (eK : State.mergeRepend n old new s = (xK, tK)) (hK : Still s0 s) :
    Still s0 tK := by
  have := State.mergeRepend_still n old new s hK
  rw [eK] at this; exact this

theorem State.backToPending_still {s0 : State} (n : Nat) (info : Arrival) (s : State) (hK : Still s0 s) :
    Still s0 (State.backToPending n info s) := by
  unfold State.backToPending
  repeat' (first | with_reducible assumption | intro _ | (extract_lets +onlyGivenNames x; first | ((first | refine (fun hx => ?_ : Still s0 x → Still s0 _) ?_); (on_goal 1 => clear_value x); (on_goal 2 => subst x)) | (refine (fun hx => ?_ : Still s0 x → Still s0 _) ?_; (on_goal 2 => subst x)) | clear_value x | skip) | with_reducible apply Still.ite | with_reducible apply State.mergeRepend_still | (with_reducible apply State.mergeRepend_still'; on_goal 1 => with_reducible assumption) | with_reducible apply State.toPending_still | with_reducible apply State.setSrc_still | with_reducible apply State.bump_still | split | (with_reducible refine Still.of ?_ rfl rfl rfl rfl rfl rfl rfl rfl rfl rfl rfl rfl rfl rfl rfl rfl rfl rfl rfl rfl rfl rfl rfl rfl rfl rfl rfl rfl rfl rfl rfl rfl rfl rfl rfl rfl rfl rfl; first | with_reducible assumption | with_reducible apply Still.ite | with_reducible apply State.mergeRepend_still | (with_reducible apply State.mergeRepend_still'; on_goal 1 => with_reducible assumption) | with_reducible apply State.toPending_still | with_reducible apply State.setSrc_still | with_reducible apply State.bump_still | split))

theorem State.bcastAgain_still {s0 : State} (n : Nat) (s : State) (hK : Still s0 s) :
    Still s0 (State.bcastAgain n s) := by
  unfold State.bcastAgain
  repeat' (first | with_reducible assumption | intro _ | (extract_lets +onlyGivenNames x; first | ((first | refine (fun hx => ?_ : Still s0 x → Still s0 _) ?_); (on_goal 1 => clear_value x); (on_goal 2 => subst x)) | (refine (fun hx => ?_ : Still s0 x → Still s0 _) ?_; (on_goal 2 => subst x)) | clear_value x | skip) | with_reducible apply Still.ite | with_reducible apply State.select_still | with_reducible apply State.setSrc_still | split | (with_reducible refine Still.of ?_ rfl rfl rfl rfl rfl rfl rfl rfl rfl rfl rfl rfl rfl rfl rfl rfl rfl rfl rfl rfl rfl rfl rfl rfl rfl rfl rfl rfl rfl rfl rfl rfl rfl rfl rfl rfl rfl rfl; first | with_reducible assumption | with_reducible apply Still.ite | with_reducible apply State.select_still | with_reducible apply State.setSrc_still | split))

theorem State.bcastState_still {s0 : State} (n : Nat) (s : State) (hK : Still s0 s) :
    Still s0 (State.bcastState n s) := by
  unfold State.bcastState
  repeat' (first | with_reducible assumption | intro _ | (extract_lets +onlyGivenNames x; first | ((first | refine (fun hx => ?_ : Still s0 x → Still s0 _) ?_); (on_goal 1 => clear_value x); (on_goal 2 => subst x)) | (refine (fun hx => ?_ : Still s0 x → Still s0 _) ?_; (on_goal 2 => subst x)) | clear_value x | skip) | with_reducible apply Still.ite | with_reducible apply State.bcastAgain_still | with_reducible apply State.mergeRepend_still | (with_reducible apply State.mergeRepend_still'; on_goal 1 => with_reducible assumption) | with_reducible apply State.bufSt_still | with_reducible apply State.setSrc_still | with_reducible apply State.bump_still | split | (with_reducible refine Still.of ?_ rfl rfl rfl rfl rfl rfl rfl rfl rfl rfl rfl rfl rfl rfl rfl rfl rfl rfl rfl rfl rfl rfl rfl rfl rfl rfl rfl rfl rfl rfl rfl rfl rfl rfl rfl rfl rfl rfl; first | with_reducible assumption | with_reducible apply Still.ite | with_reducible apply State.bcastAgain_still | with_reducible apply State.mergeRepend_still | (with_reducible apply State.mergeRepend_still'; on_goal 1 => with_reducible assumption) | with_reducible apply State.bufSt_still | with_reducible apply State.setSrc_still | with_reducible apply State.bump_still | split))

theorem State.memberEnded_still {s0 : State} (n : Nat) (s : State) (hK : Still s0 s) :
    Still s0 (State.memberEnded n s) := by
  unfold State.memberEnded
  repeat' (first | with_reducible assumption | intro _ | (extract_lets +onlyGivenNames x; first | ((first | refine (fun hx => ?_ : Still s0 x → Still s0 _) ?_); (on_goal 1 => clear_value x); (on_goal 2 => subst x)) | (refine (fun hx => ?_ : Still s0 x → Still s0 _) ?_; (on_goal 2 => subst x)) | clear_value x | skip) | with_reducible apply Still.ite | with_reducible apply State.bcastState_still | with_reducible apply State.outcome_still | with_reducible apply State.select_still | with_reducible apply State.checkBuf_still | split)

theorem State.chrQuar_still {s0 : State} (isTgt release : Bool) (by_ num ten : Nat) (s : State) (hK : Still s0 s) :
    Still s0 (State.chrQuar isTgt release by_ num ten s) := by
  unfold State.chrQuar
  repeat' (first | with_reducible assumption | intro _ | with_reducible apply State.chrPut_still | split)

theorem State.quarantine_still {s0 : State} (n by_ : Nat) (s : State) (hK : Still s0 s) :
    Still s0 (State.quarantine n by_ s) := by
  unfold State.quarantine
  repeat' (first | with_reducible assumption | intro _ | (extract_lets +onlyGivenNames x; first | ((first | refine (fun hx => ?_ : Still s0 x → Still s0 _) ?_ | refine (fun hx => ?_ : (∀ z, Still s0 z → Still s0 (x z)) → Still s0 _) ?_ | refine (fun hx => ?_ : (∀ a z, Still s0 z → Still s0 (x a z)) → Still s0 _) ?_ | refine (fun hx => ?_ : (∀ a z, Still s0 z → Still s0 (x a z).2) → Still s0 _) ?_ | refine (fun hx => ?_ : (∀ a c z, Still s0 z → Still s0 (x a c z)) → Still s0 _) ?_ | refine (fun hx => ?_ : (∀ a, Still s0 (x a)) → Still s0 _) ?_); (on_goal 1 => clear_value x); (on_goal 2 => subst x)) | (refine (fun hx => ?_ : Still s0 x → Still s0 _) ?_; (on_goal 2 => subst x)) | clear_value x | skip) | with_reducible apply Still.ite | with_reducible apply State.chrQuar_still | with_reducible apply State.note_still | with_reducible apply State.discardBuf_still | with_reducible apply State.setSrc_still | with_reducible apply_assumption | split | (with_reducible refine Still.of ?_ rfl rfl rfl rfl rfl rfl rfl rfl rfl rfl rfl rfl rfl rfl rfl rfl rfl rfl rfl rfl rfl rfl rfl rfl rfl rfl rfl rfl rfl rfl rfl rfl rfl rfl rfl rfl rfl rfl; first | with_reducible assumption | with_reducible apply Still.ite | with_reducible apply State.chrQuar_still | with_reducible apply State.note_still | with_reducible apply State.discardBuf_still | with_reducible apply State.setSrc_still | with_reducible apply_assumption | split) | dsimp -zeta only)

theorem State.stormCount_still {s0 : State} (n : Nat) (s : State) (hK : Still s0 s) :
    Still s0 (State.stormCount n s) := by
  unfold State.stormCount
  repeat' (first | with_reducible assumption | intro _ | (extract_lets +onlyGivenNames x; first | ((first | refine (fun hx => ?_ : Still s0 x → Still s0 _) ?_); (on_goal 1 => clear_value x); (on_goal 2 => subst x)) | (refine (fun hx => ?_ : Still s0 x → Still s0 _) ?_; (on_goal 2 => subst x)) | clear_value x | skip) | with_reducible apply Still.ite | with_reducible apply State.quarantine_still | with_reducible apply State.dial_still | with_reducible apply State.setSrc_still | split | (with_reducible refine Still.of ?_ rfl rfl rfl rfl rfl rfl rfl rfl rfl rfl rfl rfl rfl rfl rfl rfl rfl rfl rfl rfl rfl rfl rfl rfl rfl rfl rfl rfl rfl rfl rfl rfl rfl rfl rfl rfl rfl rfl; first | with_reducible assumption | with_reducible apply Still.ite | with_reducible apply State.quarantine_still | with_reducible apply State.dial_still | with_reducible apply State.setSrc_still | split))

theorem State.stage_still {s0 : State} (n : Nat) (a : Arrival) (pay : Option (List Byte)) (s : State) (hK : Still s0
    s) :
    Still s0 (State.stage n a pay s).2 := by
  unfold State.stage
  repeat' (first | with_reducible assumption | intro _ | with_reducible apply State.allocBuf_still | (with_reducible apply State.allocBuf_still'; on_goal 1 => with_reducible assumption) | with_reducible apply State.dial_still | with_reducible apply State.bump_still | split | (with_reducible refine Still.of ?_ rfl rfl rfl rfl rfl rfl rfl rfl rfl rfl rfl rfl rfl rfl rfl rfl rfl rfl rfl rfl rfl rfl rfl rfl rfl rfl rfl rfl rfl rfl rfl rfl rfl rfl rfl rfl rfl rfl; first | with_reducible assumption | with_reducible apply State.allocBuf_still | (with_reducible apply State.allocBuf_still'; on_goal 1 => with_reducible assumption) | with_reducible apply State.dial_still | with_reducible apply State.bump_still | split))

theorem State.stage_still' {s0 tK : State} (n : Nat) (a : Arrival) (pay : Option (List Byte)) (s : State) {xK : Arrival} (eK : State.stage n a pay s = (xK, tK)) (hK : Still s0 s) :
    Still s0 tK := by
  have := State.stage_still n a pay s hK
  rw [eK] at this; exact this

theorem State.mergeArrival_still {s0 : State} (n : Nat) (old a : Arrival) (pay : Option (List Byte)) (s : State) (hK
    : Still s0 s) :
    Still s0 (State.mergeArrival n old a pay s).2 := by
  unfold State.mergeArrival
  repeat' (first | with_reducible assumption | intro _ | (extract_lets +onlyGivenNames x; first | ((first | refine (fun hx => ?_ : Still s0 x → Still s0 _) ?_); (on_goal 1 => clear_value x); (on_goal 2 => subst x)) | (refine (fun hx => ?_ : Still s0 x → Still s0 _) ?_; (on_goal 2 => subst x)) | clear_value x | skip) | with_reducible apply Still.ite | with_reducible apply State.stage_still | (with_reducible apply State.stage_still'; on_goal 1 => with_reducible assumption) | with_reducible apply State.setBuf_still | with_reducible apply State.bump_still | split | (with_reducible refine Still.of ?_ rfl rfl rfl rfl rfl rfl rfl rfl rfl rfl rfl rfl rfl rfl rfl rfl rfl rfl rfl rfl rfl rfl rfl rfl rfl rfl rfl rfl rfl rfl rfl rfl rfl rfl rfl rfl rfl rfl; first | with_reducible assumption | with_reducible apply Still.ite | with_reducible apply State.stage_still | (with_reducible apply State.stage_still'; on_goal 1 => with_reducible assumption) | with_reducible apply State.setBuf_still | with_reducible apply State.bump_still | split))

theorem State.mergeArrival_still' {s0 tK : State} (n : Nat) (old a : Arrival) (pay : Option (List Byte)) (s : State) {xK : Arrival} (eK : State.mergeArrival n old a pay s = (xK, tK)) (hK : Still s0 s) :
    Still s0 tK := by
  have := State.mergeArrival_still n old a pay s hK
  rw [eK] at this; exact this

theorem State.dropPay_still {s0 : State} (n : Nat) (pay : Option (List Byte)) (s : State) (hK : Still s0 s) :
    Still s0 (State.dropPay n pay s) := by
  unfold State.dropPay
  repeat' (first | with_reducible assumption | intro _ | with_reducible apply Still.ite | with_reducible apply State.bump_still | split)

theorem State.wake_still {s0 : State} (cause src : Nat) (s : State) (hK : Still s0 s) :
    Still s0 (State.wake cause src s) := by
  unfold State.wake
  repeat' (first | with_reducible assumption | intro _ | (extract_lets +onlyGivenNames x; first | ((first | refine (fun hx => ?_ : Still s0 x → Still s0 _) ?_); (on_goal 1 => clear_value x); (on_goal 2 => subst x)) | (refine (fun hx => ?_ : Still s0 x → Still s0 _) ?_; (on_goal 2 => subst x)) | clear_value x | skip) | with_reducible apply Still.ite | with_reducible apply State.post_still | with_reducible apply State.setO_still | split | (with_reducible refine Still.of ?_ rfl rfl rfl rfl rfl rfl rfl rfl rfl rfl rfl rfl rfl rfl rfl rfl rfl rfl rfl rfl rfl rfl rfl rfl rfl rfl rfl rfl rfl rfl rfl rfl rfl rfl rfl rfl rfl rfl; first | with_reducible assumption | with_reducible apply Still.ite | with_reducible apply State.post_still | with_reducible apply State.setO_still | split))

theorem State.arrive_still {s0 : State} (n : Nat) (stamp : Beat) (hw : Bool) (a : Arrival) (pay : Option (List Byte))
    (s : State) (hK : Still s0 s) :
    Still s0 (State.arrive n stamp hw a pay s) := by
  unfold State.arrive
  repeat' (first | with_reducible assumption | intro _ | (extract_lets +onlyGivenNames x; first | ((first | refine (fun hx => ?_ : Still s0 x → Still s0 _) ?_); (on_goal 1 => clear_value x); (on_goal 2 => subst x)) | (refine (fun hx => ?_ : Still s0 x → Still s0 _) ?_; (on_goal 2 => subst x)) | clear_value x | skip) | with_reducible apply Still.ite | with_reducible apply State.wake_still | with_reducible apply State.dropPay_still | with_reducible apply State.mergeArrival_still | (with_reducible apply State.mergeArrival_still'; on_goal 1 => with_reducible assumption) | with_reducible apply State.stage_still | (with_reducible apply State.stage_still'; on_goal 1 => with_reducible assumption) | with_reducible apply State.stormCount_still | with_reducible apply State.toPending_still | with_reducible apply State.note_still | with_reducible apply State.setSrc_still | with_reducible apply State.bump_still | split | (with_reducible refine Still.of ?_ rfl rfl rfl rfl rfl rfl rfl rfl rfl rfl rfl rfl rfl rfl rfl rfl rfl rfl rfl rfl rfl rfl rfl rfl rfl rfl rfl rfl rfl rfl rfl rfl rfl rfl rfl rfl rfl rfl; first | with_reducible assumption | with_reducible apply Still.ite | with_reducible apply State.wake_still | with_reducible apply State.dropPay_still | with_reducible apply State.mergeArrival_still | (with_reducible apply State.mergeArrival_still'; on_goal 1 => with_reducible assumption) | with_reducible apply State.stage_still | (with_reducible apply State.stage_still'; on_goal 1 => with_reducible assumption) | with_reducible apply State.stormCount_still | with_reducible apply State.toPending_still | with_reducible apply State.note_still | with_reducible apply State.setSrc_still | with_reducible apply State.bump_still | split))

theorem State.evalLevel_still {s0 : State} (n : Nat) (s : State) (hK : Still s0 s) :
    Still s0 (State.evalLevel n s) := by
  unfold State.evalLevel
  repeat' (first | with_reducible assumption | intro _ | (extract_lets +onlyGivenNames x; first | ((first | refine (fun hx => ?_ : Still s0 x → Still s0 _) ?_); (on_goal 1 => clear_value x); (on_goal 2 => subst x)) | (refine (fun hx => ?_ : Still s0 x → Still s0 _) ?_; (on_goal 2 => subst x)) | clear_value x | skip) | with_reducible apply Still.ite | with_reducible apply State.wake_still | with_reducible apply State.toPending_still | with_reducible apply State.note_still | with_reducible apply State.setSrc_still | with_reducible apply State.bump_still | split)

theorem State.release_still {s0 : State} (n by_ : Nat) (s : State) (hK : Still s0 s) :
    Still s0 (State.release n by_ s) := by
  unfold State.release
  repeat' (first | with_reducible assumption | intro _ | (extract_lets +onlyGivenNames x; first | ((first | refine (fun hx => ?_ : Still s0 x → Still s0 _) ?_ | refine (fun hx => ?_ : (∀ z, Still s0 z → Still s0 (x z)) → Still s0 _) ?_ | refine (fun hx => ?_ : (∀ a z, Still s0 z → Still s0 (x a z)) → Still s0 _) ?_ | refine (fun hx => ?_ : (∀ a z, Still s0 z → Still s0 (x a z).2) → Still s0 _) ?_ | refine (fun hx => ?_ : (∀ a c z, Still s0 z → Still s0 (x a c z)) → Still s0 _) ?_ | refine (fun hx => ?_ : (∀ a, Still s0 (x a)) → Still s0 _) ?_); (on_goal 1 => clear_value x); (on_goal 2 => subst x)) | (refine (fun hx => ?_ : Still s0 x → Still s0 _) ?_; (on_goal 2 => subst x)) | clear_value x | skip) | with_reducible apply Still.ite | with_reducible apply State.arrive_still | with_reducible apply State.chrQuar_still | with_reducible apply State.note_still | with_reducible apply State.setSrc_still | with_reducible apply_assumption | split | (with_reducible refine Still.of ?_ rfl rfl rfl rfl rfl rfl rfl rfl rfl rfl rfl rfl rfl rfl rfl rfl rfl rfl rfl rfl rfl rfl rfl rfl rfl rfl rfl rfl rfl rfl rfl rfl rfl rfl rfl rfl rfl rfl; first | with_reducible assumption | with_reducible apply Still.ite | with_reducible apply State.arrive_still | with_reducible apply State.chrQuar_still | with_reducible apply State.note_still | with_reducible apply State.setSrc_still | with_reducible apply_assumption | split) | dsimp -zeta only)

theorem State.evalLevels_still {s0 : State} (s : State) (hK : Still s0 s) :
    Still s0 (State.evalLevels s) := by
  unfold State.evalLevels
  repeat' (first | with_reducible assumption | intro _ | with_reducible apply each_still | with_reducible apply State.evalLevel_still | split)

theorem State.queueMirror_still {s0 : State} (e : MirrorEntry) (s : State) (hK : Still s0 s) :
    Still s0 (State.queueMirror e s) := by
  unfold State.queueMirror
  repeat' (first | with_reducible assumption | intro _ | with_reducible apply Still.ite | with_reducible apply State.dial_still | split | (with_reducible refine Still.of ?_ rfl rfl rfl rfl rfl rfl rfl rfl rfl rfl rfl rfl rfl rfl rfl rfl rfl rfl rfl rfl rfl rfl rfl rfl rfl rfl rfl rfl rfl rfl rfl rfl rfl rfl rfl rfl rfl rfl; first | with_reducible assumption | with_reducible apply Still.ite | with_reducible apply State.dial_still | split))

theorem State.flushMirror_still {s0 : State} (s : State) (hK : Still s0 s) :
    Still s0 (State.flushMirror s) := by
  unfold State.flushMirror
  repeat' (first | with_reducible assumption | intro _ | (extract_lets +onlyGivenNames x; first | ((first | refine (fun hx => ?_ : Still s0 x → Still s0 _) ?_); (on_goal 1 => clear_value x); (on_goal 2 => subst x)) | (refine (fun hx => ?_ : Still s0 x → Still s0 _) ?_; (on_goal 2 => subst x)) | clear_value x | skip) | with_reducible apply each_still | with_reducible apply Still.ite | with_reducible apply State.queueMirror_still | split | (with_reducible refine Still.of ?_ rfl rfl rfl rfl rfl rfl rfl rfl rfl rfl rfl rfl rfl rfl rfl rfl rfl rfl rfl rfl rfl rfl rfl rfl rfl rfl rfl rfl rfl rfl rfl rfl rfl rfl rfl rfl rfl rfl; first | with_reducible assumption | with_reducible apply each_still | with_reducible apply Still.ite | with_reducible apply State.queueMirror_still | split))

theorem State.sendOne_still {s0 : State} (s : State) (hK : Still s0 s) :
    Still s0 (State.sendOne s) := by
  unfold State.sendOne
  repeat' (first | with_reducible assumption | intro _ | (extract_lets +onlyGivenNames x; first | ((first | refine (fun hx => ?_ : Still s0 x → Still s0 _) ?_); (on_goal 1 => clear_value x); (on_goal 2 => subst x)) | (refine (fun hx => ?_ : Still s0 x → Still s0 _) ?_; (on_goal 2 => subst x)) | clear_value x | skip) | with_reducible apply Still.ite | with_reducible apply State.emit_still | split | (with_reducible refine Still.of ?_ rfl rfl rfl rfl rfl rfl rfl rfl rfl rfl rfl rfl rfl rfl rfl rfl rfl rfl rfl rfl rfl rfl rfl rfl rfl rfl rfl rfl rfl rfl rfl rfl rfl rfl rfl rfl rfl rfl; first | with_reducible assumption | with_reducible apply Still.ite | with_reducible apply State.emit_still | split))

theorem times_still {s0 : State} (f : State → State) (n : Nat) (s : State) (hf : ∀ z, Still s0 z → Still s0 (f z))
    (h : Still s0 s) : Still s0 (times f n s) := by
  induction n generalizing s with
  | zero => exact h
  | succ n ih => exact ih _ (hf _ h)

theorem State.pump_still {s0 : State} (s : State) (hK : Still s0 s) :
    Still s0 (State.pump s) := by
  unfold State.pump
  repeat' (first | with_reducible assumption | intro _ | with_reducible apply times_still | with_reducible apply times_still | with_reducible apply State.sendOne_still | split)

theorem State.newTag_still {s0 : State} (t : Nat) (s : State) (hK : Still s0 s) :
    Still s0 (State.newTag t s).2 := by
  unfold State.newTag
  repeat' (first | with_reducible assumption | intro _ | (extract_lets +onlyGivenNames x; first | ((first | refine (fun hx => ?_ : Still s0 x → Still s0 _) ?_); (on_goal 1 => clear_value x); (on_goal 2 => subst x)) | (refine (fun hx => ?_ : Still s0 x → Still s0 _) ?_; (on_goal 2 => subst x)) | clear_value x | skip) | with_reducible apply State.setTgt_still | split | (with_reducible refine Still.of ?_ rfl rfl rfl rfl rfl rfl rfl rfl rfl rfl rfl rfl rfl rfl rfl rfl rfl rfl rfl rfl rfl rfl rfl rfl rfl rfl rfl rfl rfl rfl rfl rfl rfl rfl rfl rfl rfl rfl; first | with_reducible assumption | with_reducible apply State.setTgt_still | split))

theorem State.newTag_still' {s0 tK : State} (t : Nat) (s : State) {xK : Nat} (eK : State.newTag t s = (xK, tK)) (hK : Still s0 s) :
    Still s0 tK := by
  have := State.newTag_still t s hK
  rw [eK] at this; exact this

theorem State.writeSpecial_still {s0 : State} (t tag : Nat) (a : Arrival) (s : State) (hK : Still s0 s) :
    Still s0 (State.writeSpecial t tag a s) := by
  unfold State.writeSpecial
  repeat' (first | with_reducible assumption | intro _ | with_reducible apply Still.ite | with_reducible apply State.setTgt_still | split | (with_reducible refine Still.of ?_ rfl rfl rfl rfl rfl rfl rfl rfl rfl rfl rfl rfl rfl rfl rfl rfl rfl rfl rfl rfl rfl rfl rfl rfl rfl rfl rfl rfl rfl rfl rfl rfl rfl rfl rfl rfl rfl rfl; first | with_reducible assumption | with_reducible apply Still.ite | with_reducible apply State.setTgt_still | split))

theorem State.deliveryWrite_still {s0 : State} (d : Delivery) (t : Nat) (s : State) (hK : Still s0 s) :
    Still s0 (State.deliveryWrite d t s) := by
  unfold State.deliveryWrite
  repeat' (first | with_reducible assumption | intro _ | (extract_lets +onlyGivenNames x; first | ((first | refine (fun hx => ?_ : Still s0 x → Still s0 _) ?_); (on_goal 1 => clear_value x); (on_goal 2 => subst x)) | (refine (fun hx => ?_ : Still s0 x → Still s0 _) ?_; (on_goal 2 => subst x)) | clear_value x | skip) | with_reducible apply Still.ite | with_reducible apply State.writeSpecial_still | with_reducible apply State.post_still | split)

theorem State.give_still {s0 : State} (n t grp prio : Nat) (info : Arrival) (start : Beat) (bcast claimed : Bool)
    (slot : Option Nat) (s : State) (hK : Still s0 s) :
    Still s0 (State.give n t grp prio info start bcast claimed slot s).2 := by
  unfold State.give
  repeat' (first | with_reducible assumption | intro _ | (extract_lets +onlyGivenNames x; first | ((first | refine (fun hx => ?_ : Still s0 x → Still s0 _) ?_); (on_goal 1 => clear_value x); (on_goal 2 => subst x)) | (refine (fun hx => ?_ : Still s0 x → Still s0 _) ?_; (on_goal 2 => subst x)) | clear_value x | skip) | with_reducible apply Still.ite | with_reducible apply State.newTag_still | (with_reducible apply State.newTag_still'; on_goal 1 => with_reducible assumption) | with_reducible apply State.bufSt_still | with_reducible apply State.ownBuf_still | with_reducible apply State.bump_still | split | (with_reducible refine Still.of ?_ rfl rfl rfl rfl rfl rfl rfl rfl rfl rfl rfl rfl rfl rfl rfl rfl rfl rfl rfl rfl rfl rfl rfl rfl rfl rfl rfl rfl rfl rfl rfl rfl rfl rfl rfl rfl rfl rfl; first | with_reducible assumption | with_reducible apply Still.ite | with_reducible apply State.newTag_still | (with_reducible apply State.newTag_still'; on_goal 1 => with_reducible assumption) | with_reducible apply State.bufSt_still | with_reducible apply State.ownBuf_still | with_reducible apply State.bump_still | split))

theorem State.give_still' {s0 tK : State} (n t grp prio : Nat) (info : Arrival) (start : Beat) (bcast claimed : Bool) (slot : Option Nat) (s : State) {xK : Delivery} (eK : State.give n t grp prio info start bcast claimed slot s = (xK, tK)) (hK : Still s0 s) :
    Still s0 tK := by
  have := State.give_still n t grp prio info start bcast claimed slot s hK
  rw [eK] at this; exact this

theorem State.takePending_still {s0 : State} (n t : Nat) (claimed : Bool) (slot : Option Nat) (s : State) (hK : Still
    s0 s) :
    Still s0 (State.takePending n t claimed slot s).2 := by
  unfold State.takePending
  repeat' (first | with_reducible assumption | intro _ | (extract_lets +onlyGivenNames x; first | ((first | refine (fun hx => ?_ : Still s0 x → Still s0 _) ?_); (on_goal 1 => clear_value x); (on_goal 2 => subst x)) | (refine (fun hx => ?_ : Still s0 x → Still s0 _) ?_; (on_goal 2 => subst x)) | clear_value x | skip) | with_reducible apply Still.ite | with_reducible apply State.give_still | (with_reducible apply State.give_still'; on_goal 1 => with_reducible assumption) | with_reducible apply State.note_still | with_reducible apply State.setSrc_still | split | (with_reducible refine Still.of ?_ rfl rfl rfl rfl rfl rfl rfl rfl rfl rfl rfl rfl rfl rfl rfl rfl rfl rfl rfl rfl rfl rfl rfl rfl rfl rfl rfl rfl rfl rfl rfl rfl rfl rfl rfl rfl rfl rfl; first | with_reducible assumption | with_reducible apply Still.ite | with_reducible apply State.give_still | (with_reducible apply State.give_still'; on_goal 1 => with_reducible assumption) | with_reducible apply State.note_still | with_reducible apply State.setSrc_still | split))

theorem State.takePending_still' {s0 tK : State} (n t : Nat) (claimed : Bool) (slot : Option Nat) (s : State) {xK : Delivery} (eK : State.takePending n t claimed slot s = (xK, tK)) (hK : Still s0 s) :
    Still s0 tK := by
  have := State.takePending_still n t claimed slot s hK
  rw [eK] at this; exact this

theorem State.issue_still {s0 : State} (n t : Nat) (s : State) (hK : Still s0 s) :
    Still s0 (State.issue n t s) := by
  unfold State.issue
  repeat' (first | with_reducible assumption | intro _ | (extract_lets +onlyGivenNames x; first | ((first | refine (fun hx => ?_ : Still s0 x → Still s0 _) ?_); (on_goal 1 => clear_value x); (on_goal 2 => subst x)) | (refine (fun hx => ?_ : Still s0 x → Still s0 _) ?_; (on_goal 2 => subst x)) | clear_value x | skip) | with_reducible apply State.takePending_still | (with_reducible apply State.takePending_still'; on_goal 1 => with_reducible assumption) | with_reducible apply State.deliveryWrite_still | split)

theorem State.issueForward_still {s0 : State} (n e : Nat) (s : State) (hK : Still s0 s) :
    Still s0 (State.issueForward n e s) := by
  unfold State.issueForward
  repeat' (first | with_reducible assumption | intro _ | (extract_lets +onlyGivenNames x; first | ((first | refine (fun hx => ?_ : Still s0 x → Still s0 _) ?_); (on_goal 1 => clear_value x); (on_goal 2 => subst x)) | (refine (fun hx => ?_ : Still s0 x → Still s0 _) ?_; (on_goal 2 => subst x)) | clear_value x | skip) | with_reducible apply State.note_still | with_reducible apply State.bufSt_still | with_reducible apply State.setEsc_still | with_reducible apply State.setSrc_still | split | (with_reducible refine Still.of ?_ rfl rfl rfl rfl rfl rfl rfl rfl rfl rfl rfl rfl rfl rfl rfl rfl rfl rfl rfl rfl rfl rfl rfl rfl rfl rfl rfl rfl rfl rfl rfl rfl rfl rfl rfl rfl rfl rfl; first | with_reducible assumption | with_reducible apply State.note_still | with_reducible apply State.bufSt_still | with_reducible apply State.setEsc_still | with_reducible apply State.setSrc_still | split))

theorem State.issueTo_still {s0 : State} (from_ e t : Nat) (s : State) (hK : Still s0 s) :
    Still s0 (State.issueTo from_ e t s) := by
  unfold State.issueTo
  repeat' (first | with_reducible assumption | intro _ | with_reducible apply Still.ite | with_reducible apply State.issueForward_still | with_reducible apply State.issue_still | with_reducible apply State.setEsc_still | split | (with_reducible refine Still.of ?_ rfl rfl rfl rfl rfl rfl rfl rfl rfl rfl rfl rfl rfl rfl rfl rfl rfl rfl rfl rfl rfl rfl rfl rfl rfl rfl rfl rfl rfl rfl rfl rfl rfl rfl rfl rfl rfl rfl; first | with_reducible assumption | with_reducible apply Still.ite | with_reducible apply State.issueForward_still | with_reducible apply State.issue_still | with_reducible apply State.setEsc_still | split))

theorem State.dropDlv_still {s0 : State} (d : Delivery) (s : State) (hK : Still s0 s) :
    Still s0 (State.dropDlv d s) := by
  unfold State.dropDlv
  repeat' (first | with_reducible assumption | intro _ | split | (with_reducible refine Still.of ?_ rfl rfl rfl rfl rfl rfl rfl rfl rfl rfl rfl rfl rfl rfl rfl rfl rfl rfl rfl rfl rfl rfl rfl rfl rfl rfl rfl rfl rfl rfl rfl rfl rfl rfl rfl rfl rfl rfl; first | with_reducible assumption | split))

theorem State.unhold_still {s0 : State} (b : Option Nat) (t : Nat) (s : State) (hK : Still s0 s) :
    Still s0 (State.unhold b t s) := by
  unfold State.unhold
  repeat' (first | with_reducible assumption | intro _ | (extract_lets +onlyGivenNames x; first | ((first | refine (fun hx => ?_ : Still s0 x → Still s0 _) ?_); (on_goal 1 => clear_value x); (on_goal 2 => subst x)) | (refine (fun hx => ?_ : Still s0 x → Still s0 _) ?_; (on_goal 2 => subst x)) | clear_value x | skip) | with_reducible apply State.setBuf_still | split | (with_reducible refine Still.of ?_ rfl rfl rfl rfl rfl rfl rfl rfl rfl rfl rfl rfl rfl rfl rfl rfl rfl rfl rfl rfl rfl rfl rfl rfl rfl rfl rfl rfl rfl rfl rfl rfl rfl rfl rfl rfl rfl rfl; first | with_reducible assumption | with_reducible apply State.setBuf_still | split))

theorem State.withdraw_still {s0 : State} (code : Nat) (d : Delivery) (s : State) (hK : Still s0 s) :
    Still s0 (State.withdraw code d s) := by
  unfold State.withdraw
  repeat' (first | with_reducible assumption | intro _ | (extract_lets +onlyGivenNames x; first | ((first | refine (fun hx => ?_ : Still s0 x → Still s0 _) ?_); (on_goal 1 => clear_value x); (on_goal 2 => subst x)) | (refine (fun hx => ?_ : Still s0 x → Still s0 _) ?_; (on_goal 2 => subst x)) | clear_value x | skip) | with_reducible apply Still.ite | with_reducible apply State.dropDlv_still | with_reducible apply State.bcastState_still | with_reducible apply State.backToPending_still | with_reducible apply State.note_still | with_reducible apply State.bufSt_still | with_reducible apply State.setSrc_still | split | (with_reducible refine Still.of ?_ rfl rfl rfl rfl rfl rfl rfl rfl rfl rfl rfl rfl rfl rfl rfl rfl rfl rfl rfl rfl rfl rfl rfl rfl rfl rfl rfl rfl rfl rfl rfl rfl rfl rfl rfl rfl rfl rfl; first | with_reducible assumption | with_reducible apply Still.ite | with_reducible apply State.dropDlv_still | with_reducible apply State.bcastState_still | with_reducible apply State.backToPending_still | with_reducible apply State.note_still | with_reducible apply State.bufSt_still | with_reducible apply State.setSrc_still | split))

theorem State.revoke_still {s0 : State} (d : Delivery) (s : State) (hK : Still s0 s) :
    Still s0 (State.revoke d s) := by
  unfold State.revoke
  repeat' (first | with_reducible assumption | intro _ | (extract_lets +onlyGivenNames x; first | ((first | refine (fun hx => ?_ : Still s0 x → Still s0 _) ?_); (on_goal 1 => clear_value x); (on_goal 2 => subst x)) | (refine (fun hx => ?_ : Still s0 x → Still s0 _) ?_; (on_goal 2 => subst x)) | clear_value x | skip) | with_reducible apply Still.ite | with_reducible apply State.unhold_still | with_reducible apply State.dropDlv_still | with_reducible apply State.give_still | (with_reducible apply State.give_still'; on_goal 1 => with_reducible assumption) | with_reducible apply State.deliveryWrite_still | with_reducible apply State.memberEnded_still | with_reducible apply State.backToPending_still | with_reducible apply State.choose_still | (with_reducible apply State.choose_still'; on_goal 1 => with_reducible assumption) | with_reducible apply State.note_still | with_reducible apply State.revokeBuf_still | with_reducible apply State.checkBuf_still | with_reducible apply State.setSrc_still | with_reducible apply State.bump_still | split | (with_reducible refine Still.of ?_ rfl rfl rfl rfl rfl rfl rfl rfl rfl rfl rfl rfl rfl rfl rfl rfl rfl rfl rfl rfl rfl rfl rfl rfl rfl rfl rfl rfl rfl rfl rfl rfl rfl rfl rfl rfl rfl rfl; first | with_reducible assumption | with_reducible apply Still.ite | with_reducible apply State.unhold_still | with_reducible apply State.dropDlv_still | with_reducible apply State.give_still | (with_reducible apply State.give_still'; on_goal 1 => with_reducible assumption) | with_reducible apply State.deliveryWrite_still | with_reducible apply State.memberEnded_still | with_reducible apply State.backToPending_still | with_reducible apply State.choose_still | (with_reducible apply State.choose_still'; on_goal 1 => with_reducible assumption) | with_reducible apply State.note_still | with_reducible apply State.revokeBuf_still | with_reducible apply State.checkBuf_still | with_reducible apply State.setSrc_still | with_reducible apply State.bump_still | split))

theorem State.ended_still {s0 : State} (d : Delivery) (s : State) (hK : Still s0 s) :
    Still s0 (State.ended d s) := by
  unfold State.ended
  repeat' (first | with_reducible assumption | intro _ | (extract_lets +onlyGivenNames x; first | ((first | refine (fun hx => ?_ : Still s0 x → Still s0 _) ?_); (on_goal 1 => clear_value x); (on_goal 2 => subst x)) | (refine (fun hx => ?_ : Still s0 x → Still s0 _) ?_; (on_goal 2 => subst x)) | clear_value x | skip) | with_reducible apply Still.ite | with_reducible apply State.dropDlv_still | with_reducible apply State.memberEnded_still | with_reducible apply State.outcome_still | with_reducible apply State.note_still | with_reducible apply State.checkBuf_still | split)

theorem State.sample_still {s0 : State} (d : Delivery) (t : Nat) (s : State) (hK : Still s0 s) :
    Still s0 (State.sample d t s) := by
  unfold State.sample
  repeat' (first | with_reducible assumption | intro _ | (extract_lets +onlyGivenNames x; first | ((first | refine (fun hx => ?_ : Still s0 x → Still s0 _) ?_); (on_goal 1 => clear_value x); (on_goal 2 => subst x)) | (refine (fun hx => ?_ : Still s0 x → Still s0 _) ?_; (on_goal 2 => subst x)) | clear_value x | skip) | with_reducible apply Still.ite | with_reducible apply State.setTgt_still | with_reducible apply State.bump_still | with_reducible apply State.setO_still | split | (with_reducible refine Still.of ?_ rfl rfl rfl rfl rfl rfl rfl rfl rfl rfl rfl rfl rfl rfl rfl rfl rfl rfl rfl rfl rfl rfl rfl rfl rfl rfl rfl rfl rfl rfl rfl rfl rfl rfl rfl rfl rfl rfl; first | with_reducible assumption | with_reducible apply Still.ite | with_reducible apply State.setTgt_still | with_reducible apply State.bump_still | with_reducible apply State.setO_still | split))

theorem State.completeCore_still {s0 : State} (t : Nat) (v : Dw) (s : State) (hK : Still s0 s) :
    Still s0 (State.completeCore t v s) := by
  unfold State.completeCore
  repeat' (first | with_reducible assumption | intro _ | (extract_lets +onlyGivenNames x; first | ((first | refine (fun hx => ?_ : Still s0 x → Still s0 _) ?_); (on_goal 1 => clear_value x); (on_goal 2 => subst x)) | (refine (fun hx => ?_ : Still s0 x → Still s0 _) ?_; (on_goal 2 => subst x)) | clear_value x | skip) | with_reducible apply State.sample_still | with_reducible apply State.ended_still | with_reducible apply State.bump_still | split)

theorem State.claimRegs_still {s0 : State} (d : Delivery) (t : Nat) (s : State) (hK : Still s0 s) :
    Still s0 (State.claimRegs d t s) := by
  unfold State.claimRegs
  repeat' (first | with_reducible assumption | intro _ | (extract_lets +onlyGivenNames x; first | ((first | refine (fun hx => ?_ : Still s0 x → Still s0 _) ?_); (on_goal 1 => clear_value x); (on_goal 2 => subst x)) | (refine (fun hx => ?_ : Still s0 x → Still s0 _) ?_; (on_goal 2 => subst x)) | clear_value x | skip) | with_reducible apply State.writeSpecial_still | with_reducible apply State.setTgt_still | split | (with_reducible refine Still.of ?_ rfl rfl rfl rfl rfl rfl rfl rfl rfl rfl rfl rfl rfl rfl rfl rfl rfl rfl rfl rfl rfl rfl rfl rfl rfl rfl rfl rfl rfl rfl rfl rfl rfl rfl rfl rfl rfl rfl; first | with_reducible assumption | with_reducible apply State.writeSpecial_still | with_reducible apply State.setTgt_still | split))

theorem State.answerClaim_still {s0 : State} (fn t : Nat) (wide : Bool) (d : Delivery) (s : State) (hK : Still s0 s) :
    Still s0 (State.answerClaim fn t wide d s) := by
  unfold State.answerClaim
  repeat' (first | with_reducible assumption | intro _ | (extract_lets +onlyGivenNames x; first | ((first | refine (fun hx => ?_ : Still s0 x → Still s0 _) ?_); (on_goal 1 => clear_value x); (on_goal 2 => subst x)) | (refine (fun hx => ?_ : Still s0 x → Still s0 _) ?_; (on_goal 2 => subst x)) | clear_value x | skip) | with_reducible apply Still.ite | with_reducible apply State.claimRegs_still | with_reducible apply State.post_still | split)

theorem State.acceptDlv_still {s0 : State} (d : Delivery) (t : Nat) (s : State) (hK : Still s0 s) :
    Still s0 (State.acceptDlv d t s).2 := by
  unfold State.acceptDlv
  repeat' (first | with_reducible assumption | intro _ | (extract_lets +onlyGivenNames x; first | ((first | refine (fun hx => ?_ : Still s0 x → Still s0 _) ?_); (on_goal 1 => clear_value x); (on_goal 2 => subst x)) | (refine (fun hx => ?_ : Still s0 x → Still s0 _) ?_; (on_goal 2 => subst x)) | clear_value x | skip) | with_reducible apply Still.ite | with_reducible apply State.note_still | with_reducible apply State.ownBuf_still | with_reducible apply State.setSrc_still | split | (with_reducible refine Still.of ?_ rfl rfl rfl rfl rfl rfl rfl rfl rfl rfl rfl rfl rfl rfl rfl rfl rfl rfl rfl rfl rfl rfl rfl rfl rfl rfl rfl rfl rfl rfl rfl rfl rfl rfl rfl rfl rfl rfl; first | with_reducible assumption | with_reducible apply Still.ite | with_reducible apply State.note_still | with_reducible apply State.ownBuf_still | with_reducible apply State.setSrc_still | split))

theorem State.acceptDlv_still' {s0 tK : State} (d : Delivery) (t : Nat) (s : State) {xK : Delivery} (eK : State.acceptDlv d t s = (xK, tK)) (hK : Still s0 s) :
    Still s0 tK := by
  have := State.acceptDlv_still d t s hK
  rw [eK] at this; exact this

theorem State.countClaim_still {s0 : State} (t : Nat) (s : State) (hK : Still s0 s) :
    Still s0 (State.countClaim t s) := by
  unfold State.countClaim
  repeat' (first | with_reducible assumption | intro _ | (extract_lets +onlyGivenNames x; first | ((first | refine (fun hx => ?_ : Still s0 x → Still s0 _) ?_); (on_goal 1 => clear_value x); (on_goal 2 => subst x)) | (refine (fun hx => ?_ : Still s0 x → Still s0 _) ?_; (on_goal 2 => subst x)) | clear_value x | skip) | with_reducible apply State.setTgt_still | with_reducible apply State.bump_still | split | (with_reducible refine Still.of ?_ rfl rfl rfl rfl rfl rfl rfl rfl rfl rfl rfl rfl rfl rfl rfl rfl rfl rfl rfl rfl rfl rfl rfl rfl rfl rfl rfl rfl rfl rfl rfl rfl rfl rfl rfl rfl rfl rfl; first | with_reducible assumption | with_reducible apply State.setTgt_still | with_reducible apply State.bump_still | split))

theorem State.claimCore_still {s0 : State} (fn t : Nat) (wide : Bool) (s : State) (hK : Still s0 s) :
    Still s0 (State.claimCore fn t wide s) := by
  unfold State.claimCore
  repeat' (first | with_reducible assumption | intro _ | (extract_lets +onlyGivenNames x; first | ((first | refine (fun hx => ?_ : Still s0 x → Still s0 _) ?_ | refine (fun hx => ?_ : (∀ z, Still s0 z → Still s0 (x z)) → Still s0 _) ?_ | refine (fun hx => ?_ : (∀ a z, Still s0 z → Still s0 (x a z)) → Still s0 _) ?_ | refine (fun hx => ?_ : (∀ a z, Still s0 z → Still s0 (x a z).2) → Still s0 _) ?_ | refine (fun hx => ?_ : (∀ a c z, Still s0 z → Still s0 (x a c z)) → Still s0 _) ?_ | refine (fun hx => ?_ : (∀ a, Still s0 (x a)) → Still s0 _) ?_); (on_goal 1 => clear_value x); (on_goal 2 => subst x)) | (refine (fun hx => ?_ : Still s0 x → Still s0 _) ?_; (on_goal 2 => subst x)) | clear_value x | skip) | with_reducible apply Still.ite | with_reducible apply State.countClaim_still | with_reducible apply State.acceptDlv_still | (with_reducible apply State.acceptDlv_still'; on_goal 1 => with_reducible assumption) | with_reducible apply State.answerClaim_still | with_reducible apply State.withdraw_still | with_reducible apply State.takePending_still | (with_reducible apply State.takePending_still'; on_goal 1 => with_reducible assumption) | with_reducible apply State.post_still | with_reducible apply State.bump_still | with_reducible apply_assumption | split | dsimp -zeta only)

theorem State.thresholdCore_still {s0 : State} (t : Nat) (s : State) (hK : Still s0 s) :
    Still s0 (State.thresholdCore t s) := by
  unfold State.thresholdCore
  repeat' (first | with_reducible assumption | intro _ | with_reducible apply each_still | with_reducible apply State.withdraw_still | with_reducible apply State.bump_still | split)

theorem State.timeoutCore_still {s0 : State} (t tag : Nat) (s : State) (hK : Still s0 s) :
    Still s0 (State.timeoutCore t tag s) := by
  unfold State.timeoutCore
  repeat' (first | with_reducible assumption | intro _ | (extract_lets +onlyGivenNames x; first | ((first | refine (fun hx => ?_ : Still s0 x → Still s0 _) ?_); (on_goal 1 => clear_value x); (on_goal 2 => subst x)) | (refine (fun hx => ?_ : Still s0 x → Still s0 _) ?_; (on_goal 2 => subst x)) | clear_value x | skip) | with_reducible apply State.revoke_still | with_reducible apply State.setTgt_still | with_reducible apply State.bump_still | split | (with_reducible refine Still.of ?_ rfl rfl rfl rfl rfl rfl rfl rfl rfl rfl rfl rfl rfl rfl rfl rfl rfl rfl rfl rfl rfl rfl rfl rfl rfl rfl rfl rfl rfl rfl rfl rfl rfl rfl rfl rfl rfl rfl; first | with_reducible assumption | with_reducible apply State.revoke_still | with_reducible apply State.setTgt_still | with_reducible apply State.bump_still | split))

theorem State.quarRevoke_still {s0 : State} (t : Nat) (s : State) (hK : Still s0 s) :
    Still s0 (State.quarRevoke t s) := by
  unfold State.quarRevoke
  repeat' (first | with_reducible assumption | intro _ | with_reducible apply each_still | with_reducible apply State.revoke_still | split)

theorem State.resetRevoke_still {s0 : State} (e : Nat) (s : State) (hK : Still s0 s) :
    Still s0 (State.resetRevoke e s) := by
  unfold State.resetRevoke
  repeat' (first | with_reducible assumption | intro _ | with_reducible apply each_still | with_reducible apply State.revoke_still | split)

theorem State.syncCore_still {s0 : State} (e lo hi : Nat) (late : Bool) (s : State) (hK : Still s0 s) :
    Still s0 (State.syncCore e lo hi late s) := by
  unfold State.syncCore
  repeat' (first | with_reducible assumption | intro _ | (extract_lets +onlyGivenNames x; first | ((first | refine (fun hx => ?_ : Still s0 x → Still s0 _) ?_); (on_goal 1 => clear_value x); (on_goal 2 => subst x)) | (refine (fun hx => ?_ : Still s0 x → Still s0 _) ?_; (on_goal 2 => subst x)) | clear_value x | skip) | with_reducible apply each_still | with_reducible apply Still.ite | with_reducible apply State.issue_still | with_reducible apply State.setEsc_still | with_reducible apply State.setSrc_still | with_reducible apply State.bump_still | split | (with_reducible refine Still.of ?_ rfl rfl rfl rfl rfl rfl rfl rfl rfl rfl rfl rfl rfl rfl rfl rfl rfl rfl rfl rfl rfl rfl rfl rfl rfl rfl rfl rfl rfl rfl rfl rfl rfl rfl rfl rfl rfl rfl; first | with_reducible assumption | with_reducible apply each_still | with_reducible apply Still.ite | with_reducible apply State.issue_still | with_reducible apply State.setEsc_still | with_reducible apply State.setSrc_still | with_reducible apply State.bump_still | split))

theorem State.mismatch_still {s0 : State} (e : Nat) (i : Instr) (s : State) (hK : Still s0 s) :
    Still s0 (State.mismatch e i s) := by
  unfold State.mismatch
  repeat' (first | with_reducible assumption | intro _ | (extract_lets +onlyGivenNames x; first | ((first | refine (fun hx => ?_ : Still s0 x → Still s0 _) ?_); (on_goal 1 => clear_value x); (on_goal 2 => subst x)) | (refine (fun hx => ?_ : Still s0 x → Still s0 _) ?_; (on_goal 2 => subst x)) | clear_value x | skip) | with_reducible apply State.dial_still | with_reducible apply State.setEsc_still | with_reducible apply State.bump_still | split | (with_reducible refine Still.of ?_ rfl rfl rfl rfl rfl rfl rfl rfl rfl rfl rfl rfl rfl rfl rfl rfl rfl rfl rfl rfl rfl rfl rfl rfl rfl rfl rfl rfl rfl rfl rfl rfl rfl rfl rfl rfl rfl rfl; first | with_reducible assumption | with_reducible apply State.dial_still | with_reducible apply State.setEsc_still | with_reducible apply State.bump_still | split))

theorem State.revokeForward_still {s0 : State} (d : Delivery) (s : State) (hK : Still s0 s) :
    Still s0 (State.revokeForward d s) := by
  unfold State.revokeForward
  repeat' (first | with_reducible assumption | intro _ | (extract_lets +onlyGivenNames x; first | ((first | refine (fun hx => ?_ : Still s0 x → Still s0 _) ?_); (on_goal 1 => clear_value x); (on_goal 2 => subst x)) | (refine (fun hx => ?_ : Still s0 x → Still s0 _) ?_; (on_goal 2 => subst x)) | clear_value x | skip) | with_reducible apply State.dropDlv_still | with_reducible apply State.backToPending_still | with_reducible apply State.note_still | with_reducible apply State.revokeBuf_still | with_reducible apply State.setSrc_still | split | (with_reducible refine Still.of ?_ rfl rfl rfl rfl rfl rfl rfl rfl rfl rfl rfl rfl rfl rfl rfl rfl rfl rfl rfl rfl rfl rfl rfl rfl rfl rfl rfl rfl rfl rfl rfl rfl rfl rfl rfl rfl rfl rfl; first | with_reducible assumption | with_reducible apply State.dropDlv_still | with_reducible apply State.backToPending_still | with_reducible apply State.note_still | with_reducible apply State.revokeBuf_still | with_reducible apply State.setSrc_still | split))

theorem State.drainWithdraw_still {s0 : State} (e : Nat) (s : State) (hK : Still s0 s) :
    Still s0 (State.drainWithdraw e s) := by
  unfold State.drainWithdraw
  repeat' (first | with_reducible assumption | intro _ | with_reducible apply each_still | with_reducible apply State.withdraw_still | with_reducible apply State.bump_still | split)

theorem State.claimDecision_still {s0 : State} (fn t : Nat) (wide mm : Bool) (i : Instr) (s : State) (hK : Still s0 s) :
    Still s0 (State.claimDecision fn t wide mm i s) := by
  unfold State.claimDecision
  repeat' (first | with_reducible assumption | intro _ | (extract_lets +onlyGivenNames x; first | ((first | refine (fun hx => ?_ : Still s0 x → Still s0 _) ?_); (on_goal 1 => clear_value x); (on_goal 2 => subst x)) | (refine (fun hx => ?_ : Still s0 x → Still s0 _) ?_; (on_goal 2 => subst x)) | clear_value x | skip) | with_reducible apply Still.ite | with_reducible apply State.mismatch_still | with_reducible apply State.claimCore_still | with_reducible apply State.setEsc_still | split | (with_reducible refine Still.of ?_ rfl rfl rfl rfl rfl rfl rfl rfl rfl rfl rfl rfl rfl rfl rfl rfl rfl rfl rfl rfl rfl rfl rfl rfl rfl rfl rfl rfl rfl rfl rfl rfl rfl rfl rfl rfl rfl rfl; first | with_reducible assumption | with_reducible apply Still.ite | with_reducible apply State.mismatch_still | with_reducible apply State.claimCore_still | with_reducible apply State.setEsc_still | split))

theorem State.decide_still {s0 : State} (i : Instr) (s : State) (hK : Still s0 s) :
    Still s0 (State.decide i s) := by
  unfold State.decide
  repeat' (first | with_reducible assumption | intro _ | with_reducible apply each_still | with_reducible apply State.claimDecision_still | with_reducible apply State.drainWithdraw_still | with_reducible apply State.revokeForward_still | with_reducible apply State.syncCore_still | with_reducible apply State.resetRevoke_still | with_reducible apply State.quarRevoke_still | with_reducible apply State.timeoutCore_still | with_reducible apply State.thresholdCore_still | with_reducible apply State.completeCore_still | with_reducible apply State.issueTo_still | split)

theorem State.letGo_still {s0 : State} (s : State) (hK : Still s0 s) :
    Still s0 (State.letGo s) := by
  unfold State.letGo
  repeat' (first | with_reducible assumption | intro _ | with_reducible apply each_still | with_reducible apply Still.ite | with_reducible apply State.decide_still | split | (with_reducible refine Still.of ?_ rfl rfl rfl rfl rfl rfl rfl rfl rfl rfl rfl rfl rfl rfl rfl rfl rfl rfl rfl rfl rfl rfl rfl rfl rfl rfl rfl rfl rfl rfl rfl rfl rfl rfl rfl rfl rfl rfl; first | with_reducible assumption | with_reducible apply each_still | with_reducible apply Still.ite | with_reducible apply State.decide_still | split))

theorem State.setFilt_still {s0 : State} (n : Nat) (x : Filt) (s : State) (hK : Still s0 s) :
    Still s0 (State.setFilt n x s) := by
  unfold State.setFilt
  repeat' (first | with_reducible assumption | intro _ | split | (with_reducible refine Still.of ?_ rfl rfl rfl rfl rfl rfl rfl rfl rfl rfl rfl rfl rfl rfl rfl rfl rfl rfl rfl rfl rfl rfl rfl rfl rfl rfl rfl rfl rfl rfl rfl rfl rfl rfl rfl rfl rfl rfl; first | with_reducible assumption | split))

theorem State.filtTurn_still {s0 : State} (n : Nat) (s : State) (hK : Still s0 s) :
    Still s0 (State.filtTurn n s) := by
  unfold State.filtTurn
  repeat' (first | with_reducible assumption | intro _ | (extract_lets +onlyGivenNames x; first | ((first | refine (fun hx => ?_ : Still s0 x → Still s0 _) ?_); (on_goal 1 => clear_value x); (on_goal 2 => subst x)) | (refine (fun hx => ?_ : Still s0 x → Still s0 _) ?_; (on_goal 2 => subst x)) | clear_value x | skip) | with_reducible apply Still.ite | with_reducible apply State.setFilt_still | with_reducible apply State.sample_still | split | (with_reducible refine Still.of ?_ rfl rfl rfl rfl rfl rfl rfl rfl rfl rfl rfl rfl rfl rfl rfl rfl rfl rfl rfl rfl rfl rfl rfl rfl rfl rfl rfl rfl rfl rfl rfl rfl rfl rfl rfl rfl rfl rfl; first | with_reducible assumption | with_reducible apply Still.ite | with_reducible apply State.setFilt_still | with_reducible apply State.sample_still | split))

theorem State.filtTurns_still {s0 : State} (s : State) (hK : Still s0 s) :
    Still s0 (State.filtTurns s) := by
  unfold State.filtTurns
  repeat' (first | with_reducible assumption | intro _ | with_reducible apply each_still | with_reducible apply State.filtTurn_still | split)

theorem State.hwRow_still {s0 : State} (s : State) (hK : Still s0 s) :
    Still s0 (State.hwRow s) := by
  unfold State.hwRow
  repeat' (first | with_reducible assumption | intro _ | (extract_lets +onlyGivenNames x; first | ((first | refine (fun hx => ?_ : Still s0 x → Still s0 _) ?_); (on_goal 1 => clear_value x); (on_goal 2 => subst x)) | (refine (fun hx => ?_ : Still s0 x → Still s0 _) ?_; (on_goal 2 => subst x)) | clear_value x | skip) | with_reducible apply each_still | with_reducible apply State.arrive_still | split | (with_reducible refine Still.of ?_ rfl rfl rfl rfl rfl rfl rfl rfl rfl rfl rfl rfl rfl rfl rfl rfl rfl rfl rfl rfl rfl rfl rfl rfl rfl rfl rfl rfl rfl rfl rfl rfl rfl rfl rfl rfl rfl rfl; first | with_reducible assumption | with_reducible apply each_still | with_reducible apply State.arrive_still | split))

theorem State.row8_still {s0 : State} (s : State) (hK : Still s0 s) :
    Still s0 (State.row8 s) := by
  unfold State.row8
  repeat' (first | with_reducible assumption | intro _ | with_reducible apply State.hwRow_still | with_reducible apply State.letGo_still | with_reducible apply State.evalLevels_still | split)

theorem State.pairGo_still {s0 : State} (collide : Bool) (s : State) (hK : Still s0 s) :
    Still s0 (State.pairGo collide s) := by
  unfold State.pairGo
  repeat' (first | with_reducible assumption | intro _ | (extract_lets +onlyGivenNames x; first | ((first | refine (fun hx => ?_ : Still s0 x → Still s0 _) ?_); (on_goal 1 => clear_value x); (on_goal 2 => subst x)) | (refine (fun hx => ?_ : Still s0 x → Still s0 _) ?_; (on_goal 2 => subst x)) | clear_value x | skip) | with_reducible apply Still.ite | with_reducible apply State.emit_still | with_reducible apply State.draw_still | (with_reducible apply State.draw_still'; on_goal 1 => with_reducible assumption) | with_reducible apply State.bump_still | split | (with_reducible refine Still.of ?_ rfl rfl rfl rfl rfl rfl rfl rfl rfl rfl rfl rfl rfl rfl rfl rfl rfl rfl rfl rfl rfl rfl rfl rfl rfl rfl rfl rfl rfl rfl rfl rfl rfl rfl rfl rfl rfl rfl; first | with_reducible assumption | with_reducible apply Still.ite | with_reducible apply State.emit_still | with_reducible apply State.draw_still | (with_reducible apply State.draw_still'; on_goal 1 => with_reducible assumption) | with_reducible apply State.bump_still | split))

theorem State.pairPut_still {s0 : State} (kind : Nat) (arg : Dw) (collide : Bool) (s : State) (hK : Still s0 s) :
    Still s0 (State.pairPut kind arg collide s) := by
  unfold State.pairPut
  repeat' (first | with_reducible assumption | intro _ | with_reducible apply Still.ite | with_reducible apply State.pairGo_still | split | (with_reducible refine Still.of ?_ rfl rfl rfl rfl rfl rfl rfl rfl rfl rfl rfl rfl rfl rfl rfl rfl rfl rfl rfl rfl rfl rfl rfl rfl rfl rfl rfl rfl rfl rfl rfl rfl rfl rfl rfl rfl rfl rfl; first | with_reducible assumption | with_reducible apply Still.ite | with_reducible apply State.pairGo_still | split))

theorem State.endBeat_still {s0 : State} (s : State) (hK : Still s0 s) :
    Still s0 (State.endBeat s) := by
  unfold State.endBeat
  repeat' (first | with_reducible assumption | intro _ | (extract_lets +onlyGivenNames x; first | ((first | refine (fun hx => ?_ : Still s0 x → Still s0 _) ?_); (on_goal 1 => clear_value x); (on_goal 2 => subst x)) | (refine (fun hx => ?_ : Still s0 x → Still s0 _) ?_; (on_goal 2 => subst x)) | clear_value x | skip) | with_reducible apply each_still | with_reducible apply State.pairGo_still | with_reducible apply State.row8_still | with_reducible apply State.pump_still | with_reducible apply State.flushMirror_still | with_reducible apply State.dialTurn_still | split | (with_reducible refine Still.of ?_ rfl rfl rfl rfl rfl rfl rfl rfl rfl rfl rfl rfl rfl rfl rfl rfl rfl rfl rfl rfl rfl rfl rfl rfl rfl rfl rfl rfl rfl rfl rfl rfl rfl rfl rfl rfl rfl rfl; first | with_reducible assumption | with_reducible apply each_still | with_reducible apply State.pairGo_still | with_reducible apply State.row8_still | with_reducible apply State.pump_still | with_reducible apply State.flushMirror_still | with_reducible apply State.dialTurn_still | split))

theorem State.beginBeat_still {s0 : State} (s : State) (hK : Still s0 s) :
    Still s0 (State.beginBeat s) := by
  unfold State.beginBeat
  repeat' (first | with_reducible assumption | intro _ | (extract_lets +onlyGivenNames x; first | ((first | refine (fun hx => ?_ : Still s0 x → Still s0 _) ?_); (on_goal 1 => clear_value x); (on_goal 2 => subst x)) | (refine (fun hx => ?_ : Still s0 x → Still s0 _) ?_; (on_goal 2 => subst x)) | clear_value x | skip) | with_reducible apply State.filtTurns_still | split | (with_reducible refine Still.of ?_ rfl rfl rfl rfl rfl rfl rfl rfl rfl rfl rfl rfl rfl rfl rfl rfl rfl rfl rfl rfl rfl rfl rfl rfl rfl rfl rfl rfl rfl rfl rfl rfl rfl rfl rfl rfl rfl rfl; first | with_reducible assumption | with_reducible apply State.filtTurns_still | split))

theorem State.tickTo_still {s0 : State} (b : Nat) (s : State) (h : Still s0 s) : Still s0 (s.tickTo b) := by
  have hw (e : Nat × Nat) (z : State) (hz : Still s0 z) : Still s0 { z with obj := smSet dfltKey z.obj e.1 e.2 } :=
    Still.of hz rfl rfl rfl rfl rfl rfl rfl rfl rfl rfl rfl rfl rfl rfl rfl rfl rfl rfl rfl rfl rfl rfl rfl rfl rfl rfl rfl rfl rfl rfl rfl rfl rfl rfl rfl rfl rfl rfl
  unfold State.tickTo
  split
  · exact h
  · have hp : Still s0 s.endBeat := State.endBeat_still _ h
    generalize s.endBeat = z at hp ⊢
    refine State.beginBeat_still _ (each_still _ _ _ hw ?_)
    generalize z.time.pass _ _ _ = y
    exact Still.of hp rfl rfl rfl rfl rfl rfl rfl rfl rfl rfl rfl rfl rfl rfl rfl rfl rfl rfl rfl rfl rfl rfl rfl rfl rfl rfl rfl rfl rfl rfl rfl rfl rfl rfl rfl rfl rfl rfl

theorem settle_still {s0 : State} (f b : Nat) (s : State) (h : Still s0 s) : Still s0 (settle f b s) := by
  induction f generalizing s with
  | zero => exact h
  | succ f ih => unfold settle; split; exact h; exact ih _ (State.tickTo_still _ _ h)

theorem passTo_still {s0 : State} (f b : Nat) (s : State) (h : Still s0 s) : Still s0 (passTo f b s) := by
  induction f generalizing s with
  | zero => exact State.tickTo_still _ _ h
  | succ f ih =>
    have h1 := settle_still 4 b s h
    unfold passTo; dsimp only; split; exact h1; exact ih _ (State.tickTo_still _ _ h1)

theorem State.toBeat_still {s0 : State} (b : Nat) (s : State) (hK : Still s0 s) :
    Still s0 (State.toBeat b s) := by
  unfold State.toBeat
  repeat' (first | with_reducible assumption | intro _ | with_reducible apply passTo_still | split)

theorem State.syncLive_still {s0 : State} (s : State) (hK : Still s0 s) :
    Still s0 (State.syncLive s) := by
  unfold State.syncLive
  repeat' (first | with_reducible assumption | intro _ | with_reducible apply Still.ite | with_reducible apply State.bk_still | split | (with_reducible refine Still.of ?_ rfl rfl rfl rfl rfl rfl rfl rfl rfl rfl rfl rfl rfl rfl rfl rfl rfl rfl rfl rfl rfl rfl rfl rfl rfl rfl rfl rfl rfl rfl rfl rfl rfl rfl rfl rfl rfl rfl; first | with_reducible assumption | with_reducible apply Still.ite | with_reducible apply State.bk_still | split))

theorem State.fwdWake_still {s0 : State} (s : State) (hK : Still s0 s) :
    Still s0 (State.fwdWake s) := by
  unfold State.fwdWake
  repeat' (first | with_reducible assumption | intro _ | with_reducible apply Still.ite | with_reducible apply State.pairPut_still | split | (with_reducible refine Still.of ?_ rfl rfl rfl rfl rfl rfl rfl rfl rfl rfl rfl rfl rfl rfl rfl rfl rfl rfl rfl rfl rfl rfl rfl rfl rfl rfl rfl rfl rfl rfl rfl rfl rfl rfl rfl rfl rfl rfl; first | with_reducible assumption | with_reducible apply Still.ite | with_reducible apply State.pairPut_still | split))

theorem State.upTo_still {s0 : State} (b : Nat) (s : State) (hK : Still s0 s) :
    Still s0 (State.upTo b s) := by
  unfold State.upTo
  repeat' (first | with_reducible assumption | intro _ | with_reducible apply State.fwdWake_still | with_reducible apply State.syncLive_still | with_reducible apply State.toBeat_still | with_reducible apply State.hwRow_still | split)

end Sys2Proof.Machine
end

