-- ==== Sys2Proof/Laws/Commands.lean ====
section
/-! SUPPORT. What the shared forms of a meaning do: a command whose operands are in range runs; a dictionary row that the
dictionary takes; a memory request that its function takes; an engine instruction that executes. -/

namespace Sys2Proof.Machine

open Sys2Proof

theorem run_ok {ok : Bool} {t : State} (h : ok = true) : run ok t = .next t := if_pos h

/-- Everything a shared form can answer. -/
theorem run_cases (ok : Bool) (t : State) : run ok t = .next t ∧ ok = true ∨ run ok t = .fault .illFormed ∧ ok = false := by
  cases ok
  · exact Or.inr ⟨rfl, rfl⟩
  · exact Or.inl ⟨rfl, rfl⟩

/-- A dictionary row that the dictionary takes: the object's own effect and its status. -/
theorem State.dictRow_takes {u : State} {pr idx el v e : Nat} (mm : Bool) (h : u.takes pr idx el v e) :
    u.dictRow pr idx el (typeSize (typeOf idx)) v mm =
      (if idx < 0x2000 then u.actLow idx e v mm else u.actHigh pr idx e v mm).2.answer
        (if idx < 0x2000 then u.actLow idx e v mm else u.actHigh pr idx e v mm).1 := by
  obtain ⟨h1, h2, h3, h4, o, h5, h6, h7⟩ := h
  have h7 : (o.acc == Acc.rwd) = false := by simpa using h7
  simp only [State.dictRow, h1, h2, State.access, h5, DOp.reads, State.writeAns, h6, h4, h3, h7]
  rfl

/-- A function that serves its BAR0 has its link able to run (R296). -/
theorem State.serves_linkCan {u : State} {fn : Nat} (h : u.serves fn = true) : u.linkCan = true := by
  unfold State.serves State.cfgServed at h
  unfold State.linkCan
  simp only [Bool.and_eq_true, Bool.or_eq_true, decide_eq_true_eq] at h ⊢
  obtain ⟨⟨⟨h1, h2⟩, -⟩, -⟩ := h
  exact ⟨h1.imp (fun h => by omega) id, h2⟩

/-- The link in L0 changes nothing of the start. -/
theorem State.linkUp_same (u : State) : u.linkUp.start = u.start ∧ u.linkUp.perst = u.perst := by
  unfold State.linkUp
  have h (l : List Out) (z : State) : (each State.emit l z).start = z.start ∧ (each State.emit l z).perst = z.perst := by
    induction l generalizing z with
    | nil => exact ⟨rfl, rfl⟩
    | cons o t ih => exact ih _
  split
  · exact h _ _
  · exact ⟨rfl, rfl⟩

theorem State.ringSource_still {s0 : State} (n : Nat) (tag : BitVec 16) (len : Nat) (keep : Bool) (bytes : List Byte) (s : State)
    (h : Still s0 s) : Still s0 (s.ringSource n tag len keep bytes) := by
  unfold State.ringSource
  exact State.arrive_still _ _ _ _ _ _ (State.setO_still _ _ _ _ h)

/-- An arriving doorbell changes nothing of the start. -/
theorem State.doorbellArrive_same (u : State) : u.doorbellArrive.start = u.start ∧ u.doorbellArrive.perst = u.perst := by
  unfold State.doorbellArrive
  split
  · exact ⟨rfl, rfl⟩
  · rename_i d rest h
    split
    · exact ⟨rfl, rfl⟩
    · have := State.ringSource_still d.src d.tag d.len d.keepFirst d.bytes { u with doorbells := rest } (Still.refl _)
      exact ⟨this.start, this.perst⟩

theorem State.doorbellsLand_same (u : State) : u.doorbellsLand.start = u.start ∧ u.doorbellsLand.perst = u.perst := by
  have h (n : Nat) (z : State) : (times State.doorbellArrive n z).start = z.start ∧ (times State.doorbellArrive n z).perst = z.perst := by
    induction n generalizing z with
    | zero => exact ⟨rfl, rfl⟩
    | succ n ih =>
      have a := ih z.doorbellArrive
      have b := State.doorbellArrive_same z
      exact ⟨a.1.trans b.1, a.2.trans b.2⟩
  exact h _ _

theorem State.linkCan_of {u v : State} (h : v.start = u.start ∧ v.perst = u.perst) (hv : v.linkCan = true) : u.linkCan = true := by
  unfold State.linkCan at hv ⊢; rw [← h.1, ← h.2]; exact hv

theorem State.memServe_takes {u : State} {fn : Nat} (rd : Bool) (i : Instr) (f : State → State) (h : u.takesMem fn) :
    u.memServe fn rd i f = f u := by
  simp [State.memServe, h.1, h.2]

/-- A memory request that its function takes is served; it meets the doorbells before it. -/
theorem State.memReq_takes {u : State} {fn : Nat} (rd : Bool) (i : Instr) (f : State → State) (hi : ringsOnly i = false)
    (h : u.linkUp.doorbellsLand.takesMem fn) : u.memReq fn rd i f = f u.linkUp.doorbellsLand := by
  have hc : u.linkCan = true :=
    State.linkCan_of (State.linkUp_same u) (State.linkCan_of (State.doorbellsLand_same _) (State.serves_linkCan h.1))
  unfold State.memReq
  rw [if_pos hc]
  dsimp only
  rw [hi, if_neg (by decide)]
  exact State.memServe_takes rd i f h

/-- A doorbell write that its function takes is served. -/
theorem State.memReq_rings {u : State} {fn : Nat} (rd : Bool) (i : Instr) (f : State → State) (hi : ringsOnly i = true)
    (h : u.linkUp.takesMem fn) : u.memReq fn rd i f = f u.linkUp := by
  have hc : u.linkCan = true := State.linkCan_of (State.linkUp_same u) (State.serves_linkCan h.1)
  unfold State.memReq
  rw [if_pos hc]
  dsimp only
  rw [hi, if_pos rfl]
  exact State.memServe_takes rd i f h

/-- An instruction that executes. -/
theorem State.engDo_executes {u : State} {n op : Nat} {w : Dw} (b : Nat) (f : Engine → Dw → State → State) {s : State}
    (hu : u = s.upTo (max b (s.engAt n).doneAt)) (h : u.executes n op w) :
    s.engDo n b op f = f (u.engAt n) w (u.setEng n { u.engAt n with
      atFrame := false, doneAt := max b (s.engAt n).doneAt }) := by
  obtain ⟨h1, h2, h3, h4, h5, h6⟩ := h
  subst hu
  simp [State.engDo, h1, h2, h3, h4, h5, h6]

end Sys2Proof.Machine
end

