-- ==== Sys2Proof/Laws/Control.lean ====
section
/-! SUPPORT. What the shared control operations do: the backup domain, the firmware run, the steps of a start, requests for resets, faults, wakes, and what leaves the device. -/

set_option linter.all false

namespace Sys2Proof.Machine

open Sys2Proof

/-- The backup domain alone changes, and only while it is present. -/
theorem State.bk_eq (f : Backup → Backup) (u : State) : u.bk f = { u with backup := if u.backup.present then f u.backup else u.backup } := by
  unfold State.bk; split <;> rfl

theorem State.bk_present (g : Backup → Backup) (z : State) (h : z.backup.present = true) : z.bk g = { z with backup := g z.backup } := if_pos h

/-- Whatever does not look at the firmware run and the Dial blocks is kept by a change of REG_STATE. -/
theorem State.regGo_keeps_fn {α : Type} (f : State → α) (k : Nat) (z : State) (h1 : ∀ (z : State) w x, f { z with fw := w, time := { z.time with toUpdate := x } } = f z) (h2 : ∀ (z : State) x p, f { z with func := x, port := p } = f z) : f (z.regGo k) = f z := by
  unfold State.regGo
  dsimp only
  by_cases hk : (k == 1) = true
  · rw [if_pos hk]; exact h1 z _ _
  · rw [if_neg hk]
    have a := h1 z { z.fw with
      regState := k, lastBeatOfHeart := z.now
      runningFrom := if k == 1 then (if z.fw.regState == 1 then z.fw.runningFrom else some z.now) else none } (z.time.toUpdate && k == 1)
    exact (h2 _ (smMap (fun _ => Func.init) (fun _ f => f.regLeft) z.func) { z.port with job := z.port.job.map NrJob.regLeft }).trans a

/-- A view of the state that the end of a start step leaves alone. -/
structure StepInvariant {α : Type} (f : State → α) : Prop where
  bk : ∀ j (z : State), f (z.bk (fun x => { x with lastStep := j })) = f z
  st : ∀ (z : State) j, f { z with start := { z.start with step := j } } = f z
  fw : ∀ (z : State) w x, f { z with fw := w, time := { z.time with toUpdate := x } } = f z
  fn : ∀ (z : State) x p, f { z with func := x, port := p } = f z

theorem StepInvariant.stepDone {α : Type} {f : State → α} (i : StepInvariant f) (k : Nat) (z : State) : f (z.stepDone k) = f z := by
  unfold State.stepDone
  dsimp only
  have e : f (({ z with start := { z.start with step := k } } : State).bk (fun x => { x with lastStep := k })) = f z := (i.bk _ _).trans (i.st _ _)
  have r (j : Nat) (y : State) : f (y.regGo j) = f y := State.regGo_keeps_fn f j y i.fw i.fn
  by_cases h1 : (decide (k < 9) && (({ z with start := { z.start with step := k } } : State).bk (fun x => { x with lastStep := k })).nextStep == 9) = true
  · rw [if_pos h1]
    by_cases h2 : (({ z with start := { z.start with step := k } } : State).bk (fun x => { x with lastStep := k })).bare = true
    · rw [if_pos h2]; exact (i.bk _ _).trans ((i.st _ _).trans ((r _ _).trans e))
    · rw [if_neg h2]
      have := i.fw ((({ z with start := { z.start with step := k } } : State).bk (fun x => { x with lastStep := k })).regGo 0)
        { ((({ z with start := { z.start with step := k } } : State).bk (fun x => { x with lastStep := k })).regGo 0).fw with bootFrom := ((({ z with start := { z.start with step := k } } : State).bk (fun x => { x with lastStep := k })).regGo 0).now }
        ((({ z with start := { z.start with step := k } } : State).bk (fun x => { x with lastStep := k })).regGo 0).time.toUpdate
      exact this.trans ((r _ _).trans e)
  · rw [if_neg h1]; exact e

theorem State.raiseLate_eq (n : Nat) (s : State) : ∃ l, s.raiseLate n = { s with late := l } := by
  unfold State.raiseLate; split
  · exact ⟨_, rfl⟩
  · exact ⟨_, rfl⟩

/-- A fault, first part: FAULT_SEQ, the slots, its class count and its record. -/
def faultRecords (b : FaultBeat) (seq cls : Nat) (body : List Byte) (q : List ChrRec) (s : State) : State :=
  let y := (((s.faultSlots b).setO 0x1602 0 seq).bump 0x1603 (cls - 1) 1).chrPut 2 none body
  { y with chr := { y.chr with queue := q } }

/-- A fault, last part: its Dial events and S15. -/
def faultEvents (code cls : Nat) (s : State) : State :=
  let s := s.dial (7 + cls) 0
  let s := if code = 0x15 ∨ code = 0x16 then s.dial 12 0 else s
  let s := if code = 0x21 ∨ code = 0x22 then s.dial 16 0 else s
  if cls = 4 then s.raiseLate 15 else s

theorem State.fault_split (code info : Nat) (s : State) :
    ∃ b seq body q, s.fault code info = faultEvents code (faultClass code) (faultRecords b seq (faultClass code) body q s) := ⟨_, _, _, _, rfl⟩

theorem ite_keeps_fn {α : Type} (f : State → α) {c : Prop} [Decidable c] {x y : State} {v : α} (h1 : f x = v) (h2 : f y = v) : f (if c then x else y) = v := by split <;> assumption

/-- A view of the state that a fault leaves alone. -/
structure FaultInvariant {α : Type} (f : State → α) : Prop where
  so : ∀ (z : State) v, f (z.setO 0x1602 0 v) = f z
  bu : ∀ (z : State) k, f (z.bump 0x1603 k 1) = f z
  fst : ∀ (z : State) b x y w, f { z with faultB := b, first := x, multi := y, worst := w } = f z
  qu : ∀ (z : State) q, f { z with chr := { z.chr with queue := q } } = f z
  put : ∀ k a b (z : State), f (z.chrPut k a b) = f z
  dl : ∀ k (z : State), f (z.dial k 0) = f z
  lt : ∀ (z : State) x, f { z with late := x } = f z

theorem FaultInvariant.fault {α : Type} {f : State → α} (i : FaultInvariant f) (code info : Nat) (s : State) : f (s.fault code info) = f s := by
  obtain ⟨b, seq, body, q, h⟩ := State.fault_split code info s
  rw [h]
  have hB : f (faultRecords b seq (faultClass code) body q s) = f s := by
    unfold faultRecords
    refine (i.qu _ _).trans ((i.put _ _ _ _).trans ((i.bu _ _).trans ((i.so _ _).trans ?_)))
    exact i.fst _ _ _ _ _
  unfold faultEvents
  have hd : ∀ (z : State) (c : Prop) [Decidable c] k, f z = f s → f (if c then z.dial k 0 else z) = f s := by
    intro z c _ k hz; split
    · rw [i.dl]; exact hz
    · exact hz
  have hl : ∀ (z : State) (c : Prop) [Decidable c] k, f z = f s → f (if c then z.raiseLate k else z) = f s := by
    intro z c _ k hz; split
    · obtain ⟨l, e⟩ := State.raiseLate_eq k z; rw [e, i.lt]; exact hz
    · exact hz
  exact hl _ _ _ (hd _ _ _ (hd _ _ _ ((i.dl _ _).trans hB)))

/-- A record changes the queue and what is dropped, nothing else of the ring. -/
theorem State.chrPut_chr_same (k : Nat) (a : Option Nat) (b : List Byte) (z : State) : (z.chrPut k a b).chr.trained = z.chr.trained ∧ (z.chrPut k a b).chr.dramMib = z.chr.dramMib ∧ (z.chrPut k a b).chr.nextSeq = z.chr.nextSeq := by
  have h1 : ∀ y : State, (y.chrLost).chr.trained = y.chr.trained ∧ (y.chrLost).chr.dramMib = y.chr.dramMib ∧ (y.chrLost).chr.nextSeq = y.chr.nextSeq := by
    intro y; unfold State.chrLost; split <;> exact ⟨rfl, rfl, rfl⟩
  have h2 : ∀ (r : ChrRec) (y : State), (y.chrAppend r).chr.trained = y.chr.trained ∧ (y.chrAppend r).chr.dramMib = y.chr.dramMib ∧ (y.chrAppend r).chr.nextSeq = y.chr.nextSeq := by
    intro r y; unfold State.chrAppend; split
    · exact ⟨rfl, rfl, rfl⟩
    · rw [State.dial_chr]; exact ⟨rfl, rfl, rfl⟩
  unfold State.chrPut; dsimp only; split
  · rw [State.dial_chr]; exact ⟨rfl, rfl, rfl⟩
  · obtain ⟨a1, a2, a3⟩ := h2 ⟨z.chrLost.cnt, k, (match a with | none => 0x20 | some n => n) + b2n z.coarse * 64, b⟩ z.chrLost
    exact ⟨(h2 _ _).1.trans (h1 z).1, (h2 _ _).2.1.trans (h1 z).2.1, (h2 _ _).2.2.trans (h1 z).2.2⟩

/-- A reset requested of a started device with none pending. -/
theorem State.requestReset_free {z : State} (l : Level) (c d : Nat) (h : z.started = true) (h2 : z.resetReq = none) :
    z.requestReset l c d = { z with resetReq := some ⟨l, c, false, z.now + d, false⟩ } := by
  unfold State.requestReset State.askReset; rw [h2]; exact if_pos h

/-- A request for a level reset changes nothing but the request that waits. -/
theorem State.askReset_eq (l : Level) (c d : Nat) (k : Bool) (z : State) : ∃ r, z.askReset l c d k = { z with resetReq := r } := by
  unfold State.askReset
  dsimp only
  split
  · split <;> exact ⟨_, rfl⟩
  · split
    · exact ⟨_, rfl⟩
    · split <;> exact ⟨_, rfl⟩

theorem State.crownRequest_eq (z : State) : ∃ r, z.crownRequest = { z with resetReq := r } := by
  unfold State.crownRequest State.requestReset
  split
  · exact State.askReset_eq _ _ _ _ _
  · exact ⟨_, rfl⟩

theorem each_emit (l : List Out) (z : State) : each State.emit l z = { z with sent := l.reverse ++ z.sent } := by
  induction l generalizing z with
  | nil => rfl
  | cons o t ih => show each State.emit t (z.emit o) = _; rw [ih]; simp [State.emit]

/-- A wake of a device that is not quiet sends nothing. -/
theorem State.wake_not_quiet (w : State) (k n : Nat) (h : w.quiet.code ≠ 2) : (w.wake k n).port = w.port ∧ (w.wake k n).sent = w.sent := by
  unfold State.wake; dsimp only; rw [if_neg h]
  split
  · split <;> exact ⟨rfl, rfl⟩
  · split <;> exact ⟨rfl, rfl⟩

theorem State.post_pme_same (z : State) (c : Bool) : (if c = true then z.post .pme else z).obj = z.obj ∧ (if c = true then z.post .pme else z).quiet = z.quiet
        ∧ (if c = true then z.post .pme else z).wakeLow = z.wakeLow := by
  cases c <;> simp

theorem State.returnBuf_eq (i : Nat) (p : Bool) (s : State) : ∃ x y, s.returnBuf i p = { s with buf := x, poolBack := y } := by
  unfold State.returnBuf; dsimp only; split
  · exact ⟨_, _, rfl⟩
  · exact ⟨_, _, rfl⟩

theorem faultClass_le (code : Nat) : faultClass code ≤ 4 := by
  unfold faultClass; repeat' split
  all_goals omega

theorem mem_insertNat (n : Nat) (l : List Nat) (x : Nat) : x ∈ insertNat n l ↔ x = n ∨ x ∈ l := by
  induction l with
  | nil => simp [insertNat]
  | cons m t ih =>
    unfold insertNat
    split
    · simp
    · split
      · rename_i h; subst h; simp
      · simp [ih]; constructor
        · rintro (h | h | h) <;> simp [h]
        · rintro (h | h | h) <;> simp [h]

end Sys2Proof.Machine
end

