-- ==== Sys2Proof/Laws/DeliveryOps.lean ====
section
/-! SUPPORT. Which fields the shared delivery operations touch. -/

set_option linter.all false

namespace Sys2Proof.Machine

open Sys2Proof

theorem State.ownBuf_eq (b : Option Nat) (t : Nat) (s : State) : s.ownBuf b t = { s with buf := (s.ownBuf b t).buf } := by
  unfold State.ownBuf; split <;> rfl

theorem State.bufSt_eq (b : Option Nat) (x : BufState) (s : State) : s.bufSt b x = { s with buf := (s.bufSt b x).buf } := by
  unfold State.bufSt; split <;> rfl

theorem State.writeSpecial_eq (t k : Nat) (a : Arrival) (s : State) : s.writeSpecial t k a = { s with tgt := (s.writeSpecial t k a).tgt } := by
  unfold State.writeSpecial; split <;> rfl

theorem State.deliveryWrite_eq (d : Delivery) (t : Nat) (s : State) : s.deliveryWrite d t = { s with tgt := (s.deliveryWrite d t).tgt, sent := (s.deliveryWrite d t).sent, txWait := (s.deliveryWrite d t).txWait } := by
  unfold State.deliveryWrite
  dsimp only
  split
  · split <;> rw [State.post_eq, State.writeSpecial_eq]
  · rw [State.post_eq]

theorem State.claimRegs_eq (d : Delivery) (t : Nat) (s : State) : s.claimRegs d t = { s with tgt := (s.claimRegs d t).tgt } := by
  unfold State.claimRegs; rw [State.writeSpecial_eq]; rfl

theorem State.discardBuf_same (n : Nat) (b : Option Nat) (s : State) : (s.discardBuf n b).src = s.src ∧ (s.discardBuf n b).dlv = s.dlv := by
  unfold State.discardBuf State.returnBuf
  split
  · exact ⟨rfl, rfl⟩
  · dsimp only; split <;> exact ⟨rfl, rfl⟩

theorem State.asserted_edge (n : Nat) (z : State) (h : z.sense n < 3) : z.asserted n = false := by
  unfold State.asserted
  have h3 : (z.sense n == 3) = false := by simp; omega
  have h4 : (z.sense n == 4) = false := by simp; omega
  simp [h3, h4]

end Sys2Proof.Machine
end

