-- ==== Sys2Proof/Laws/Keeps.lean ====
section
/-! SUPPORT. `Keeps s t`: what every operation keeps (the queue of waiting commands, the passing of time, a sound state),
and the rules the files KeepsOps … KeepsHealth use, one lemma for each operation of the file they are named after. -/

set_option linter.all false

namespace Sys2Proof.Machine

open Sys2Proof

/-- From `s` to `t`: the queue is as it was, time has not run back, and a sound state stays sound. -/
structure Keeps (s t : State) : Prop where
  pending : t.pending = s.pending
  now : s.now ≤ t.now
  sound : s.sound → t.sound

theorem Keeps.refl (s : State) : Keeps s s := ⟨rfl, Nat.le_refl _, id⟩

theorem Keeps.trans {s t u : State} (h : Keeps s t) (k : Keeps t u) : Keeps s u :=
  ⟨k.pending.trans h.pending, h.now.trans k.now, fun hs => k.sound (h.sound hs)⟩

/-- A change of other fields. -/
theorem Keeps.of {s0 s : State} (h : Keeps s0 s)
    {f_pending : List Instr} {f_now : Nat} {f_nextSw : Nat} {f_status : Nat} {f_time : Time} {f_obj : SMap Nat} {f_drafts : SMap (Option Nat)} {f_marks : List Nat} {f_winds : List WindReq} {f_src : SMap Source} {f_filtered : SMap Filt} {f_bankA : Bool} {f_bankB : Bool} {f_sensing : Bool} {f_late : List (Nat × Beat)} {f_row2 : List (Nat × Beat)} {f_nextObj : List (Nat × Nat)} {f_dlv : List Delivery} {f_tgt : SMap Target} {f_esc : SMap Esc} {f_heldOps : List Instr} {f_buf : SMap Buf} {f_poolNext : Nat} {f_poolBack : List (Nat × Nat)} {f_doorbells : List Doorbell} {f_func : SMap Func} {f_vfEnable : Bool} {f_numVfs : Nat} {f_pfD3 : Bool} {f_pmeEn : Bool} {f_perst : Bool} {f_wakeLow : Bool} {f_linkL0 : Bool} {f_txWait : List Out} {f_eng : SMap Engine} {f_badParity : List Nat} {f_start : Start} {f_resetReq : Option ResetReq} {f_portDeferred : Bool} {f_wdogFrom : Option Nat} {f_blk : SMap (Option BlkPhase)} {f_backup : Backup} {f_crown : Crown} {f_straps : BitVec 5} {f_fuseA : BitVec 272} {f_fuseB : BitVec 272} {f_shadow : BitVec 256} {f_jtag : Jtag} {f_flash : List Host.Cell} {f_fw : Firmware} {f_supply : Supply} {f_gasp : Gasp} {f_quiet : Quiet} {f_tdm : Tandem} {f_port : Port} {f_first : Option FaultRec} {f_multi : Bool} {f_worst : Option FaultRec} {f_faultB : FaultBeat} {f_chr : Chrono} {f_dram : List Host.Cell} {f_chrWin : SMap ChrWin} {f_sent : List Out} {f_free : Nat}
    (e_pending : f_pending = s.pending) (e_now : f_now = s.now) (e_obj : f_obj = s.obj) (e_drafts : f_drafts = s.drafts) (e_flash : f_flash = s.flash) (e_dram : f_dram = s.dram) :
    Keeps s0 (State.mk f_pending f_now f_nextSw f_status f_time f_obj f_drafts f_marks f_winds f_src f_filtered f_bankA f_bankB f_sensing f_late f_row2 f_nextObj f_dlv f_tgt f_esc f_heldOps f_buf f_poolNext f_poolBack f_doorbells f_func f_vfEnable f_numVfs f_pfD3 f_pmeEn f_perst f_wakeLow f_linkL0 f_txWait f_eng f_badParity f_start f_resetReq f_portDeferred f_wdogFrom f_blk f_backup f_crown f_straps f_fuseA f_fuseB f_shadow f_jtag f_flash f_fw f_supply f_gasp f_quiet f_tdm f_port f_first f_multi f_worst f_faultB f_chr f_dram f_chrWin f_sent f_free) := by
  subst_vars
  exact ⟨h.pending, h.now, fun hs => h.sound hs⟩

/-- A change of other fields, and of tables in ways that keep their form. -/
theorem Keeps.ofF {s0 s : State} (h : Keeps s0 s)
    {f_pending : List Instr} {f_now : Nat} {f_nextSw : Nat} {f_status : Nat} {f_time : Time} {f_obj : SMap Nat} {f_drafts : SMap (Option Nat)} {f_marks : List Nat} {f_winds : List WindReq} {f_src : SMap Source} {f_filtered : SMap Filt} {f_bankA : Bool} {f_bankB : Bool} {f_sensing : Bool} {f_late : List (Nat × Beat)} {f_row2 : List (Nat × Beat)} {f_nextObj : List (Nat × Nat)} {f_dlv : List Delivery} {f_tgt : SMap Target} {f_esc : SMap Esc} {f_heldOps : List Instr} {f_buf : SMap Buf} {f_poolNext : Nat} {f_poolBack : List (Nat × Nat)} {f_doorbells : List Doorbell} {f_func : SMap Func} {f_vfEnable : Bool} {f_numVfs : Nat} {f_pfD3 : Bool} {f_pmeEn : Bool} {f_perst : Bool} {f_wakeLow : Bool} {f_linkL0 : Bool} {f_txWait : List Out} {f_eng : SMap Engine} {f_badParity : List Nat} {f_start : Start} {f_resetReq : Option ResetReq} {f_portDeferred : Bool} {f_wdogFrom : Option Nat} {f_blk : SMap (Option BlkPhase)} {f_backup : Backup} {f_crown : Crown} {f_straps : BitVec 5} {f_fuseA : BitVec 272} {f_fuseB : BitVec 272} {f_shadow : BitVec 256} {f_jtag : Jtag} {f_flash : List Host.Cell} {f_fw : Firmware} {f_supply : Supply} {f_gasp : Gasp} {f_quiet : Quiet} {f_tdm : Tandem} {f_port : Port} {f_first : Option FaultRec} {f_multi : Bool} {f_worst : Option FaultRec} {f_faultB : FaultBeat} {f_chr : Chrono} {f_dram : List Host.Cell} {f_chrWin : SMap ChrWin} {f_sent : List Out} {f_free : Nat}
    (e_pending : f_pending = s.pending) (e_now : f_now = s.now) (hp : smWf dfltKey s.obj = true → smWf dfltKey f_obj = true)
    (hd : smWf (fun _ => (none : Option Nat)) s.drafts = true → smWf (fun _ => (none : Option Nat)) f_drafts = true)
    (hf : Memory.wf 0xFF s.flash = true → Memory.wf 0xFF f_flash = true)
    (hm : Memory.wf 0 s.dram = true → Memory.wf 0 f_dram = true) :
    Keeps s0 (State.mk f_pending f_now f_nextSw f_status f_time f_obj f_drafts f_marks f_winds f_src f_filtered f_bankA f_bankB f_sensing f_late f_row2 f_nextObj f_dlv f_tgt f_esc f_heldOps f_buf f_poolNext f_poolBack f_doorbells f_func f_vfEnable f_numVfs f_pfD3 f_pmeEn f_perst f_wakeLow f_linkL0 f_txWait f_eng f_badParity f_start f_resetReq f_portDeferred f_wdogFrom f_blk f_backup f_crown f_straps f_fuseA f_fuseB f_shadow f_jtag f_flash f_fw f_supply f_gasp f_quiet f_tdm f_port f_first f_multi f_worst f_faultB f_chr f_dram f_chrWin f_sent f_free) := by
  subst_vars
  exact ⟨h.pending, h.now, fun hs => ⟨hp (h.sound hs).1, hd (h.sound hs).2.1, hf (h.sound hs).2.2.1, hm (h.sound hs).2.2.2⟩⟩

theorem State.setO_keeps {s0 : State} (idx el v : Nat) (s : State) (h : Keeps s0 s) : Keeps s0 (s.setO idx el v) :=
  ⟨h.pending, h.now, fun hs => ⟨smWf_set _ (h.sound hs).1, (h.sound hs).2⟩⟩

theorem each_keeps {α : Type} {s0 : State} (f : α → State → State) (l : List α) (s : State)
    (hf : ∀ a z, Keeps s0 z → Keeps s0 (f a z)) (h : Keeps s0 s) : Keeps s0 (each f l s) :=
  each_keep (Keeps s0) f hf l s h

theorem Keeps.ite {s0 a b : State} {c : Prop} [Decidable c] (ha : Keeps s0 a) (hb : Keeps s0 b) :
    Keeps s0 (if c then a else b) := by split <;> assumption

theorem loop_keeps {s0 : State} (f : Nat → State → State) (lo n : Nat) (s : State)
    (hf : ∀ a z, Keeps s0 z → Keeps s0 (f a z)) (h : Keeps s0 s) : Keeps s0 (loop f lo n s) := by
  induction n generalizing lo s with
  | zero => exact h
  | succ n ih => exact ih _ _ (hf _ _ h)

end Sys2Proof.Machine
end

