-- ==== Sys2Proof/Laws/KeepsOps.lean ====
section
/-! SUPPORT. What the operations of Machine/Ops.lean keep. -/

set_option linter.all false

namespace Sys2Proof.Machine

open Sys2Proof

theorem State.bump_keeps {s0 : State} (idx el n : Nat) (s : State) (hK : Keeps s0 s) :
    Keeps s0 (State.bump idx el n s) := by
  unfold State.bump
  repeat' (first | with_reducible assumption | intro _ | with_reducible apply State.setO_keeps | split)

theorem State.setSrc_keeps {s0 : State} (n : Nat) (x : Source) (s : State) (hK : Keeps s0 s) :
    Keeps s0 (State.setSrc n x s) := by
  unfold State.setSrc
  repeat' (first | with_reducible assumption | intro _ | split | (with_reducible refine Keeps.of ?_ rfl rfl rfl rfl rfl rfl; first | with_reducible assumption | split))

theorem State.setTgt_keeps {s0 : State} (t : Nat) (x : Target) (s : State) (hK : Keeps s0 s) :
    Keeps s0 (State.setTgt t x s) := by
  unfold State.setTgt
  repeat' (first | with_reducible assumption | intro _ | split | (with_reducible refine Keeps.of ?_ rfl rfl rfl rfl rfl rfl; first | with_reducible assumption | split))

theorem State.setEsc_keeps {s0 : State} (e : Nat) (x : Esc) (s : State) (hK : Keeps s0 s) :
    Keeps s0 (State.setEsc e x s) := by
  unfold State.setEsc
  repeat' (first | with_reducible assumption | intro _ | split | (with_reducible refine Keeps.of ?_ rfl rfl rfl rfl rfl rfl; first | with_reducible assumption | split))

theorem State.setBuf_keeps {s0 : State} (i : Nat) (x : Buf) (s : State) (hK : Keeps s0 s) :
    Keeps s0 (State.setBuf i x s) := by
  unfold State.setBuf
  repeat' (first | with_reducible assumption | intro _ | split | (with_reducible refine Keeps.of ?_ rfl rfl rfl rfl rfl rfl; first | with_reducible assumption | split))

theorem State.setFn_keeps {s0 : State} (n : Nat) (x : Func) (s : State) (hK : Keeps s0 s) :
    Keeps s0 (State.setFn n x s) := by
  unfold State.setFn
  repeat' (first | with_reducible assumption | intro _ | split | (with_reducible refine Keeps.of ?_ rfl rfl rfl rfl rfl rfl; first | with_reducible assumption | split))

theorem State.setEng_keeps {s0 : State} (n : Nat) (x : Engine) (s : State) (hK : Keeps s0 s) :
    Keeps s0 (State.setEng n x s) := by
  unfold State.setEng
  repeat' (first | with_reducible assumption | intro _ | split | (with_reducible refine Keeps.of ?_ rfl rfl rfl rfl rfl rfl; first | with_reducible assumption | split))

theorem State.answer_keeps {s0 : State} (st : Nat) (s : State) (hK : Keeps s0 s) :
    Keeps s0 (State.answer st s) := by
  unfold State.answer
  repeat' (first | with_reducible assumption | intro _ | split | (with_reducible refine Keeps.of ?_ rfl rfl rfl rfl rfl rfl; first | with_reducible assumption | split))

theorem State.draw_keeps {s0 : State} (s : State) (hK : Keeps s0 s) :
    Keeps s0 (State.draw s).2 := by
  unfold State.draw
  repeat' (first | with_reducible assumption | intro _ | split | (with_reducible refine Keeps.of ?_ rfl rfl rfl rfl rfl rfl; first | with_reducible assumption | split))

theorem State.draw_keeps' {s0 tK : State} (s : State) {xK : Nat} (eK : State.draw s = (xK, tK)) (hK : Keeps s0 s) :
    Keeps s0 tK := by
  have := State.draw_keeps s hK
  rw [eK] at this; exact this

theorem State.bk_keeps {s0 : State} (f : Backup → Backup) (s : State) (hK : Keeps s0 s) :
    Keeps s0 (State.bk f s) := by
  unfold State.bk
  repeat' (first | with_reducible assumption | intro _ | with_reducible apply Keeps.ite | split | (with_reducible refine Keeps.of ?_ rfl rfl rfl rfl rfl rfl; first | with_reducible assumption | with_reducible apply Keeps.ite | split))

theorem State.emit_keeps {s0 : State} (o : Out) (s : State) (hK : Keeps s0 s) :
    Keeps s0 (State.emit o s) := by
  unfold State.emit
  repeat' (first | with_reducible assumption | intro _ | split | (with_reducible refine Keeps.of ?_ rfl rfl rfl rfl rfl rfl; first | with_reducible assumption | split))

theorem State.post_keeps {s0 : State} (o : Out) (s : State) (hK : Keeps s0 s) :
    Keeps s0 (State.post o s) := by
  unfold State.post
  repeat' (first | with_reducible assumption | intro _ | with_reducible apply Keeps.ite | with_reducible apply State.emit_keeps | split | (with_reducible refine Keeps.of ?_ rfl rfl rfl rfl rfl rfl; first | with_reducible assumption | with_reducible apply Keeps.ite | with_reducible apply State.emit_keeps | split))

theorem State.raiseVec_keeps {s0 : State} (n v : Nat) (s : State) (hK : Keeps s0 s) :
    Keeps s0 (State.raiseVec n v s) := by
  unfold State.raiseVec
  repeat' (first | with_reducible assumption | intro _ | (extract_lets +onlyGivenNames x; first | ((first | refine (fun hx => ?_ : Keeps s0 x → Keeps s0 _) ?_); (on_goal 1 => clear_value x); (on_goal 2 => subst x)) | (refine (fun hx => ?_ : Keeps s0 x → Keeps s0 _) ?_; (on_goal 2 => subst x)) | clear_value x | skip) | with_reducible apply Keeps.ite | with_reducible apply State.post_keeps | with_reducible apply State.setFn_keeps | split | (with_reducible refine Keeps.of ?_ rfl rfl rfl rfl rfl rfl; first | with_reducible assumption | with_reducible apply Keeps.ite | with_reducible apply State.post_keeps | with_reducible apply State.setFn_keeps | split))

theorem State.latchDial_keeps {s0 : State} (n k : Nat) (s : State) (hK : Keeps s0 s) :
    Keeps s0 (State.latchDial n k s) := by
  unfold State.latchDial
  repeat' (first | with_reducible assumption | intro _ | with_reducible apply State.setFn_keeps | split)

theorem State.dialTurn_keeps {s0 : State} (n : Nat) (s : State) (hK : Keeps s0 s) :
    Keeps s0 (State.dialTurn n s) := by
  unfold State.dialTurn
  repeat' (first | with_reducible assumption | intro _ | (extract_lets +onlyGivenNames x; first | ((first | refine (fun hx => ?_ : Keeps s0 x → Keeps s0 _) ?_); (on_goal 1 => clear_value x); (on_goal 2 => subst x)) | (refine (fun hx => ?_ : Keeps s0 x → Keeps s0 _) ?_; (on_goal 2 => subst x)) | clear_value x | skip) | with_reducible apply Keeps.ite | with_reducible apply State.raiseVec_keeps | with_reducible apply State.setFn_keeps | split | (with_reducible refine Keeps.of ?_ rfl rfl rfl rfl rfl rfl; first | with_reducible assumption | with_reducible apply Keeps.ite | with_reducible apply State.raiseVec_keeps | with_reducible apply State.setFn_keeps | split))

theorem State.aerLog_keeps {s0 : State} (n : Nat) (poisoned : Bool) (s : State) (hK : Keeps s0 s) :
    Keeps s0 (State.aerLog n poisoned s) := by
  unfold State.aerLog
  repeat' (first | with_reducible assumption | intro _ | (extract_lets +onlyGivenNames x; first | ((first | refine (fun hx => ?_ : Keeps s0 x → Keeps s0 _) ?_); (on_goal 1 => clear_value x); (on_goal 2 => subst x)) | (refine (fun hx => ?_ : Keeps s0 x → Keeps s0 _) ?_; (on_goal 2 => subst x)) | clear_value x | skip) | with_reducible apply Keeps.ite | with_reducible apply State.post_keeps | with_reducible apply State.setFn_keeps | split | (with_reducible refine Keeps.of ?_ rfl rfl rfl rfl rfl rfl; first | with_reducible assumption | with_reducible apply Keeps.ite | with_reducible apply State.post_keeps | with_reducible apply State.setFn_keeps | split))

theorem State.dial_keeps {s0 : State} (k ten : Nat) (s : State) (hK : Keeps s0 s) :
    Keeps s0 (State.dial k ten s) := by
  unfold State.dial
  repeat' (first | with_reducible assumption | intro _ | (extract_lets +onlyGivenNames x; first | ((first | refine (fun hx => ?_ : Keeps s0 x → Keeps s0 _) ?_); (on_goal 1 => clear_value x); (on_goal 2 => subst x)) | (refine (fun hx => ?_ : Keeps s0 x → Keeps s0 _) ?_; (on_goal 2 => subst x)) | clear_value x | skip) | with_reducible apply Keeps.ite | with_reducible apply State.latchDial_keeps | split)

theorem State.chrAppend_keeps {s0 : State} (r : ChrRec) (s : State) (hK : Keeps s0 s) :
    Keeps s0 (State.chrAppend r s) := by
  unfold State.chrAppend
  repeat' (first | with_reducible assumption | intro _ | (extract_lets +onlyGivenNames x; first | ((first | refine (fun hx => ?_ : Keeps s0 x → Keeps s0 _) ?_); (on_goal 1 => clear_value x); (on_goal 2 => subst x)) | (refine (fun hx => ?_ : Keeps s0 x → Keeps s0 _) ?_; (on_goal 2 => subst x)) | clear_value x | skip) | with_reducible apply Keeps.ite | with_reducible apply State.dial_keeps | with_reducible apply State.bump_keeps | split | (with_reducible refine Keeps.of ?_ rfl rfl rfl rfl rfl rfl; first | with_reducible assumption | with_reducible apply Keeps.ite | with_reducible apply State.dial_keeps | with_reducible apply State.bump_keeps | split))

theorem State.chrLost_keeps {s0 : State} (s : State) (hK : Keeps s0 s) :
    Keeps s0 (State.chrLost s) := by
  unfold State.chrLost
  repeat' (first | with_reducible assumption | intro _ | with_reducible apply Keeps.ite | split | (with_reducible refine Keeps.of ?_ rfl rfl rfl rfl rfl rfl; first | with_reducible assumption | with_reducible apply Keeps.ite | split))

theorem State.chrPut_keeps {s0 : State} (kind : Nat) (ten : Option Nat) (body : List Byte) (s : State) (hK : Keeps s0
    s) :
    Keeps s0 (State.chrPut kind ten body s) := by
  unfold State.chrPut
  repeat' (first | with_reducible assumption | intro _ | (extract_lets +onlyGivenNames x; first | ((first | refine (fun hx => ?_ : Keeps s0 x → Keeps s0 _) ?_); (on_goal 1 => clear_value x); (on_goal 2 => subst x)) | (refine (fun hx => ?_ : Keeps s0 x → Keeps s0 _) ?_; (on_goal 2 => subst x)) | clear_value x | skip) | with_reducible apply Keeps.ite | with_reducible apply State.chrLost_keeps | with_reducible apply State.chrAppend_keeps | with_reducible apply State.dial_keeps | with_reducible apply State.bump_keeps | split | (with_reducible refine Keeps.of ?_ rfl rfl rfl rfl rfl rfl; first | with_reducible assumption | with_reducible apply Keeps.ite | with_reducible apply State.chrLost_keeps | with_reducible apply State.chrAppend_keeps | with_reducible apply State.dial_keeps | with_reducible apply State.bump_keeps | split))

theorem State.raiseLate_keeps {s0 : State} (n : Nat) (s : State) (hK : Keeps s0 s) :
    Keeps s0 (State.raiseLate n s) := by
  unfold State.raiseLate
  repeat' (first | with_reducible assumption | intro _ | with_reducible apply Keeps.ite | split | (with_reducible refine Keeps.of ?_ rfl rfl rfl rfl rfl rfl; first | with_reducible assumption | with_reducible apply Keeps.ite | split))

theorem State.faultSlots_keeps {s0 : State} (b : FaultBeat) (s : State) (hK : Keeps s0 s) :
    Keeps s0 (State.faultSlots b s) := by
  unfold State.faultSlots
  repeat' (first | with_reducible assumption | intro _ | (extract_lets +onlyGivenNames x; first | ((first | refine (fun hx => ?_ : Keeps s0 x → Keeps s0 _) ?_); (on_goal 1 => clear_value x); (on_goal 2 => subst x)) | (refine (fun hx => ?_ : Keeps s0 x → Keeps s0 _) ?_; (on_goal 2 => subst x)) | clear_value x | skip) | with_reducible apply Keeps.ite | split | (with_reducible refine Keeps.of ?_ rfl rfl rfl rfl rfl rfl; first | with_reducible assumption | with_reducible apply Keeps.ite | split))

theorem State.fault_keeps {s0 : State} (code info : Nat) (s : State) (hK : Keeps s0 s) :
    Keeps s0 (State.fault code info s) := by
  unfold State.fault
  repeat' (first | with_reducible assumption | intro _ | (extract_lets +onlyGivenNames x; first | ((first | refine (fun hx => ?_ : Keeps s0 x → Keeps s0 _) ?_); (on_goal 1 => clear_value x); (on_goal 2 => subst x)) | (refine (fun hx => ?_ : Keeps s0 x → Keeps s0 _) ?_; (on_goal 2 => subst x)) | clear_value x | skip) | with_reducible apply Keeps.ite | with_reducible apply State.faultSlots_keeps | with_reducible apply State.raiseLate_keeps | with_reducible apply State.chrPut_keeps | with_reducible apply State.dial_keeps | with_reducible apply State.bump_keeps | with_reducible apply State.setO_keeps | split | (with_reducible refine Keeps.of ?_ rfl rfl rfl rfl rfl rfl; first | with_reducible assumption | with_reducible apply Keeps.ite | with_reducible apply State.faultSlots_keeps | with_reducible apply State.raiseLate_keeps | with_reducible apply State.chrPut_keeps | with_reducible apply State.dial_keeps | with_reducible apply State.bump_keeps | with_reducible apply State.setO_keeps | split))

theorem State.accessFault_keeps {s0 : State} (fn : Nat) (s : State) (hK : Keeps s0 s) :
    Keeps s0 (State.accessFault fn s) := by
  unfold State.accessFault
  repeat' (first | with_reducible assumption | intro _ | with_reducible apply State.dial_keeps | with_reducible apply State.bump_keeps | split)

theorem State.pageFault_keeps {s0 : State} (fn t : Nat) (s : State) (hK : Keeps s0 s) :
    Keeps s0 (State.pageFault fn t s) := by
  unfold State.pageFault
  repeat' (first | with_reducible assumption | intro _ | (extract_lets +onlyGivenNames x; first | ((first | refine (fun hx => ?_ : Keeps s0 x → Keeps s0 _) ?_); (on_goal 1 => clear_value x); (on_goal 2 => subst x)) | (refine (fun hx => ?_ : Keeps s0 x → Keeps s0 _) ?_; (on_goal 2 => subst x)) | clear_value x | skip) | with_reducible apply State.accessFault_keeps | with_reducible apply State.setTgt_keeps | split | (with_reducible refine Keeps.of ?_ rfl rfl rfl rfl rfl rfl; first | with_reducible assumption | with_reducible apply State.accessFault_keeps | with_reducible apply State.setTgt_keeps | split))

theorem State.tandemChanged_keeps {s0 : State} (s : State) (hK : Keeps s0 s) :
    Keeps s0 (State.tandemChanged s) := by
  unfold State.tandemChanged
  repeat' (first | with_reducible assumption | intro _ | with_reducible apply State.raiseLate_keeps | split)

end Sys2Proof.Machine
end

