-- ==== Sys2Proof/Laws/KeepsSources.lean ====
section
/-! SUPPORT. What the operations of Machine/Sources.lean keep. -/

set_option linter.all false

namespace Sys2Proof.Machine

open Sys2Proof

theorem State.allocBuf_keeps {s0 : State} (ten : Nat) (bytes : List Byte) (s : State) (hK : Keeps s0 s) :
    Keeps s0 (State.allocBuf ten bytes s).2 := by
  unfold State.allocBuf
  dsimp only
  split
  · exact hK
  · split
    · exact State.setBuf_keeps _ _ _ (Keeps.of hK rfl rfl rfl rfl rfl rfl)
    · split
      · exact hK
      · exact State.setBuf_keeps _ _ _ (Keeps.of hK rfl rfl rfl rfl rfl rfl)


theorem State.allocBuf_keeps' {s0 tK : State} (ten : Nat) (bytes : List Byte) (s : State) {xK : Option Nat}
    (eK : State.allocBuf ten bytes s = (xK, tK)) (hK : Keeps s0 s) : Keeps s0 tK := by
  have := State.allocBuf_keeps ten bytes s hK
  rw [eK] at this; exact this

theorem State.returnBuf_keeps {s0 : State} (i : Nat) (period : Bool) (s : State) (hK : Keeps s0 s) :
    Keeps s0 (State.returnBuf i period s) := by
  unfold State.returnBuf
  repeat' (first | with_reducible assumption | intro _ | (extract_lets +onlyGivenNames x; first | ((first | refine (fun hx => ?_ : Keeps s0 x → Keeps s0 _) ?_); (on_goal 1 => clear_value x); (on_goal 2 => subst x)) | (refine (fun hx => ?_ : Keeps s0 x → Keeps s0 _) ?_; (on_goal 2 => subst x)) | clear_value x | skip) | with_reducible apply Keeps.ite | with_reducible apply State.setBuf_keeps | split | (with_reducible refine Keeps.of ?_ rfl rfl rfl rfl rfl rfl; first | with_reducible assumption | with_reducible apply Keeps.ite | with_reducible apply State.setBuf_keeps | split))

theorem State.discardBuf_keeps {s0 : State} (n : Nat) (b : Option Nat) (s : State) (hK : Keeps s0 s) :
    Keeps s0 (State.discardBuf n b s) := by
  unfold State.discardBuf
  repeat' (first | with_reducible assumption | intro _ | with_reducible apply State.returnBuf_keeps | with_reducible apply State.bump_keeps | split)

theorem State.forget_keeps {s0 : State} (i : Nat) (s : State) (hK : Keeps s0 s) :
    Keeps s0 (State.forget i s) := by
  unfold State.forget
  repeat' (first | with_reducible assumption | intro _ | with_reducible apply Keeps.ite | split | (with_reducible refine Keeps.of ?_ rfl rfl rfl rfl rfl rfl; first | with_reducible assumption | with_reducible apply Keeps.ite | split))

theorem State.checkBuf_keeps {s0 : State} (b : Option Nat) (s : State) (hK : Keeps s0 s) :
    Keeps s0 (State.checkBuf b s) := by
  unfold State.checkBuf
  repeat' (first | with_reducible assumption | intro _ | (extract_lets +onlyGivenNames x; first | ((first | refine (fun hx => ?_ : Keeps s0 x → Keeps s0 _) ?_); (on_goal 1 => clear_value x); (on_goal 2 => subst x)) | (refine (fun hx => ?_ : Keeps s0 x → Keeps s0 _) ?_; (on_goal 2 => subst x)) | clear_value x | skip) | with_reducible apply Keeps.ite | with_reducible apply State.forget_keeps | with_reducible apply State.returnBuf_keeps | split)

theorem State.ownBuf_keeps {s0 : State} (b : Option Nat) (t : Nat) (s : State) (hK : Keeps s0 s) :
    Keeps s0 (State.ownBuf b t s) := by
  unfold State.ownBuf
  repeat' (first | with_reducible assumption | intro _ | (extract_lets +onlyGivenNames x; first | ((first | refine (fun hx => ?_ : Keeps s0 x → Keeps s0 _) ?_); (on_goal 1 => clear_value x); (on_goal 2 => subst x)) | (refine (fun hx => ?_ : Keeps s0 x → Keeps s0 _) ?_; (on_goal 2 => subst x)) | clear_value x | skip) | with_reducible apply State.setBuf_keeps | split | (with_reducible refine Keeps.of ?_ rfl rfl rfl rfl rfl rfl; first | with_reducible assumption | with_reducible apply State.setBuf_keeps | split))

theorem State.bufSt_keeps {s0 : State} (b : Option Nat) (st : BufState) (s : State) (hK : Keeps s0 s) :
    Keeps s0 (State.bufSt b st s) := by
  unfold State.bufSt
  repeat' (first | with_reducible assumption | intro _ | with_reducible apply State.setBuf_keeps | split | (with_reducible refine Keeps.of ?_ rfl rfl rfl rfl rfl rfl; first | with_reducible assumption | with_reducible apply State.setBuf_keeps | split))

theorem State.revokeBuf_keeps {s0 : State} (b : Option Nat) (st : BufState) (s : State) (hK : Keeps s0 s) :
    Keeps s0 (State.revokeBuf b st s) := by
  unfold State.revokeBuf
  repeat' (first | with_reducible assumption | intro _ | (extract_lets +onlyGivenNames x; first | ((first | refine (fun hx => ?_ : Keeps s0 x → Keeps s0 _) ?_); (on_goal 1 => clear_value x); (on_goal 2 => subst x)) | (refine (fun hx => ?_ : Keeps s0 x → Keeps s0 _) ?_; (on_goal 2 => subst x)) | clear_value x | skip) | with_reducible apply State.setBuf_keeps | split | (with_reducible refine Keeps.of ?_ rfl rfl rfl rfl rfl rfl; first | with_reducible assumption | with_reducible apply State.setBuf_keeps | split))

theorem State.note_keeps {s0 : State} (ev : Ev) (n : Nat) (old : Source) (s : State) (hK : Keeps s0 s) :
    Keeps s0 (State.note ev n old s) := by
  unfold State.note
  repeat' (first | with_reducible assumption | intro _ | (extract_lets +onlyGivenNames x; first | ((first | refine (fun hx => ?_ : Keeps s0 x → Keeps s0 _) ?_); (on_goal 1 => clear_value x); (on_goal 2 => subst x)) | (refine (fun hx => ?_ : Keeps s0 x → Keeps s0 _) ?_; (on_goal 2 => subst x)) | clear_value x | skip) | with_reducible apply Keeps.ite | with_reducible apply State.chrPut_keeps | split | (with_reducible refine Keeps.of ?_ rfl rfl rfl rfl rfl rfl; first | with_reducible assumption | with_reducible apply Keeps.ite | with_reducible apply State.chrPut_keeps | split))

theorem State.choose_keeps {s0 : State} (g : Nat) (cands : List (Nat × Nat)) (s : State) (hK : Keeps s0 s) :
    Keeps s0 (State.choose g cands s).2 := by
  unfold State.choose
  repeat' (first | with_reducible assumption | intro _ | (extract_lets +onlyGivenNames x; first | ((first | refine (fun hx => ?_ : Keeps s0 x → Keeps s0 _) ?_); (on_goal 1 => clear_value x); (on_goal 2 => subst x)) | (refine (fun hx => ?_ : Keeps s0 x → Keeps s0 _) ?_; (on_goal 2 => subst x)) | clear_value x | skip) | with_reducible apply Keeps.ite | with_reducible apply State.setO_keeps | split)

theorem State.choose_keeps' {s0 tK : State} (g : Nat) (cands : List (Nat × Nat)) (s : State) {xK : Option Nat} (eK : State.choose g cands s = (xK, tK)) (hK : Keeps s0 s) :
    Keeps s0 tK := by
  have := State.choose_keeps g cands s hK
  rw [eK] at this; exact this

theorem State.select_keeps {s0 : State} (n : Nat) (s : State) (hK : Keeps s0 s) :
    Keeps s0 (State.select n s) := by
  unfold State.select
  repeat' (first | with_reducible assumption | intro _ | (extract_lets +onlyGivenNames x; first | ((first | refine (fun hx => ?_ : Keeps s0 x → Keeps s0 _) ?_); (on_goal 1 => clear_value x); (on_goal 2 => subst x)) | (refine (fun hx => ?_ : Keeps s0 x → Keeps s0 _) ?_; (on_goal 2 => subst x)) | clear_value x | skip) | with_reducible apply Keeps.ite | with_reducible apply State.choose_keeps | (with_reducible apply State.choose_keeps'; on_goal 1 => with_reducible assumption) | with_reducible apply State.setSrc_keeps | with_reducible apply State.bump_keeps | split | (with_reducible refine Keeps.of ?_ rfl rfl rfl rfl rfl rfl; first | with_reducible assumption | with_reducible apply Keeps.ite | with_reducible apply State.choose_keeps | (with_reducible apply State.choose_keeps'; on_goal 1 => with_reducible assumption) | with_reducible apply State.setSrc_keeps | with_reducible apply State.bump_keeps | split))

theorem State.becameEligible_keeps {s0 : State} (t : Nat) (s : State) (hK : Keeps s0 s) :
    Keeps s0 (State.becameEligible t s) := by
  unfold State.becameEligible
  repeat' (first | with_reducible assumption | intro _ | (extract_lets +onlyGivenNames x; first | ((first | refine (fun hx => ?_ : Keeps s0 x → Keeps s0 _) ?_); (on_goal 1 => clear_value x); (on_goal 2 => subst x)) | (refine (fun hx => ?_ : Keeps s0 x → Keeps s0 _) ?_; (on_goal 2 => subst x)) | clear_value x | skip) | with_reducible apply each_keeps | with_reducible apply Keeps.ite | with_reducible apply State.select_keeps | with_reducible apply State.setSrc_keeps | split | (with_reducible refine Keeps.of ?_ rfl rfl rfl rfl rfl rfl; first | with_reducible assumption | with_reducible apply each_keeps | with_reducible apply Keeps.ite | with_reducible apply State.select_keeps | with_reducible apply State.setSrc_keeps | split))

theorem State.rerank_keeps {s0 : State} (n : Nat) (s : State) (hK : Keeps s0 s) :
    Keeps s0 (State.rerank n s) := by
  unfold State.rerank
  repeat' (first | with_reducible assumption | intro _ | (extract_lets +onlyGivenNames x; first | ((first | refine (fun hx => ?_ : Keeps s0 x → Keeps s0 _) ?_); (on_goal 1 => clear_value x); (on_goal 2 => subst x)) | (refine (fun hx => ?_ : Keeps s0 x → Keeps s0 _) ?_; (on_goal 2 => subst x)) | clear_value x | skip) | with_reducible apply State.setSrc_keeps | split | (with_reducible refine Keeps.of ?_ rfl rfl rfl rfl rfl rfl; first | with_reducible assumption | with_reducible apply State.setSrc_keeps | split))

theorem State.toPending_keeps {s0 : State} (n : Nat) (stamp : Beat) (lvl : Bool) (info : Arrival) (s : State) (hK :
    Keeps s0 s) :
    Keeps s0 (State.toPending n stamp lvl info s) := by
  unfold State.toPending
  repeat' (first | with_reducible assumption | intro _ | (extract_lets +onlyGivenNames x; first | ((first | refine (fun hx => ?_ : Keeps s0 x → Keeps s0 _) ?_); (on_goal 1 => clear_value x); (on_goal 2 => subst x)) | (refine (fun hx => ?_ : Keeps s0 x → Keeps s0 _) ?_; (on_goal 2 => subst x)) | clear_value x | skip) | with_reducible apply State.select_keeps | with_reducible apply State.setSrc_keeps | split | (with_reducible refine Keeps.of ?_ rfl rfl rfl rfl rfl rfl; first | with_reducible assumption | with_reducible apply State.select_keeps | with_reducible apply State.setSrc_keeps | split))

theorem State.outcome_keeps {s0 : State} (n : Nat) (s : State) (hK : Keeps s0 s) :
    Keeps s0 (State.outcome n s) := by
  unfold State.outcome
  repeat' (first | with_reducible assumption | intro _ | (extract_lets +onlyGivenNames x; first | ((first | refine (fun hx => ?_ : Keeps s0 x → Keeps s0 _) ?_); (on_goal 1 => clear_value x); (on_goal 2 => subst x)) | (refine (fun hx => ?_ : Keeps s0 x → Keeps s0 _) ?_; (on_goal 2 => subst x)) | clear_value x | skip) | with_reducible apply Keeps.ite | with_reducible apply State.toPending_keeps | with_reducible apply State.discardBuf_keeps | with_reducible apply State.setSrc_keeps | split | (with_reducible refine Keeps.of ?_ rfl rfl rfl rfl rfl rfl; first | with_reducible assumption | with_reducible apply Keeps.ite | with_reducible apply State.toPending_keeps | with_reducible apply State.discardBuf_keeps | with_reducible apply State.setSrc_keeps | split))

theorem State.mergeRepend_keeps {s0 : State} (n : Nat) (old new : Arrival) (s : State) (hK : Keeps s0 s) :
    Keeps s0 (State.mergeRepend n old new s).2 := by
  unfold State.mergeRepend
  repeat' (first | with_reducible assumption | intro _ | (extract_lets +onlyGivenNames x; first | ((first | refine (fun hx => ?_ : Keeps s0 x → Keeps s0 _) ?_); (on_goal 1 => clear_value x); (on_goal 2 => subst x)) | (refine (fun hx => ?_ : Keeps s0 x → Keeps s0 _) ?_; (on_goal 2 => subst x)) | clear_value x | skip) | with_reducible apply Keeps.ite | with_reducible apply State.discardBuf_keeps | with_reducible apply State.returnBuf_keeps | with_reducible apply State.bump_keeps | split | (with_reducible refine Keeps.of ?_ rfl rfl rfl rfl rfl rfl; first | with_reducible assumption | with_reducible apply Keeps.ite | with_reducible apply State.discardBuf_keeps | with_reducible apply State.returnBuf_keeps | with_reducible apply State.bump_keeps | split))

theorem State.mergeRepend_keeps' {s0 tK : State} (n : Nat) (old new : Arrival) (s : State) {xK : Arrival} (eK : State.mergeRepend n old new s = (xK, tK)) (hK : Keeps s0 s) :
    Keeps s0 tK := by
  have := State.mergeRepend_keeps n old new s hK
  rw [eK] at this; exact this

theorem State.backToPending_keeps {s0 : State} (n : Nat) (info : Arrival) (s : State) (hK : Keeps s0 s) :
    Keeps s0 (State.backToPending n info s) := by
  unfold State.backToPending
  repeat' (first | with_reducible assumption | intro _ | (extract_lets +onlyGivenNames x; first | ((first | refine (fun hx => ?_ : Keeps s0 x → Keeps s0 _) ?_); (on_goal 1 => clear_value x); (on_goal 2 => subst x)) | (refine (fun hx => ?_ : Keeps s0 x → Keeps s0 _) ?_; (on_goal 2 => subst x)) | clear_value x | skip) | with_reducible apply Keeps.ite | with_reducible apply State.mergeRepend_keeps | (with_reducible apply State.mergeRepend_keeps'; on_goal 1 => with_reducible assumption) | with_reducible apply State.toPending_keeps | with_reducible apply State.setSrc_keeps | with_reducible apply State.bump_keeps | split | (with_reducible refine Keeps.of ?_ rfl rfl rfl rfl rfl rfl; first | with_reducible assumption | with_reducible apply Keeps.ite | with_reducible apply State.mergeRepend_keeps | (with_reducible apply State.mergeRepend_keeps'; on_goal 1 => with_reducible assumption) | with_reducible apply State.toPending_keeps | with_reducible apply State.setSrc_keeps | with_reducible apply State.bump_keeps | split))

theorem State.bcastAgain_keeps {s0 : State} (n : Nat) (s : State) (hK : Keeps s0 s) :
    Keeps s0 (State.bcastAgain n s) := by
  unfold State.bcastAgain
  repeat' (first | with_reducible assumption | intro _ | (extract_lets +onlyGivenNames x; first | ((first | refine (fun hx => ?_ : Keeps s0 x → Keeps s0 _) ?_); (on_goal 1 => clear_value x); (on_goal 2 => subst x)) | (refine (fun hx => ?_ : Keeps s0 x → Keeps s0 _) ?_; (on_goal 2 => subst x)) | clear_value x | skip) | with_reducible apply Keeps.ite | with_reducible apply State.select_keeps | with_reducible apply State.setSrc_keeps | split | (with_reducible refine Keeps.of ?_ rfl rfl rfl rfl rfl rfl; first | with_reducible assumption | with_reducible apply Keeps.ite | with_reducible apply State.select_keeps | with_reducible apply State.setSrc_keeps | split))

theorem State.bcastState_keeps {s0 : State} (n : Nat) (s : State) (hK : Keeps s0 s) :
    Keeps s0 (State.bcastState n s) := by
  unfold State.bcastState
  repeat' (first | with_reducible assumption | intro _ | (extract_lets +onlyGivenNames x; first | ((first | refine (fun hx => ?_ : Keeps s0 x → Keeps s0 _) ?_); (on_goal 1 => clear_value x); (on_goal 2 => subst x)) | (refine (fun hx => ?_ : Keeps s0 x → Keeps s0 _) ?_; (on_goal 2 => subst x)) | clear_value x | skip) | with_reducible apply Keeps.ite | with_reducible apply State.bcastAgain_keeps | with_reducible apply State.mergeRepend_keeps | (with_reducible apply State.mergeRepend_keeps'; on_goal 1 => with_reducible assumption) | with_reducible apply State.bufSt_keeps | with_reducible apply State.setSrc_keeps | with_reducible apply State.bump_keeps | split | (with_reducible refine Keeps.of ?_ rfl rfl rfl rfl rfl rfl; first | with_reducible assumption | with_reducible apply Keeps.ite | with_reducible apply State.bcastAgain_keeps | with_reducible apply State.mergeRepend_keeps | (with_reducible apply State.mergeRepend_keeps'; on_goal 1 => with_reducible assumption) | with_reducible apply State.bufSt_keeps | with_reducible apply State.setSrc_keeps | with_reducible apply State.bump_keeps | split))

theorem State.memberEnded_keeps {s0 : State} (n : Nat) (s : State) (hK : Keeps s0 s) :
    Keeps s0 (State.memberEnded n s) := by
  unfold State.memberEnded
  repeat' (first | with_reducible assumption | intro _ | (extract_lets +onlyGivenNames x; first | ((first | refine (fun hx => ?_ : Keeps s0 x → Keeps s0 _) ?_); (on_goal 1 => clear_value x); (on_goal 2 => subst x)) | (refine (fun hx => ?_ : Keeps s0 x → Keeps s0 _) ?_; (on_goal 2 => subst x)) | clear_value x | skip) | with_reducible apply Keeps.ite | with_reducible apply State.bcastState_keeps | with_reducible apply State.outcome_keeps | with_reducible apply State.select_keeps | with_reducible apply State.checkBuf_keeps | split)

theorem State.loseMember_keeps {s0 : State} (n t : Nat) (s : State) (hK : Keeps s0 s) :
    Keeps s0 (State.loseMember n t s) := by
  unfold State.loseMember
  repeat' (first | with_reducible assumption | intro _ | (extract_lets +onlyGivenNames x; first | ((first | refine (fun hx => ?_ : Keeps s0 x → Keeps s0 _) ?_); (on_goal 1 => clear_value x); (on_goal 2 => subst x)) | (refine (fun hx => ?_ : Keeps s0 x → Keeps s0 _) ?_; (on_goal 2 => subst x)) | clear_value x | skip) | with_reducible apply State.memberEnded_keeps | with_reducible apply State.note_keeps | with_reducible apply State.checkBuf_keeps | with_reducible apply State.setSrc_keeps | with_reducible apply State.bump_keeps | split | (with_reducible refine Keeps.of ?_ rfl rfl rfl rfl rfl rfl; first | with_reducible assumption | with_reducible apply State.memberEnded_keeps | with_reducible apply State.note_keeps | with_reducible apply State.checkBuf_keeps | with_reducible apply State.setSrc_keeps | with_reducible apply State.bump_keeps | split))

theorem State.leaveTarget_keeps {s0 : State} (t : Nat) (s : State) (hK : Keeps s0 s) :
    Keeps s0 (State.leaveTarget t s) := by
  unfold State.leaveTarget
  repeat' (first | with_reducible assumption | intro _ | (extract_lets +onlyGivenNames x; first | ((first | refine (fun hx => ?_ : Keeps s0 x → Keeps s0 _) ?_); (on_goal 1 => clear_value x); (on_goal 2 => subst x)) | (refine (fun hx => ?_ : Keeps s0 x → Keeps s0 _) ?_; (on_goal 2 => subst x)) | clear_value x | skip) | with_reducible apply each_keeps | with_reducible apply Keeps.ite | with_reducible apply State.loseMember_keeps | with_reducible apply State.select_keeps | split)

theorem State.chrQuar_keeps {s0 : State} (isTgt release : Bool) (by_ num ten : Nat) (s : State) (hK : Keeps s0 s) :
    Keeps s0 (State.chrQuar isTgt release by_ num ten s) := by
  unfold State.chrQuar
  repeat' (first | with_reducible assumption | intro _ | with_reducible apply State.chrPut_keeps | split)

theorem State.quarantine_keeps {s0 : State} (n by_ : Nat) (s : State) (hK : Keeps s0 s) :
    Keeps s0 (State.quarantine n by_ s) := by
  unfold State.quarantine
  repeat' (first | with_reducible assumption | intro _ | (extract_lets +onlyGivenNames x; first | ((first | refine (fun hx => ?_ : Keeps s0 x → Keeps s0 _) ?_ | refine (fun hx => ?_ : (∀ z, Keeps s0 z → Keeps s0 (x z)) → Keeps s0 _) ?_ | refine (fun hx => ?_ : (∀ a z, Keeps s0 z → Keeps s0 (x a z)) → Keeps s0 _) ?_ | refine (fun hx => ?_ : (∀ a z, Keeps s0 z → Keeps s0 (x a z).2) → Keeps s0 _) ?_ | refine (fun hx => ?_ : (∀ a c z, Keeps s0 z → Keeps s0 (x a c z)) → Keeps s0 _) ?_ | refine (fun hx => ?_ : (∀ a, Keeps s0 (x a)) → Keeps s0 _) ?_); (on_goal 1 => clear_value x); (on_goal 2 => subst x)) | (refine (fun hx => ?_ : Keeps s0 x → Keeps s0 _) ?_; (on_goal 2 => subst x)) | clear_value x | skip) | with_reducible apply Keeps.ite | with_reducible apply State.chrQuar_keeps | with_reducible apply State.note_keeps | with_reducible apply State.discardBuf_keeps | with_reducible apply State.setSrc_keeps | with_reducible apply_assumption | split | (with_reducible refine Keeps.of ?_ rfl rfl rfl rfl rfl rfl; first | with_reducible assumption | with_reducible apply Keeps.ite | with_reducible apply State.chrQuar_keeps | with_reducible apply State.note_keeps | with_reducible apply State.discardBuf_keeps | with_reducible apply State.setSrc_keeps | with_reducible apply_assumption | split) | dsimp -zeta only)

theorem State.stormCount_keeps {s0 : State} (n : Nat) (s : State) (hK : Keeps s0 s) :
    Keeps s0 (State.stormCount n s) := by
  unfold State.stormCount
  repeat' (first | with_reducible assumption | intro _ | (extract_lets +onlyGivenNames x; first | ((first | refine (fun hx => ?_ : Keeps s0 x → Keeps s0 _) ?_); (on_goal 1 => clear_value x); (on_goal 2 => subst x)) | (refine (fun hx => ?_ : Keeps s0 x → Keeps s0 _) ?_; (on_goal 2 => subst x)) | clear_value x | skip) | with_reducible apply Keeps.ite | with_reducible apply State.quarantine_keeps | with_reducible apply State.dial_keeps | with_reducible apply State.setSrc_keeps | split | (with_reducible refine Keeps.of ?_ rfl rfl rfl rfl rfl rfl; first | with_reducible assumption | with_reducible apply Keeps.ite | with_reducible apply State.quarantine_keeps | with_reducible apply State.dial_keeps | with_reducible apply State.setSrc_keeps | split))

theorem State.stage_keeps {s0 : State} (n : Nat) (a : Arrival) (pay : Option (List Byte)) (s : State) (hK : Keeps s0
    s) :
    Keeps s0 (State.stage n a pay s).2 := by
  unfold State.stage
  repeat' (first | with_reducible assumption | intro _ | with_reducible apply State.allocBuf_keeps | (with_reducible apply State.allocBuf_keeps'; on_goal 1 => with_reducible assumption) | with_reducible apply State.dial_keeps | with_reducible apply State.bump_keeps | split | (with_reducible refine Keeps.of ?_ rfl rfl rfl rfl rfl rfl; first | with_reducible assumption | with_reducible apply State.allocBuf_keeps | (with_reducible apply State.allocBuf_keeps'; on_goal 1 => with_reducible assumption) | with_reducible apply State.dial_keeps | with_reducible apply State.bump_keeps | split))

theorem State.stage_keeps' {s0 tK : State} (n : Nat) (a : Arrival) (pay : Option (List Byte)) (s : State) {xK : Arrival} (eK : State.stage n a pay s = (xK, tK)) (hK : Keeps s0 s) :
    Keeps s0 tK := by
  have := State.stage_keeps n a pay s hK
  rw [eK] at this; exact this

theorem State.mergeArrival_keeps {s0 : State} (n : Nat) (old a : Arrival) (pay : Option (List Byte)) (s : State) (hK
    : Keeps s0 s) :
    Keeps s0 (State.mergeArrival n old a pay s).2 := by
  unfold State.mergeArrival
  repeat' (first | with_reducible assumption | intro _ | (extract_lets +onlyGivenNames x; first | ((first | refine (fun hx => ?_ : Keeps s0 x → Keeps s0 _) ?_); (on_goal 1 => clear_value x); (on_goal 2 => subst x)) | (refine (fun hx => ?_ : Keeps s0 x → Keeps s0 _) ?_; (on_goal 2 => subst x)) | clear_value x | skip) | with_reducible apply Keeps.ite | with_reducible apply State.stage_keeps | (with_reducible apply State.stage_keeps'; on_goal 1 => with_reducible assumption) | with_reducible apply State.setBuf_keeps | with_reducible apply State.bump_keeps | split | (with_reducible refine Keeps.of ?_ rfl rfl rfl rfl rfl rfl; first | with_reducible assumption | with_reducible apply Keeps.ite | with_reducible apply State.stage_keeps | (with_reducible apply State.stage_keeps'; on_goal 1 => with_reducible assumption) | with_reducible apply State.setBuf_keeps | with_reducible apply State.bump_keeps | split))

theorem State.mergeArrival_keeps' {s0 tK : State} (n : Nat) (old a : Arrival) (pay : Option (List Byte)) (s : State) {xK : Arrival} (eK : State.mergeArrival n old a pay s = (xK, tK)) (hK : Keeps s0 s) :
    Keeps s0 tK := by
  have := State.mergeArrival_keeps n old a pay s hK
  rw [eK] at this; exact this

theorem State.dropPay_keeps {s0 : State} (n : Nat) (pay : Option (List Byte)) (s : State) (hK : Keeps s0 s) :
    Keeps s0 (State.dropPay n pay s) := by
  unfold State.dropPay
  repeat' (first | with_reducible assumption | intro _ | with_reducible apply Keeps.ite | with_reducible apply State.bump_keeps | split)

theorem State.wake_keeps {s0 : State} (cause src : Nat) (s : State) (hK : Keeps s0 s) :
    Keeps s0 (State.wake cause src s) := by
  unfold State.wake
  repeat' (first | with_reducible assumption | intro _ | (extract_lets +onlyGivenNames x; first | ((first | refine (fun hx => ?_ : Keeps s0 x → Keeps s0 _) ?_); (on_goal 1 => clear_value x); (on_goal 2 => subst x)) | (refine (fun hx => ?_ : Keeps s0 x → Keeps s0 _) ?_; (on_goal 2 => subst x)) | clear_value x | skip) | with_reducible apply Keeps.ite | with_reducible apply State.post_keeps | with_reducible apply State.setO_keeps | split | (with_reducible refine Keeps.of ?_ rfl rfl rfl rfl rfl rfl; first | with_reducible assumption | with_reducible apply Keeps.ite | with_reducible apply State.post_keeps | with_reducible apply State.setO_keeps | split))

theorem State.arrive_keeps {s0 : State} (n : Nat) (stamp : Beat) (hw : Bool) (a : Arrival) (pay : Option (List Byte))
    (s : State) (hK : Keeps s0 s) :
    Keeps s0 (State.arrive n stamp hw a pay s) := by
  unfold State.arrive
  repeat' (first | with_reducible assumption | intro _ | (extract_lets +onlyGivenNames x; first | ((first | refine (fun hx => ?_ : Keeps s0 x → Keeps s0 _) ?_); (on_goal 1 => clear_value x); (on_goal 2 => subst x)) | (refine (fun hx => ?_ : Keeps s0 x → Keeps s0 _) ?_; (on_goal 2 => subst x)) | clear_value x | skip) | with_reducible apply Keeps.ite | with_reducible apply State.wake_keeps | with_reducible apply State.dropPay_keeps | with_reducible apply State.mergeArrival_keeps | (with_reducible apply State.mergeArrival_keeps'; on_goal 1 => with_reducible assumption) | with_reducible apply State.stage_keeps | (with_reducible apply State.stage_keeps'; on_goal 1 => with_reducible assumption) | with_reducible apply State.stormCount_keeps | with_reducible apply State.toPending_keeps | with_reducible apply State.note_keeps | with_reducible apply State.setSrc_keeps | with_reducible apply State.bump_keeps | split | (with_reducible refine Keeps.of ?_ rfl rfl rfl rfl rfl rfl; first | with_reducible assumption | with_reducible apply Keeps.ite | with_reducible apply State.wake_keeps | with_reducible apply State.dropPay_keeps | with_reducible apply State.mergeArrival_keeps | (with_reducible apply State.mergeArrival_keeps'; on_goal 1 => with_reducible assumption) | with_reducible apply State.stage_keeps | (with_reducible apply State.stage_keeps'; on_goal 1 => with_reducible assumption) | with_reducible apply State.stormCount_keeps | with_reducible apply State.toPending_keeps | with_reducible apply State.note_keeps | with_reducible apply State.setSrc_keeps | with_reducible apply State.bump_keeps | split))

theorem State.edge_keeps {s0 : State} (n : Nat) (s : State) (hK : Keeps s0 s) :
    Keeps s0 (State.edge n s) := by
  unfold State.edge
  repeat' (first | with_reducible assumption | intro _ | with_reducible apply State.arrive_keeps | split)

theorem State.raiseInt_keeps {s0 : State} (n : Nat) (s : State) (hK : Keeps s0 s) :
    Keeps s0 (State.raiseInt n s) := by
  unfold State.raiseInt
  repeat' (first | with_reducible assumption | intro _ | with_reducible apply Keeps.ite | with_reducible apply State.edge_keeps | split)

theorem State.setPending_keeps {s0 : State} (n : Nat) (s : State) (hK : Keeps s0 s) :
    Keeps s0 (State.setPending n s) := by
  unfold State.setPending
  repeat' (first | with_reducible assumption | intro _ | with_reducible apply Keeps.ite | with_reducible apply State.arrive_keeps | split)

theorem State.clearPending_keeps {s0 : State} (n : Nat) (s : State) (hK : Keeps s0 s) :
    Keeps s0 (State.clearPending n s) := by
  unfold State.clearPending
  repeat' (first | with_reducible assumption | intro _ | (extract_lets +onlyGivenNames x; first | ((first | refine (fun hx => ?_ : Keeps s0 x → Keeps s0 _) ?_); (on_goal 1 => clear_value x); (on_goal 2 => subst x)) | (refine (fun hx => ?_ : Keeps s0 x → Keeps s0 _) ?_; (on_goal 2 => subst x)) | clear_value x | skip) | with_reducible apply State.note_keeps | with_reducible apply State.discardBuf_keeps | with_reducible apply State.setSrc_keeps | split | (with_reducible refine Keeps.of ?_ rfl rfl rfl rfl rfl rfl; first | with_reducible assumption | with_reducible apply State.note_keeps | with_reducible apply State.discardBuf_keeps | with_reducible apply State.setSrc_keeps | split))

theorem State.evalLevel_keeps {s0 : State} (n : Nat) (s : State) (hK : Keeps s0 s) :
    Keeps s0 (State.evalLevel n s) := by
  unfold State.evalLevel
  repeat' (first | with_reducible assumption | intro _ | (extract_lets +onlyGivenNames x; first | ((first | refine (fun hx => ?_ : Keeps s0 x → Keeps s0 _) ?_); (on_goal 1 => clear_value x); (on_goal 2 => subst x)) | (refine (fun hx => ?_ : Keeps s0 x → Keeps s0 _) ?_; (on_goal 2 => subst x)) | clear_value x | skip) | with_reducible apply Keeps.ite | with_reducible apply State.wake_keeps | with_reducible apply State.toPending_keeps | with_reducible apply State.note_keeps | with_reducible apply State.setSrc_keeps | with_reducible apply State.bump_keeps | split)

theorem State.release_keeps {s0 : State} (n by_ : Nat) (s : State) (hK : Keeps s0 s) :
    Keeps s0 (State.release n by_ s) := by
  unfold State.release
  repeat' (first | with_reducible assumption | intro _ | (extract_lets +onlyGivenNames x; first | ((first | refine (fun hx => ?_ : Keeps s0 x → Keeps s0 _) ?_ | refine (fun hx => ?_ : (∀ z, Keeps s0 z → Keeps s0 (x z)) → Keeps s0 _) ?_ | refine (fun hx => ?_ : (∀ a z, Keeps s0 z → Keeps s0 (x a z)) → Keeps s0 _) ?_ | refine (fun hx => ?_ : (∀ a z, Keeps s0 z → Keeps s0 (x a z).2) → Keeps s0 _) ?_ | refine (fun hx => ?_ : (∀ a c z, Keeps s0 z → Keeps s0 (x a c z)) → Keeps s0 _) ?_ | refine (fun hx => ?_ : (∀ a, Keeps s0 (x a)) → Keeps s0 _) ?_); (on_goal 1 => clear_value x); (on_goal 2 => subst x)) | (refine (fun hx => ?_ : Keeps s0 x → Keeps s0 _) ?_; (on_goal 2 => subst x)) | clear_value x | skip) | with_reducible apply Keeps.ite | with_reducible apply State.arrive_keeps | with_reducible apply State.chrQuar_keeps | with_reducible apply State.note_keeps | with_reducible apply State.setSrc_keeps | with_reducible apply_assumption | split | (with_reducible refine Keeps.of ?_ rfl rfl rfl rfl rfl rfl; first | with_reducible assumption | with_reducible apply Keeps.ite | with_reducible apply State.arrive_keeps | with_reducible apply State.chrQuar_keeps | with_reducible apply State.note_keeps | with_reducible apply State.setSrc_keeps | with_reducible apply_assumption | split) | dsimp -zeta only)

theorem State.evalLevels_keeps {s0 : State} (s : State) (hK : Keeps s0 s) :
    Keeps s0 (State.evalLevels s) := by
  unfold State.evalLevels
  repeat' (first | with_reducible assumption | intro _ | with_reducible apply each_keeps | with_reducible apply State.evalLevel_keeps | split)

theorem State.queueMirror_keeps {s0 : State} (e : MirrorEntry) (s : State) (hK : Keeps s0 s) :
    Keeps s0 (State.queueMirror e s) := by
  unfold State.queueMirror
  repeat' (first | with_reducible assumption | intro _ | with_reducible apply Keeps.ite | with_reducible apply State.dial_keeps | split | (with_reducible refine Keeps.of ?_ rfl rfl rfl rfl rfl rfl; first | with_reducible assumption | with_reducible apply Keeps.ite | with_reducible apply State.dial_keeps | split))

theorem State.flushMirror_keeps {s0 : State} (s : State) (hK : Keeps s0 s) :
    Keeps s0 (State.flushMirror s) := by
  unfold State.flushMirror
  repeat' (first | with_reducible assumption | intro _ | (extract_lets +onlyGivenNames x; first | ((first | refine (fun hx => ?_ : Keeps s0 x → Keeps s0 _) ?_); (on_goal 1 => clear_value x); (on_goal 2 => subst x)) | (refine (fun hx => ?_ : Keeps s0 x → Keeps s0 _) ?_; (on_goal 2 => subst x)) | clear_value x | skip) | with_reducible apply each_keeps | with_reducible apply Keeps.ite | with_reducible apply State.queueMirror_keeps | split | (with_reducible refine Keeps.of ?_ rfl rfl rfl rfl rfl rfl; first | with_reducible assumption | with_reducible apply each_keeps | with_reducible apply Keeps.ite | with_reducible apply State.queueMirror_keeps | split))

theorem State.sendOne_keeps {s0 : State} (s : State) (hK : Keeps s0 s) :
    Keeps s0 (State.sendOne s) := by
  unfold State.sendOne
  repeat' (first | with_reducible assumption | intro _ | (extract_lets +onlyGivenNames x; first | ((first | refine (fun hx => ?_ : Keeps s0 x → Keeps s0 _) ?_); (on_goal 1 => clear_value x); (on_goal 2 => subst x)) | (refine (fun hx => ?_ : Keeps s0 x → Keeps s0 _) ?_; (on_goal 2 => subst x)) | clear_value x | skip) | with_reducible apply Keeps.ite | with_reducible apply State.emit_keeps | split | (with_reducible refine Keeps.of ?_ rfl rfl rfl rfl rfl rfl; first | with_reducible assumption | with_reducible apply Keeps.ite | with_reducible apply State.emit_keeps | split))

theorem State.startSync_keeps {s0 : State} (s : State) (hK : Keeps s0 s) :
    Keeps s0 (State.startSync s) := by
  unfold State.startSync
  repeat' (first | with_reducible assumption | intro _ | (extract_lets +onlyGivenNames x; first | ((first | refine (fun hx => ?_ : Keeps s0 x → Keeps s0 _) ?_); (on_goal 1 => clear_value x); (on_goal 2 => subst x)) | (refine (fun hx => ?_ : Keeps s0 x → Keeps s0 _) ?_; (on_goal 2 => subst x)) | clear_value x | skip) | split | (with_reducible refine Keeps.of ?_ rfl rfl rfl rfl rfl rfl; first | with_reducible assumption | split))

theorem times_keeps {s0 : State} (f : State → State) (n : Nat) (s : State) (hf : ∀ z, Keeps s0 z → Keeps s0 (f z))
    (h : Keeps s0 s) : Keeps s0 (times f n s) := by
  induction n generalizing s with
  | zero => exact h
  | succ n ih => exact ih _ (hf _ h)

theorem State.pump_keeps {s0 : State} (s : State) (hK : Keeps s0 s) :
    Keeps s0 (State.pump s) := by
  unfold State.pump
  repeat' (first | with_reducible assumption | intro _ | with_reducible apply times_keeps | with_reducible apply times_keeps | with_reducible apply State.sendOne_keeps | split)

end Sys2Proof.Machine
end

