-- ==== Sys2Proof/Laws/KeepsDelivery.lean ====
section
/-! SUPPORT. What the operations of Machine/Delivery.lean keep. -/

set_option linter.all false

namespace Sys2Proof.Machine

open Sys2Proof

theorem State.newTag_keeps {s0 : State} (t : Nat) (s : State) (hK : Keeps s0 s) :
    Keeps s0 (State.newTag t s).2 := by
  unfold State.newTag
  repeat' (first | with_reducible assumption | intro _ | (extract_lets +onlyGivenNames x; first | ((first | refine (fun hx => ?_ : Keeps s0 x → Keeps s0 _) ?_); (on_goal 1 => clear_value x); (on_goal 2 => subst x)) | (refine (fun hx => ?_ : Keeps s0 x → Keeps s0 _) ?_; (on_goal 2 => subst x)) | clear_value x | skip) | with_reducible apply State.setTgt_keeps | split | (with_reducible refine Keeps.of ?_ rfl rfl rfl rfl rfl rfl; first | with_reducible assumption | with_reducible apply State.setTgt_keeps | split))

theorem State.newTag_keeps' {s0 tK : State} (t : Nat) (s : State) {xK : Nat} (eK : State.newTag t s = (xK, tK)) (hK : Keeps s0 s) :
    Keeps s0 tK := by
  have := State.newTag_keeps t s hK
  rw [eK] at this; exact this

theorem State.writeSpecial_keeps {s0 : State} (t tag : Nat) (a : Arrival) (s : State) (hK : Keeps s0 s) :
    Keeps s0 (State.writeSpecial t tag a s) := by
  unfold State.writeSpecial
  repeat' (first | with_reducible assumption | intro _ | with_reducible apply Keeps.ite | with_reducible apply State.setTgt_keeps | split | (with_reducible refine Keeps.of ?_ rfl rfl rfl rfl rfl rfl; first | with_reducible assumption | with_reducible apply Keeps.ite | with_reducible apply State.setTgt_keeps | split))

theorem State.deliveryWrite_keeps {s0 : State} (d : Delivery) (t : Nat) (s : State) (hK : Keeps s0 s) :
    Keeps s0 (State.deliveryWrite d t s) := by
  unfold State.deliveryWrite
  repeat' (first | with_reducible assumption | intro _ | (extract_lets +onlyGivenNames x; first | ((first | refine (fun hx => ?_ : Keeps s0 x → Keeps s0 _) ?_); (on_goal 1 => clear_value x); (on_goal 2 => subst x)) | (refine (fun hx => ?_ : Keeps s0 x → Keeps s0 _) ?_; (on_goal 2 => subst x)) | clear_value x | skip) | with_reducible apply Keeps.ite | with_reducible apply State.writeSpecial_keeps | with_reducible apply State.post_keeps | split)

theorem State.give_keeps {s0 : State} (n t grp prio : Nat) (info : Arrival) (start : Beat) (bcast claimed : Bool)
    (slot : Option Nat) (s : State) (hK : Keeps s0 s) :
    Keeps s0 (State.give n t grp prio info start bcast claimed slot s).2 := by
  unfold State.give
  repeat' (first | with_reducible assumption | intro _ | (extract_lets +onlyGivenNames x; first | ((first | refine (fun hx => ?_ : Keeps s0 x → Keeps s0 _) ?_); (on_goal 1 => clear_value x); (on_goal 2 => subst x)) | (refine (fun hx => ?_ : Keeps s0 x → Keeps s0 _) ?_; (on_goal 2 => subst x)) | clear_value x | skip) | with_reducible apply Keeps.ite | with_reducible apply State.newTag_keeps | (with_reducible apply State.newTag_keeps'; on_goal 1 => with_reducible assumption) | with_reducible apply State.bufSt_keeps | with_reducible apply State.ownBuf_keeps | with_reducible apply State.bump_keeps | split | (with_reducible refine Keeps.of ?_ rfl rfl rfl rfl rfl rfl; first | with_reducible assumption | with_reducible apply Keeps.ite | with_reducible apply State.newTag_keeps | (with_reducible apply State.newTag_keeps'; on_goal 1 => with_reducible assumption) | with_reducible apply State.bufSt_keeps | with_reducible apply State.ownBuf_keeps | with_reducible apply State.bump_keeps | split))

theorem State.give_keeps' {s0 tK : State} (n t grp prio : Nat) (info : Arrival) (start : Beat) (bcast claimed : Bool) (slot : Option Nat) (s : State) {xK : Delivery} (eK : State.give n t grp prio info start bcast claimed slot s = (xK, tK)) (hK : Keeps s0 s) :
    Keeps s0 tK := by
  have := State.give_keeps n t grp prio info start bcast claimed slot s hK
  rw [eK] at this; exact this

theorem State.takePending_keeps {s0 : State} (n t : Nat) (claimed : Bool) (slot : Option Nat) (s : State) (hK : Keeps
    s0 s) :
    Keeps s0 (State.takePending n t claimed slot s).2 := by
  unfold State.takePending
  repeat' (first | with_reducible assumption | intro _ | (extract_lets +onlyGivenNames x; first | ((first | refine (fun hx => ?_ : Keeps s0 x → Keeps s0 _) ?_); (on_goal 1 => clear_value x); (on_goal 2 => subst x)) | (refine (fun hx => ?_ : Keeps s0 x → Keeps s0 _) ?_; (on_goal 2 => subst x)) | clear_value x | skip) | with_reducible apply Keeps.ite | with_reducible apply State.give_keeps | (with_reducible apply State.give_keeps'; on_goal 1 => with_reducible assumption) | with_reducible apply State.note_keeps | with_reducible apply State.setSrc_keeps | split | (with_reducible refine Keeps.of ?_ rfl rfl rfl rfl rfl rfl; first | with_reducible assumption | with_reducible apply Keeps.ite | with_reducible apply State.give_keeps | (with_reducible apply State.give_keeps'; on_goal 1 => with_reducible assumption) | with_reducible apply State.note_keeps | with_reducible apply State.setSrc_keeps | split))

theorem State.takePending_keeps' {s0 tK : State} (n t : Nat) (claimed : Bool) (slot : Option Nat) (s : State) {xK : Delivery} (eK : State.takePending n t claimed slot s = (xK, tK)) (hK : Keeps s0 s) :
    Keeps s0 tK := by
  have := State.takePending_keeps n t claimed slot s hK
  rw [eK] at this; exact this

theorem State.issue_keeps {s0 : State} (n t : Nat) (s : State) (hK : Keeps s0 s) :
    Keeps s0 (State.issue n t s) := by
  unfold State.issue
  repeat' (first | with_reducible assumption | intro _ | (extract_lets +onlyGivenNames x; first | ((first | refine (fun hx => ?_ : Keeps s0 x → Keeps s0 _) ?_); (on_goal 1 => clear_value x); (on_goal 2 => subst x)) | (refine (fun hx => ?_ : Keeps s0 x → Keeps s0 _) ?_; (on_goal 2 => subst x)) | clear_value x | skip) | with_reducible apply State.takePending_keeps | (with_reducible apply State.takePending_keeps'; on_goal 1 => with_reducible assumption) | with_reducible apply State.deliveryWrite_keeps | split)

theorem State.issueForward_keeps {s0 : State} (n e : Nat) (s : State) (hK : Keeps s0 s) :
    Keeps s0 (State.issueForward n e s) := by
  unfold State.issueForward
  repeat' (first | with_reducible assumption | intro _ | (extract_lets +onlyGivenNames x; first | ((first | refine (fun hx => ?_ : Keeps s0 x → Keeps s0 _) ?_); (on_goal 1 => clear_value x); (on_goal 2 => subst x)) | (refine (fun hx => ?_ : Keeps s0 x → Keeps s0 _) ?_; (on_goal 2 => subst x)) | clear_value x | skip) | with_reducible apply State.note_keeps | with_reducible apply State.bufSt_keeps | with_reducible apply State.setEsc_keeps | with_reducible apply State.setSrc_keeps | split | (with_reducible refine Keeps.of ?_ rfl rfl rfl rfl rfl rfl; first | with_reducible assumption | with_reducible apply State.note_keeps | with_reducible apply State.bufSt_keeps | with_reducible apply State.setEsc_keeps | with_reducible apply State.setSrc_keeps | split))

theorem State.issueTo_keeps {s0 : State} (from_ e t : Nat) (s : State) (hK : Keeps s0 s) :
    Keeps s0 (State.issueTo from_ e t s) := by
  unfold State.issueTo
  repeat' (first | with_reducible assumption | intro _ | with_reducible apply Keeps.ite | with_reducible apply State.issueForward_keeps | with_reducible apply State.issue_keeps | with_reducible apply State.setEsc_keeps | split | (with_reducible refine Keeps.of ?_ rfl rfl rfl rfl rfl rfl; first | with_reducible assumption | with_reducible apply Keeps.ite | with_reducible apply State.issueForward_keeps | with_reducible apply State.issue_keeps | with_reducible apply State.setEsc_keeps | split))

theorem State.dropDlv_keeps {s0 : State} (d : Delivery) (s : State) (hK : Keeps s0 s) :
    Keeps s0 (State.dropDlv d s) := by
  unfold State.dropDlv
  repeat' (first | with_reducible assumption | intro _ | split | (with_reducible refine Keeps.of ?_ rfl rfl rfl rfl rfl rfl; first | with_reducible assumption | split))

theorem State.unhold_keeps {s0 : State} (b : Option Nat) (t : Nat) (s : State) (hK : Keeps s0 s) :
    Keeps s0 (State.unhold b t s) := by
  unfold State.unhold
  repeat' (first | with_reducible assumption | intro _ | (extract_lets +onlyGivenNames x; first | ((first | refine (fun hx => ?_ : Keeps s0 x → Keeps s0 _) ?_); (on_goal 1 => clear_value x); (on_goal 2 => subst x)) | (refine (fun hx => ?_ : Keeps s0 x → Keeps s0 _) ?_; (on_goal 2 => subst x)) | clear_value x | skip) | with_reducible apply State.setBuf_keeps | split | (with_reducible refine Keeps.of ?_ rfl rfl rfl rfl rfl rfl; first | with_reducible assumption | with_reducible apply State.setBuf_keeps | split))

theorem State.withdraw_keeps {s0 : State} (code : Nat) (d : Delivery) (s : State) (hK : Keeps s0 s) :
    Keeps s0 (State.withdraw code d s) := by
  unfold State.withdraw
  repeat' (first | with_reducible assumption | intro _ | (extract_lets +onlyGivenNames x; first | ((first | refine (fun hx => ?_ : Keeps s0 x → Keeps s0 _) ?_); (on_goal 1 => clear_value x); (on_goal 2 => subst x)) | (refine (fun hx => ?_ : Keeps s0 x → Keeps s0 _) ?_; (on_goal 2 => subst x)) | clear_value x | skip) | with_reducible apply Keeps.ite | with_reducible apply State.dropDlv_keeps | with_reducible apply State.bcastState_keeps | with_reducible apply State.backToPending_keeps | with_reducible apply State.note_keeps | with_reducible apply State.bufSt_keeps | with_reducible apply State.setSrc_keeps | split | (with_reducible refine Keeps.of ?_ rfl rfl rfl rfl rfl rfl; first | with_reducible assumption | with_reducible apply Keeps.ite | with_reducible apply State.dropDlv_keeps | with_reducible apply State.bcastState_keeps | with_reducible apply State.backToPending_keeps | with_reducible apply State.note_keeps | with_reducible apply State.bufSt_keeps | with_reducible apply State.setSrc_keeps | split))

theorem State.withdrawEnd_keeps {s0 : State} (d : Delivery) (s : State) (hK : Keeps s0 s) :
    Keeps s0 (State.withdrawEnd d s) := by
  unfold State.withdrawEnd
  repeat' (first | with_reducible assumption | intro _ | (extract_lets +onlyGivenNames x; first | ((first | refine (fun hx => ?_ : Keeps s0 x → Keeps s0 _) ?_); (on_goal 1 => clear_value x); (on_goal 2 => subst x)) | (refine (fun hx => ?_ : Keeps s0 x → Keeps s0 _) ?_; (on_goal 2 => subst x)) | clear_value x | skip) | with_reducible apply Keeps.ite | with_reducible apply State.withdraw_keeps | with_reducible apply State.dropDlv_keeps | with_reducible apply State.memberEnded_keeps | with_reducible apply State.note_keeps | with_reducible apply State.checkBuf_keeps | split)

theorem State.revoke_keeps {s0 : State} (d : Delivery) (s : State) (hK : Keeps s0 s) :
    Keeps s0 (State.revoke d s) := by
  unfold State.revoke
  repeat' (first | with_reducible assumption | intro _ | (extract_lets +onlyGivenNames x; first | ((first | refine (fun hx => ?_ : Keeps s0 x → Keeps s0 _) ?_); (on_goal 1 => clear_value x); (on_goal 2 => subst x)) | (refine (fun hx => ?_ : Keeps s0 x → Keeps s0 _) ?_; (on_goal 2 => subst x)) | clear_value x | skip) | with_reducible apply Keeps.ite | with_reducible apply State.unhold_keeps | with_reducible apply State.dropDlv_keeps | with_reducible apply State.give_keeps | (with_reducible apply State.give_keeps'; on_goal 1 => with_reducible assumption) | with_reducible apply State.deliveryWrite_keeps | with_reducible apply State.memberEnded_keeps | with_reducible apply State.backToPending_keeps | with_reducible apply State.choose_keeps | (with_reducible apply State.choose_keeps'; on_goal 1 => with_reducible assumption) | with_reducible apply State.note_keeps | with_reducible apply State.revokeBuf_keeps | with_reducible apply State.checkBuf_keeps | with_reducible apply State.setSrc_keeps | with_reducible apply State.bump_keeps | split | (with_reducible refine Keeps.of ?_ rfl rfl rfl rfl rfl rfl; first | with_reducible assumption | with_reducible apply Keeps.ite | with_reducible apply State.unhold_keeps | with_reducible apply State.dropDlv_keeps | with_reducible apply State.give_keeps | (with_reducible apply State.give_keeps'; on_goal 1 => with_reducible assumption) | with_reducible apply State.deliveryWrite_keeps | with_reducible apply State.memberEnded_keeps | with_reducible apply State.backToPending_keeps | with_reducible apply State.choose_keeps | (with_reducible apply State.choose_keeps'; on_goal 1 => with_reducible assumption) | with_reducible apply State.note_keeps | with_reducible apply State.revokeBuf_keeps | with_reducible apply State.checkBuf_keeps | with_reducible apply State.setSrc_keeps | with_reducible apply State.bump_keeps | split))

theorem State.ended_keeps {s0 : State} (d : Delivery) (s : State) (hK : Keeps s0 s) :
    Keeps s0 (State.ended d s) := by
  unfold State.ended
  repeat' (first | with_reducible assumption | intro _ | (extract_lets +onlyGivenNames x; first | ((first | refine (fun hx => ?_ : Keeps s0 x → Keeps s0 _) ?_); (on_goal 1 => clear_value x); (on_goal 2 => subst x)) | (refine (fun hx => ?_ : Keeps s0 x → Keeps s0 _) ?_; (on_goal 2 => subst x)) | clear_value x | skip) | with_reducible apply Keeps.ite | with_reducible apply State.dropDlv_keeps | with_reducible apply State.memberEnded_keeps | with_reducible apply State.outcome_keeps | with_reducible apply State.note_keeps | with_reducible apply State.checkBuf_keeps | split)

theorem State.isolate_keeps {s0 : State} (d : Delivery) (s : State) (hK : Keeps s0 s) :
    Keeps s0 (State.isolate d s) := by
  unfold State.isolate
  repeat' (first | with_reducible assumption | intro _ | (extract_lets +onlyGivenNames x; first | ((first | refine (fun hx => ?_ : Keeps s0 x → Keeps s0 _) ?_); (on_goal 1 => clear_value x); (on_goal 2 => subst x)) | (refine (fun hx => ?_ : Keeps s0 x → Keeps s0 _) ?_; (on_goal 2 => subst x)) | clear_value x | skip) | with_reducible apply Keeps.ite | with_reducible apply State.ended_keeps | with_reducible apply State.withdrawEnd_keeps | with_reducible apply State.checkBuf_keeps | with_reducible apply State.setBuf_keeps | with_reducible apply State.bump_keeps | split | (with_reducible refine Keeps.of ?_ rfl rfl rfl rfl rfl rfl; first | with_reducible assumption | with_reducible apply Keeps.ite | with_reducible apply State.ended_keeps | with_reducible apply State.withdrawEnd_keeps | with_reducible apply State.checkBuf_keeps | with_reducible apply State.setBuf_keeps | with_reducible apply State.bump_keeps | split))

theorem State.sample_keeps {s0 : State} (d : Delivery) (t : Nat) (s : State) (hK : Keeps s0 s) :
    Keeps s0 (State.sample d t s) := by
  unfold State.sample
  repeat' (first | with_reducible assumption | intro _ | (extract_lets +onlyGivenNames x; first | ((first | refine (fun hx => ?_ : Keeps s0 x → Keeps s0 _) ?_); (on_goal 1 => clear_value x); (on_goal 2 => subst x)) | (refine (fun hx => ?_ : Keeps s0 x → Keeps s0 _) ?_; (on_goal 2 => subst x)) | clear_value x | skip) | with_reducible apply Keeps.ite | with_reducible apply State.setTgt_keeps | with_reducible apply State.bump_keeps | with_reducible apply State.setO_keeps | split | (with_reducible refine Keeps.of ?_ rfl rfl rfl rfl rfl rfl; first | with_reducible assumption | with_reducible apply Keeps.ite | with_reducible apply State.setTgt_keeps | with_reducible apply State.bump_keeps | with_reducible apply State.setO_keeps | split))

theorem State.completeCore_keeps {s0 : State} (t : Nat) (v : Dw) (s : State) (hK : Keeps s0 s) :
    Keeps s0 (State.completeCore t v s) := by
  unfold State.completeCore
  repeat' (first | with_reducible assumption | intro _ | (extract_lets +onlyGivenNames x; first | ((first | refine (fun hx => ?_ : Keeps s0 x → Keeps s0 _) ?_); (on_goal 1 => clear_value x); (on_goal 2 => subst x)) | (refine (fun hx => ?_ : Keeps s0 x → Keeps s0 _) ?_; (on_goal 2 => subst x)) | clear_value x | skip) | with_reducible apply State.sample_keeps | with_reducible apply State.ended_keeps | with_reducible apply State.bump_keeps | split)

theorem State.freedBy_keeps {s0 : State} (i t : Nat) (s : State) (hK : Keeps s0 s) :
    Keeps s0 (State.freedBy i t s) := by
  unfold State.freedBy
  repeat' (first | with_reducible assumption | intro _ | with_reducible apply Keeps.ite | split | (with_reducible refine Keeps.of ?_ rfl rfl rfl rfl rfl rfl; first | with_reducible assumption | with_reducible apply Keeps.ite | split))

theorem State.freeCore_keeps {s0 : State} (t : Nat) (h : Dw) (s : State) (hK : Keeps s0 s) :
    Keeps s0 (State.freeCore t h s) := by
  unfold State.freeCore
  repeat' (first | with_reducible assumption | intro _ | (extract_lets +onlyGivenNames x; first | ((first | refine (fun hx => ?_ : Keeps s0 x → Keeps s0 _) ?_); (on_goal 1 => clear_value x); (on_goal 2 => subst x)) | (refine (fun hx => ?_ : Keeps s0 x → Keeps s0 _) ?_; (on_goal 2 => subst x)) | clear_value x | skip) | with_reducible apply Keeps.ite | with_reducible apply State.freedBy_keeps | with_reducible apply State.checkBuf_keeps | with_reducible apply State.dial_keeps | with_reducible apply State.setBuf_keeps | with_reducible apply State.setTgt_keeps | with_reducible apply State.bump_keeps | split | (with_reducible refine Keeps.of ?_ rfl rfl rfl rfl rfl rfl; first | with_reducible assumption | with_reducible apply Keeps.ite | with_reducible apply State.freedBy_keeps | with_reducible apply State.checkBuf_keeps | with_reducible apply State.dial_keeps | with_reducible apply State.setBuf_keeps | with_reducible apply State.setTgt_keeps | with_reducible apply State.bump_keeps | split))

theorem State.claimRegs_keeps {s0 : State} (d : Delivery) (t : Nat) (s : State) (hK : Keeps s0 s) :
    Keeps s0 (State.claimRegs d t s) := by
  unfold State.claimRegs
  repeat' (first | with_reducible assumption | intro _ | (extract_lets +onlyGivenNames x; first | ((first | refine (fun hx => ?_ : Keeps s0 x → Keeps s0 _) ?_); (on_goal 1 => clear_value x); (on_goal 2 => subst x)) | (refine (fun hx => ?_ : Keeps s0 x → Keeps s0 _) ?_; (on_goal 2 => subst x)) | clear_value x | skip) | with_reducible apply State.writeSpecial_keeps | with_reducible apply State.setTgt_keeps | split | (with_reducible refine Keeps.of ?_ rfl rfl rfl rfl rfl rfl; first | with_reducible assumption | with_reducible apply State.writeSpecial_keeps | with_reducible apply State.setTgt_keeps | split))

theorem State.answerClaim_keeps {s0 : State} (fn t : Nat) (wide : Bool) (d : Delivery) (s : State) (hK : Keeps s0 s) :
    Keeps s0 (State.answerClaim fn t wide d s) := by
  unfold State.answerClaim
  repeat' (first | with_reducible assumption | intro _ | (extract_lets +onlyGivenNames x; first | ((first | refine (fun hx => ?_ : Keeps s0 x → Keeps s0 _) ?_); (on_goal 1 => clear_value x); (on_goal 2 => subst x)) | (refine (fun hx => ?_ : Keeps s0 x → Keeps s0 _) ?_; (on_goal 2 => subst x)) | clear_value x | skip) | with_reducible apply Keeps.ite | with_reducible apply State.claimRegs_keeps | with_reducible apply State.post_keeps | split)

theorem State.acceptDlv_keeps {s0 : State} (d : Delivery) (t : Nat) (s : State) (hK : Keeps s0 s) :
    Keeps s0 (State.acceptDlv d t s).2 := by
  unfold State.acceptDlv
  repeat' (first | with_reducible assumption | intro _ | (extract_lets +onlyGivenNames x; first | ((first | refine (fun hx => ?_ : Keeps s0 x → Keeps s0 _) ?_); (on_goal 1 => clear_value x); (on_goal 2 => subst x)) | (refine (fun hx => ?_ : Keeps s0 x → Keeps s0 _) ?_; (on_goal 2 => subst x)) | clear_value x | skip) | with_reducible apply Keeps.ite | with_reducible apply State.note_keeps | with_reducible apply State.ownBuf_keeps | with_reducible apply State.setSrc_keeps | split | (with_reducible refine Keeps.of ?_ rfl rfl rfl rfl rfl rfl; first | with_reducible assumption | with_reducible apply Keeps.ite | with_reducible apply State.note_keeps | with_reducible apply State.ownBuf_keeps | with_reducible apply State.setSrc_keeps | split))

theorem State.acceptDlv_keeps' {s0 tK : State} (d : Delivery) (t : Nat) (s : State) {xK : Delivery} (eK : State.acceptDlv d t s = (xK, tK)) (hK : Keeps s0 s) :
    Keeps s0 tK := by
  have := State.acceptDlv_keeps d t s hK
  rw [eK] at this; exact this

theorem State.countClaim_keeps {s0 : State} (t : Nat) (s : State) (hK : Keeps s0 s) :
    Keeps s0 (State.countClaim t s) := by
  unfold State.countClaim
  repeat' (first | with_reducible assumption | intro _ | (extract_lets +onlyGivenNames x; first | ((first | refine (fun hx => ?_ : Keeps s0 x → Keeps s0 _) ?_); (on_goal 1 => clear_value x); (on_goal 2 => subst x)) | (refine (fun hx => ?_ : Keeps s0 x → Keeps s0 _) ?_; (on_goal 2 => subst x)) | clear_value x | skip) | with_reducible apply State.setTgt_keeps | with_reducible apply State.bump_keeps | split | (with_reducible refine Keeps.of ?_ rfl rfl rfl rfl rfl rfl; first | with_reducible assumption | with_reducible apply State.setTgt_keeps | with_reducible apply State.bump_keeps | split))

theorem State.claimCore_keeps {s0 : State} (fn t : Nat) (wide : Bool) (s : State) (hK : Keeps s0 s) :
    Keeps s0 (State.claimCore fn t wide s) := by
  unfold State.claimCore
  repeat' (first | with_reducible assumption | intro _ | (extract_lets +onlyGivenNames x; first | ((first | refine (fun hx => ?_ : Keeps s0 x → Keeps s0 _) ?_ | refine (fun hx => ?_ : (∀ z, Keeps s0 z → Keeps s0 (x z)) → Keeps s0 _) ?_ | refine (fun hx => ?_ : (∀ a z, Keeps s0 z → Keeps s0 (x a z)) → Keeps s0 _) ?_ | refine (fun hx => ?_ : (∀ a z, Keeps s0 z → Keeps s0 (x a z).2) → Keeps s0 _) ?_ | refine (fun hx => ?_ : (∀ a c z, Keeps s0 z → Keeps s0 (x a c z)) → Keeps s0 _) ?_ | refine (fun hx => ?_ : (∀ a, Keeps s0 (x a)) → Keeps s0 _) ?_); (on_goal 1 => clear_value x); (on_goal 2 => subst x)) | (refine (fun hx => ?_ : Keeps s0 x → Keeps s0 _) ?_; (on_goal 2 => subst x)) | clear_value x | skip) | with_reducible apply Keeps.ite | with_reducible apply State.countClaim_keeps | with_reducible apply State.acceptDlv_keeps | (with_reducible apply State.acceptDlv_keeps'; on_goal 1 => with_reducible assumption) | with_reducible apply State.answerClaim_keeps | with_reducible apply State.withdraw_keeps | with_reducible apply State.takePending_keeps | (with_reducible apply State.takePending_keeps'; on_goal 1 => with_reducible assumption) | with_reducible apply State.post_keeps | with_reducible apply State.bump_keeps | with_reducible apply_assumption | split | dsimp -zeta only)

theorem State.thresholdCore_keeps {s0 : State} (t : Nat) (s : State) (hK : Keeps s0 s) :
    Keeps s0 (State.thresholdCore t s) := by
  unfold State.thresholdCore
  repeat' (first | with_reducible assumption | intro _ | with_reducible apply each_keeps | with_reducible apply State.withdraw_keeps | with_reducible apply State.bump_keeps | split)

theorem State.timeoutCore_keeps {s0 : State} (t tag : Nat) (s : State) (hK : Keeps s0 s) :
    Keeps s0 (State.timeoutCore t tag s) := by
  unfold State.timeoutCore
  repeat' (first | with_reducible assumption | intro _ | (extract_lets +onlyGivenNames x; first | ((first | refine (fun hx => ?_ : Keeps s0 x → Keeps s0 _) ?_); (on_goal 1 => clear_value x); (on_goal 2 => subst x)) | (refine (fun hx => ?_ : Keeps s0 x → Keeps s0 _) ?_; (on_goal 2 => subst x)) | clear_value x | skip) | with_reducible apply State.revoke_keeps | with_reducible apply State.setTgt_keeps | with_reducible apply State.bump_keeps | split | (with_reducible refine Keeps.of ?_ rfl rfl rfl rfl rfl rfl; first | with_reducible assumption | with_reducible apply State.revoke_keeps | with_reducible apply State.setTgt_keeps | with_reducible apply State.bump_keeps | split))

theorem State.quarRevoke_keeps {s0 : State} (t : Nat) (s : State) (hK : Keeps s0 s) :
    Keeps s0 (State.quarRevoke t s) := by
  unfold State.quarRevoke
  repeat' (first | with_reducible assumption | intro _ | with_reducible apply each_keeps | with_reducible apply State.revoke_keeps | split)

theorem State.quarFlags_keeps {s0 : State} (t src : Nat) (s : State) (hK : Keeps s0 s) :
    Keeps s0 (State.quarFlags t src s) := by
  unfold State.quarFlags
  repeat' (first | with_reducible assumption | intro _ | (extract_lets +onlyGivenNames x; first | ((first | refine (fun hx => ?_ : Keeps s0 x → Keeps s0 _) ?_); (on_goal 1 => clear_value x); (on_goal 2 => subst x)) | (refine (fun hx => ?_ : Keeps s0 x → Keeps s0 _) ?_; (on_goal 2 => subst x)) | clear_value x | skip) | with_reducible apply Keeps.ite | with_reducible apply State.chrQuar_keeps | with_reducible apply State.setTgt_keeps | with_reducible apply State.setO_keeps | split | (with_reducible refine Keeps.of ?_ rfl rfl rfl rfl rfl rfl; first | with_reducible assumption | with_reducible apply Keeps.ite | with_reducible apply State.chrQuar_keeps | with_reducible apply State.setTgt_keeps | with_reducible apply State.setO_keeps | split))

theorem State.unquarantine_keeps {s0 : State} (t by_ : Nat) (s : State) (hK : Keeps s0 s) :
    Keeps s0 (State.unquarantine t by_ s) := by
  unfold State.unquarantine
  repeat' (first | with_reducible assumption | intro _ | (extract_lets +onlyGivenNames x; first | ((first | refine (fun hx => ?_ : Keeps s0 x → Keeps s0 _) ?_); (on_goal 1 => clear_value x); (on_goal 2 => subst x)) | (refine (fun hx => ?_ : Keeps s0 x → Keeps s0 _) ?_; (on_goal 2 => subst x)) | clear_value x | skip) | with_reducible apply Keeps.ite | with_reducible apply State.chrQuar_keeps | with_reducible apply State.becameEligible_keeps | with_reducible apply State.setTgt_keeps | with_reducible apply State.setO_keeps | split | (with_reducible refine Keeps.of ?_ rfl rfl rfl rfl rfl rfl; first | with_reducible assumption | with_reducible apply Keeps.ite | with_reducible apply State.chrQuar_keeps | with_reducible apply State.becameEligible_keeps | with_reducible apply State.setTgt_keeps | with_reducible apply State.setO_keeps | split))

theorem State.outOfService_keeps {s0 : State} (e : Nat) (ts : List Nat) (s : State) (hK : Keeps s0 s) :
    Keeps s0 (State.outOfService e ts s) := by
  unfold State.outOfService
  repeat' (first | with_reducible assumption | intro _ | with_reducible apply each_keeps | with_reducible apply State.setTgt_keeps | split | (with_reducible refine Keeps.of ?_ rfl rfl rfl rfl rfl rfl; first | with_reducible assumption | with_reducible apply each_keeps | with_reducible apply State.setTgt_keeps | split))

theorem State.withdrawTarget_keeps {s0 : State} (t : Nat) (s : State) (hK : Keeps s0 s) :
    Keeps s0 (State.withdrawTarget t s) := by
  unfold State.withdrawTarget
  repeat' (first | with_reducible assumption | intro _ | (extract_lets +onlyGivenNames x; first | ((first | refine (fun hx => ?_ : Keeps s0 x → Keeps s0 _) ?_); (on_goal 1 => clear_value x); (on_goal 2 => subst x)) | (refine (fun hx => ?_ : Keeps s0 x → Keeps s0 _) ?_; (on_goal 2 => subst x)) | clear_value x | skip) | with_reducible apply each_keeps | with_reducible apply Keeps.ite | with_reducible apply State.revoke_keeps | with_reducible apply State.withdrawEnd_keeps | with_reducible apply State.leaveTarget_keeps | split)

theorem State.resetRevoke_keeps {s0 : State} (e : Nat) (s : State) (hK : Keeps s0 s) :
    Keeps s0 (State.resetRevoke e s) := by
  unfold State.resetRevoke
  repeat' (first | with_reducible assumption | intro _ | with_reducible apply each_keeps | with_reducible apply State.revoke_keeps | split)

theorem State.syncCore_keeps {s0 : State} (e lo hi : Nat) (late : Bool) (s : State) (hK : Keeps s0 s) :
    Keeps s0 (State.syncCore e lo hi late s) := by
  unfold State.syncCore
  repeat' (first | with_reducible assumption | intro _ | (extract_lets +onlyGivenNames x; first | ((first | refine (fun hx => ?_ : Keeps s0 x → Keeps s0 _) ?_); (on_goal 1 => clear_value x); (on_goal 2 => subst x)) | (refine (fun hx => ?_ : Keeps s0 x → Keeps s0 _) ?_; (on_goal 2 => subst x)) | clear_value x | skip) | with_reducible apply each_keeps | with_reducible apply Keeps.ite | with_reducible apply State.issue_keeps | with_reducible apply State.setEsc_keeps | with_reducible apply State.setSrc_keeps | with_reducible apply State.bump_keeps | split | (with_reducible refine Keeps.of ?_ rfl rfl rfl rfl rfl rfl; first | with_reducible assumption | with_reducible apply each_keeps | with_reducible apply Keeps.ite | with_reducible apply State.issue_keeps | with_reducible apply State.setEsc_keeps | with_reducible apply State.setSrc_keeps | with_reducible apply State.bump_keeps | split))

theorem State.mismatch_keeps {s0 : State} (e : Nat) (i : Instr) (s : State) (hK : Keeps s0 s) :
    Keeps s0 (State.mismatch e i s) := by
  unfold State.mismatch
  repeat' (first | with_reducible assumption | intro _ | (extract_lets +onlyGivenNames x; first | ((first | refine (fun hx => ?_ : Keeps s0 x → Keeps s0 _) ?_); (on_goal 1 => clear_value x); (on_goal 2 => subst x)) | (refine (fun hx => ?_ : Keeps s0 x → Keeps s0 _) ?_; (on_goal 2 => subst x)) | clear_value x | skip) | with_reducible apply State.dial_keeps | with_reducible apply State.setEsc_keeps | with_reducible apply State.bump_keeps | split | (with_reducible refine Keeps.of ?_ rfl rfl rfl rfl rfl rfl; first | with_reducible assumption | with_reducible apply State.dial_keeps | with_reducible apply State.setEsc_keeps | with_reducible apply State.bump_keeps | split))

theorem State.revokeForward_keeps {s0 : State} (d : Delivery) (s : State) (hK : Keeps s0 s) :
    Keeps s0 (State.revokeForward d s) := by
  unfold State.revokeForward
  repeat' (first | with_reducible assumption | intro _ | (extract_lets +onlyGivenNames x; first | ((first | refine (fun hx => ?_ : Keeps s0 x → Keeps s0 _) ?_); (on_goal 1 => clear_value x); (on_goal 2 => subst x)) | (refine (fun hx => ?_ : Keeps s0 x → Keeps s0 _) ?_; (on_goal 2 => subst x)) | clear_value x | skip) | with_reducible apply State.dropDlv_keeps | with_reducible apply State.backToPending_keeps | with_reducible apply State.note_keeps | with_reducible apply State.revokeBuf_keeps | with_reducible apply State.setSrc_keeps | split | (with_reducible refine Keeps.of ?_ rfl rfl rfl rfl rfl rfl; first | with_reducible assumption | with_reducible apply State.dropDlv_keeps | with_reducible apply State.backToPending_keeps | with_reducible apply State.note_keeps | with_reducible apply State.revokeBuf_keeps | with_reducible apply State.setSrc_keeps | split))

theorem State.drainWithdraw_keeps {s0 : State} (e : Nat) (s : State) (hK : Keeps s0 s) :
    Keeps s0 (State.drainWithdraw e s) := by
  unfold State.drainWithdraw
  repeat' (first | with_reducible assumption | intro _ | with_reducible apply each_keeps | with_reducible apply State.withdraw_keeps | with_reducible apply State.bump_keeps | split)

theorem State.claimDecision_keeps {s0 : State} (fn t : Nat) (wide mm : Bool) (i : Instr) (s : State) (hK : Keeps s0 s) :
    Keeps s0 (State.claimDecision fn t wide mm i s) := by
  unfold State.claimDecision
  repeat' (first | with_reducible assumption | intro _ | (extract_lets +onlyGivenNames x; first | ((first | refine (fun hx => ?_ : Keeps s0 x → Keeps s0 _) ?_); (on_goal 1 => clear_value x); (on_goal 2 => subst x)) | (refine (fun hx => ?_ : Keeps s0 x → Keeps s0 _) ?_; (on_goal 2 => subst x)) | clear_value x | skip) | with_reducible apply Keeps.ite | with_reducible apply State.mismatch_keeps | with_reducible apply State.claimCore_keeps | with_reducible apply State.setEsc_keeps | split | (with_reducible refine Keeps.of ?_ rfl rfl rfl rfl rfl rfl; first | with_reducible assumption | with_reducible apply Keeps.ite | with_reducible apply State.mismatch_keeps | with_reducible apply State.claimCore_keeps | with_reducible apply State.setEsc_keeps | split))

theorem State.decide_keeps {s0 : State} (i : Instr) (s : State) (hK : Keeps s0 s) :
    Keeps s0 (State.decide i s) := by
  unfold State.decide
  repeat' (first | with_reducible assumption | intro _ | with_reducible apply each_keeps | with_reducible apply State.claimDecision_keeps | with_reducible apply State.drainWithdraw_keeps | with_reducible apply State.revokeForward_keeps | with_reducible apply State.syncCore_keeps | with_reducible apply State.resetRevoke_keeps | with_reducible apply State.quarRevoke_keeps | with_reducible apply State.timeoutCore_keeps | with_reducible apply State.thresholdCore_keeps | with_reducible apply State.completeCore_keeps | with_reducible apply State.issueTo_keeps | split)

theorem State.letGo_keeps {s0 : State} (s : State) (hK : Keeps s0 s) :
    Keeps s0 (State.letGo s) := by
  unfold State.letGo
  repeat' (first | with_reducible assumption | intro _ | with_reducible apply each_keeps | with_reducible apply Keeps.ite | with_reducible apply State.decide_keeps | split | (with_reducible refine Keeps.of ?_ rfl rfl rfl rfl rfl rfl; first | with_reducible assumption | with_reducible apply each_keeps | with_reducible apply Keeps.ite | with_reducible apply State.decide_keeps | split))

theorem State.failPair_keeps {s0 : State} (p : Nat) (undecided : Instr) (s : State) (hK : Keeps s0 s) :
    Keeps s0 (State.failPair p undecided s) := by
  unfold State.failPair
  repeat' (first | with_reducible assumption | intro _ | (extract_lets +onlyGivenNames x; first | ((first | refine (fun hx => ?_ : Keeps s0 x → Keeps s0 _) ?_); (on_goal 1 => clear_value x); (on_goal 2 => subst x)) | (refine (fun hx => ?_ : Keeps s0 x → Keeps s0 _) ?_; (on_goal 2 => subst x)) | clear_value x | skip) | with_reducible apply each_keeps | with_reducible apply State.letGo_keeps | with_reducible apply State.decide_keeps | with_reducible apply State.withdrawTarget_keeps | with_reducible apply State.outOfService_keeps | with_reducible apply State.fault_keeps | with_reducible apply State.setEsc_keeps | with_reducible apply State.bump_keeps | split | (with_reducible refine Keeps.of ?_ rfl rfl rfl rfl rfl rfl; first | with_reducible assumption | with_reducible apply each_keeps | with_reducible apply State.letGo_keeps | with_reducible apply State.decide_keeps | with_reducible apply State.withdrawTarget_keeps | with_reducible apply State.outOfService_keeps | with_reducible apply State.fault_keeps | with_reducible apply State.setEsc_keeps | with_reducible apply State.bump_keeps | split))

theorem State.retryCore_keeps {s0 : State} (e : Nat) (mm : Bool) (s : State) (hK : Keeps s0 s) :
    Keeps s0 (State.retryCore e mm s) := by
  unfold State.retryCore
  repeat' (first | with_reducible assumption | intro _ | (extract_lets +onlyGivenNames x; first | ((first | refine (fun hx => ?_ : Keeps s0 x → Keeps s0 _) ?_); (on_goal 1 => clear_value x); (on_goal 2 => subst x)) | (refine (fun hx => ?_ : Keeps s0 x → Keeps s0 _) ?_; (on_goal 2 => subst x)) | clear_value x | skip) | with_reducible apply Keeps.ite | with_reducible apply State.failPair_keeps | with_reducible apply State.letGo_keeps | with_reducible apply State.decide_keeps | with_reducible apply State.dial_keeps | with_reducible apply State.setEsc_keeps | with_reducible apply State.bump_keeps | split | (with_reducible refine Keeps.of ?_ rfl rfl rfl rfl rfl rfl; first | with_reducible assumption | with_reducible apply Keeps.ite | with_reducible apply State.failPair_keeps | with_reducible apply State.letGo_keeps | with_reducible apply State.decide_keeps | with_reducible apply State.dial_keeps | with_reducible apply State.setEsc_keeps | with_reducible apply State.bump_keeps | split))

theorem State.migrateEnd_keeps {s0 : State} (p : Nat) (s : State) (hK : Keeps s0 s) :
    Keeps s0 (State.migrateEnd p s) := by
  unfold State.migrateEnd
  repeat' (first | with_reducible assumption | intro _ | (extract_lets +onlyGivenNames x; first | ((first | refine (fun hx => ?_ : Keeps s0 x → Keeps s0 _) ?_); (on_goal 1 => clear_value x); (on_goal 2 => subst x)) | (refine (fun hx => ?_ : Keeps s0 x → Keeps s0 _) ?_; (on_goal 2 => subst x)) | clear_value x | skip) | with_reducible apply each_keeps | with_reducible apply Keeps.ite | with_reducible apply State.letGo_keeps | with_reducible apply State.decide_keeps | with_reducible apply State.setEsc_keeps | with_reducible apply State.setTgt_keeps | split | (with_reducible refine Keeps.of ?_ rfl rfl rfl rfl rfl rfl; first | with_reducible assumption | with_reducible apply each_keeps | with_reducible apply Keeps.ite | with_reducible apply State.letGo_keeps | with_reducible apply State.decide_keeps | with_reducible apply State.setEsc_keeps | with_reducible apply State.setTgt_keeps | split))

end Sys2Proof.Machine
end

