-- ==== Sys2Proof/Laws/KeepsBeats.lean ====
section
/-! SUPPORT. What the operations of Machine/Beats.lean keep. -/

set_option linter.all false

namespace Sys2Proof.Machine

open Sys2Proof

theorem State.setFilt_keeps {s0 : State} (n : Nat) (x : Filt) (s : State) (hK : Keeps s0 s) :
    Keeps s0 (State.setFilt n x s) := by
  unfold State.setFilt
  repeat' (first | with_reducible assumption | intro _ | split | (with_reducible refine Keeps.of ?_ rfl rfl rfl rfl rfl rfl; first | with_reducible assumption | split))

theorem State.filtTurn_keeps {s0 : State} (n : Nat) (s : State) (hK : Keeps s0 s) :
    Keeps s0 (State.filtTurn n s) := by
  unfold State.filtTurn
  repeat' (first | with_reducible assumption | intro _ | (extract_lets +onlyGivenNames x; first | ((first | refine (fun hx => ?_ : Keeps s0 x → Keeps s0 _) ?_); (on_goal 1 => clear_value x); (on_goal 2 => subst x)) | (refine (fun hx => ?_ : Keeps s0 x → Keeps s0 _) ?_; (on_goal 2 => subst x)) | clear_value x | skip) | with_reducible apply Keeps.ite | with_reducible apply State.setFilt_keeps | with_reducible apply State.sample_keeps | split | (with_reducible refine Keeps.of ?_ rfl rfl rfl rfl rfl rfl; first | with_reducible assumption | with_reducible apply Keeps.ite | with_reducible apply State.setFilt_keeps | with_reducible apply State.sample_keeps | split))

theorem State.filtTurns_keeps {s0 : State} (s : State) (hK : Keeps s0 s) :
    Keeps s0 (State.filtTurns s) := by
  unfold State.filtTurns
  repeat' (first | with_reducible assumption | intro _ | with_reducible apply each_keeps | with_reducible apply State.filtTurn_keeps | split)

theorem State.sampled_keeps {s0 : State} (n : Nat) (level : Bool) (since : Nat) (s : State) (hK : Keeps s0 s) :
    Keeps s0 (State.sampled n level since s) := by
  unfold State.sampled
  repeat' (first | with_reducible assumption | intro _ | (extract_lets +onlyGivenNames x; first | ((first | refine (fun hx => ?_ : Keeps s0 x → Keeps s0 _) ?_); (on_goal 1 => clear_value x); (on_goal 2 => subst x)) | (refine (fun hx => ?_ : Keeps s0 x → Keeps s0 _) ?_; (on_goal 2 => subst x)) | clear_value x | skip) | with_reducible apply Keeps.ite | with_reducible apply State.setFilt_keeps | with_reducible apply State.sample_keeps | split | (with_reducible refine Keeps.of ?_ rfl rfl rfl rfl rfl rfl; first | with_reducible assumption | with_reducible apply Keeps.ite | with_reducible apply State.setFilt_keeps | with_reducible apply State.sample_keeps | split))

theorem State.filtRestart_keeps {s0 : State} (n : Nat) (s : State) (hK : Keeps s0 s) :
    Keeps s0 (State.filtRestart n s) := by
  unfold State.filtRestart
  repeat' (first | with_reducible assumption | intro _ | with_reducible apply State.setFilt_keeps | split | (with_reducible refine Keeps.of ?_ rfl rfl rfl rfl rfl rfl; first | with_reducible assumption | with_reducible apply State.setFilt_keeps | split))

theorem State.lateNow_keeps {s0 : State} (s : State) (hK : Keeps s0 s) :
    Keeps s0 (State.lateNow s) := by
  unfold State.lateNow
  repeat' (first | with_reducible assumption | intro _ | (extract_lets +onlyGivenNames x; first | ((first | refine (fun hx => ?_ : Keeps s0 x → Keeps s0 _) ?_); (on_goal 1 => clear_value x); (on_goal 2 => subst x)) | (refine (fun hx => ?_ : Keeps s0 x → Keeps s0 _) ?_; (on_goal 2 => subst x)) | clear_value x | skip) | with_reducible apply each_keeps | with_reducible apply State.arrive_keeps | split | (with_reducible refine Keeps.of ?_ rfl rfl rfl rfl rfl rfl; first | with_reducible assumption | with_reducible apply each_keeps | with_reducible apply State.arrive_keeps | split))

theorem State.hwRow_keeps {s0 : State} (s : State) (hK : Keeps s0 s) :
    Keeps s0 (State.hwRow s) := by
  unfold State.hwRow
  repeat' (first | with_reducible assumption | intro _ | (extract_lets +onlyGivenNames x; first | ((first | refine (fun hx => ?_ : Keeps s0 x → Keeps s0 _) ?_); (on_goal 1 => clear_value x); (on_goal 2 => subst x)) | (refine (fun hx => ?_ : Keeps s0 x → Keeps s0 _) ?_; (on_goal 2 => subst x)) | clear_value x | skip) | with_reducible apply each_keeps | with_reducible apply State.arrive_keeps | split | (with_reducible refine Keeps.of ?_ rfl rfl rfl rfl rfl rfl; first | with_reducible assumption | with_reducible apply each_keeps | with_reducible apply State.arrive_keeps | split))

theorem State.row8_keeps {s0 : State} (s : State) (hK : Keeps s0 s) :
    Keeps s0 (State.row8 s) := by
  unfold State.row8
  repeat' (first | with_reducible assumption | intro _ | with_reducible apply State.hwRow_keeps | with_reducible apply State.letGo_keeps | with_reducible apply State.evalLevels_keeps | split)

theorem State.pairGo_keeps {s0 : State} (collide : Bool) (s : State) (hK : Keeps s0 s) :
    Keeps s0 (State.pairGo collide s) := by
  unfold State.pairGo
  repeat' (first | with_reducible assumption | intro _ | (extract_lets +onlyGivenNames x; first | ((first | refine (fun hx => ?_ : Keeps s0 x → Keeps s0 _) ?_); (on_goal 1 => clear_value x); (on_goal 2 => subst x)) | (refine (fun hx => ?_ : Keeps s0 x → Keeps s0 _) ?_; (on_goal 2 => subst x)) | clear_value x | skip) | with_reducible apply Keeps.ite | with_reducible apply State.emit_keeps | with_reducible apply State.draw_keeps | (with_reducible apply State.draw_keeps'; on_goal 1 => with_reducible assumption) | with_reducible apply State.bump_keeps | split | (with_reducible refine Keeps.of ?_ rfl rfl rfl rfl rfl rfl; first | with_reducible assumption | with_reducible apply Keeps.ite | with_reducible apply State.emit_keeps | with_reducible apply State.draw_keeps | (with_reducible apply State.draw_keeps'; on_goal 1 => with_reducible assumption) | with_reducible apply State.bump_keeps | split))

theorem State.pairPut_keeps {s0 : State} (kind : Nat) (arg : Dw) (collide : Bool) (s : State) (hK : Keeps s0 s) :
    Keeps s0 (State.pairPut kind arg collide s) := by
  unfold State.pairPut
  repeat' (first | with_reducible assumption | intro _ | with_reducible apply Keeps.ite | with_reducible apply State.pairGo_keeps | split | (with_reducible refine Keeps.of ?_ rfl rfl rfl rfl rfl rfl; first | with_reducible assumption | with_reducible apply Keeps.ite | with_reducible apply State.pairGo_keeps | split))

theorem State.endBeat_keeps {s0 : State} (s : State) (hK : Keeps s0 s) :
    Keeps s0 (State.endBeat s) := by
  unfold State.endBeat
  repeat' (first | with_reducible assumption | intro _ | (extract_lets +onlyGivenNames x; first | ((first | refine (fun hx => ?_ : Keeps s0 x → Keeps s0 _) ?_); (on_goal 1 => clear_value x); (on_goal 2 => subst x)) | (refine (fun hx => ?_ : Keeps s0 x → Keeps s0 _) ?_; (on_goal 2 => subst x)) | clear_value x | skip) | with_reducible apply each_keeps | with_reducible apply State.pairGo_keeps | with_reducible apply State.row8_keeps | with_reducible apply State.pump_keeps | with_reducible apply State.flushMirror_keeps | with_reducible apply State.dialTurn_keeps | split | (with_reducible refine Keeps.of ?_ rfl rfl rfl rfl rfl rfl; first | with_reducible assumption | with_reducible apply each_keeps | with_reducible apply State.pairGo_keeps | with_reducible apply State.row8_keeps | with_reducible apply State.pump_keeps | with_reducible apply State.flushMirror_keeps | with_reducible apply State.dialTurn_keeps | split))

theorem State.beginBeat_keeps {s0 : State} (s : State) (hK : Keeps s0 s) :
    Keeps s0 (State.beginBeat s) := by
  unfold State.beginBeat
  repeat' (first | with_reducible assumption | intro _ | (extract_lets +onlyGivenNames x; first | ((first | refine (fun hx => ?_ : Keeps s0 x → Keeps s0 _) ?_); (on_goal 1 => clear_value x); (on_goal 2 => subst x)) | (refine (fun hx => ?_ : Keeps s0 x → Keeps s0 _) ?_; (on_goal 2 => subst x)) | clear_value x | skip) | with_reducible apply State.filtTurns_keeps | split | (with_reducible refine Keeps.of ?_ rfl rfl rfl rfl rfl rfl; first | with_reducible assumption | with_reducible apply State.filtTurns_keeps | split))

theorem State.tickTo_keeps {s0 : State} (b : Nat) (s : State) (h : Keeps s0 s) : Keeps s0 (s.tickTo b) := by
  have hw (e : Nat × Nat) (z : State) (hz : Keeps s0 z) : Keeps s0 { z with obj := smSet dfltKey z.obj e.1 e.2 } :=
    ⟨hz.pending, hz.now, fun hs => ⟨smWf_set _ (hz.sound hs).1, (hz.sound hs).2⟩⟩
  unfold State.tickTo
  split
  · exact h
  · have hp : Keeps s0 s.endBeat := State.endBeat_keeps _ h
    have hn : s0.now ≤ b := le_trans h.now (by omega)
    generalize s.endBeat = z at hp ⊢
    refine State.beginBeat_keeps _ (each_keeps _ _ _ hw ?_)
    generalize z.time.pass _ _ _ = y
    exact ⟨hp.pending, hn, hp.sound⟩

theorem settle_keeps {s0 : State} (f b : Nat) (s : State) (h : Keeps s0 s) : Keeps s0 (settle f b s) := by
  induction f generalizing s with
  | zero => exact h
  | succ f ih => unfold settle; split; exact h; exact ih _ (State.tickTo_keeps _ _ h)

theorem passTo_keeps {s0 : State} (f b : Nat) (s : State) (h : Keeps s0 s) : Keeps s0 (passTo f b s) := by
  induction f generalizing s with
  | zero => exact State.tickTo_keeps _ _ h
  | succ f ih =>
    have h1 := settle_keeps 4 b s h
    unfold passTo; dsimp only; split; exact h1; exact ih _ (State.tickTo_keeps _ _ h1)

theorem State.toBeat_keeps {s0 : State} (b : Nat) (s : State) (hK : Keeps s0 s) :
    Keeps s0 (State.toBeat b s) := by
  unfold State.toBeat
  repeat' (first | with_reducible assumption | intro _ | with_reducible apply passTo_keeps | split)

theorem State.syncLive_keeps {s0 : State} (s : State) (hK : Keeps s0 s) :
    Keeps s0 (State.syncLive s) := by
  unfold State.syncLive
  repeat' (first | with_reducible assumption | intro _ | with_reducible apply Keeps.ite | with_reducible apply State.bk_keeps | split | (with_reducible refine Keeps.of ?_ rfl rfl rfl rfl rfl rfl; first | with_reducible assumption | with_reducible apply Keeps.ite | with_reducible apply State.bk_keeps | split))

theorem State.fwdWake_keeps {s0 : State} (s : State) (hK : Keeps s0 s) :
    Keeps s0 (State.fwdWake s) := by
  unfold State.fwdWake
  repeat' (first | with_reducible assumption | intro _ | with_reducible apply Keeps.ite | with_reducible apply State.pairPut_keeps | split | (with_reducible refine Keeps.of ?_ rfl rfl rfl rfl rfl rfl; first | with_reducible assumption | with_reducible apply Keeps.ite | with_reducible apply State.pairPut_keeps | split))

theorem State.upTo_keeps {s0 : State} (b : Nat) (s : State) (hK : Keeps s0 s) :
    Keeps s0 (State.upTo b s) := by
  unfold State.upTo
  repeat' (first | with_reducible assumption | intro _ | with_reducible apply State.fwdWake_keeps | with_reducible apply State.syncLive_keeps | with_reducible apply State.toBeat_keeps | with_reducible apply State.hwRow_keeps | split)

theorem State.upToReq_keeps {s0 : State} (b : Nat) (s : State) (hK : Keeps s0 s) :
    Keeps s0 (State.upToReq b s) := by
  unfold State.upToReq
  repeat' (first | with_reducible assumption | intro _ | (extract_lets +onlyGivenNames x; first | ((first | refine (fun hx => ?_ : Keeps s0 x → Keeps s0 _) ?_); (on_goal 1 => clear_value x); (on_goal 2 => subst x)) | (refine (fun hx => ?_ : Keeps s0 x → Keeps s0 _) ?_; (on_goal 2 => subst x)) | clear_value x | skip) | with_reducible apply State.upTo_keeps | split | (with_reducible refine Keeps.of ?_ rfl rfl rfl rfl rfl rfl; first | with_reducible assumption | with_reducible apply State.upTo_keeps | split))

end Sys2Proof.Machine
end

