-- ==== Sys2Proof/Laws/EngineOps.lean ====
section
/-! SUPPORT. What the shared engine operations leave: the end of an instruction, a register write, a frame discarded. -/

set_option linter.all false

namespace Sys2Proof.Machine

open Sys2Proof

/-- Time leaves the engines alone. -/
theorem State.engAt_upTo (b m : Nat) (s : State) : (s.upTo b).engAt m = s.engAt m := by
  unfold State.engAt; rw [(State.upTo_still b s (Still.refl s)).eng]

theorem State.now_tickTo (b : Nat) (s : State) : b ≤ (s.tickTo b).now := by
  unfold State.tickTo
  split
  · assumption
  · refine le_trans ?_ (State.beginBeat_keeps _ (Keeps.refl _)).now
    have (l : List (Nat × Nat)) (z : State) : (each (fun (e : Nat × Nat) (s : State) => { s with obj := smSet dfltKey s.obj e.1 e.2 }) l z).now = z.now := by
      induction l generalizing z with
      | nil => rfl
      | cons a l ih => exact ih _
    rw [this]

theorem now_passTo (f b : Nat) (s : State) : b ≤ (passTo f b s).now := by
  induction f generalizing s with
  | zero => exact State.now_tickTo b s
  | succ f ih =>
    unfold passTo
    dsimp only
    split
    · assumption
    · exact ih _

/-- Time passes to the beat. -/
theorem State.now_upTo (b : Nat) (s : State) : b ≤ (s.upTo b).now := by
  have h : b ≤ (s.toBeat b).now := now_passTo _ b s
  have k := (State.syncLive_keeps _ (State.fwdWake_keeps _ (State.hwRow_keeps _ (Keeps.refl (s.toBeat b))))).now
  exact le_trans h k

theorem State.engAt_engEnd (n c : Nat) (j : Option Nat) (upd : Engine → Engine) (s : State) :
    (∃ d, (s.engEnd n c j upd).engAt n = match j with
      | some a => { upd (s.engAt n) with pc := a % 256, fetched := none, doneAt := d }
      | none => { upd (s.engAt n) with pc := ((upd (s.engAt n)).pc + 1) % 256, fetched := some (s.progWord n ((s.engAt n).pc + 1)), fetchedBad := s.wordBad n ((s.engAt n).pc + 1), doneAt := d }) := by
  refine ⟨(s.engAt n).doneAt + 8 * c, ?_⟩
  unfold State.engEnd
  dsimp only
  rw [State.engAt_setEng, State.engAt_upTo]
  cases j <;> rfl

theorem State.engAt_engEnd_ne (n c : Nat) (j : Option Nat) (upd : Engine → Engine) (s : State) (m : Nat) (h : m ≠ n) : (s.engEnd n c j upd).engAt m = s.engAt m := by
  unfold State.engEnd
  dsimp only
  rw [State.engAt_setEng_ne _ _ h, State.engAt_upTo]

theorem State.engEnd_same (n c : Nat) (j : Option Nat) (upd : Engine → Engine) (s : State) : (s.engEnd n c j upd).port = s.port ∧ (s.engEnd n c j upd).flash = s.flash := by
  unfold State.engEnd
  have h := State.upTo_still ((s.engAt n).doneAt + 8 * c) s (Still.refl s)
  exact ⟨h.port, h.flash⟩

theorem Engine.reg_setReg (e : Engine) (k : Nat) (r : Dw) : (e.setReg k r).reg k = r := smGet_set_same _ _ _ _

theorem Engine.reg_setReg_ne (e : Engine) (k m : Nat) (r : Dw) (h : m ≠ k) : (e.setReg k r).reg m = e.reg m := smGet_set_other _ _ _ h

theorem getLsbD_or_twoPow (c : BitVec 128) (p i : Nat) (hp : p < 128) : (c ||| BitVec.twoPow 128 p).getLsbD i = (c.getLsbD i || decide (i = p)) := by
  simp only [BitVec.getLsbD_or, BitVec.getLsbD_twoPow]
  by_cases h : p = i
  · subst h; simp [hp]
  · have h' : ¬ i = p := fun e => h e.symm
    simp [h, h']

theorem State.engAt_goStale (n : Nat) (z : State) : (z.goStale n).engAt n = { z.engAt n with stale := true } := by
      unfold State.goStale
      dsimp only
      split
      · exact State.engAt_setEng _ _ _
      · refine Eq.trans ?_ (State.engAt_setEng n { z.engAt n with stale := true } z)
        unfold State.engAt
        rw [State.dial_eng]; rfl

theorem State.engAt_discardFrame (n : Nat) (z : State) : ∃ b, (z.discardFrame n).engAt n
    = { z.engAt n with stale := b, frame := false, aborted := false, overshot := false, cp := 0, cap := 0 } := by
  unfold State.discardFrame
  dsimp only
  rw [State.engAt_setEng]
  split
  · rw [State.engAt_goStale]; exact ⟨_, rfl⟩
  · exact ⟨_, rfl⟩

/-- Levels on the balls leave the engines alone. -/
theorem State.engAt_balls (n m : Nat) (l : List Out) (z : State) : (z.balls n l).engAt m = z.engAt m := by
  have h (l : List Out) (z : State) : (each State.emit l z).engAt m = z.engAt m := by
    induction l generalizing z with
    | nil => rfl
    | cons o t ih => exact ih _
  unfold State.balls
  split
  · exact h _ _
  · rfl

/-- An engine that becomes idle: its frame is discarded, DOUT is low, nothing waits; a pending swap takes place (R92). -/
theorem State.engAt_engIdle (n : Nat) (how : EngRun) (z : State) : ∃ b, (z.engIdle n how).engAt n
    = (let e := { z.engAt n with
        stale := b, frame := false, aborted := false, overshot := false, cp := 0, cap := 0, dout := false, run := how
        shifting := none, resume := false, waitHold := false, waitBeat := false, waitUntil := none, fetched := none }
      if e.swapPending then e.swap else e) := by
  obtain ⟨b, h⟩ := State.engAt_discardFrame n z
  unfold State.engIdle State.doutIdle
  dsimp only
  rw [State.engAt_setEng, State.engAt_balls, State.engAt_setEng, h]
  exact ⟨b, rfl⟩

end Sys2Proof.Machine
end

