-- ==== Sys2Proof/Laws/Forms.lean ====
section
/-! SUPPORT. What a command of each shared form makes of the state it meets, when its operands are in range and it is taken. -/

set_option linter.all false

namespace Sys2Proof.Machine

open Sys2Proof

/-- A dictionary row that the dictionary takes. -/
theorem dict_takes {s : State} {b pr idx el v e : Nat} {mm : Bool} (hr : (decide (pr < 32) && decide (el < 65536) && decide (v < 256 ^ typeSize (typeOf idx))) = true)
    (h : (s.atReq b).takes pr idx el v e) : dict_ b pr idx el v mm s = .next ((if idx < 0x2000 then (s.atReq b).actLow idx e v mm else (s.atReq b).actHigh pr idx e v mm).2.answer
        (if idx < 0x2000 then (s.atReq b).actLow idx e v mm else (s.atReq b).actHigh pr idx e v mm).1) := by
  unfold dict_; rw [run_ok hr]; exact congrArg _ (State.dictRow_takes mm h)

/-- A memory request that its function takes. -/
theorem mem_takes {s : State} {b fn : Nat} {ok rd : Bool} {i : Instr} {f : State → State} (hr : (ok && decide (fn < 32)) = true)
    (hi : ringsOnly i = false) (h : (s.atMem b).takesMem fn) : mem_ b fn ok rd i f s = .next (f (s.atMem b)) := by
  unfold mem_; rw [run_ok hr]; exact congrArg _ (State.memReq_takes _ _ _ hi h)

/-- A register write that its function takes. -/
theorem req_takes {s : State} {b fn f' : Nat} {ok rd : Bool} {i : Instr} {f : State → State} (hr : (ok && decide (fn < 32)) = true)
    (hi : ringsOnly i = false) (hm : memOp i = some (f', rd, f)) (h : (s.atMem b).takesMem f') :
    req_ b fn ok i s = .next (f (s.atMem b)) := by
  unfold req_; rw [run_ok hr]; simp only [State.request, hm]; exact congrArg _ (State.memReq_takes _ _ _ hi h)

/-- A doorbell write that its function takes. -/
theorem req_rings {s : State} {b fn f' : Nat} {ok rd : Bool} {i : Instr} {f : State → State} (hr : (ok && decide (fn < 32)) = true)
    (hi : ringsOnly i = true) (hm : memOp i = some (f', rd, f)) (h : (s.atBell b).takesMem f') :
    req_ b fn ok i s = .next (f (s.atBell b)) := by
  unfold req_; rw [run_ok hr]; simp only [State.request, hm]; exact congrArg _ (State.memReq_rings _ _ _ hi h)

/-- A command of the management port. -/
theorem nr_runs {s : State} {b : Nat} {ok : Bool} {f : State → State} (hr : ok = true) : nr_ b ok f s = .next (f (s.nrTo b)) := run_ok hr

/-- A command of the block itself or of its pins. -/
theorem at_runs {s : State} {b : Nat} {ok : Bool} {f : State → State} (hr : ok = true) : at_ b ok f s = .next (f (s.upTo b)) := run_ok hr

end Sys2Proof.Machine
end

