-- ==== Sys2Proof/Laws/KeepsEngines.lean ====
section
/-! SUPPORT. What the operations of Machine/Engines.lean keep. -/

set_option linter.all false

namespace Sys2Proof.Machine

open Sys2Proof

theorem State.setProg_keeps {s0 : State} (el : Nat) (v : Dw) (s : State) (hK : Keeps s0 s) :
    Keeps s0 (State.setProg el v s) := by
  unfold State.setProg
  repeat' (first | with_reducible assumption | intro _ | with_reducible apply State.setO_keeps | split | (with_reducible refine Keeps.of ?_ rfl rfl rfl rfl rfl rfl; first | with_reducible assumption | with_reducible apply State.setO_keeps | split))

theorem State.goStale_keeps {s0 : State} (n : Nat) (s : State) (hK : Keeps s0 s) :
    Keeps s0 (State.goStale n s) := by
  unfold State.goStale
  repeat' (first | with_reducible assumption | intro _ | (extract_lets +onlyGivenNames x; first | ((first | refine (fun hx => ?_ : Keeps s0 x → Keeps s0 _) ?_); (on_goal 1 => clear_value x); (on_goal 2 => subst x)) | (refine (fun hx => ?_ : Keeps s0 x → Keeps s0 _) ?_; (on_goal 2 => subst x)) | clear_value x | skip) | with_reducible apply Keeps.ite | with_reducible apply State.dial_keeps | with_reducible apply State.setEng_keeps | with_reducible apply State.bump_keeps | split | (with_reducible refine Keeps.of ?_ rfl rfl rfl rfl rfl rfl; first | with_reducible assumption | with_reducible apply Keeps.ite | with_reducible apply State.dial_keeps | with_reducible apply State.setEng_keeps | with_reducible apply State.bump_keeps | split))

theorem State.balls_keeps {s0 : State} (n : Nat) (l : List Out) (s : State) (hK : Keeps s0 s) :
    Keeps s0 (State.balls n l s) := by
  unfold State.balls
  repeat' (first | with_reducible assumption | intro _ | with_reducible apply each_keeps | with_reducible apply Keeps.ite | with_reducible apply State.emit_keeps | split)

theorem State.doutIdle_keeps {s0 : State} (n : Nat) (s : State) (hK : Keeps s0 s) :
    Keeps s0 (State.doutIdle n s) := by
  unfold State.doutIdle
  repeat' (first | with_reducible assumption | intro _ | (extract_lets +onlyGivenNames x; first | ((first | refine (fun hx => ?_ : Keeps s0 x → Keeps s0 _) ?_); (on_goal 1 => clear_value x); (on_goal 2 => subst x)) | (refine (fun hx => ?_ : Keeps s0 x → Keeps s0 _) ?_; (on_goal 2 => subst x)) | clear_value x | skip) | with_reducible apply State.balls_keeps | with_reducible apply State.setEng_keeps | split | (with_reducible refine Keeps.of ?_ rfl rfl rfl rfl rfl rfl; first | with_reducible assumption | with_reducible apply State.balls_keeps | with_reducible apply State.setEng_keeps | split))

theorem State.discardFrame_keeps {s0 : State} (n : Nat) (s : State) (hK : Keeps s0 s) :
    Keeps s0 (State.discardFrame n s) := by
  unfold State.discardFrame
  repeat' (first | with_reducible assumption | intro _ | (extract_lets +onlyGivenNames x; first | ((first | refine (fun hx => ?_ : Keeps s0 x → Keeps s0 _) ?_); (on_goal 1 => clear_value x); (on_goal 2 => subst x)) | (refine (fun hx => ?_ : Keeps s0 x → Keeps s0 _) ?_; (on_goal 2 => subst x)) | clear_value x | skip) | with_reducible apply Keeps.ite | with_reducible apply State.goStale_keeps | with_reducible apply State.setEng_keeps | split | (with_reducible refine Keeps.of ?_ rfl rfl rfl rfl rfl rfl; first | with_reducible assumption | with_reducible apply Keeps.ite | with_reducible apply State.goStale_keeps | with_reducible apply State.setEng_keeps | split))

theorem State.publish_keeps {s0 : State} (n : Nat) (bits : BitVec 128) (s : State) (hK : Keeps s0 s) :
    Keeps s0 (State.publish n bits s) := by
  unfold State.publish
  repeat' (first | with_reducible assumption | intro _ | (extract_lets +onlyGivenNames x; first | ((first | refine (fun hx => ?_ : Keeps s0 x → Keeps s0 _) ?_); (on_goal 1 => clear_value x); (on_goal 2 => subst x)) | (refine (fun hx => ?_ : Keeps s0 x → Keeps s0 _) ?_; (on_goal 2 => subst x)) | clear_value x | skip) | with_reducible apply each_keeps | with_reducible apply Keeps.ite | with_reducible apply State.edge_keeps | with_reducible apply State.setEng_keeps | split | (with_reducible refine Keeps.of ?_ rfl rfl rfl rfl rfl rfl; first | with_reducible assumption | with_reducible apply each_keeps | with_reducible apply Keeps.ite | with_reducible apply State.edge_keeps | with_reducible apply State.setEng_keeps | split))

theorem State.engIdle_keeps {s0 : State} (n : Nat) (how : EngRun) (s : State) (hK : Keeps s0 s) :
    Keeps s0 (State.engIdle n how s) := by
  unfold State.engIdle
  repeat' (first | with_reducible assumption | intro _ | (extract_lets +onlyGivenNames x; first | ((first | refine (fun hx => ?_ : Keeps s0 x → Keeps s0 _) ?_); (on_goal 1 => clear_value x); (on_goal 2 => subst x)) | (refine (fun hx => ?_ : Keeps s0 x → Keeps s0 _) ?_; (on_goal 2 => subst x)) | clear_value x | skip) | with_reducible apply Keeps.ite | with_reducible apply State.discardFrame_keeps | with_reducible apply State.doutIdle_keeps | with_reducible apply State.setEng_keeps | split | (with_reducible refine Keeps.of ?_ rfl rfl rfl rfl rfl rfl; first | with_reducible assumption | with_reducible apply Keeps.ite | with_reducible apply State.discardFrame_keeps | with_reducible apply State.doutIdle_keeps | with_reducible apply State.setEng_keeps | split))

theorem State.engFault_keeps {s0 : State} (n code info : Nat) (s : State) (hK : Keeps s0 s) :
    Keeps s0 (State.engFault n code info s) := by
  unfold State.engFault
  repeat' (first | with_reducible assumption | intro _ | (extract_lets +onlyGivenNames x; first | ((first | refine (fun hx => ?_ : Keeps s0 x → Keeps s0 _) ?_); (on_goal 1 => clear_value x); (on_goal 2 => subst x)) | (refine (fun hx => ?_ : Keeps s0 x → Keeps s0 _) ?_; (on_goal 2 => subst x)) | clear_value x | skip) | with_reducible apply State.engIdle_keeps | with_reducible apply State.fault_keeps | with_reducible apply State.setO_keeps | split)

theorem State.engStart_keeps {s0 : State} (n : Nat) (s : State) (hK : Keeps s0 s) :
    Keeps s0 (State.engStart n s) := by
  unfold State.engStart
  repeat' (first | with_reducible assumption | intro _ | with_reducible apply Keeps.ite | with_reducible apply State.setEng_keeps | split)

theorem State.engStop_keeps {s0 : State} (n : Nat) (s : State) (hK : Keeps s0 s) :
    Keeps s0 (State.engStop n s) := by
  unfold State.engStop
  repeat' (first | with_reducible assumption | intro _ | with_reducible apply Keeps.ite | with_reducible apply State.engIdle_keeps | split)

theorem State.engSwapReq_keeps {s0 : State} (n : Nat) (s : State) (hK : Keeps s0 s) :
    Keeps s0 (State.engSwapReq n s) := by
  unfold State.engSwapReq
  repeat' (first | with_reducible assumption | intro _ | (extract_lets +onlyGivenNames x; first | ((first | refine (fun hx => ?_ : Keeps s0 x → Keeps s0 _) ?_); (on_goal 1 => clear_value x); (on_goal 2 => subst x)) | (refine (fun hx => ?_ : Keeps s0 x → Keeps s0 _) ?_; (on_goal 2 => subst x)) | clear_value x | skip) | with_reducible apply Keeps.ite | with_reducible apply State.setEng_keeps | split | (with_reducible refine Keeps.of ?_ rfl rfl rfl rfl rfl rfl; first | with_reducible assumption | with_reducible apply Keeps.ite | with_reducible apply State.setEng_keeps | split))

theorem State.engSwapCancel_keeps {s0 : State} (n : Nat) (s : State) (hK : Keeps s0 s) :
    Keeps s0 (State.engSwapCancel n s) := by
  unfold State.engSwapCancel
  repeat' (first | with_reducible assumption | intro _ | with_reducible apply State.setEng_keeps | split | (with_reducible refine Keeps.of ?_ rfl rfl rfl rfl rfl rfl; first | with_reducible assumption | with_reducible apply State.setEng_keeps | split))

theorem State.engSwapForce_keeps {s0 : State} (n : Nat) (s : State) (hK : Keeps s0 s) :
    Keeps s0 (State.engSwapForce n s) := by
  unfold State.engSwapForce
  repeat' (first | with_reducible assumption | intro _ | (extract_lets +onlyGivenNames x; first | ((first | refine (fun hx => ?_ : Keeps s0 x → Keeps s0 _) ?_); (on_goal 1 => clear_value x); (on_goal 2 => subst x)) | (refine (fun hx => ?_ : Keeps s0 x → Keeps s0 _) ?_; (on_goal 2 => subst x)) | clear_value x | skip) | with_reducible apply Keeps.ite | with_reducible apply State.discardFrame_keeps | with_reducible apply State.setEng_keeps | split | (with_reducible refine Keeps.of ?_ rfl rfl rfl rfl rfl rfl; first | with_reducible assumption | with_reducible apply Keeps.ite | with_reducible apply State.discardFrame_keeps | with_reducible apply State.setEng_keeps | split))

theorem State.disablePort_keeps {s0 : State} (n : Nat) (s : State) (hK : Keeps s0 s) :
    Keeps s0 (State.disablePort n s) := by
  unfold State.disablePort
  repeat' (first | with_reducible assumption | intro _ | (extract_lets +onlyGivenNames x; first | ((first | refine (fun hx => ?_ : Keeps s0 x → Keeps s0 _) ?_); (on_goal 1 => clear_value x); (on_goal 2 => subst x)) | (refine (fun hx => ?_ : Keeps s0 x → Keeps s0 _) ?_; (on_goal 2 => subst x)) | clear_value x | skip) | with_reducible apply State.engIdle_keeps | with_reducible apply State.setEng_keeps | split | (with_reducible refine Keeps.of ?_ rfl rfl rfl rfl rfl rfl; first | with_reducible assumption | with_reducible apply State.engIdle_keeps | with_reducible apply State.setEng_keeps | split))

theorem State.engEvent_keeps {s0 : State} (n k : Nat) (s : State) (hK : Keeps s0 s) :
    Keeps s0 (State.engEvent n k s) := by
  unfold State.engEvent
  repeat' (first | with_reducible assumption | intro _ | (extract_lets +onlyGivenNames x; first | ((first | refine (fun hx => ?_ : Keeps s0 x → Keeps s0 _) ?_); (on_goal 1 => clear_value x); (on_goal 2 => subst x)) | (refine (fun hx => ?_ : Keeps s0 x → Keeps s0 _) ?_; (on_goal 2 => subst x)) | clear_value x | skip) | with_reducible apply Keeps.ite | with_reducible apply State.setEng_keeps | with_reducible apply State.bump_keeps | split | (with_reducible refine Keeps.of ?_ rfl rfl rfl rfl rfl rfl; first | with_reducible assumption | with_reducible apply Keeps.ite | with_reducible apply State.setEng_keeps | with_reducible apply State.bump_keeps | split))

theorem State.engBell_keeps {s0 : State} (n : Nat) (v : Dw) (s : State) (hK : Keeps s0 s) :
    Keeps s0 (State.engBell n v s) := by
  unfold State.engBell
  repeat' (first | with_reducible assumption | intro _ | with_reducible apply State.engEvent_keeps | with_reducible apply State.setEng_keeps | split | (with_reducible refine Keeps.of ?_ rfl rfl rfl rfl rfl rfl; first | with_reducible assumption | with_reducible apply State.engEvent_keeps | with_reducible apply State.setEng_keeps | split))

theorem State.engEntry_keeps {s0 : State} (n b : Nat) (s : State) (hK : Keeps s0 s) :
    Keeps s0 (State.engEntry n b s) := by
  unfold State.engEntry
  repeat' (first | with_reducible assumption | intro _ | (extract_lets +onlyGivenNames x; first | ((first | refine (fun hx => ?_ : Keeps s0 x → Keeps s0 _) ?_); (on_goal 1 => clear_value x); (on_goal 2 => subst x)) | (refine (fun hx => ?_ : Keeps s0 x → Keeps s0 _) ?_; (on_goal 2 => subst x)) | clear_value x | skip) | with_reducible apply Keeps.ite | with_reducible apply State.upTo_keeps | with_reducible apply State.setEng_keeps | split | (with_reducible refine Keeps.of ?_ rfl rfl rfl rfl rfl rfl; first | with_reducible assumption | with_reducible apply Keeps.ite | with_reducible apply State.upTo_keeps | with_reducible apply State.setEng_keeps | split))

theorem State.clearRegParity_keeps {s0 : State} (n k : Nat) (s : State) (hK : Keeps s0 s) :
    Keeps s0 (State.clearRegParity n k s) := by
  unfold State.clearRegParity
  repeat' (first | with_reducible assumption | intro _ | split | (with_reducible refine Keeps.of ?_ rfl rfl rfl rfl rfl rfl; first | with_reducible assumption | split))

theorem State.engDo_keeps {s0 : State} (n b op : Nat) (f : Engine → Dw → State → State) (s : State) (hf : ∀ a c z,
    Keeps s0 z → Keeps s0 (f a c z)) (hK : Keeps s0 s) :
    Keeps s0 (State.engDo n b op f s) := by
  unfold State.engDo
  repeat' (first | with_reducible assumption | intro _ | (extract_lets +onlyGivenNames x; first | ((first | refine (fun hx => ?_ : Keeps s0 x → Keeps s0 _) ?_); (on_goal 1 => clear_value x); (on_goal 2 => subst x)) | (refine (fun hx => ?_ : Keeps s0 x → Keeps s0 _) ?_; (on_goal 2 => subst x)) | clear_value x | skip) | with_reducible apply Keeps.ite | with_reducible apply State.engFault_keeps | with_reducible apply State.upTo_keeps | with_reducible apply State.setEng_keeps | with_reducible apply_assumption | split | (with_reducible refine Keeps.of ?_ rfl rfl rfl rfl rfl rfl; first | with_reducible assumption | with_reducible apply Keeps.ite | with_reducible apply State.engFault_keeps | with_reducible apply State.upTo_keeps | with_reducible apply State.setEng_keeps | with_reducible apply_assumption | split))

theorem State.engEnd_keeps {s0 : State} (n cycles : Nat) (jump : Option Nat) (upd : Engine → Engine) (s : State) (hK
    : Keeps s0 s) :
    Keeps s0 (State.engEnd n cycles jump upd s) := by
  unfold State.engEnd
  repeat' (first | with_reducible assumption | intro _ | (extract_lets +onlyGivenNames x; first | ((first | refine (fun hx => ?_ : Keeps s0 x → Keeps s0 _) ?_); (on_goal 1 => clear_value x); (on_goal 2 => subst x)) | (refine (fun hx => ?_ : Keeps s0 x → Keeps s0 _) ?_; (on_goal 2 => subst x)) | clear_value x | skip) | with_reducible apply State.upTo_keeps | with_reducible apply State.setEng_keeps | split | (with_reducible refine Keeps.of ?_ rfl rfl rfl rfl rfl rfl; first | with_reducible assumption | with_reducible apply State.upTo_keeps | with_reducible apply State.setEng_keeps | split))

theorem State.engAbort_keeps {s0 : State} (n : Nat) (s : State) (hK : Keeps s0 s) :
    Keeps s0 (State.engAbort n s) := by
  unfold State.engAbort
  repeat' (first | with_reducible assumption | intro _ | (extract_lets +onlyGivenNames x; first | ((first | refine (fun hx => ?_ : Keeps s0 x → Keeps s0 _) ?_); (on_goal 1 => clear_value x); (on_goal 2 => subst x)) | (refine (fun hx => ?_ : Keeps s0 x → Keeps s0 _) ?_; (on_goal 2 => subst x)) | clear_value x | skip) | with_reducible apply Keeps.ite | with_reducible apply State.goStale_keeps | with_reducible apply State.setEng_keeps | split | (with_reducible refine Keeps.of ?_ rfl rfl rfl rfl rfl rfl; first | with_reducible assumption | with_reducible apply Keeps.ite | with_reducible apply State.goStale_keeps | with_reducible apply State.setEng_keeps | split))

theorem State.engWrite_keeps {s0 : State} (n : Nat) (w r : Dw) (upd : Engine → Engine) (s : State) (hK : Keeps s0 s) :
    Keeps s0 (State.engWrite n w r upd s) := by
  unfold State.engWrite
  repeat' (first | with_reducible assumption | intro _ | with_reducible apply State.engEnd_keeps | with_reducible apply State.clearRegParity_keeps | split)

theorem State.doLoad_keeps {s0 : State} (n b : Nat) (s : State) (hK : Keeps s0 s) :
    Keeps s0 (State.doLoad n b s) := by
  unfold State.doLoad
  repeat' (first | with_reducible assumption | intro _ | (extract_lets +onlyGivenNames x; first | ((first | refine (fun hx => ?_ : Keeps s0 x → Keeps s0 _) ?_); (on_goal 1 => clear_value x); (on_goal 2 => subst x)) | (refine (fun hx => ?_ : Keeps s0 x → Keeps s0 _) ?_; (on_goal 2 => subst x)) | clear_value x | skip) | with_reducible apply State.engAbort_keeps | with_reducible apply State.engEnd_keeps | with_reducible apply State.engDo_keeps | with_reducible apply State.balls_keeps | split | (with_reducible refine Keeps.of ?_ rfl rfl rfl rfl rfl rfl; first | with_reducible assumption | with_reducible apply State.engAbort_keeps | with_reducible apply State.engEnd_keeps | with_reducible apply State.engDo_keeps | with_reducible apply State.balls_keeps | split))

theorem State.shiftOn_keeps {s0 : State} (n : Nat) (dout : Bool) (din : BitVec 128) (first k : Nat) (pass : Option
    Nat) (s : State) (hK : Keeps s0 s) :
    Keeps s0 (State.shiftOn n dout din first k pass s) := by
  unfold State.shiftOn
  repeat' (first | with_reducible assumption | intro _ | (extract_lets +onlyGivenNames x; first | ((first | refine (fun hx => ?_ : Keeps s0 x → Keeps s0 _) ?_); (on_goal 1 => clear_value x); (on_goal 2 => subst x)) | (refine (fun hx => ?_ : Keeps s0 x → Keeps s0 _) ?_; (on_goal 2 => subst x)) | clear_value x | skip) | with_reducible apply Keeps.ite | with_reducible apply State.balls_keeps | with_reducible apply State.upTo_keeps | with_reducible apply State.draw_keeps | (with_reducible apply State.draw_keeps'; on_goal 1 => with_reducible assumption) | with_reducible apply State.setEng_keeps | with_reducible apply State.bump_keeps | split | (with_reducible refine Keeps.of ?_ rfl rfl rfl rfl rfl rfl; first | with_reducible assumption | with_reducible apply Keeps.ite | with_reducible apply State.balls_keeps | with_reducible apply State.upTo_keeps | with_reducible apply State.draw_keeps | (with_reducible apply State.draw_keeps'; on_goal 1 => with_reducible assumption) | with_reducible apply State.setEng_keeps | with_reducible apply State.bump_keeps | split))

theorem State.holdPass_keeps {s0 : State} (first step : Nat) (hold : Option Nat) (s : State) (hK : Keeps s0 s) :
    Keeps s0 (State.holdPass first step hold s).2 := by
  unfold State.holdPass
  repeat' (first | with_reducible assumption | intro _ | (extract_lets +onlyGivenNames x; first | ((first | refine (fun hx => ?_ : Keeps s0 x → Keeps s0 _) ?_); (on_goal 1 => clear_value x); (on_goal 2 => subst x)) | (refine (fun hx => ?_ : Keeps s0 x → Keeps s0 _) ?_; (on_goal 2 => subst x)) | clear_value x | skip) | with_reducible apply State.draw_keeps | (with_reducible apply State.draw_keeps'; on_goal 1 => with_reducible assumption) | split)

theorem State.holdPass_keeps' {s0 tK : State} (first step : Nat) (hold : Option Nat) (s : State) {xK : Option Nat} (eK : State.holdPass first step hold s = (xK, tK)) (hK : Keeps s0 s) :
    Keeps s0 tK := by
  have := State.holdPass_keeps first step hold s hK
  rw [eK] at this; exact this

theorem State.shiftChecked_keeps {s0 : State} (n : Nat) (dout : Bool) (f : State → State) (s : State) (hf : ∀ z,
    Keeps s0 z → Keeps s0 (f z)) (hK : Keeps s0 s) :
    Keeps s0 (State.shiftChecked n dout f s) := by
  unfold State.shiftChecked
  repeat' (first | with_reducible assumption | intro _ | (extract_lets +onlyGivenNames x; first | ((first | refine (fun hx => ?_ : Keeps s0 x → Keeps s0 _) ?_); (on_goal 1 => clear_value x); (on_goal 2 => subst x)) | (refine (fun hx => ?_ : Keeps s0 x → Keeps s0 _) ?_; (on_goal 2 => subst x)) | clear_value x | skip) | with_reducible apply Keeps.ite | with_reducible apply State.engFault_keeps | with_reducible apply_assumption | split)

theorem State.doShift_keeps {s0 : State} (n b : Nat) (din : BitVec 128) (k : Nat) (hold : Option Nat) (s : State) (hK
    : Keeps s0 s) :
    Keeps s0 (State.doShift n b din k hold s) := by
  unfold State.doShift
  repeat' (first | with_reducible assumption | intro _ | (extract_lets +onlyGivenNames x; first | ((first | refine (fun hx => ?_ : Keeps s0 x → Keeps s0 _) ?_); (on_goal 1 => clear_value x); (on_goal 2 => subst x)) | (refine (fun hx => ?_ : Keeps s0 x → Keeps s0 _) ?_; (on_goal 2 => subst x)) | clear_value x | skip) | with_reducible apply Keeps.ite | with_reducible apply State.shiftChecked_keeps | with_reducible apply State.holdPass_keeps | (with_reducible apply State.holdPass_keeps'; on_goal 1 => with_reducible assumption) | with_reducible apply State.shiftOn_keeps | with_reducible apply State.engAbort_keeps | with_reducible apply State.engDo_keeps | with_reducible apply State.balls_keeps | with_reducible apply State.upTo_keeps | with_reducible apply State.draw_keeps | (with_reducible apply State.draw_keeps'; on_goal 1 => with_reducible assumption) | with_reducible apply State.setEng_keeps | split | (with_reducible refine Keeps.of ?_ rfl rfl rfl rfl rfl rfl; first | with_reducible assumption | with_reducible apply Keeps.ite | with_reducible apply State.shiftChecked_keeps | with_reducible apply State.holdPass_keeps | (with_reducible apply State.holdPass_keeps'; on_goal 1 => with_reducible assumption) | with_reducible apply State.shiftOn_keeps | with_reducible apply State.engAbort_keeps | with_reducible apply State.engDo_keeps | with_reducible apply State.balls_keeps | with_reducible apply State.upTo_keeps | with_reducible apply State.draw_keeps | (with_reducible apply State.draw_keeps'; on_goal 1 => with_reducible assumption) | with_reducible apply State.setEng_keeps | split))

theorem State.doHoldw_keeps {s0 : State} (n b : Nat) (hold : Bool) (s : State) (hK : Keeps s0 s) :
    Keeps s0 (State.doHoldw n b hold s) := by
  unfold State.doHoldw
  repeat' (first | with_reducible assumption | intro _ | (extract_lets +onlyGivenNames x; first | ((first | refine (fun hx => ?_ : Keeps s0 x → Keeps s0 _) ?_); (on_goal 1 => clear_value x); (on_goal 2 => subst x)) | (refine (fun hx => ?_ : Keeps s0 x → Keeps s0 _) ?_; (on_goal 2 => subst x)) | clear_value x | skip) | with_reducible apply Keeps.ite | with_reducible apply State.engEnd_keeps | with_reducible apply State.engDo_keeps | with_reducible apply State.setEng_keeps | split | (with_reducible refine Keeps.of ?_ rfl rfl rfl rfl rfl rfl; first | with_reducible assumption | with_reducible apply Keeps.ite | with_reducible apply State.engEnd_keeps | with_reducible apply State.engDo_keeps | with_reducible apply State.setEng_keeps | split))

theorem State.doWaitb_keeps {s0 : State} (n b : Nat) (pins : BitVec 2) (s : State) (hK : Keeps s0 s) :
    Keeps s0 (State.doWaitb n b pins s) := by
  unfold State.doWaitb
  repeat' (first | with_reducible assumption | intro _ | (extract_lets +onlyGivenNames x; first | ((first | refine (fun hx => ?_ : Keeps s0 x → Keeps s0 _) ?_); (on_goal 1 => clear_value x); (on_goal 2 => subst x)) | (refine (fun hx => ?_ : Keeps s0 x → Keeps s0 _) ?_; (on_goal 2 => subst x)) | clear_value x | skip) | with_reducible apply Keeps.ite | with_reducible apply State.engEnd_keeps | with_reducible apply State.engDo_keeps | with_reducible apply State.setEng_keeps | split | (with_reducible refine Keeps.of ?_ rfl rfl rfl rfl rfl rfl; first | with_reducible assumption | with_reducible apply Keeps.ite | with_reducible apply State.engEnd_keeps | with_reducible apply State.engDo_keeps | with_reducible apply State.setEng_keeps | split))

theorem State.doMovi_keeps {s0 : State} (n b : Nat) (s : State) (hK : Keeps s0 s) :
    Keeps s0 (State.doMovi n b s) := by
  unfold State.doMovi
  repeat' (first | with_reducible assumption | intro _ | (extract_lets +onlyGivenNames x; first | ((first | refine (fun hx => ?_ : Keeps s0 x → Keeps s0 _) ?_); (on_goal 1 => clear_value x); (on_goal 2 => subst x)) | (refine (fun hx => ?_ : Keeps s0 x → Keeps s0 _) ?_; (on_goal 2 => subst x)) | clear_value x | skip) | with_reducible apply Keeps.ite | with_reducible apply State.engWrite_keeps | with_reducible apply State.engDo_keeps | split)

theorem State.doAlu_keeps {s0 : State} (n b op : Nat) (signed : Bool) (f : Dw → Dw → Dw) (carry : Dw → Dw → Bool)
    (pins : BitVec 2) (s : State) (hK : Keeps s0 s) :
    Keeps s0 (State.doAlu n b op signed f carry pins s) := by
  unfold State.doAlu
  repeat' (first | with_reducible assumption | intro _ | (extract_lets +onlyGivenNames x; first | ((first | refine (fun hx => ?_ : Keeps s0 x → Keeps s0 _) ?_); (on_goal 1 => clear_value x); (on_goal 2 => subst x)) | (refine (fun hx => ?_ : Keeps s0 x → Keeps s0 _) ?_; (on_goal 2 => subst x)) | clear_value x | skip) | with_reducible apply State.engWrite_keeps | with_reducible apply State.engDo_keeps | split)

theorem State.doCmp_keeps {s0 : State} (n b : Nat) (pins : BitVec 2) (s : State) (hK : Keeps s0 s) :
    Keeps s0 (State.doCmp n b pins s) := by
  unfold State.doCmp
  repeat' (first | with_reducible assumption | intro _ | (extract_lets +onlyGivenNames x; first | ((first | refine (fun hx => ?_ : Keeps s0 x → Keeps s0 _) ?_); (on_goal 1 => clear_value x); (on_goal 2 => subst x)) | (refine (fun hx => ?_ : Keeps s0 x → Keeps s0 _) ?_; (on_goal 2 => subst x)) | clear_value x | skip) | with_reducible apply State.engEnd_keeps | with_reducible apply State.engDo_keeps | split)

theorem State.doBr_keeps {s0 : State} (n b : Nat) (pins : BitVec 2) (s : State) (hK : Keeps s0 s) :
    Keeps s0 (State.doBr n b pins s) := by
  unfold State.doBr
  repeat' (first | with_reducible assumption | intro _ | with_reducible apply Keeps.ite | with_reducible apply State.engEnd_keeps | with_reducible apply State.engDo_keeps | split)

theorem State.doJmp_keeps {s0 : State} (n b : Nat) (s : State) (hK : Keeps s0 s) :
    Keeps s0 (State.doJmp n b s) := by
  unfold State.doJmp
  repeat' (first | with_reducible assumption | intro _ | with_reducible apply State.engEnd_keeps | with_reducible apply State.engDo_keeps | split)

theorem State.doOut_keeps {s0 : State} (n b : Nat) (pins : BitVec 2) (s : State) (hK : Keeps s0 s) :
    Keeps s0 (State.doOut n b pins s) := by
  unfold State.doOut
  repeat' (first | with_reducible assumption | intro _ | (extract_lets +onlyGivenNames x; first | ((first | refine (fun hx => ?_ : Keeps s0 x → Keeps s0 _) ?_); (on_goal 1 => clear_value x); (on_goal 2 => subst x)) | (refine (fun hx => ?_ : Keeps s0 x → Keeps s0 _) ?_; (on_goal 2 => subst x)) | clear_value x | skip) | with_reducible apply State.engEnd_keeps | with_reducible apply State.engDo_keeps | with_reducible apply State.setO_keeps | split)

theorem State.frameEnd_keeps {s0 : State} (n : Nat) (s : State) (hK : Keeps s0 s) :
    Keeps s0 (State.frameEnd n s) := by
  unfold State.frameEnd
  repeat' (first | with_reducible assumption | intro _ | (extract_lets +onlyGivenNames x; first | ((first | refine (fun hx => ?_ : Keeps s0 x → Keeps s0 _) ?_); (on_goal 1 => clear_value x); (on_goal 2 => subst x)) | (refine (fun hx => ?_ : Keeps s0 x → Keeps s0 _) ?_; (on_goal 2 => subst x)) | clear_value x | skip) | with_reducible apply Keeps.ite | with_reducible apply State.publish_keeps | with_reducible apply State.goStale_keeps | with_reducible apply State.setEng_keeps | with_reducible apply State.bump_keeps | split | (with_reducible refine Keeps.of ?_ rfl rfl rfl rfl rfl rfl; first | with_reducible assumption | with_reducible apply Keeps.ite | with_reducible apply State.publish_keeps | with_reducible apply State.goStale_keeps | with_reducible apply State.setEng_keeps | with_reducible apply State.bump_keeps | split))

theorem State.doFrame_keeps {s0 : State} (n b : Nat) (s : State) (hK : Keeps s0 s) :
    Keeps s0 (State.doFrame n b s) := by
  unfold State.doFrame
  repeat' (first | with_reducible assumption | intro _ | with_reducible apply State.frameEnd_keeps | with_reducible apply State.engAbort_keeps | with_reducible apply State.engEnd_keeps | with_reducible apply State.engDo_keeps | split)

theorem State.doEvt_keeps {s0 : State} (n b : Nat) (s : State) (hK : Keeps s0 s) :
    Keeps s0 (State.doEvt n b s) := by
  unfold State.doEvt
  repeat' (first | with_reducible assumption | intro _ | with_reducible apply State.engEnd_keeps | with_reducible apply State.engDo_keeps | with_reducible apply State.raiseInt_keeps | split)

theorem State.doStp_keeps {s0 : State} (n b : Nat) (pins : BitVec 2) (s : State) (hK : Keeps s0 s) :
    Keeps s0 (State.doStp n b pins s) := by
  unfold State.doStp
  repeat' (first | with_reducible assumption | intro _ | (extract_lets +onlyGivenNames x; first | ((first | refine (fun hx => ?_ : Keeps s0 x → Keeps s0 _) ?_); (on_goal 1 => clear_value x); (on_goal 2 => subst x)) | (refine (fun hx => ?_ : Keeps s0 x → Keeps s0 _) ?_; (on_goal 2 => subst x)) | clear_value x | skip) | with_reducible apply Keeps.ite | with_reducible apply State.engEnd_keeps | with_reducible apply State.engDo_keeps | with_reducible apply State.setProg_keeps | split)

theorem State.doReti_keeps {s0 : State} (n b : Nat) (s : State) (hK : Keeps s0 s) :
    Keeps s0 (State.doReti n b s) := by
  unfold State.doReti
  repeat' (first | with_reducible assumption | intro _ | with_reducible apply State.engEnd_keeps | with_reducible apply State.engDo_keeps | split | (with_reducible refine Keeps.of ?_ rfl rfl rfl rfl rfl rfl; first | with_reducible assumption | with_reducible apply State.engEnd_keeps | with_reducible apply State.engDo_keeps | split))

theorem State.doHalt_keeps {s0 : State} (n b : Nat) (s : State) (hK : Keeps s0 s) :
    Keeps s0 (State.doHalt n b s) := by
  unfold State.doHalt
  repeat' (first | with_reducible assumption | intro _ | with_reducible apply State.engEnd_keeps | with_reducible apply State.engDo_keeps | with_reducible apply State.engIdle_keeps | split)

theorem State.doIllegal_keeps {s0 : State} (n b : Nat) (s : State) (hK : Keeps s0 s) :
    Keeps s0 (State.doIllegal n b s) := by
  unfold State.doIllegal
  repeat' (first | with_reducible assumption | intro _ | (extract_lets +onlyGivenNames x; first | ((first | refine (fun hx => ?_ : Keeps s0 x → Keeps s0 _) ?_); (on_goal 1 => clear_value x); (on_goal 2 => subst x)) | (refine (fun hx => ?_ : Keeps s0 x → Keeps s0 _) ?_; (on_goal 2 => subst x)) | clear_value x | skip) | with_reducible apply Keeps.ite | with_reducible apply State.engFault_keeps | with_reducible apply State.upTo_keeps | split)

theorem State.holdTimeout_keeps {s0 : State} (n : Nat) (s : State) (hK : Keeps s0 s) :
    Keeps s0 (State.holdTimeout n s) := by
  unfold State.holdTimeout
  repeat' (first | with_reducible assumption | intro _ | (extract_lets +onlyGivenNames x; first | ((first | refine (fun hx => ?_ : Keeps s0 x → Keeps s0 _) ?_); (on_goal 1 => clear_value x); (on_goal 2 => subst x)) | (refine (fun hx => ?_ : Keeps s0 x → Keeps s0 _) ?_; (on_goal 2 => subst x)) | clear_value x | skip) | with_reducible apply Keeps.ite | with_reducible apply State.engEnd_keeps | with_reducible apply State.engEvent_keeps | with_reducible apply State.setEng_keeps | with_reducible apply State.bump_keeps | split | (with_reducible refine Keeps.of ?_ rfl rfl rfl rfl rfl rfl; first | with_reducible assumption | with_reducible apply Keeps.ite | with_reducible apply State.engEnd_keeps | with_reducible apply State.engEvent_keeps | with_reducible apply State.setEng_keeps | with_reducible apply State.bump_keeps | split))

theorem State.holdReleased_keeps {s0 : State} (n b : Nat) (din : BitVec 128) (k : Nat) (hold : Option Nat) (s :
    State) (hK : Keeps s0 s) :
    Keeps s0 (State.holdReleased n b din k hold s) := by
  unfold State.holdReleased
  repeat' (first | with_reducible assumption | intro _ | (extract_lets +onlyGivenNames x; first | ((first | refine (fun hx => ?_ : Keeps s0 x → Keeps s0 _) ?_); (on_goal 1 => clear_value x); (on_goal 2 => subst x)) | (refine (fun hx => ?_ : Keeps s0 x → Keeps s0 _) ?_; (on_goal 2 => subst x)) | clear_value x | skip) | with_reducible apply Keeps.ite | with_reducible apply State.shiftChecked_keeps | with_reducible apply State.holdPass_keeps | (with_reducible apply State.holdPass_keeps'; on_goal 1 => with_reducible assumption) | with_reducible apply State.shiftOn_keeps | with_reducible apply State.engEnd_keeps | with_reducible apply State.upTo_keeps | with_reducible apply State.edge_keeps | with_reducible apply State.setEng_keeps | split | (with_reducible refine Keeps.of ?_ rfl rfl rfl rfl rfl rfl; first | with_reducible assumption | with_reducible apply Keeps.ite | with_reducible apply State.shiftChecked_keeps | with_reducible apply State.holdPass_keeps | (with_reducible apply State.holdPass_keeps'; on_goal 1 => with_reducible assumption) | with_reducible apply State.shiftOn_keeps | with_reducible apply State.engEnd_keeps | with_reducible apply State.upTo_keeps | with_reducible apply State.edge_keeps | with_reducible apply State.setEng_keeps | split))

theorem State.clearRegMarks_keeps {s0 : State} (n : Nat) (s : State) (hK : Keeps s0 s) :
    Keeps s0 (State.clearRegMarks n s) := by
  unfold State.clearRegMarks
  repeat' (first | with_reducible assumption | intro _ | split | (with_reducible refine Keeps.of ?_ rfl rfl rfl rfl rfl rfl; first | with_reducible assumption | split))

end Sys2Proof.Machine
end

