-- ==== Sys2Proof/Laws/KeepsTimebase.lean ====
section
/-! SUPPORT. What the operations of Machine/Timebase.lean keep. -/

set_option linter.all false

namespace Sys2Proof.Machine

open Sys2Proof

theorem State.filterChange_keeps {s0 : State} (n : Nat) (level : Bool) (since : Nat) (s : State) (hK : Keeps s0 s) :
    Keeps s0 (State.filterChange n level since s) := by
  unfold State.filterChange
  repeat' (first | with_reducible assumption | intro _ | with_reducible apply State.hwRow_keeps | with_reducible apply State.sampled_keeps | with_reducible apply State.filtTurn_keeps | split)

theorem State.bankSet_keeps {s0 : State} (viob v : Bool) (s : State) (hK : Keeps s0 s) :
    Keeps s0 (State.bankSet viob v s) := by
  unfold State.bankSet
  repeat' (first | with_reducible assumption | intro _ | (extract_lets +onlyGivenNames x; first | ((first | refine (fun hx => ?_ : Keeps s0 x → Keeps s0 _) ?_); (on_goal 1 => clear_value x); (on_goal 2 => subst x)) | (refine (fun hx => ?_ : Keeps s0 x → Keeps s0 _) ?_; (on_goal 2 => subst x)) | clear_value x | skip) | with_reducible apply loop_keeps | with_reducible apply Keeps.ite | with_reducible apply State.hwRow_keeps | with_reducible apply State.sampled_keeps | with_reducible apply State.filtTurn_keeps | with_reducible apply State.setEng_keeps | split | (with_reducible refine Keeps.of ?_ rfl rfl rfl rfl rfl rfl; first | with_reducible assumption | with_reducible apply loop_keeps | with_reducible apply Keeps.ite | with_reducible apply State.hwRow_keeps | with_reducible apply State.sampled_keeps | with_reducible apply State.filtTurn_keeps | with_reducible apply State.setEng_keeps | split))

theorem State.stormClose_keeps {s0 : State} (n : Nat) (s : State) (hK : Keeps s0 s) :
    Keeps s0 (State.stormClose n s) := by
  unfold State.stormClose
  repeat' (first | with_reducible assumption | intro _ | with_reducible apply Keeps.ite | with_reducible apply State.setSrc_keeps | split | (with_reducible refine Keeps.of ?_ rfl rfl rfl rfl rfl rfl; first | with_reducible assumption | with_reducible apply Keeps.ite | with_reducible apply State.setSrc_keeps | split))

theorem State.alarmFire_keeps {s0 : State} (n : Nat) (s : State) (hK : Keeps s0 s) :
    Keeps s0 (State.alarmFire n s) := by
  unfold State.alarmFire
  repeat' (first | with_reducible assumption | intro _ | (extract_lets +onlyGivenNames x; first | ((first | refine (fun hx => ?_ : Keeps s0 x → Keeps s0 _) ?_); (on_goal 1 => clear_value x); (on_goal 2 => subst x)) | (refine (fun hx => ?_ : Keeps s0 x → Keeps s0 _) ?_; (on_goal 2 => subst x)) | clear_value x | skip) | with_reducible apply loop_keeps | with_reducible apply Keeps.ite | with_reducible apply State.engEvent_keeps | with_reducible apply State.edge_keeps | with_reducible apply State.bump_keeps | with_reducible apply State.setO_keeps | split)

theorem State.loadCounter_keeps {s0 : State} (kind : Nat) (v : Beat) (s : State) (hK : Keeps s0 s) :
    Keeps s0 (State.loadCounter kind v s) := by
  unfold State.loadCounter
  repeat' (first | with_reducible assumption | intro _ | (extract_lets +onlyGivenNames x; first | ((first | refine (fun hx => ?_ : Keeps s0 x → Keeps s0 _) ?_); (on_goal 1 => clear_value x); (on_goal 2 => subst x)) | (refine (fun hx => ?_ : Keeps s0 x → Keeps s0 _) ?_; (on_goal 2 => subst x)) | clear_value x | skip) | with_reducible apply Keeps.ite | with_reducible apply State.chrPut_keeps | split | (with_reducible refine Keeps.of ?_ rfl rfl rfl rfl rfl rfl; first | with_reducible assumption | with_reducible apply Keeps.ite | with_reducible apply State.chrPut_keeps | split))

theorem State.secondReached_keeps {s0 : State} (s : State) (hK : Keeps s0 s) :
    Keeps s0 (State.secondReached s) := by
  unfold State.secondReached
  repeat' (first | with_reducible assumption | intro _ | (extract_lets +onlyGivenNames x; first | ((first | refine (fun hx => ?_ : Keeps s0 x → Keeps s0 _) ?_); (on_goal 1 => clear_value x); (on_goal 2 => subst x)) | (refine (fun hx => ?_ : Keeps s0 x → Keeps s0 _) ?_; (on_goal 2 => subst x)) | clear_value x | skip) | with_reducible apply Keeps.ite | with_reducible apply State.raiseInt_keeps | split | (with_reducible refine Keeps.of ?_ rfl rfl rfl rfl rfl rfl; first | with_reducible assumption | with_reducible apply Keeps.ite | with_reducible apply State.raiseInt_keeps | split))

theorem State.pulseEnd_keeps {s0 : State} (s : State) (hK : Keeps s0 s) :
    Keeps s0 (State.pulseEnd s) := by
  unfold State.pulseEnd
  repeat' (first | with_reducible assumption | intro _ | with_reducible apply Keeps.ite | split | (with_reducible refine Keeps.of ?_ rfl rfl rfl rfl rfl rfl; first | with_reducible assumption | with_reducible apply Keeps.ite | split))

theorem State.ppsBit_keeps {s0 : State} (k : Nat) (v : Bool) (s : State) (hK : Keeps s0 s) :
    Keeps s0 (State.ppsBit k v s) := by
  unfold State.ppsBit
  repeat' (first | with_reducible assumption | intro _ | (extract_lets +onlyGivenNames x; first | ((first | refine (fun hx => ?_ : Keeps s0 x → Keeps s0 _) ?_); (on_goal 1 => clear_value x); (on_goal 2 => subst x)) | (refine (fun hx => ?_ : Keeps s0 x → Keeps s0 _) ?_; (on_goal 2 => subst x)) | clear_value x | skip) | with_reducible apply Keeps.ite | with_reducible apply State.setO_keeps | split)

theorem State.ppsCorrect_keeps {s0 : State} (e : Int) (s : State) (hK : Keeps s0 s) :
    Keeps s0 (State.ppsCorrect e s) := by
  unfold State.ppsCorrect
  repeat' (first | with_reducible assumption | intro _ | (extract_lets +onlyGivenNames x; first | ((first | refine (fun hx => ?_ : Keeps s0 x → Keeps s0 _) ?_); (on_goal 1 => clear_value x); (on_goal 2 => subst x)) | (refine (fun hx => ?_ : Keeps s0 x → Keeps s0 _) ?_; (on_goal 2 => subst x)) | clear_value x | skip) | with_reducible apply Keeps.ite | with_reducible apply State.ppsBit_keeps | with_reducible apply State.loadCounter_keeps | with_reducible apply State.bump_keeps | with_reducible apply State.setO_keeps | split | (with_reducible refine Keeps.of ?_ rfl rfl rfl rfl rfl rfl; first | with_reducible assumption | with_reducible apply Keeps.ite | with_reducible apply State.ppsBit_keeps | with_reducible apply State.loadCounter_keeps | with_reducible apply State.bump_keeps | with_reducible apply State.setO_keeps | split))

theorem State.ppsEdge_keeps {s0 : State} (s : State) (hK : Keeps s0 s) :
    Keeps s0 (State.ppsEdge s) := by
  unfold State.ppsEdge
  repeat' (first | with_reducible assumption | intro _ | (extract_lets +onlyGivenNames x; first | ((first | refine (fun hx => ?_ : Keeps s0 x → Keeps s0 _) ?_); (on_goal 1 => clear_value x); (on_goal 2 => subst x)) | (refine (fun hx => ?_ : Keeps s0 x → Keeps s0 _) ?_; (on_goal 2 => subst x)) | clear_value x | skip) | with_reducible apply Keeps.ite | with_reducible apply State.ppsCorrect_keeps | with_reducible apply State.bump_keeps | split | (with_reducible refine Keeps.of ?_ rfl rfl rfl rfl rfl rfl; first | with_reducible assumption | with_reducible apply Keeps.ite | with_reducible apply State.ppsCorrect_keeps | with_reducible apply State.bump_keeps | split))

theorem State.ppsLoss_keeps {s0 : State} (s : State) (hK : Keeps s0 s) :
    Keeps s0 (State.ppsLoss s) := by
  unfold State.ppsLoss
  repeat' (first | with_reducible assumption | intro _ | (extract_lets +onlyGivenNames x; first | ((first | refine (fun hx => ?_ : Keeps s0 x → Keeps s0 _) ?_); (on_goal 1 => clear_value x); (on_goal 2 => subst x)) | (refine (fun hx => ?_ : Keeps s0 x → Keeps s0 _) ?_; (on_goal 2 => subst x)) | clear_value x | skip) | with_reducible apply Keeps.ite | with_reducible apply State.ppsBit_keeps | with_reducible apply State.dial_keeps | with_reducible apply State.setO_keeps | split | (with_reducible refine Keeps.of ?_ rfl rfl rfl rfl rfl rfl; first | with_reducible assumption | with_reducible apply Keeps.ite | with_reducible apply State.ppsBit_keeps | with_reducible apply State.dial_keeps | with_reducible apply State.setO_keeps | split))

theorem State.balanceTick_keeps {s0 : State} (s : State) (hK : Keeps s0 s) :
    Keeps s0 (State.balanceTick s) := by
  unfold State.balanceTick
  repeat' (first | with_reducible assumption | intro _ | (extract_lets +onlyGivenNames x; first | ((first | refine (fun hx => ?_ : Keeps s0 x → Keeps s0 _) ?_); (on_goal 1 => clear_value x); (on_goal 2 => subst x)) | (refine (fun hx => ?_ : Keeps s0 x → Keeps s0 _) ?_; (on_goal 2 => subst x)) | clear_value x | skip) | with_reducible apply loop_keeps | with_reducible apply Keeps.ite | with_reducible apply State.alarmFire_keeps | split | (with_reducible refine Keeps.of ?_ rfl rfl rfl rfl rfl rfl; first | with_reducible assumption | with_reducible apply loop_keeps | with_reducible apply Keeps.ite | with_reducible apply State.alarmFire_keeps | split))

theorem State.spanEnd_keeps {s0 : State} (s : State) (hK : Keeps s0 s) :
    Keeps s0 (State.spanEnd s) := by
  unfold State.spanEnd
  repeat' (first | with_reducible assumption | intro _ | with_reducible apply State.setO_keeps | split | (with_reducible refine Keeps.of ?_ rfl rfl rfl rfl rfl rfl; first | with_reducible assumption | with_reducible apply State.setO_keeps | split))

theorem State.regGo_keeps {s0 : State} (st : Nat) (s : State) (hK : Keeps s0 s) :
    Keeps s0 (State.regGo st s) := by
  unfold State.regGo
  repeat' (first | with_reducible assumption | intro _ | (extract_lets +onlyGivenNames x; first | ((first | refine (fun hx => ?_ : Keeps s0 x → Keeps s0 _) ?_); (on_goal 1 => clear_value x); (on_goal 2 => subst x)) | (refine (fun hx => ?_ : Keeps s0 x → Keeps s0 _) ?_; (on_goal 2 => subst x)) | clear_value x | skip) | with_reducible apply Keeps.ite | split | (with_reducible refine Keeps.of ?_ rfl rfl rfl rfl rfl rfl; first | with_reducible assumption | with_reducible apply Keeps.ite | split))

theorem State.closePeriod_keeps {s0 : State} (t : Nat) (s : State) (hK : Keeps s0 s) :
    Keeps s0 (State.closePeriod t s) := by
  unfold State.closePeriod
  repeat' (first | with_reducible assumption | intro _ | (extract_lets +onlyGivenNames x; first | ((first | refine (fun hx => ?_ : Keeps s0 x → Keeps s0 _) ?_); (on_goal 1 => clear_value x); (on_goal 2 => subst x)) | (refine (fun hx => ?_ : Keeps s0 x → Keeps s0 _) ?_; (on_goal 2 => subst x)) | clear_value x | skip) | with_reducible apply State.setTgt_keeps | with_reducible apply State.setO_keeps | split | (with_reducible refine Keeps.of ?_ rfl rfl rfl rfl rfl rfl; first | with_reducible assumption | with_reducible apply State.setTgt_keeps | with_reducible apply State.setO_keeps | split))

theorem State.periodBoundary_keeps {s0 : State} (s : State) (hK : Keeps s0 s) :
    Keeps s0 (State.periodBoundary s) := by
  unfold State.periodBoundary
  repeat' (first | with_reducible assumption | intro _ | (extract_lets +onlyGivenNames x; first | ((first | refine (fun hx => ?_ : Keeps s0 x → Keeps s0 _) ?_); (on_goal 1 => clear_value x); (on_goal 2 => subst x)) | (refine (fun hx => ?_ : Keeps s0 x → Keeps s0 _) ?_; (on_goal 2 => subst x)) | clear_value x | skip) | with_reducible apply each_keeps | with_reducible apply Keeps.ite | with_reducible apply State.closePeriod_keeps | with_reducible apply State.bump_keeps | split | (with_reducible refine Keeps.of ?_ rfl rfl rfl rfl rfl rfl; first | with_reducible assumption | with_reducible apply each_keeps | with_reducible apply Keeps.ite | with_reducible apply State.closePeriod_keeps | with_reducible apply State.bump_keeps | split))

theorem State.foldAvg_keeps {s0 : State} (t : Nat) (s : State) (hK : Keeps s0 s) :
    Keeps s0 (State.foldAvg t s) := by
  unfold State.foldAvg
  repeat' (first | with_reducible assumption | intro _ | (extract_lets +onlyGivenNames x; first | ((first | refine (fun hx => ?_ : Keeps s0 x → Keeps s0 _) ?_); (on_goal 1 => clear_value x); (on_goal 2 => subst x)) | (refine (fun hx => ?_ : Keeps s0 x → Keeps s0 _) ?_; (on_goal 2 => subst x)) | clear_value x | skip) | with_reducible apply Keeps.ite | with_reducible apply State.setTgt_keeps | with_reducible apply State.setO_keeps | split | (with_reducible refine Keeps.of ?_ rfl rfl rfl rfl rfl rfl; first | with_reducible assumption | with_reducible apply Keeps.ite | with_reducible apply State.setTgt_keeps | with_reducible apply State.setO_keeps | split))

theorem State.weigh_keeps {s0 : State} (g : Nat) (s : State) (hK : Keeps s0 s) :
    Keeps s0 (State.weigh g s) := by
  unfold State.weigh
  repeat' (first | with_reducible assumption | intro _ | (extract_lets +onlyGivenNames x; first | ((first | refine (fun hx => ?_ : Keeps s0 x → Keeps s0 _) ?_); (on_goal 1 => clear_value x); (on_goal 2 => subst x)) | (refine (fun hx => ?_ : Keeps s0 x → Keeps s0 _) ?_; (on_goal 2 => subst x)) | clear_value x | skip) | with_reducible apply each_keeps | with_reducible apply Keeps.ite | with_reducible apply State.setO_keeps | split)

theorem State.regQuarantine_keeps {s0 : State} (b : Nat) (mm : Bool) (t : Nat) (s : State) (hK : Keeps s0 s) :
    Keeps s0 (State.regQuarantine b mm t s) := by
  unfold State.regQuarantine
  repeat' (first | with_reducible assumption | intro _ | (extract_lets +onlyGivenNames x; first | ((first | refine (fun hx => ?_ : Keeps s0 x → Keeps s0 _) ?_); (on_goal 1 => clear_value x); (on_goal 2 => subst x)) | (refine (fun hx => ?_ : Keeps s0 x → Keeps s0 _) ?_; (on_goal 2 => subst x)) | clear_value x | skip) | with_reducible apply Keeps.ite | with_reducible apply State.row8_keeps | with_reducible apply State.mismatch_keeps | with_reducible apply State.quarFlags_keeps | with_reducible apply State.quarRevoke_keeps | with_reducible apply State.leaveTarget_keeps | with_reducible apply State.dial_keeps | with_reducible apply State.bump_keeps | split)

theorem State.regRelease_keeps {s0 : State} (t : Nat) (s : State) (hK : Keeps s0 s) :
    Keeps s0 (State.regRelease t s) := by
  unfold State.regRelease
  repeat' (first | with_reducible assumption | intro _ | with_reducible apply Keeps.ite | with_reducible apply State.unquarantine_keeps | split)

theorem State.regUpdate_keeps {s0 : State} (b : Nat) (mm : Bool) (s : State) (hK : Keeps s0 s) :
    Keeps s0 (State.regUpdate b mm s) := by
  unfold State.regUpdate
  repeat' (first | with_reducible assumption | intro _ | (extract_lets +onlyGivenNames x; first | ((first | refine (fun hx => ?_ : Keeps s0 x → Keeps s0 _) ?_); (on_goal 1 => clear_value x); (on_goal 2 => subst x)) | (refine (fun hx => ?_ : Keeps s0 x → Keeps s0 _) ?_; (on_goal 2 => subst x)) | clear_value x | skip) | with_reducible apply each_keeps | with_reducible apply Keeps.ite | with_reducible apply State.regRelease_keeps | with_reducible apply State.regQuarantine_keeps | with_reducible apply State.weigh_keeps | with_reducible apply State.foldAvg_keeps | with_reducible apply State.setO_keeps | split | (with_reducible refine Keeps.of ?_ rfl rfl rfl rfl rfl rfl; first | with_reducible assumption | with_reducible apply each_keeps | with_reducible apply Keeps.ite | with_reducible apply State.regRelease_keeps | with_reducible apply State.regQuarantine_keeps | with_reducible apply State.weigh_keeps | with_reducible apply State.foldAvg_keeps | with_reducible apply State.setO_keeps | split))

end Sys2Proof.Machine
end

