-- ==== Sys2Proof/Laws/KeepsChrono.lean ====
section
/-! SUPPORT. What the operations of Machine/Chrono.lean keep. -/

set_option linter.all false

namespace Sys2Proof.Machine

open Sys2Proof

theorem State.newRing_keeps {s0 : State} (reason : Nat) (s : State) (hK : Keeps s0 s) :
    Keeps s0 (State.newRing reason s) := by
  unfold State.newRing
  repeat' (first | with_reducible assumption | intro _ | (extract_lets +onlyGivenNames x; first | ((first | refine (fun hx => ?_ : Keeps s0 x → Keeps s0 _) ?_); (on_goal 1 => clear_value x); (on_goal 2 => subst x)) | (refine (fun hx => ?_ : Keeps s0 x → Keeps s0 _) ?_; (on_goal 2 => subst x)) | clear_value x | skip) | with_reducible apply Keeps.ite | with_reducible apply State.dial_keeps | split | (with_reducible refine Keeps.of ?_ rfl rfl rfl rfl rfl rfl; first | with_reducible assumption | with_reducible apply Keeps.ite | with_reducible apply State.dial_keeps | split))

theorem State.chrWrite_keeps {s0 : State} (s : State) (hK : Keeps s0 s) : Keeps s0 (State.chrWrite s) := by
  unfold State.chrWrite
  split
  · exact hK
  · split
    · exact hK
    · refine loop_keeps _ _ _ _ (fun a z h => ?_) (State.chrLost_keeps _ ?_)
      · dsimp only
        exact Keeps.ite (Keeps.of h rfl rfl rfl rfl rfl rfl) h
      · have hb (z : State) (c d : Bool) (h : Keeps s0 z) :
            Keeps s0 (if c then (if d then (z.bump 0x1722 0 1).dial 17 0 else z.bump 0x1722 0 1) else z) :=
          Keeps.ite (Keeps.ite (State.dial_keeps _ _ _ (State.bump_keeps _ _ _ _ h)) (State.bump_keeps _ _ _ _ h)) h
        have hr (z : State) (c : Bool) (h : Keeps s0 z) : Keeps s0 (if c then z.raiseInt 13 else z) :=
          Keeps.ite (State.raiseInt_keeps _ _ h) h
        exact hr _ _ (hb _ _ _ (State.bump_keeps _ _ _ _ (Keeps.ofF hK rfl rfl id id id (memSetAll_wf _ _ _))))

theorem State.chrFlush_keeps {s0 : State} (s : State) (hK : Keeps s0 s) :
    Keeps s0 (State.chrFlush s) := by
  unfold State.chrFlush
  repeat' (first | with_reducible assumption | intro _ | split | (with_reducible refine Keeps.of ?_ rfl rfl rfl rfl rfl rfl; first | with_reducible assumption | split))

theorem State.chrFlushDone_keeps {s0 : State} (s : State) (hK : Keeps s0 s) :
    Keeps s0 (State.chrFlushDone s) := by
  unfold State.chrFlushDone
  repeat' (first | with_reducible assumption | intro _ | with_reducible apply Keeps.ite | split | (with_reducible refine Keeps.of ?_ rfl rfl rfl rfl rfl rfl; first | with_reducible assumption | with_reducible apply Keeps.ite | split))

theorem State.tailRecover_keeps {s0 : State} (s : State) (hK : Keeps s0 s) :
    Keeps s0 (State.tailRecover s) := by
  unfold State.tailRecover
  repeat' (first | with_reducible assumption | intro _ | (extract_lets +onlyGivenNames x; first | ((first | refine (fun hx => ?_ : Keeps s0 x → Keeps s0 _) ?_); (on_goal 1 => clear_value x); (on_goal 2 => subst x)) | (refine (fun hx => ?_ : Keeps s0 x → Keeps s0 _) ?_; (on_goal 2 => subst x)) | clear_value x | skip) | with_reducible apply Keeps.ite | with_reducible apply State.newRing_keeps | with_reducible apply State.fault_keeps | split | (with_reducible refine Keeps.of ?_ rfl rfl rfl rfl rfl rfl; first | with_reducible assumption | with_reducible apply Keeps.ite | with_reducible apply State.newRing_keeps | with_reducible apply State.fault_keeps | split))

theorem State.refill_keeps {s0 : State} (scope : Nat) (s : State) (hK : Keeps s0 s) :
    Keeps s0 (State.refill scope s) := by
  unfold State.refill
  repeat' (first | with_reducible assumption | intro _ | (extract_lets +onlyGivenNames x; first | ((first | refine (fun hx => ?_ : Keeps s0 x → Keeps s0 _) ?_); (on_goal 1 => clear_value x); (on_goal 2 => subst x)) | (refine (fun hx => ?_ : Keeps s0 x → Keeps s0 _) ?_; (on_goal 2 => subst x)) | clear_value x | skip) | with_reducible apply Keeps.ite | split | (with_reducible refine Keeps.of ?_ rfl rfl rfl rfl rfl rfl; first | with_reducible assumption | with_reducible apply Keeps.ite | split))

theorem State.setCursor_keeps {s0 : State} (scope v : Nat) (s : State) (hK : Keeps s0 s) :
    Keeps s0 (State.setCursor scope v s) := by
  unfold State.setCursor
  repeat' (first | with_reducible assumption | intro _ | (extract_lets +onlyGivenNames x; first | ((first | refine (fun hx => ?_ : Keeps s0 x → Keeps s0 _) ?_); (on_goal 1 => clear_value x); (on_goal 2 => subst x)) | (refine (fun hx => ?_ : Keeps s0 x → Keeps s0 _) ?_; (on_goal 2 => subst x)) | clear_value x | skip) | with_reducible apply State.setO_keeps | split | (with_reducible refine Keeps.of ?_ rfl rfl rfl rfl rfl rfl; first | with_reducible assumption | with_reducible apply State.setO_keeps | split))

theorem State.setReadSeq_keeps {s0 : State} (v : Dw) (s : State) (hK : Keeps s0 s) :
    Keeps s0 (State.setReadSeq v s) := by
  unfold State.setReadSeq
  repeat' (first | with_reducible assumption | intro _ | (extract_lets +onlyGivenNames x; first | ((first | refine (fun hx => ?_ : Keeps s0 x → Keeps s0 _) ?_); (on_goal 1 => clear_value x); (on_goal 2 => subst x)) | (refine (fun hx => ?_ : Keeps s0 x → Keeps s0 _) ?_; (on_goal 2 => subst x)) | clear_value x | skip) | with_reducible apply Keeps.ite | split | (with_reducible refine Keeps.of ?_ rfl rfl rfl rfl rfl rfl; first | with_reducible assumption | with_reducible apply Keeps.ite | split))

end Sys2Proof.Machine
end

