-- ==== Sys2Proof/Laws/KeepsTenants.lean ====
section
/-! SUPPORT. What the operations of Machine/Tenants.lean keep. -/

set_option linter.all false

namespace Sys2Proof.Machine

open Sys2Proof

theorem State.linkUp_keeps {s0 : State} (s : State) (hK : Keeps s0 s) :
    Keeps s0 (State.linkUp s) := by
  unfold State.linkUp
  repeat' (first | with_reducible assumption | intro _ | (extract_lets +onlyGivenNames x; first | ((first | refine (fun hx => ?_ : Keeps s0 x → Keeps s0 _) ?_); (on_goal 1 => clear_value x); (on_goal 2 => subst x)) | (refine (fun hx => ?_ : Keeps s0 x → Keeps s0 _) ?_; (on_goal 2 => subst x)) | clear_value x | skip) | with_reducible apply each_keeps | with_reducible apply Keeps.ite | with_reducible apply State.emit_keeps | split | (with_reducible refine Keeps.of ?_ rfl rfl rfl rfl rfl rfl; first | with_reducible assumption | with_reducible apply each_keeps | with_reducible apply Keeps.ite | with_reducible apply State.emit_keeps | split))

theorem State.featAccept_keeps {s0 : State} (n : Nat) (hi : Bool) (be : BitVec 4) (v : Dw) (s : State) (hK : Keeps s0
    s) :
    Keeps s0 (State.featAccept n hi be v s) := by
  unfold State.featAccept
  repeat' (first | with_reducible assumption | intro _ | (extract_lets +onlyGivenNames x; first | ((first | refine (fun hx => ?_ : Keeps s0 x → Keeps s0 _) ?_); (on_goal 1 => clear_value x); (on_goal 2 => subst x)) | (refine (fun hx => ?_ : Keeps s0 x → Keeps s0 _) ?_; (on_goal 2 => subst x)) | clear_value x | skip) | with_reducible apply Keeps.ite | with_reducible apply State.setFn_keeps | split | (with_reducible refine Keeps.of ?_ rfl rfl rfl rfl rfl rfl; first | with_reducible assumption | with_reducible apply Keeps.ite | with_reducible apply State.setFn_keeps | split))

theorem State.featOk_keeps {s0 : State} (n : Nat) (s : State) (hK : Keeps s0 s) :
    Keeps s0 (State.featOk n s) := by
  unfold State.featOk
  repeat' (first | with_reducible assumption | intro _ | (extract_lets +onlyGivenNames x; first | ((first | refine (fun hx => ?_ : Keeps s0 x → Keeps s0 _) ?_); (on_goal 1 => clear_value x); (on_goal 2 => subst x)) | (refine (fun hx => ?_ : Keeps s0 x → Keeps s0 _) ?_; (on_goal 2 => subst x)) | clear_value x | skip) | with_reducible apply Keeps.ite | with_reducible apply State.setFn_keeps | split | (with_reducible refine Keeps.of ?_ rfl rfl rfl rfl rfl rfl; first | with_reducible assumption | with_reducible apply Keeps.ite | with_reducible apply State.setFn_keeps | split))

theorem State.resetSource_keeps {s0 : State} (n : Nat) (s : State) (hK : Keeps s0 s) :
    Keeps s0 (State.resetSource n s) := by
  unfold State.resetSource
  repeat' (first | with_reducible assumption | intro _ | (extract_lets +onlyGivenNames x; first | ((first | refine (fun hx => ?_ : Keeps s0 x → Keeps s0 _) ?_ | refine (fun hx => ?_ : (∀ z, Keeps s0 z → Keeps s0 (x z)) → Keeps s0 _) ?_ | refine (fun hx => ?_ : (∀ a z, Keeps s0 z → Keeps s0 (x a z)) → Keeps s0 _) ?_ | refine (fun hx => ?_ : (∀ a z, Keeps s0 z → Keeps s0 (x a z).2) → Keeps s0 _) ?_ | refine (fun hx => ?_ : (∀ a c z, Keeps s0 z → Keeps s0 (x a c z)) → Keeps s0 _) ?_ | refine (fun hx => ?_ : (∀ a, Keeps s0 (x a)) → Keeps s0 _) ?_); (on_goal 1 => clear_value x); (on_goal 2 => subst x)) | (refine (fun hx => ?_ : Keeps s0 x → Keeps s0 _) ?_; (on_goal 2 => subst x)) | clear_value x | skip) | with_reducible apply each_keeps | with_reducible apply Keeps.ite | with_reducible apply State.note_keeps | with_reducible apply State.returnBuf_keeps | with_reducible apply State.setBuf_keeps | with_reducible apply State.setSrc_keeps | with_reducible apply State.setO_keeps | with_reducible apply_assumption | split | (with_reducible refine Keeps.of ?_ rfl rfl rfl rfl rfl rfl; first | with_reducible assumption | with_reducible apply each_keeps | with_reducible apply Keeps.ite | with_reducible apply State.note_keeps | with_reducible apply State.returnBuf_keeps | with_reducible apply State.setBuf_keeps | with_reducible apply State.setSrc_keeps | with_reducible apply State.setO_keeps | with_reducible apply_assumption | split) | dsimp -zeta only)

theorem State.resetTarget_keeps {s0 : State} (t : Nat) (s : State) (hK : Keeps s0 s) :
    Keeps s0 (State.resetTarget t s) := by
  unfold State.resetTarget
  repeat' (first | with_reducible assumption | intro _ | (extract_lets +onlyGivenNames x; first | ((first | refine (fun hx => ?_ : Keeps s0 x → Keeps s0 _) ?_); (on_goal 1 => clear_value x); (on_goal 2 => subst x)) | (refine (fun hx => ?_ : Keeps s0 x → Keeps s0 _) ?_; (on_goal 2 => subst x)) | clear_value x | skip) | with_reducible apply Keeps.ite | with_reducible apply State.chrQuar_keeps | with_reducible apply State.setTgt_keeps | with_reducible apply State.setO_keeps | split | (with_reducible refine Keeps.of ?_ rfl rfl rfl rfl rfl rfl; first | with_reducible assumption | with_reducible apply Keeps.ite | with_reducible apply State.chrQuar_keeps | with_reducible apply State.setTgt_keeps | with_reducible apply State.setO_keeps | split))

theorem State.resetBuffers_keeps {s0 : State} (n : Nat) (s : State) (hK : Keeps s0 s) :
    Keeps s0 (State.resetBuffers n s) := by
  unfold State.resetBuffers
  repeat' (first | with_reducible assumption | intro _ | (extract_lets +onlyGivenNames x; first | ((first | refine (fun hx => ?_ : Keeps s0 x → Keeps s0 _) ?_ | refine (fun hx => ?_ : (∀ z, Keeps s0 z → Keeps s0 (x z)) → Keeps s0 _) ?_ | refine (fun hx => ?_ : (∀ a z, Keeps s0 z → Keeps s0 (x a z)) → Keeps s0 _) ?_ | refine (fun hx => ?_ : (∀ a z, Keeps s0 z → Keeps s0 (x a z).2) → Keeps s0 _) ?_ | refine (fun hx => ?_ : (∀ a c z, Keeps s0 z → Keeps s0 (x a c z)) → Keeps s0 _) ?_ | refine (fun hx => ?_ : (∀ a, Keeps s0 (x a)) → Keeps s0 _) ?_); (on_goal 1 => clear_value x); (on_goal 2 => subst x)) | (refine (fun hx => ?_ : Keeps s0 x → Keeps s0 _) ?_; (on_goal 2 => subst x)) | clear_value x | skip) | with_reducible apply each_keeps | with_reducible apply Keeps.ite | with_reducible apply State.checkBuf_keeps | with_reducible apply State.returnBuf_keeps | with_reducible apply State.setBuf_keeps | with_reducible apply_assumption | split | (with_reducible refine Keeps.of ?_ rfl rfl rfl rfl rfl rfl; first | with_reducible assumption | with_reducible apply each_keeps | with_reducible apply Keeps.ite | with_reducible apply State.checkBuf_keeps | with_reducible apply State.returnBuf_keeps | with_reducible apply State.setBuf_keeps | with_reducible apply_assumption | split) | dsimp -zeta only)

theorem State.tenantResetBeat_keeps {s0 : State} (n : Nat) (s : State) (hK : Keeps s0 s) :
    Keeps s0 (State.tenantResetBeat n s) := by
  unfold State.tenantResetBeat
  repeat' (first | with_reducible assumption | intro _ | (extract_lets +onlyGivenNames x; first | ((first | refine (fun hx => ?_ : Keeps s0 x → Keeps s0 _) ?_); (on_goal 1 => clear_value x); (on_goal 2 => subst x)) | (refine (fun hx => ?_ : Keeps s0 x → Keeps s0 _) ?_; (on_goal 2 => subst x)) | clear_value x | skip) | with_reducible apply each_keeps | with_reducible apply Keeps.ite | with_reducible apply State.resetBuffers_keeps | with_reducible apply State.resetTarget_keeps | with_reducible apply State.resetSource_keeps | with_reducible apply State.queueMirror_keeps | with_reducible apply State.setFn_keeps | split | (with_reducible refine Keeps.of ?_ rfl rfl rfl rfl rfl rfl; first | with_reducible assumption | with_reducible apply each_keeps | with_reducible apply Keeps.ite | with_reducible apply State.resetBuffers_keeps | with_reducible apply State.resetTarget_keeps | with_reducible apply State.resetSource_keeps | with_reducible apply State.queueMirror_keeps | with_reducible apply State.setFn_keeps | split) | (with_reducible refine Keeps.ofF ?_ rfl rfl (by first | exact id | exact fun _ => smWf_nil _ | exact smWf_filter _ _ | exact smWf_set _ | exact memFilter_wf _ _ | exact memSetAll_wf _ _ _) (by first | exact id | exact fun _ => smWf_nil _ | exact smWf_filter _ _ | exact smWf_set _ | exact memFilter_wf _ _ | exact memSetAll_wf _ _ _) (by first | exact id | exact fun _ => smWf_nil _ | exact smWf_filter _ _ | exact smWf_set _ | exact memFilter_wf _ _ | exact memSetAll_wf _ _ _) (by first | exact id | exact fun _ => smWf_nil _ | exact smWf_filter _ _ | exact smWf_set _ | exact memFilter_wf _ _ | exact memSetAll_wf _ _ _); first | with_reducible assumption | with_reducible apply each_keeps | with_reducible apply Keeps.ite | with_reducible apply State.resetBuffers_keeps | with_reducible apply State.resetTarget_keeps | with_reducible apply State.resetSource_keeps | with_reducible apply State.queueMirror_keeps | with_reducible apply State.setFn_keeps | split))

theorem State.tenantReset_keeps {s0 : State} (n : Nat) (isolate : Bool) (s : State) (hK : Keeps s0 s) :
    Keeps s0 (State.tenantReset n isolate s) := by
  unfold State.tenantReset
  repeat' (first | with_reducible assumption | intro _ | with_reducible apply Keeps.ite | with_reducible apply State.tenantResetBeat_keeps | with_reducible apply State.isolate_keeps | with_reducible apply State.setFn_keeps | split | (with_reducible refine Keeps.of ?_ rfl rfl rfl rfl rfl rfl; first | with_reducible assumption | with_reducible apply Keeps.ite | with_reducible apply State.tenantResetBeat_keeps | with_reducible apply State.isolate_keeps | with_reducible apply State.setFn_keeps | split))

theorem State.tenantWaitEnd_keeps {s0 : State} (n : Nat) (s : State) (hK : Keeps s0 s) :
    Keeps s0 (State.tenantWaitEnd n s) := by
  unfold State.tenantWaitEnd
  repeat' (first | with_reducible assumption | intro _ | with_reducible apply Keeps.ite | with_reducible apply State.tenantResetBeat_keeps | split)

theorem State.levelsNextBeat_keeps {s0 : State} (n : Nat) (s : State) (hK : Keeps s0 s) :
    Keeps s0 (State.levelsNextBeat n s) := by
  unfold State.levelsNextBeat
  repeat' (first | with_reducible assumption | intro _ | with_reducible apply each_keeps | with_reducible apply State.setSrc_keeps | split | (with_reducible refine Keeps.of ?_ rfl rfl rfl rfl rfl rfl; first | with_reducible assumption | with_reducible apply each_keeps | with_reducible apply State.setSrc_keeps | split))

theorem State.tenantResetEnd_keeps {s0 : State} (n : Nat) (s : State) (hK : Keeps s0 s) :
    Keeps s0 (State.tenantResetEnd n s) := by
  unfold State.tenantResetEnd
  repeat' (first | with_reducible assumption | intro _ | with_reducible apply Keeps.ite | with_reducible apply State.levelsNextBeat_keeps | with_reducible apply State.dial_keeps | with_reducible apply State.setFn_keeps | with_reducible apply State.bump_keeps | split | (with_reducible refine Keeps.of ?_ rfl rfl rfl rfl rfl rfl; first | with_reducible assumption | with_reducible apply Keeps.ite | with_reducible apply State.levelsNextBeat_keeps | with_reducible apply State.dial_keeps | with_reducible apply State.setFn_keeps | with_reducible apply State.bump_keeps | split))

theorem State.functionReset_keeps {s0 : State} (n : Nat) (s : State) (hK : Keeps s0 s) :
    Keeps s0 (State.functionReset n s) := by
  unfold State.functionReset
  repeat' (first | with_reducible assumption | intro _ | (extract_lets +onlyGivenNames x; first | ((first | refine (fun hx => ?_ : Keeps s0 x → Keeps s0 _) ?_); (on_goal 1 => clear_value x); (on_goal 2 => subst x)) | (refine (fun hx => ?_ : Keeps s0 x → Keeps s0 _) ?_; (on_goal 2 => subst x)) | clear_value x | skip) | with_reducible apply State.tenantReset_keeps | with_reducible apply State.setFn_keeps | split)

theorem State.vfSet_keeps {s0 : State} (en : Bool) (num : Nat) (s : State) (hK : Keeps s0 s) :
    Keeps s0 (State.vfSet en num s) := by
  unfold State.vfSet
  repeat' (first | with_reducible assumption | intro _ | (extract_lets +onlyGivenNames x; first | ((first | refine (fun hx => ?_ : Keeps s0 x → Keeps s0 _) ?_); (on_goal 1 => clear_value x); (on_goal 2 => subst x)) | (refine (fun hx => ?_ : Keeps s0 x → Keeps s0 _) ?_; (on_goal 2 => subst x)) | clear_value x | skip) | with_reducible apply each_keeps | with_reducible apply State.functionReset_keeps | split | (with_reducible refine Keeps.of ?_ rfl rfl rfl rfl rfl rfl; first | with_reducible assumption | with_reducible apply each_keeps | with_reducible apply State.functionReset_keeps | split))

theorem State.flr_keeps {s0 : State} (n : Nat) (s : State) (hK : Keeps s0 s) :
    Keeps s0 (State.flr n s) := by
  unfold State.flr
  repeat' (first | with_reducible assumption | intro _ | (extract_lets +onlyGivenNames x; first | ((first | refine (fun hx => ?_ : Keeps s0 x → Keeps s0 _) ?_); (on_goal 1 => clear_value x); (on_goal 2 => subst x)) | (refine (fun hx => ?_ : Keeps s0 x → Keeps s0 _) ?_; (on_goal 2 => subst x)) | clear_value x | skip) | with_reducible apply Keeps.ite | with_reducible apply State.vfSet_keeps | with_reducible apply State.functionReset_keeps | split)

theorem State.pcieInterfaceReset_keeps {s0 : State} (s : State) (hK : Keeps s0 s) :
    Keeps s0 (State.pcieInterfaceReset s) := by
  unfold State.pcieInterfaceReset
  repeat' (first | with_reducible assumption | intro _ | (extract_lets +onlyGivenNames x; first | ((first | refine (fun hx => ?_ : Keeps s0 x → Keeps s0 _) ?_); (on_goal 1 => clear_value x); (on_goal 2 => subst x)) | (refine (fun hx => ?_ : Keeps s0 x → Keeps s0 _) ?_; (on_goal 2 => subst x)) | clear_value x | skip) | with_reducible apply Keeps.ite | with_reducible apply State.vfSet_keeps | with_reducible apply State.functionReset_keeps | split | (with_reducible refine Keeps.of ?_ rfl rfl rfl rfl rfl rfl; first | with_reducible assumption | with_reducible apply Keeps.ite | with_reducible apply State.vfSet_keeps | with_reducible apply State.functionReset_keeps | split))

theorem State.setBme_keeps {s0 : State} (n : Nat) (v : Bool) (s : State) (hK : Keeps s0 s) :
    Keeps s0 (State.setBme n v s) := by
  unfold State.setBme
  repeat' (first | with_reducible assumption | intro _ | with_reducible apply Keeps.ite | with_reducible apply State.setFn_keeps | split | (with_reducible refine Keeps.of ?_ rfl rfl rfl rfl rfl rfl; first | with_reducible assumption | with_reducible apply Keeps.ite | with_reducible apply State.setFn_keeps | split))

end Sys2Proof.Machine
end

