-- ==== Sys2Proof/Laws/KeepsTandem.lean ====
section
/-! SUPPORT. What the operations of Machine/Tandem.lean keep. -/

set_option linter.all false

namespace Sys2Proof.Machine

open Sys2Proof

theorem State.ringSource_keeps {s0 : State} (n : Nat) (tag : BitVec 16) (len : Nat) (keep : Bool) (bytes : List Byte)
    (s : State) (hK : Keeps s0 s) :
    Keeps s0 (State.ringSource n tag len keep bytes s) := by
  unfold State.ringSource
  repeat' (first | with_reducible assumption | intro _ | (extract_lets +onlyGivenNames x; first | ((first | refine (fun hx => ?_ : Keeps s0 x → Keeps s0 _) ?_); (on_goal 1 => clear_value x); (on_goal 2 => subst x)) | (refine (fun hx => ?_ : Keeps s0 x → Keeps s0 _) ?_; (on_goal 2 => subst x)) | clear_value x | skip) | with_reducible apply Keeps.ite | with_reducible apply State.arrive_keeps | with_reducible apply State.setO_keeps | split)

theorem State.newSession_keeps {s0 : State} (s : State) (hK : Keeps s0 s) :
    Keeps s0 (State.newSession s) := by
  unfold State.newSession
  repeat' (first | with_reducible assumption | intro _ | (extract_lets +onlyGivenNames x; first | ((first | refine (fun hx => ?_ : Keeps s0 x → Keeps s0 _) ?_); (on_goal 1 => clear_value x); (on_goal 2 => subst x)) | (refine (fun hx => ?_ : Keeps s0 x → Keeps s0 _) ?_; (on_goal 2 => subst x)) | clear_value x | skip) | split | (with_reducible refine Keeps.of ?_ rfl rfl rfl rfl rfl rfl; first | with_reducible assumption | split))

theorem State.chrTandem_keeps {s0 : State} (kind replayed : Nat) (s : State) (hK : Keeps s0 s) :
    Keeps s0 (State.chrTandem kind replayed s) := by
  unfold State.chrTandem
  repeat' (first | with_reducible assumption | intro _ | with_reducible apply State.chrPut_keeps | split)

theorem State.forwardsDown_keeps {s0 : State} (mm : Bool) (e : Nat) (s : State) (hK : Keeps s0 s) :
    Keeps s0 (State.forwardsDown mm e s) := by
  unfold State.forwardsDown
  repeat' (first | with_reducible assumption | intro _ | (extract_lets +onlyGivenNames x; first | ((first | refine (fun hx => ?_ : Keeps s0 x → Keeps s0 _) ?_); (on_goal 1 => clear_value x); (on_goal 2 => subst x)) | (refine (fun hx => ?_ : Keeps s0 x → Keeps s0 _) ?_; (on_goal 2 => subst x)) | clear_value x | skip) | with_reducible apply each_keeps | with_reducible apply Keeps.ite | with_reducible apply State.revokeForward_keeps | with_reducible apply State.mismatch_keeps | split)

theorem State.lanesDown_keeps {s0 : State} (mm : Bool) (s : State) (hK : Keeps s0 s) :
    Keeps s0 (State.lanesDown mm s) := by
  unfold State.lanesDown
  repeat' (first | with_reducible assumption | intro _ | (extract_lets +onlyGivenNames x; first | ((first | refine (fun hx => ?_ : Keeps s0 x → Keeps s0 _) ?_); (on_goal 1 => clear_value x); (on_goal 2 => subst x)) | (refine (fun hx => ?_ : Keeps s0 x → Keeps s0 _) ?_; (on_goal 2 => subst x)) | clear_value x | skip) | with_reducible apply each_keeps | with_reducible apply Keeps.ite | with_reducible apply State.forwardsDown_keeps | with_reducible apply State.chrTandem_keeps | with_reducible apply State.tandemChanged_keeps | with_reducible apply State.dial_keeps | split | (with_reducible refine Keeps.of ?_ rfl rfl rfl rfl rfl rfl; first | with_reducible assumption | with_reducible apply each_keeps | with_reducible apply Keeps.ite | with_reducible apply State.forwardsDown_keeps | with_reducible apply State.chrTandem_keeps | with_reducible apply State.tandemChanged_keeps | with_reducible apply State.dial_keeps | split))

theorem State.linkSilent_keeps {s0 : State} (mm : Bool) (s : State) (hK : Keeps s0 s) :
    Keeps s0 (State.linkSilent mm s) := by
  unfold State.linkSilent
  repeat' (first | with_reducible assumption | intro _ | (extract_lets +onlyGivenNames x; first | ((first | refine (fun hx => ?_ : Keeps s0 x → Keeps s0 _) ?_); (on_goal 1 => clear_value x); (on_goal 2 => subst x)) | (refine (fun hx => ?_ : Keeps s0 x → Keeps s0 _) ?_; (on_goal 2 => subst x)) | clear_value x | skip) | with_reducible apply State.lanesDown_keeps | split | (with_reducible refine Keeps.of ?_ rfl rfl rfl rfl rfl rfl; first | with_reducible assumption | with_reducible apply State.lanesDown_keeps | split))

theorem State.heard_keeps {s0 : State} (s : State) (hK : Keeps s0 s) :
    Keeps s0 (State.heard s) := by
  unfold State.heard
  repeat' (first | with_reducible assumption | intro _ | (extract_lets +onlyGivenNames x; first | ((first | refine (fun hx => ?_ : Keeps s0 x → Keeps s0 _) ?_); (on_goal 1 => clear_value x); (on_goal 2 => subst x)) | (refine (fun hx => ?_ : Keeps s0 x → Keeps s0 _) ?_; (on_goal 2 => subst x)) | clear_value x | skip) | with_reducible apply Keeps.ite | with_reducible apply State.chrTandem_keeps | with_reducible apply State.tandemChanged_keeps | split | (with_reducible refine Keeps.of ?_ rfl rfl rfl rfl rfl rfl; first | with_reducible assumption | with_reducible apply Keeps.ite | with_reducible apply State.chrTandem_keeps | with_reducible apply State.tandemChanged_keeps | split))

theorem State.replayEntry_keeps {s0 : State} (e : Nat × InEntry) (acc : Nat × State) (hK : Keeps s0 acc.2) :
    Keeps s0 (State.replayEntry e acc).2 := by
  obtain ⟨k, s⟩ := acc
  unfold State.replayEntry
  dsimp only at hK ⊢
  split
  · split
    · exact State.bump_keeps _ _ _ _ hK
    · split
      · exact State.bump_keeps _ _ _ _ hK
      · exact Keeps.ite (State.setSrc_keeps _ _ _ (State.bump_keeps _ _ _ _ hK)) (State.arrive_keeps _ _ _ _ _ _ (State.bump_keeps _ _ _ _ hK))
  · exact hK

theorem State.replay_keeps {s0 : State} (s : State) (hK : Keeps s0 s) : Keeps s0 (State.replay s) := by
  have h := each_keep (fun (p : Nat × State) => Keeps s0 p.2) State.replayEntry
    (fun a p hp => State.replayEntry_keeps a p hp) s.tdm.inTable (0, s) hK
  unfold State.replay
  exact State.chrTandem_keeps _ _ _ (Keeps.of h rfl rfl rfl rfl rfl rfl)

theorem State.promote_keeps {s0 : State} (s : State) (hK : Keeps s0 s) :
    Keeps s0 (State.promote s) := by
  unfold State.promote
  repeat' (first | with_reducible assumption | intro _ | (extract_lets +onlyGivenNames x; first | ((first | refine (fun hx => ?_ : Keeps s0 x → Keeps s0 _) ?_); (on_goal 1 => clear_value x); (on_goal 2 => subst x)) | (refine (fun hx => ?_ : Keeps s0 x → Keeps s0 _) ?_; (on_goal 2 => subst x)) | clear_value x | skip) | with_reducible apply Keeps.ite | with_reducible apply State.replay_keeps | with_reducible apply State.tandemChanged_keeps | with_reducible apply State.dial_keeps | with_reducible apply State.bump_keeps | with_reducible apply State.setO_keeps | split | (with_reducible refine Keeps.of ?_ rfl rfl rfl rfl rfl rfl; first | with_reducible assumption | with_reducible apply Keeps.ite | with_reducible apply State.replay_keeps | with_reducible apply State.tandemChanged_keeps | with_reducible apply State.dial_keeps | with_reducible apply State.bump_keeps | with_reducible apply State.setO_keeps | split))

theorem State.setGasp_keeps {s0 : State} (v : Bool) (s : State) (hK : Keeps s0 s) : Keeps s0 (State.setGasp v s) := by
  have h (z : State) (hz : Keeps s0 z) :
      Keeps s0 (if v then (if (z.chrTandem 6 0).o 0x1901 0 = 2 then (z.chrTandem 6 0).promote else z.chrTandem 6 0) else z) :=
    Keeps.ite (Keeps.ite (State.promote_keeps _ (State.chrTandem_keeps _ _ _ hz)) (State.chrTandem_keeps _ _ _ hz)) hz
  unfold State.setGasp
  split
  · exact hK
  · exact h _ (State.tandemChanged_keeps _ (Keeps.of hK rfl rfl rfl rfl rfl rfl))

theorem State.gaspSeen_keeps {s0 : State} (sess : Dw) (s : State) (hK : Keeps s0 s) :
    Keeps s0 (State.gaspSeen sess s) := by
  unfold State.gaspSeen
  repeat' (first | with_reducible assumption | intro _ | with_reducible apply Keeps.ite | with_reducible apply State.setGasp_keeps | split | (with_reducible refine Keeps.of ?_ rfl rfl rfl rfl rfl rfl; first | with_reducible assumption | with_reducible apply Keeps.ite | with_reducible apply State.setGasp_keeps | split))

theorem State.checkSenior_keeps {s0 : State} (senior : Bool) (s : State) (hK : Keeps s0 s) :
    Keeps s0 (State.checkSenior senior s) := by
  unfold State.checkSenior
  repeat' (first | with_reducible assumption | intro _ | with_reducible apply Keeps.ite | with_reducible apply State.dial_keeps | split | (with_reducible refine Keeps.of ?_ rfl rfl rfl rfl rfl rfl; first | with_reducible assumption | with_reducible apply Keeps.ite | with_reducible apply State.dial_keeps | split))

theorem State.partnerPromoted_keeps {s0 : State} (v : Bool) (s : State) (hK : Keeps s0 s) :
    Keeps s0 (State.partnerPromoted v s) := by
  unfold State.partnerPromoted
  repeat' (first | with_reducible assumption | intro _ | (extract_lets +onlyGivenNames x; first | ((first | refine (fun hx => ?_ : Keeps s0 x → Keeps s0 _) ?_); (on_goal 1 => clear_value x); (on_goal 2 => subst x)) | (refine (fun hx => ?_ : Keeps s0 x → Keeps s0 _) ?_; (on_goal 2 => subst x)) | clear_value x | skip) | with_reducible apply Keeps.ite | with_reducible apply State.startSync_keeps | split | (with_reducible refine Keeps.of ?_ rfl rfl rfl rfl rfl rfl; first | with_reducible assumption | with_reducible apply Keeps.ite | with_reducible apply State.startSync_keeps | split))

theorem State.takeFlags_keeps {s0 : State} (f : Byte) (s : State) (hK : Keeps s0 s) :
    Keeps s0 (State.takeFlags f s) := by
  unfold State.takeFlags
  repeat' (first | with_reducible assumption | intro _ | (extract_lets +onlyGivenNames x; first | ((first | refine (fun hx => ?_ : Keeps s0 x → Keeps s0 _) ?_); (on_goal 1 => clear_value x); (on_goal 2 => subst x)) | (refine (fun hx => ?_ : Keeps s0 x → Keeps s0 _) ?_; (on_goal 2 => subst x)) | clear_value x | skip) | with_reducible apply Keeps.ite | with_reducible apply State.partnerPromoted_keeps | with_reducible apply State.checkSenior_keeps | with_reducible apply State.setGasp_keeps | with_reducible apply State.tandemChanged_keeps | split | (with_reducible refine Keeps.of ?_ rfl rfl rfl rfl rfl rfl; first | with_reducible assumption | with_reducible apply Keeps.ite | with_reducible apply State.partnerPromoted_keeps | with_reducible apply State.checkSenior_keeps | with_reducible apply State.setGasp_keeps | with_reducible apply State.tandemChanged_keeps | split))

theorem State.partnerLoss_keeps {s0 : State} (s : State) (hK : Keeps s0 s) : Keeps s0 (State.partnerLoss s) := by
  have h (z : State) (hz : Keeps s0 z) : Keeps s0 (if 1 ≤ z.o 0x1901 0 then z.promote else z) :=
    Keeps.ite (State.promote_keeps _ hz) hz
  unfold State.partnerLoss
  split
  · exact h _ (State.tandemChanged_keeps _ (State.chrTandem_keeps _ _ _ (State.dial_keeps _ _ _ (State.bump_keeps _ _ _ _
      (Keeps.of hK rfl rfl rfl rfl rfl rfl)))))
  · exact hK

theorem State.takeCredit_keeps {s0 : State} (c : BitVec 16) (s : State) (hK : Keeps s0 s) :
    Keeps s0 (State.takeCredit c s) := by
  unfold State.takeCredit
  repeat' (first | with_reducible assumption | intro _ | (extract_lets +onlyGivenNames x; first | ((first | refine (fun hx => ?_ : Keeps s0 x → Keeps s0 _) ?_); (on_goal 1 => clear_value x); (on_goal 2 => subst x)) | (refine (fun hx => ?_ : Keeps s0 x → Keeps s0 _) ?_; (on_goal 2 => subst x)) | clear_value x | skip) | with_reducible apply Keeps.ite | split | (with_reducible refine Keeps.of ?_ rfl rfl rfl rfl rfl rfl; first | with_reducible assumption | with_reducible apply Keeps.ite | split))

theorem State.laneRx_keeps {s0 : State} (kind : Byte) (body : List Byte) (h : LaneHdr) (f : State → State) (s :
    State) (hf : ∀ z, Keeps s0 z → Keeps s0 (f z)) (hK : Keeps s0 s) :
    Keeps s0 (State.laneRx kind body h f s) := by
  unfold State.laneRx
  repeat' (first | with_reducible assumption | intro _ | (extract_lets +onlyGivenNames x; first | ((first | refine (fun hx => ?_ : Keeps s0 x → Keeps s0 _) ?_); (on_goal 1 => clear_value x); (on_goal 2 => subst x)) | (refine (fun hx => ?_ : Keeps s0 x → Keeps s0 _) ?_; (on_goal 2 => subst x)) | clear_value x | skip) | with_reducible apply Keeps.ite | with_reducible apply State.takeCredit_keeps | with_reducible apply State.heard_keeps | with_reducible apply State.pump_keeps | with_reducible apply State.bump_keeps | with_reducible apply_assumption | split | (with_reducible refine Keeps.of ?_ rfl rfl rfl rfl rfl rfl; first | with_reducible assumption | with_reducible apply Keeps.ite | with_reducible apply State.takeCredit_keeps | with_reducible apply State.heard_keeps | with_reducible apply State.pump_keeps | with_reducible apply State.bump_keeps | with_reducible apply_assumption | split))

theorem State.whileUp_keeps {s0 : State} (f : State → State) (s : State) (hf : ∀ z, Keeps s0 z → Keeps s0 (f z)) (hK
    : Keeps s0 s) :
    Keeps s0 (State.whileUp f s) := by
  unfold State.whileUp
  repeat' (first | with_reducible assumption | intro _ | with_reducible apply Keeps.ite | with_reducible apply_assumption | split)

theorem State.laneAck_keeps {s0 : State} (lseq : Dw) (s : State) (hK : Keeps s0 s) :
    Keeps s0 (State.laneAck lseq s) := by
  unfold State.laneAck
  repeat' (first | with_reducible assumption | intro _ | with_reducible apply State.emit_keeps | split)

theorem State.laneNak_keeps {s0 : State} (s : State) (hK : Keeps s0 s) :
    Keeps s0 (State.laneNak s) := by
  unfold State.laneNak
  repeat' (first | with_reducible assumption | intro _ | with_reducible apply State.emit_keeps | split)

theorem State.laneReq_keeps {s0 : State} (kind : Byte) (body : List Byte) (h : LaneHdr) (f : State → State) (s :
    State) (hf : ∀ z, Keeps s0 z → Keeps s0 (f z)) (hK : Keeps s0 s) :
    Keeps s0 (State.laneReq kind body h f s) := by
  unfold State.laneReq
  repeat' (first | with_reducible assumption | intro _ | (extract_lets +onlyGivenNames x; first | ((first | refine (fun hx => ?_ : Keeps s0 x → Keeps s0 _) ?_); (on_goal 1 => clear_value x); (on_goal 2 => subst x)) | (refine (fun hx => ?_ : Keeps s0 x → Keeps s0 _) ?_; (on_goal 2 => subst x)) | clear_value x | skip) | with_reducible apply Keeps.ite | with_reducible apply State.laneNak_keeps | with_reducible apply State.laneAck_keeps | with_reducible apply State.whileUp_keeps | with_reducible apply State.laneRx_keeps | with_reducible apply State.bump_keeps | with_reducible apply_assumption | split | (with_reducible refine Keeps.of ?_ rfl rfl rfl rfl rfl rfl; first | with_reducible assumption | with_reducible apply Keeps.ite | with_reducible apply State.laneNak_keeps | with_reducible apply State.laneAck_keeps | with_reducible apply State.whileUp_keeps | with_reducible apply State.laneRx_keeps | with_reducible apply State.bump_keeps | with_reducible apply_assumption | split))

theorem State.resolveKept_keeps {s0 : State} (known : Bool) (rxLast : Dw) (s : State) (hK : Keeps s0 s) :
    Keeps s0 (State.resolveKept known rxLast s) := by
  unfold State.resolveKept
  repeat' (first | with_reducible assumption | intro _ | (extract_lets +onlyGivenNames x; first | ((first | refine (fun hx => ?_ : Keeps s0 x → Keeps s0 _) ?_); (on_goal 1 => clear_value x); (on_goal 2 => subst x)) | (refine (fun hx => ?_ : Keeps s0 x → Keeps s0 _) ?_; (on_goal 2 => subst x)) | clear_value x | skip) | with_reducible apply each_keeps | with_reducible apply Keeps.ite | with_reducible apply State.outcome_keeps | with_reducible apply State.note_keeps | with_reducible apply State.returnBuf_keeps | with_reducible apply State.setSrc_keeps | with_reducible apply State.bump_keeps | split | (with_reducible refine Keeps.of ?_ rfl rfl rfl rfl rfl rfl; first | with_reducible assumption | with_reducible apply each_keeps | with_reducible apply Keeps.ite | with_reducible apply State.outcome_keeps | with_reducible apply State.note_keeps | with_reducible apply State.returnBuf_keeps | with_reducible apply State.setSrc_keeps | with_reducible apply State.bump_keeps | split))

theorem State.laneUp_keeps {s0 : State} (session txNext rxLast rxSession : Dw) (s : State) (hK : Keeps s0 s) :
    Keeps s0 (State.laneUp session txNext rxLast rxSession s) := by
  unfold State.laneUp
  repeat' (first | with_reducible assumption | intro _ | (extract_lets +onlyGivenNames x; first | ((first | refine (fun hx => ?_ : Keeps s0 x → Keeps s0 _) ?_); (on_goal 1 => clear_value x); (on_goal 2 => subst x)) | (refine (fun hx => ?_ : Keeps s0 x → Keeps s0 _) ?_; (on_goal 2 => subst x)) | clear_value x | skip) | with_reducible apply each_keeps | with_reducible apply Keeps.ite | with_reducible apply State.resolveKept_keeps | with_reducible apply State.chrTandem_keeps | with_reducible apply State.startSync_keeps | with_reducible apply State.tandemChanged_keeps | with_reducible apply State.setSrc_keeps | split | (with_reducible refine Keeps.of ?_ rfl rfl rfl rfl rfl rfl; first | with_reducible assumption | with_reducible apply each_keeps | with_reducible apply Keeps.ite | with_reducible apply State.resolveKept_keeps | with_reducible apply State.chrTandem_keeps | with_reducible apply State.startSync_keeps | with_reducible apply State.tandemChanged_keeps | with_reducible apply State.setSrc_keeps | split))

theorem State.hello_keeps {s0 : State} (h : LaneHdr) (session txNext rxLast rxSession : Dw) (flags : Byte) (s :
    State) (hK : Keeps s0 s) :
    Keeps s0 (State.hello h session txNext rxLast rxSession flags s) := by
  unfold State.hello
  repeat' (first | with_reducible assumption | intro _ | (extract_lets +onlyGivenNames x; first | ((first | refine (fun hx => ?_ : Keeps s0 x → Keeps s0 _) ?_); (on_goal 1 => clear_value x); (on_goal 2 => subst x)) | (refine (fun hx => ?_ : Keeps s0 x → Keeps s0 _) ?_; (on_goal 2 => subst x)) | clear_value x | skip) | with_reducible apply Keeps.ite | with_reducible apply State.laneUp_keeps | with_reducible apply State.laneRx_keeps | with_reducible apply State.checkSenior_keeps | split | (with_reducible refine Keeps.of ?_ rfl rfl rfl rfl rfl rfl; first | with_reducible assumption | with_reducible apply Keeps.ite | with_reducible apply State.laneUp_keeps | with_reducible apply State.laneRx_keeps | with_reducible apply State.checkSenior_keeps | split))

theorem State.ack_keeps {s0 : State} (h : LaneHdr) (s : State) (hK : Keeps s0 s) :
    Keeps s0 (State.ack h s) := by
  unfold State.ack
  repeat' (first | with_reducible assumption | intro _ | (extract_lets +onlyGivenNames x; first | ((first | refine (fun hx => ?_ : Keeps s0 x → Keeps s0 _) ?_); (on_goal 1 => clear_value x); (on_goal 2 => subst x)) | (refine (fun hx => ?_ : Keeps s0 x → Keeps s0 _) ?_; (on_goal 2 => subst x)) | clear_value x | skip) | with_reducible apply State.whileUp_keeps | with_reducible apply State.laneRx_keeps | with_reducible apply State.ended_keeps | with_reducible apply State.returnBuf_keeps | with_reducible apply State.setO_keeps | split | (with_reducible refine Keeps.of ?_ rfl rfl rfl rfl rfl rfl; first | with_reducible assumption | with_reducible apply State.whileUp_keeps | with_reducible apply State.laneRx_keeps | with_reducible apply State.ended_keeps | with_reducible apply State.returnBuf_keeps | with_reducible apply State.setO_keeps | split))

theorem State.retransmit_keeps {s0 : State} (s : State) (hK : Keeps s0 s) :
    Keeps s0 (State.retransmit s) := by
  unfold State.retransmit
  repeat' (first | with_reducible assumption | intro _ | (extract_lets +onlyGivenNames x; first | ((first | refine (fun hx => ?_ : Keeps s0 x → Keeps s0 _) ?_); (on_goal 1 => clear_value x); (on_goal 2 => subst x)) | (refine (fun hx => ?_ : Keeps s0 x → Keeps s0 _) ?_; (on_goal 2 => subst x)) | clear_value x | skip) | with_reducible apply each_keeps | with_reducible apply State.emit_keeps | with_reducible apply State.bump_keeps | split | (with_reducible refine Keeps.of ?_ rfl rfl rfl rfl rfl rfl; first | with_reducible assumption | with_reducible apply each_keeps | with_reducible apply State.emit_keeps | with_reducible apply State.bump_keeps | split))

theorem State.nak_keeps {s0 : State} (h : LaneHdr) (expected : Dw) (s : State) (hK : Keeps s0 s) :
    Keeps s0 (State.nak h expected s) := by
  unfold State.nak
  repeat' (first | with_reducible assumption | intro _ | with_reducible apply Keeps.ite | with_reducible apply State.retransmit_keeps | with_reducible apply State.whileUp_keeps | with_reducible apply State.laneRx_keeps | split)

theorem State.retransmitTimeout_keeps {s0 : State} (mm : Bool) (s : State) (hK : Keeps s0 s) :
    Keeps s0 (State.retransmitTimeout mm s) := by
  unfold State.retransmitTimeout
  repeat' (first | with_reducible assumption | intro _ | with_reducible apply Keeps.ite | with_reducible apply State.retransmit_keeps | with_reducible apply State.lanesDown_keeps | split)

theorem State.setIn_keeps {s0 : State} (e : MirrorEntry) (s : State) (hK : Keeps s0 s) :
    Keeps s0 (State.setIn e s) := by
  unfold State.setIn
  repeat' (first | with_reducible assumption | intro _ | with_reducible apply Keeps.ite | split | (with_reducible refine Keeps.of ?_ rfl rfl rfl rfl rfl rfl; first | with_reducible assumption | with_reducible apply Keeps.ite | split))

theorem State.syncBegin_keeps {s0 : State} (s : State) (hK : Keeps s0 s) :
    Keeps s0 (State.syncBegin s) := by
  unfold State.syncBegin
  repeat' (first | with_reducible assumption | intro _ | split | (with_reducible refine Keeps.of ?_ rfl rfl rfl rfl rfl rfl; first | with_reducible assumption | split))

theorem State.syncEnd_keeps {s0 : State} (s : State) (hK : Keeps s0 s) :
    Keeps s0 (State.syncEnd s) := by
  unfold State.syncEnd
  repeat' (first | with_reducible assumption | intro _ | (extract_lets +onlyGivenNames x; first | ((first | refine (fun hx => ?_ : Keeps s0 x → Keeps s0 _) ?_); (on_goal 1 => clear_value x); (on_goal 2 => subst x)) | (refine (fun hx => ?_ : Keeps s0 x → Keeps s0 _) ?_; (on_goal 2 => subst x)) | clear_value x | skip) | with_reducible apply Keeps.ite | with_reducible apply State.tandemChanged_keeps | split | (with_reducible refine Keeps.of ?_ rfl rfl rfl rfl rfl rfl; first | with_reducible assumption | with_reducible apply Keeps.ite | with_reducible apply State.tandemChanged_keeps | split))

theorem State.mirrorResync_keeps {s0 : State} (s : State) (hK : Keeps s0 s) :
    Keeps s0 (State.mirrorResync s) := by
  unfold State.mirrorResync
  repeat' (first | with_reducible assumption | intro _ | with_reducible apply Keeps.ite | with_reducible apply State.startSync_keeps | with_reducible apply State.bump_keeps | split)

theorem State.laneRetrain_keeps {s0 : State} (s : State) (hK : Keeps s0 s) :
    Keeps s0 (State.laneRetrain s) := by
  unfold State.laneRetrain
  repeat' (first | with_reducible assumption | intro _ | with_reducible apply Keeps.ite | split | (with_reducible refine Keeps.of ?_ rfl rfl rfl rfl rfl rfl; first | with_reducible assumption | with_reducible apply Keeps.ite | split))

theorem State.laneLost_keeps {s0 : State} (silent mm : Bool) (s : State) (hK : Keeps s0 s) :
    Keeps s0 (State.laneLost silent mm s) := by
  unfold State.laneLost
  repeat' (first | with_reducible assumption | intro _ | with_reducible apply Keeps.ite | with_reducible apply State.lanesDown_keeps | split)

theorem State.laneLock_keeps {s0 : State} (s : State) (hK : Keeps s0 s) :
    Keeps s0 (State.laneLock s) := by
  unfold State.laneLock
  repeat' (first | with_reducible assumption | intro _ | with_reducible apply Keeps.ite | split | (with_reducible refine Keeps.of ?_ rfl rfl rfl rfl rfl rfl; first | with_reducible assumption | with_reducible apply Keeps.ite | split))

theorem State.helloSend_keeps {s0 : State} (s : State) (hK : Keeps s0 s) :
    Keeps s0 (State.helloSend s) := by
  unfold State.helloSend
  repeat' (first | with_reducible assumption | intro _ | (extract_lets +onlyGivenNames x; first | ((first | refine (fun hx => ?_ : Keeps s0 x → Keeps s0 _) ?_); (on_goal 1 => clear_value x); (on_goal 2 => subst x)) | (refine (fun hx => ?_ : Keeps s0 x → Keeps s0 _) ?_; (on_goal 2 => subst x)) | clear_value x | skip) | with_reducible apply Keeps.ite | with_reducible apply State.emit_keeps | split | (with_reducible refine Keeps.of ?_ rfl rfl rfl rfl rfl rfl; first | with_reducible assumption | with_reducible apply Keeps.ite | with_reducible apply State.emit_keeps | split))

theorem State.heartbeatSend_keeps {s0 : State} (s : State) (hK : Keeps s0 s) :
    Keeps s0 (State.heartbeatSend s) := by
  unfold State.heartbeatSend
  repeat' (first | with_reducible assumption | intro _ | with_reducible apply Keeps.ite | with_reducible apply State.emit_keeps | split | (with_reducible refine Keeps.of ?_ rfl rfl rfl rfl rfl rfl; first | with_reducible assumption | with_reducible apply Keeps.ite | with_reducible apply State.emit_keeps | split))

theorem State.pairSend_keeps {s0 : State} (collide : Bool) (s : State) (hK : Keeps s0 s) :
    Keeps s0 (State.pairSend collide s) := by
  unfold State.pairSend
  repeat' (first | with_reducible assumption | intro _ | (extract_lets +onlyGivenNames x; first | ((first | refine (fun hx => ?_ : Keeps s0 x → Keeps s0 _) ?_); (on_goal 1 => clear_value x); (on_goal 2 => subst x)) | (refine (fun hx => ?_ : Keeps s0 x → Keeps s0 _) ?_; (on_goal 2 => subst x)) | clear_value x | skip) | with_reducible apply Keeps.ite | with_reducible apply State.pairPut_keeps | split | (with_reducible refine Keeps.of ?_ rfl rfl rfl rfl rfl rfl; first | with_reducible assumption | with_reducible apply Keeps.ite | with_reducible apply State.pairPut_keeps | split))

theorem State.pairBackoffEnd_keeps {s0 : State} (collide : Bool) (s : State) (hK : Keeps s0 s) :
    Keeps s0 (State.pairBackoffEnd collide s) := by
  unfold State.pairBackoffEnd
  repeat' (first | with_reducible assumption | intro _ | with_reducible apply Keeps.ite | with_reducible apply State.pairGo_keeps | split)

theorem State.tandemWake_keeps {s0 : State} (collide : Bool) (s : State) (hK : Keeps s0 s) :
    Keeps s0 (State.tandemWake collide s) := by
  unfold State.tandemWake
  repeat' (first | with_reducible assumption | intro _ | with_reducible apply Keeps.ite | with_reducible apply State.pairPut_keeps | split)

theorem State.pairGaspCopy_keeps {s0 : State} (collide : Bool) (s : State) (hK : Keeps s0 s) :
    Keeps s0 (State.pairGaspCopy collide s) := by
  unfold State.pairGaspCopy
  repeat' (first | with_reducible assumption | intro _ | with_reducible apply Keeps.ite | with_reducible apply State.pairPut_keeps | split | (with_reducible refine Keeps.of ?_ rfl rfl rfl rfl rfl rfl; first | with_reducible assumption | with_reducible apply Keeps.ite | with_reducible apply State.pairPut_keeps | split))

theorem State.pairRx_keeps {s0 : State} (kind : Nat) (p : PairFrame) (f : State → State) (s : State) (hf : ∀ z, Keeps
    s0 z → Keeps s0 (f z)) (hK : Keeps s0 s) :
    Keeps s0 (State.pairRx kind p f s) := by
  unfold State.pairRx
  repeat' (first | with_reducible assumption | intro _ | (extract_lets +onlyGivenNames x; first | ((first | refine (fun hx => ?_ : Keeps s0 x → Keeps s0 _) ?_); (on_goal 1 => clear_value x); (on_goal 2 => subst x)) | (refine (fun hx => ?_ : Keeps s0 x → Keeps s0 _) ?_; (on_goal 2 => subst x)) | clear_value x | skip) | with_reducible apply Keeps.ite | with_reducible apply State.bump_keeps | with_reducible apply_assumption | split | (with_reducible refine Keeps.of ?_ rfl rfl rfl rfl rfl rfl; first | with_reducible assumption | with_reducible apply Keeps.ite | with_reducible apply State.bump_keeps | with_reducible apply_assumption | split))

theorem State.pairHeartbeat_keeps {s0 : State} (p : PairFrame) (s : State) (hK : Keeps s0 s) :
    Keeps s0 (State.pairHeartbeat p s) := by
  unfold State.pairHeartbeat
  repeat' (first | with_reducible assumption | intro _ | with_reducible apply State.pairRx_keeps | with_reducible apply State.takeFlags_keeps | with_reducible apply State.heard_keeps | split | (with_reducible refine Keeps.of ?_ rfl rfl rfl rfl rfl rfl; first | with_reducible assumption | with_reducible apply State.pairRx_keeps | with_reducible apply State.takeFlags_keeps | with_reducible apply State.heard_keeps | split))

end Sys2Proof.Machine
end

