-- ==== Sys2Proof/Laws/KeepsSupply.lean ====
section
/-! SUPPORT. What the operations of Machine/Supply.lean keep. -/

set_option linter.all false

namespace Sys2Proof.Machine

open Sys2Proof

theorem State.adc_keeps {s0 : State} (code : Nat) (s : State) (hK : Keeps s0 s) : Keeps s0 (State.adc code s) := by
  have h (k : Nat) (z : State) (hz : Keeps s0 z) : Keeps s0
      (if k % 2 = 0 then
        if (z.setO 0x1309 0 code).supply.gaspState = 1 then { z.setO 0x1309 0 code with supply := { (z.setO 0x1309 0 code).supply with dipMin := min (z.setO 0x1309 0 code).supply.dipMin code } } else z.setO 0x1309 0 code
      else if k = 1 then z.setO 0x130A 0 code
      else z.setO 0x130B (k / 2 - 1) (Config.railMillivolts (k / 2 - 1) code % 65536)) := by
    have hs := State.setO_keeps 0x1309 0 code z hz
    refine Keeps.ite (Keeps.ite (Keeps.of hs rfl rfl rfl rfl rfl rfl) hs) (Keeps.ite ?_ ?_) <;> exact State.setO_keeps _ _ _ _ hz
  unfold State.adc
  split
  · exact h _ _ (Keeps.of hK rfl rfl rfl rfl rfl rfl)
  · exact hK

theorem State.supplyAlarm_keeps {s0 : State} (k : Nat) (on : Bool) (level since : Nat) (s : State) (hK : Keeps s0 s) :
    Keeps s0 (State.supplyAlarm k on level since s) := by
  unfold State.supplyAlarm
  repeat' (first | with_reducible assumption | intro _ | (extract_lets +onlyGivenNames x; first | ((first | refine (fun hx => ?_ : Keeps s0 x → Keeps s0 _) ?_); (on_goal 1 => clear_value x); (on_goal 2 => subst x)) | (refine (fun hx => ?_ : Keeps s0 x → Keeps s0 _) ?_; (on_goal 2 => subst x)) | clear_value x | skip) | with_reducible apply Keeps.ite | with_reducible apply State.dial_keeps | with_reducible apply State.bump_keeps | split | (with_reducible refine Keeps.of ?_ rfl rfl rfl rfl rfl rfl; first | with_reducible assumption | with_reducible apply Keeps.ite | with_reducible apply State.dial_keeps | with_reducible apply State.bump_keeps | split))

theorem State.chrSupply_keeps {s0 : State} (kind us : Nat) (s : State) (hK : Keeps s0 s) :
    Keeps s0 (State.chrSupply kind us s) := by
  unfold State.chrSupply
  repeat' (first | with_reducible assumption | intro _ | with_reducible apply State.chrPut_keeps | split)

theorem State.feedWarning_keeps {s0 : State} (level since : Nat) (s : State) (hK : Keeps s0 s) :
    Keeps s0 (State.feedWarning level since s) := by
  unfold State.feedWarning
  repeat' (first | with_reducible assumption | intro _ | (extract_lets +onlyGivenNames x; first | ((first | refine (fun hx => ?_ : Keeps s0 x → Keeps s0 _) ?_); (on_goal 1 => clear_value x); (on_goal 2 => subst x)) | (refine (fun hx => ?_ : Keeps s0 x → Keeps s0 _) ?_; (on_goal 2 => subst x)) | clear_value x | skip) | with_reducible apply Keeps.ite | with_reducible apply State.chrSupply_keeps | with_reducible apply State.chrFlush_keeps | with_reducible apply State.raiseInt_keeps | with_reducible apply State.wake_keeps | split | (with_reducible refine Keeps.of ?_ rfl rfl rfl rfl rfl rfl; first | with_reducible assumption | with_reducible apply Keeps.ite | with_reducible apply State.chrSupply_keeps | with_reducible apply State.chrFlush_keeps | with_reducible apply State.raiseInt_keeps | with_reducible apply State.wake_keeps | split))

theorem State.feedRecovery_keeps {s0 : State} (level since : Nat) (s : State) (hK : Keeps s0 s) :
    Keeps s0 (State.feedRecovery level since s) := by
  unfold State.feedRecovery
  repeat' (first | with_reducible assumption | intro _ | (extract_lets +onlyGivenNames x; first | ((first | refine (fun hx => ?_ : Keeps s0 x → Keeps s0 _) ?_); (on_goal 1 => clear_value x); (on_goal 2 => subst x)) | (refine (fun hx => ?_ : Keeps s0 x → Keeps s0 _) ?_; (on_goal 2 => subst x)) | clear_value x | skip) | with_reducible apply Keeps.ite | with_reducible apply State.chrSupply_keeps | with_reducible apply State.raiseInt_keeps | with_reducible apply State.bk_keeps | split | (with_reducible refine Keeps.of ?_ rfl rfl rfl rfl rfl rfl; first | with_reducible assumption | with_reducible apply Keeps.ite | with_reducible apply State.chrSupply_keeps | with_reducible apply State.raiseInt_keeps | with_reducible apply State.bk_keeps | split))

theorem State.gaspCommit_keeps {s0 : State} (s : State) (hK : Keeps s0 s) :
    Keeps s0 (State.gaspCommit s) := by
  unfold State.gaspCommit
  repeat' (first | with_reducible assumption | intro _ | (extract_lets +onlyGivenNames x; first | ((first | refine (fun hx => ?_ : Keeps s0 x → Keeps s0 _) ?_ | refine (fun hx => ?_ : (∀ z, Keeps s0 z → Keeps s0 (x z)) → Keeps s0 _) ?_ | refine (fun hx => ?_ : (∀ a z, Keeps s0 z → Keeps s0 (x a z)) → Keeps s0 _) ?_ | refine (fun hx => ?_ : (∀ a z, Keeps s0 z → Keeps s0 (x a z).2) → Keeps s0 _) ?_ | refine (fun hx => ?_ : (∀ a c z, Keeps s0 z → Keeps s0 (x a c z)) → Keeps s0 _) ?_ | refine (fun hx => ?_ : (∀ a, Keeps s0 (x a)) → Keeps s0 _) ?_); (on_goal 1 => clear_value x); (on_goal 2 => subst x)) | (refine (fun hx => ?_ : Keeps s0 x → Keeps s0 _) ?_; (on_goal 2 => subst x)) | clear_value x | skip) | with_reducible apply each_keeps | with_reducible apply Keeps.ite | with_reducible apply State.chrSupply_keeps | with_reducible apply State.pump_keeps | with_reducible apply State.raiseInt_keeps | with_reducible apply State.bk_keeps | with_reducible apply_assumption | split | (with_reducible refine Keeps.of ?_ rfl rfl rfl rfl rfl rfl; first | with_reducible assumption | with_reducible apply each_keeps | with_reducible apply Keeps.ite | with_reducible apply State.chrSupply_keeps | with_reducible apply State.pump_keeps | with_reducible apply State.raiseInt_keeps | with_reducible apply State.bk_keeps | with_reducible apply_assumption | split) | dsimp -zeta only)

theorem State.gaspRearm_keeps {s0 : State} (level since : Nat) (s : State) (hK : Keeps s0 s) :
    Keeps s0 (State.gaspRearm level since s) := by
  unfold State.gaspRearm
  repeat' (first | with_reducible assumption | intro _ | with_reducible apply Keeps.ite | split | (with_reducible refine Keeps.of ?_ rfl rfl rfl rfl rfl rfl; first | with_reducible assumption | with_reducible apply Keeps.ite | split))

theorem State.gaspDiscard_keeps {s0 : State} (s : State) (hK : Keeps s0 s) :
    Keeps s0 (State.gaspDiscard s) := by
  unfold State.gaspDiscard
  repeat' (first | with_reducible assumption | intro _ | with_reducible apply Keeps.ite | split | (with_reducible refine Keeps.of ?_ rfl rfl rfl rfl rfl rfl; first | with_reducible assumption | with_reducible apply Keeps.ite | split))

theorem State.feedDisabled_keeps {s0 : State} (s : State) (hK : Keeps s0 s) :
    Keeps s0 (State.feedDisabled s) := by
  unfold State.feedDisabled
  repeat' (first | with_reducible assumption | intro _ | with_reducible apply Keeps.ite | split | (with_reducible refine Keeps.of ?_ rfl rfl rfl rfl rfl rfl; first | with_reducible assumption | with_reducible apply Keeps.ite | split))

theorem State.quietSchedule_keeps {s0 : State} (d3 : Bool) (s : State) (hK : Keeps s0 s) :
    Keeps s0 (State.quietSchedule d3 s) := by
  unfold State.quietSchedule
  repeat' (first | with_reducible assumption | intro _ | with_reducible apply Keeps.ite | split | (with_reducible refine Keeps.of ?_ rfl rfl rfl rfl rfl rfl; first | with_reducible assumption | with_reducible apply Keeps.ite | split))

theorem State.d3Entry_keeps {s0 : State} (s : State) (hK : Keeps s0 s) : Keeps s0 (State.d3Entry s) := by
  have h (z : State) (hz : Keeps s0 z) : Keeps s0 (if z.o 0x1404 0 = 1 then z.quietSchedule true else z) :=
    Keeps.ite (State.quietSchedule_keeps _ _ hz) hz
  unfold State.d3Entry
  split
  · exact h _ (Keeps.of hK rfl rfl rfl rfl rfl rfl)
  · exact hK

theorem State.quietBegin_keeps {s0 : State} (s : State) (hK : Keeps s0 s) :
    Keeps s0 (State.quietBegin s) := by
  unfold State.quietBegin
  repeat' (first | with_reducible assumption | intro _ | with_reducible apply Keeps.ite | split | (with_reducible refine Keeps.of ?_ rfl rfl rfl rfl rfl rfl; first | with_reducible assumption | with_reducible apply Keeps.ite | split))

theorem State.advertise_keeps {s0 : State} (phy : Nat) (r4 r9 : BitVec 16) (s : State) (hK : Keeps s0 s) :
    Keeps s0 (State.advertise phy r4 r9 s) := by
  unfold State.advertise
  repeat' (first | with_reducible assumption | intro _ | with_reducible apply State.emit_keeps | split)

theorem State.drainEsc_keeps {s0 : State} (mm : Bool) (e : Nat) (s : State) (hK : Keeps s0 s) :
    Keeps s0 (State.drainEsc mm e s) := by
  unfold State.drainEsc
  repeat' (first | with_reducible assumption | intro _ | with_reducible apply Keeps.ite | with_reducible apply State.drainWithdraw_keeps | with_reducible apply State.mismatch_keeps | split)

theorem State.quietSteps_keeps {s0 : State} (r4 r9 : BitVec 16) (s : State) (hK : Keeps s0 s) :
    Keeps s0 (State.quietSteps r4 r9 s) := by
  unfold State.quietSteps
  repeat' (first | with_reducible assumption | intro _ | (extract_lets +onlyGivenNames x; first | ((first | refine (fun hx => ?_ : Keeps s0 x → Keeps s0 _) ?_); (on_goal 1 => clear_value x); (on_goal 2 => subst x)) | (refine (fun hx => ?_ : Keeps s0 x → Keeps s0 _) ?_; (on_goal 2 => subst x)) | clear_value x | skip) | with_reducible apply times_keeps | with_reducible apply each_keeps | with_reducible apply Keeps.ite | with_reducible apply State.advertise_keeps | with_reducible apply State.lanesDown_keeps | with_reducible apply State.chrWrite_keeps | with_reducible apply State.regGo_keeps | with_reducible apply State.engStop_keeps | with_reducible apply times_keeps | with_reducible apply State.bump_keeps | split | (with_reducible refine Keeps.of ?_ rfl rfl rfl rfl rfl rfl; first | with_reducible assumption | with_reducible apply times_keeps | with_reducible apply each_keeps | with_reducible apply Keeps.ite | with_reducible apply State.advertise_keeps | with_reducible apply State.lanesDown_keeps | with_reducible apply State.chrWrite_keeps | with_reducible apply State.regGo_keeps | with_reducible apply State.engStop_keeps | with_reducible apply times_keeps | with_reducible apply State.bump_keeps | split))

theorem State.quietDrained_keeps {s0 : State} (mm : Bool) (r4 r9 : BitVec 16) (s : State) (hK : Keeps s0 s) :
    Keeps s0 (State.quietDrained mm r4 r9 s) := by
  unfold State.quietDrained
  repeat' (first | with_reducible assumption | intro _ | (extract_lets +onlyGivenNames x; first | ((first | refine (fun hx => ?_ : Keeps s0 x → Keeps s0 _) ?_); (on_goal 1 => clear_value x); (on_goal 2 => subst x)) | (refine (fun hx => ?_ : Keeps s0 x → Keeps s0 _) ?_; (on_goal 2 => subst x)) | clear_value x | skip) | with_reducible apply each_keeps | with_reducible apply Keeps.ite | with_reducible apply State.quietSteps_keeps | with_reducible apply State.drainEsc_keeps | with_reducible apply State.row8_keeps | split)

theorem State.quietWake_keeps {s0 : State} (cause src : Nat) (s : State) (hK : Keeps s0 s) :
    Keeps s0 (State.quietWake cause src s) := by
  unfold State.quietWake
  repeat' (first | with_reducible assumption | intro _ | with_reducible apply Keeps.ite | with_reducible apply State.wake_keeps | split)

theorem State.shiftTimers_keeps {s0 : State} (d : Nat) (s : State) (hK : Keeps s0 s) :
    Keeps s0 (State.shiftTimers d s) := by
  unfold State.shiftTimers
  repeat' (first | with_reducible assumption | intro _ | with_reducible apply State.release_keeps | split | (with_reducible refine Keeps.of ?_ rfl rfl rfl rfl rfl rfl; first | with_reducible assumption | with_reducible apply State.release_keeps | split))

theorem State.resume_keeps {s0 : State} (s : State) (hK : Keeps s0 s) :
    Keeps s0 (State.resume s) := by
  unfold State.resume
  repeat' (first | with_reducible assumption | intro _ | (extract_lets +onlyGivenNames x; first | ((first | refine (fun hx => ?_ : Keeps s0 x → Keeps s0 _) ?_); (on_goal 1 => clear_value x); (on_goal 2 => subst x)) | (refine (fun hx => ?_ : Keeps s0 x → Keeps s0 _) ?_; (on_goal 2 => subst x)) | clear_value x | skip) | with_reducible apply each_keeps | with_reducible apply Keeps.ite | with_reducible apply State.shiftTimers_keeps | with_reducible apply State.promote_keeps | with_reducible apply State.replay_keeps | with_reducible apply State.arrive_keeps | with_reducible apply State.bump_keeps | split | (with_reducible refine Keeps.of ?_ rfl rfl rfl rfl rfl rfl; first | with_reducible assumption | with_reducible apply each_keeps | with_reducible apply Keeps.ite | with_reducible apply State.shiftTimers_keeps | with_reducible apply State.promote_keeps | with_reducible apply State.replay_keeps | with_reducible apply State.arrive_keeps | with_reducible apply State.bump_keeps | split))

theorem State.ddrExit_keeps {s0 : State} (s : State) (hK : Keeps s0 s) :
    Keeps s0 (State.ddrExit s) := by
  unfold State.ddrExit
  repeat' (first | with_reducible assumption | intro _ | with_reducible apply Keeps.ite | split | (with_reducible refine Keeps.of ?_ rfl rfl rfl rfl rfl rfl; first | with_reducible assumption | with_reducible apply Keeps.ite | split))

theorem State.phyBack_keeps {s0 : State} (s : State) (hK : Keeps s0 s) :
    Keeps s0 (State.phyBack s) := by
  unfold State.phyBack
  repeat' (first | with_reducible assumption | intro _ | with_reducible apply State.advertise_keeps | split | (with_reducible refine Keeps.of ?_ rfl rfl rfl rfl rfl rfl; first | with_reducible assumption | with_reducible apply State.advertise_keeps | split))

theorem State.regResume_keeps {s0 : State} (s : State) (hK : Keeps s0 s) :
    Keeps s0 (State.regResume s) := by
  unfold State.regResume
  repeat' (first | with_reducible assumption | intro _ | (extract_lets +onlyGivenNames x; first | ((first | refine (fun hx => ?_ : Keeps s0 x → Keeps s0 _) ?_); (on_goal 1 => clear_value x); (on_goal 2 => subst x)) | (refine (fun hx => ?_ : Keeps s0 x → Keeps s0 _) ?_; (on_goal 2 => subst x)) | clear_value x | skip) | with_reducible apply each_keeps | with_reducible apply Keeps.ite | with_reducible apply State.phyBack_keeps | with_reducible apply State.regGo_keeps | with_reducible apply State.engStart_keeps | split | (with_reducible refine Keeps.of ?_ rfl rfl rfl rfl rfl rfl; first | with_reducible assumption | with_reducible apply each_keeps | with_reducible apply Keeps.ite | with_reducible apply State.phyBack_keeps | with_reducible apply State.regGo_keeps | with_reducible apply State.engStart_keeps | split))

theorem State.d3Exit_keeps {s0 : State} (s : State) (hK : Keeps s0 s) :
    Keeps s0 (State.d3Exit s) := by
  unfold State.d3Exit
  repeat' (first | with_reducible assumption | intro _ | (extract_lets +onlyGivenNames x; first | ((first | refine (fun hx => ?_ : Keeps s0 x → Keeps s0 _) ?_); (on_goal 1 => clear_value x); (on_goal 2 => subst x)) | (refine (fun hx => ?_ : Keeps s0 x → Keeps s0 _) ?_; (on_goal 2 => subst x)) | clear_value x | skip) | with_reducible apply Keeps.ite | with_reducible apply State.wake_keeps | split | (with_reducible refine Keeps.of ?_ rfl rfl rfl rfl rfl rfl; first | with_reducible assumption | with_reducible apply Keeps.ite | with_reducible apply State.wake_keeps | split))

theorem State.perstUp_keeps {s0 : State} (s : State) (hK : Keeps s0 s) :
    Keeps s0 (State.perstUp s) := by
  unfold State.perstUp
  repeat' (first | with_reducible assumption | intro _ | with_reducible apply Keeps.ite | with_reducible apply State.wake_keeps | split | (with_reducible refine Keeps.of ?_ rfl rfl rfl rfl rfl rfl; first | with_reducible assumption | with_reducible apply Keeps.ite | with_reducible apply State.wake_keeps | split))

theorem State.linkReset_keeps {s0 : State} (s : State) (hK : Keeps s0 s) :
    Keeps s0 (State.linkReset s) := by
  unfold State.linkReset
  repeat' (first | with_reducible assumption | intro _ | with_reducible apply Keeps.ite | with_reducible apply State.pcieInterfaceReset_keeps | with_reducible apply State.wake_keeps | split)

theorem State.pairWake_keeps {s0 : State} (p : PairFrame) (s : State) (hK : Keeps s0 s) :
    Keeps s0 (State.pairWake p s) := by
  unfold State.pairWake
  repeat' (first | with_reducible assumption | intro _ | with_reducible apply State.pairRx_keeps | with_reducible apply State.checkSenior_keeps | with_reducible apply State.wake_keeps | split)

theorem State.pairGasp_keeps {s0 : State} (p : PairFrame) (s : State) (hK : Keeps s0 s) :
    Keeps s0 (State.pairGasp p s) := by
  unfold State.pairGasp
  repeat' (first | with_reducible assumption | intro _ | with_reducible apply State.pairRx_keeps | with_reducible apply State.checkSenior_keeps | with_reducible apply State.gaspSeen_keeps | with_reducible apply State.wake_keeps | split)

end Sys2Proof.Machine
end

