-- ==== Sys2Proof/Laws/KeepsBlocks.lean ====
section
/-! SUPPORT. What the operations of Machine/Blocks.lean keep. -/

set_option linter.all false

namespace Sys2Proof.Machine

open Sys2Proof

theorem State.askReset_keeps {s0 : State} (lvl : Level) (cause delay : Nat) (defaults : Bool) (s : State) (hK : Keeps
    s0 s) :
    Keeps s0 (State.askReset lvl cause delay defaults s) := by
  unfold State.askReset
  repeat' (first | with_reducible assumption | intro _ | (extract_lets +onlyGivenNames x; first | ((first | refine (fun hx => ?_ : Keeps s0 x → Keeps s0 _) ?_ | refine (fun hx => ?_ : (∀ z, Keeps s0 z → Keeps s0 (x z)) → Keeps s0 _) ?_ | refine (fun hx => ?_ : (∀ a z, Keeps s0 z → Keeps s0 (x a z)) → Keeps s0 _) ?_ | refine (fun hx => ?_ : (∀ a z, Keeps s0 z → Keeps s0 (x a z).2) → Keeps s0 _) ?_ | refine (fun hx => ?_ : (∀ a c z, Keeps s0 z → Keeps s0 (x a c z)) → Keeps s0 _) ?_ | refine (fun hx => ?_ : (∀ a, Keeps s0 (x a)) → Keeps s0 _) ?_); (on_goal 1 => clear_value x); (on_goal 2 => subst x)) | (refine (fun hx => ?_ : Keeps s0 x → Keeps s0 _) ?_; (on_goal 2 => subst x)) | clear_value x | skip) | with_reducible apply Keeps.ite | with_reducible apply_assumption | split | (with_reducible refine Keeps.of ?_ rfl rfl rfl rfl rfl rfl; first | with_reducible assumption | with_reducible apply Keeps.ite | with_reducible apply_assumption | split) | dsimp -zeta only)

theorem State.requestReset_keeps {s0 : State} (lvl : Level) (cause delay : Nat) (s : State) (hK : Keeps s0 s) :
    Keeps s0 (State.requestReset lvl cause delay s) := by
  unfold State.requestReset
  repeat' (first | with_reducible assumption | intro _ | with_reducible apply State.askReset_keeps | split)

theorem State.wdogArm_keeps {s0 : State} (ms : Nat) (s : State) (hK : Keeps s0 s) :
    Keeps s0 (State.wdogArm ms s) := by
  unfold State.wdogArm
  repeat' (first | with_reducible assumption | intro _ | with_reducible apply Keeps.ite | with_reducible apply State.setO_keeps | split | (with_reducible refine Keeps.of ?_ rfl rfl rfl rfl rfl rfl; first | with_reducible assumption | with_reducible apply Keeps.ite | with_reducible apply State.setO_keeps | split))

theorem State.wdogKick_keeps {s0 : State} (s : State) (hK : Keeps s0 s) :
    Keeps s0 (State.wdogKick s) := by
  unfold State.wdogKick
  repeat' (first | with_reducible assumption | intro _ | split | (with_reducible refine Keeps.of ?_ rfl rfl rfl rfl rfl rfl; first | with_reducible assumption | split))

theorem State.wdogFire_keeps {s0 : State} (s : State) (hK : Keeps s0 s) :
    Keeps s0 (State.wdogFire s) := by
  unfold State.wdogFire
  repeat' (first | with_reducible assumption | intro _ | with_reducible apply Keeps.ite | with_reducible apply State.requestReset_keeps | split | (with_reducible refine Keeps.of ?_ rfl rfl rfl rfl rfl rfl; first | with_reducible assumption | with_reducible apply Keeps.ite | with_reducible apply State.requestReset_keeps | split))

theorem State.setBlk_keeps {s0 : State} (el : Nat) (p : Option BlkPhase) (s : State) (hK : Keeps s0 s) :
    Keeps s0 (State.setBlk el p s) := by
  unfold State.setBlk
  repeat' (first | with_reducible assumption | intro _ | split | (with_reducible refine Keeps.of ?_ rfl rfl rfl rfl rfl rfl; first | with_reducible assumption | split))

theorem State.portStart_keeps {s0 : State} (s : State) (hK : Keeps s0 s) :
    Keeps s0 (State.portStart s) := by
  unfold State.portStart
  repeat' (first | with_reducible assumption | intro _ | (extract_lets +onlyGivenNames x; first | ((first | refine (fun hx => ?_ : Keeps s0 x → Keeps s0 _) ?_); (on_goal 1 => clear_value x); (on_goal 2 => subst x)) | (refine (fun hx => ?_ : Keeps s0 x → Keeps s0 _) ?_; (on_goal 2 => subst x)) | clear_value x | skip) | split | (with_reducible refine Keeps.of ?_ rfl rfl rfl rfl rfl rfl; first | with_reducible assumption | split))

theorem State.blkPhase_keeps {s0 : State} (el : Nat) (mm : Bool) (s : State) (hK : Keeps s0 s) :
    Keeps s0 (State.blkPhase el mm s) := by
  unfold State.blkPhase
  repeat' (first | with_reducible assumption | intro _ | (extract_lets +onlyGivenNames x; first | ((first | refine (fun hx => ?_ : Keeps s0 x → Keeps s0 _) ?_); (on_goal 1 => clear_value x); (on_goal 2 => subst x)) | (refine (fun hx => ?_ : Keeps s0 x → Keeps s0 _) ?_; (on_goal 2 => subst x)) | clear_value x | skip) | with_reducible apply each_keeps | with_reducible apply Keeps.ite | with_reducible apply State.setBlk_keeps | with_reducible apply State.linkSilent_keeps | with_reducible apply State.regGo_keeps | with_reducible apply State.clearRegMarks_keeps | with_reducible apply State.discardFrame_keeps | with_reducible apply State.isolate_keeps | with_reducible apply State.stage_keeps | (with_reducible apply State.stage_keeps'; on_goal 1 => with_reducible assumption) | with_reducible apply State.dial_keeps | with_reducible apply State.setEng_keeps | with_reducible apply State.bump_keeps | with_reducible apply State.setO_keeps | split | (with_reducible refine Keeps.of ?_ rfl rfl rfl rfl rfl rfl; first | with_reducible assumption | with_reducible apply each_keeps | with_reducible apply Keeps.ite | with_reducible apply State.setBlk_keeps | with_reducible apply State.linkSilent_keeps | with_reducible apply State.regGo_keeps | with_reducible apply State.clearRegMarks_keeps | with_reducible apply State.discardFrame_keeps | with_reducible apply State.isolate_keeps | with_reducible apply State.stage_keeps | (with_reducible apply State.stage_keeps'; on_goal 1 => with_reducible assumption) | with_reducible apply State.dial_keeps | with_reducible apply State.setEng_keeps | with_reducible apply State.bump_keeps | with_reducible apply State.setO_keeps | split))

theorem State.escWithdraw_keeps {s0 : State} (mm : Bool) (e : Nat) (s : State) (hK : Keeps s0 s) :
    Keeps s0 (State.escWithdraw mm e s) := by
  unfold State.escWithdraw
  repeat' (first | with_reducible assumption | intro _ | (extract_lets +onlyGivenNames x; first | ((first | refine (fun hx => ?_ : Keeps s0 x → Keeps s0 _) ?_); (on_goal 1 => clear_value x); (on_goal 2 => subst x)) | (refine (fun hx => ?_ : Keeps s0 x → Keeps s0 _) ?_; (on_goal 2 => subst x)) | clear_value x | skip) | with_reducible apply each_keeps | with_reducible apply Keeps.ite | with_reducible apply State.setBlk_keeps | with_reducible apply State.mismatch_keeps | with_reducible apply State.resetRevoke_keeps | with_reducible apply State.leaveTarget_keeps | split)

theorem State.blkFirstBeat_keeps {s0 : State} (el : Nat) (mm : Bool) (s : State) (hK : Keeps s0 s) :
    Keeps s0 (State.blkFirstBeat el mm s) := by
  unfold State.blkFirstBeat
  repeat' (first | with_reducible assumption | intro _ | (extract_lets +onlyGivenNames x; first | ((first | refine (fun hx => ?_ : Keeps s0 x → Keeps s0 _) ?_); (on_goal 1 => clear_value x); (on_goal 2 => subst x)) | (refine (fun hx => ?_ : Keeps s0 x → Keeps s0 _) ?_; (on_goal 2 => subst x)) | clear_value x | skip) | with_reducible apply each_keeps | with_reducible apply Keeps.ite | with_reducible apply State.escWithdraw_keeps | with_reducible apply State.chrFlush_keeps | with_reducible apply State.row8_keeps | with_reducible apply State.outOfService_keeps | split)

theorem State.blkRequest_keeps {s0 : State} (el : Nat) (isolate mm : Bool) (s : State) (hK : Keeps s0 s) :
    Keeps s0 (State.blkRequest el isolate mm s) := by
  unfold State.blkRequest
  repeat' (first | with_reducible assumption | intro _ | (extract_lets +onlyGivenNames x; first | ((first | refine (fun hx => ?_ : Keeps s0 x → Keeps s0 _) ?_); (on_goal 1 => clear_value x); (on_goal 2 => subst x)) | (refine (fun hx => ?_ : Keeps s0 x → Keeps s0 _) ?_; (on_goal 2 => subst x)) | clear_value x | skip) | with_reducible apply Keeps.ite | with_reducible apply State.blkFirstBeat_keeps | with_reducible apply State.blkPhase_keeps | with_reducible apply State.setBlk_keeps | with_reducible apply State.tenantReset_keeps | with_reducible apply State.isolate_keeps | split | (with_reducible refine Keeps.of ?_ rfl rfl rfl rfl rfl rfl; first | with_reducible assumption | with_reducible apply Keeps.ite | with_reducible apply State.blkFirstBeat_keeps | with_reducible apply State.blkPhase_keeps | with_reducible apply State.setBlk_keeps | with_reducible apply State.tenantReset_keeps | with_reducible apply State.isolate_keeps | split))

theorem State.blkWaitEnd_keeps {s0 : State} (el : Nat) (s : State) (hK : Keeps s0 s) :
    Keeps s0 (State.blkWaitEnd el s) := by
  unfold State.blkWaitEnd
  repeat' (first | with_reducible assumption | intro _ | with_reducible apply Keeps.ite | with_reducible apply State.blkPhase_keeps | with_reducible apply State.tenantWaitEnd_keeps | split)

theorem State.blkTimeout_keeps {s0 : State} (el : Nat) (mm : Bool) (s : State) (hK : Keeps s0 s) :
    Keeps s0 (State.blkTimeout el mm s) := by
  unfold State.blkTimeout
  repeat' (first | with_reducible assumption | intro _ | (extract_lets +onlyGivenNames x; first | ((first | refine (fun hx => ?_ : Keeps s0 x → Keeps s0 _) ?_); (on_goal 1 => clear_value x); (on_goal 2 => subst x)) | (refine (fun hx => ?_ : Keeps s0 x → Keeps s0 _) ?_; (on_goal 2 => subst x)) | clear_value x | skip) | with_reducible apply Keeps.ite | with_reducible apply State.blkPhase_keeps | with_reducible apply State.tenantWaitEnd_keeps | with_reducible apply State.dial_keeps | split)

theorem State.escReturn_keeps {s0 : State} (e : Nat) (s : State) (hK : Keeps s0 s) :
    Keeps s0 (State.escReturn e s) := by
  unfold State.escReturn
  repeat' (first | with_reducible assumption | intro _ | (extract_lets +onlyGivenNames x; first | ((first | refine (fun hx => ?_ : Keeps s0 x → Keeps s0 _) ?_); (on_goal 1 => clear_value x); (on_goal 2 => subst x)) | (refine (fun hx => ?_ : Keeps s0 x → Keeps s0 _) ?_; (on_goal 2 => subst x)) | clear_value x | skip) | with_reducible apply each_keeps | with_reducible apply Keeps.ite | with_reducible apply State.becameEligible_keeps | with_reducible apply State.setEsc_keeps | with_reducible apply State.setTgt_keeps | split | (with_reducible refine Keeps.of ?_ rfl rfl rfl rfl rfl rfl; first | with_reducible assumption | with_reducible apply each_keeps | with_reducible apply Keeps.ite | with_reducible apply State.becameEligible_keeps | with_reducible apply State.setEsc_keeps | with_reducible apply State.setTgt_keeps | split))

theorem State.autorun_keeps {s0 : State} (n : Nat) (s : State) (hK : Keeps s0 s) :
    Keeps s0 (State.autorun n s) := by
  unfold State.autorun
  repeat' (first | with_reducible assumption | intro _ | with_reducible apply Keeps.ite | with_reducible apply State.engStart_keeps | split)

theorem State.blkEnd_keeps {s0 : State} (el : Nat) (s : State) (hK : Keeps s0 s) :
    Keeps s0 (State.blkEnd el s) := by
  unfold State.blkEnd
  repeat' (first | with_reducible assumption | intro _ | (extract_lets +onlyGivenNames x; first | ((first | refine (fun hx => ?_ : Keeps s0 x → Keeps s0 _) ?_); (on_goal 1 => clear_value x); (on_goal 2 => subst x)) | (refine (fun hx => ?_ : Keeps s0 x → Keeps s0 _) ?_; (on_goal 2 => subst x)) | clear_value x | skip) | with_reducible apply each_keeps | with_reducible apply Keeps.ite | with_reducible apply State.autorun_keeps | with_reducible apply State.escReturn_keeps | with_reducible apply State.portStart_keeps | with_reducible apply State.setBlk_keeps | with_reducible apply State.newSession_keeps | with_reducible apply State.tenantResetEnd_keeps | with_reducible apply State.bump_keeps | split | (with_reducible refine Keeps.of ?_ rfl rfl rfl rfl rfl rfl; first | with_reducible assumption | with_reducible apply each_keeps | with_reducible apply Keeps.ite | with_reducible apply State.autorun_keeps | with_reducible apply State.escReturn_keeps | with_reducible apply State.portStart_keeps | with_reducible apply State.setBlk_keeps | with_reducible apply State.newSession_keeps | with_reducible apply State.tenantResetEnd_keeps | with_reducible apply State.bump_keeps | split))

end Sys2Proof.Machine
end

