-- ==== Sys2Proof/Laws/KeepsFirmware.lean ====
section
/-! SUPPORT. What the operations of Machine/Firmware.lean keep. -/

set_option linter.all false

namespace Sys2Proof.Machine

open Sys2Proof

theorem State.flashSet_keeps {s0 : State} (a : Nat) (bs : List Byte) (s : State) (hK : Keeps s0 s) :
    Keeps s0 (State.flashSet a bs s) := by
  unfold State.flashSet
  repeat' (first | with_reducible assumption | intro _ | split | (with_reducible refine Keeps.of ?_ rfl rfl rfl rfl rfl rfl; first | with_reducible assumption | split) | (with_reducible refine Keeps.ofF ?_ rfl rfl (by first | exact id | exact fun _ => smWf_nil _ | exact smWf_filter _ _ | exact smWf_set _ | exact memFilter_wf _ _ | exact memSetAll_wf _ _ _) (by first | exact id | exact fun _ => smWf_nil _ | exact smWf_filter _ _ | exact smWf_set _ | exact memFilter_wf _ _ | exact memSetAll_wf _ _ _) (by first | exact id | exact fun _ => smWf_nil _ | exact smWf_filter _ _ | exact smWf_set _ | exact memFilter_wf _ _ | exact memSetAll_wf _ _ _) (by first | exact id | exact fun _ => smWf_nil _ | exact smWf_filter _ _ | exact smWf_set _ | exact memFilter_wf _ _ | exact memSetAll_wf _ _ _); first | with_reducible assumption | split))

theorem State.flashErase_keeps {s0 : State} (a n : Nat) (s : State) (hK : Keeps s0 s) :
    Keeps s0 (State.flashErase a n s) := by
  unfold State.flashErase
  repeat' (first | with_reducible assumption | intro _ | split | (with_reducible refine Keeps.of ?_ rfl rfl rfl rfl rfl rfl; first | with_reducible assumption | split) | (with_reducible refine Keeps.ofF ?_ rfl rfl (by first | exact id | exact fun _ => smWf_nil _ | exact smWf_filter _ _ | exact smWf_set _ | exact memFilter_wf _ _ | exact memSetAll_wf _ _ _) (by first | exact id | exact fun _ => smWf_nil _ | exact smWf_filter _ _ | exact smWf_set _ | exact memFilter_wf _ _ | exact memSetAll_wf _ _ _) (by first | exact id | exact fun _ => smWf_nil _ | exact smWf_filter _ _ | exact smWf_set _ | exact memFilter_wf _ _ | exact memSetAll_wf _ _ _) (by first | exact id | exact fun _ => smWf_nil _ | exact smWf_filter _ _ | exact smWf_set _ | exact memFilter_wf _ _ | exact memSetAll_wf _ _ _); first | with_reducible assumption | split))

theorem State.flashProgram_keeps {s0 : State} (a : Nat) (bs : List Byte) (s : State) (hK : Keeps s0 s) :
    Keeps s0 (State.flashProgram a bs s) := by
  unfold State.flashProgram
  repeat' (first | with_reducible assumption | intro _ | with_reducible apply State.flashSet_keeps | split)

theorem State.setBootRec_keeps {s0 : State} (r : BootRec) (s : State) (hK : Keeps s0 s) :
    Keeps s0 (State.setBootRec r s) := by
  unfold State.setBootRec
  repeat' (first | with_reducible assumption | intro _ | (extract_lets +onlyGivenNames x; first | ((first | refine (fun hx => ?_ : Keeps s0 x → Keeps s0 _) ?_); (on_goal 1 => clear_value x); (on_goal 2 => subst x)) | (refine (fun hx => ?_ : Keeps s0 x → Keeps s0 _) ?_; (on_goal 2 => subst x)) | clear_value x | skip) | with_reducible apply State.flashErase_keeps | with_reducible apply State.flashSet_keeps | with_reducible apply State.draw_keeps | (with_reducible apply State.draw_keeps'; on_goal 1 => with_reducible assumption) | split | (with_reducible refine Keeps.of ?_ rfl rfl rfl rfl rfl rfl; first | with_reducible assumption | with_reducible apply State.flashErase_keeps | with_reducible apply State.flashSet_keeps | with_reducible apply State.draw_keeps | (with_reducible apply State.draw_keeps'; on_goal 1 => with_reducible assumption) | split))

theorem State.cutBoot_keeps {s0 : State} (s : State) (hK : Keeps s0 s) :
    Keeps s0 (State.cutBoot s) := by
  unfold State.cutBoot
  repeat' (first | with_reducible assumption | intro _ | with_reducible apply Keeps.ite | with_reducible apply State.flashErase_keeps | split)

theorem State.bootWritten_keeps {s0 : State} (s : State) (hK : Keeps s0 s) :
    Keeps s0 (State.bootWritten s) := by
  unfold State.bootWritten
  repeat' (first | with_reducible assumption | intro _ | split | (with_reducible refine Keeps.of ?_ rfl rfl rfl rfl rfl rfl; first | with_reducible assumption | split))

theorem State.rollBack_keeps {s0 : State} (code : Nat) (s : State) (hK : Keeps s0 s) :
    Keeps s0 (State.rollBack code s) := by
  unfold State.rollBack
  repeat' (first | with_reducible assumption | intro _ | (extract_lets +onlyGivenNames x; first | ((first | refine (fun hx => ?_ : Keeps s0 x → Keeps s0 _) ?_); (on_goal 1 => clear_value x); (on_goal 2 => subst x)) | (refine (fun hx => ?_ : Keeps s0 x → Keeps s0 _) ?_; (on_goal 2 => subst x)) | clear_value x | skip) | with_reducible apply State.setBootRec_keeps | with_reducible apply State.dial_keeps | split | (with_reducible refine Keeps.of ?_ rfl rfl rfl rfl rfl rfl; first | with_reducible assumption | with_reducible apply State.setBootRec_keeps | with_reducible apply State.dial_keeps | split))

theorem State.writeSlot_keeps {s0 : State} (k : Nat) (body : List Byte) (s : State) (hK : Keeps s0 s) :
    Keeps s0 (State.writeSlot k body s) := by
  unfold State.writeSlot
  repeat' (first | with_reducible assumption | intro _ | (extract_lets +onlyGivenNames x; first | ((first | refine (fun hx => ?_ : Keeps s0 x → Keeps s0 _) ?_); (on_goal 1 => clear_value x); (on_goal 2 => subst x)) | (refine (fun hx => ?_ : Keeps s0 x → Keeps s0 _) ?_; (on_goal 2 => subst x)) | clear_value x | skip) | with_reducible apply State.flashErase_keeps | with_reducible apply State.flashSet_keeps | split)

theorem State.saveFailed_keeps {s0 : State} (s : State) (hK : Keeps s0 s) :
    Keeps s0 (State.saveFailed s) := by
  unfold State.saveFailed
  repeat' (first | with_reducible assumption | intro _ | with_reducible apply State.dial_keeps | split | (with_reducible refine Keeps.of ?_ rfl rfl rfl rfl rfl rfl; first | with_reducible assumption | with_reducible apply State.dial_keeps | split))

theorem State.saveSettings_keeps {s0 : State} (s : State) (hK : Keeps s0 s) :
    Keeps s0 (State.saveSettings s).2 := by
  unfold State.saveSettings
  repeat' (first | with_reducible assumption | intro _ | (extract_lets +onlyGivenNames x; first | ((first | refine (fun hx => ?_ : Keeps s0 x → Keeps s0 _) ?_); (on_goal 1 => clear_value x); (on_goal 2 => subst x)) | (refine (fun hx => ?_ : Keeps s0 x → Keeps s0 _) ?_; (on_goal 2 => subst x)) | clear_value x | skip) | with_reducible apply Keeps.ite | with_reducible apply State.flashErase_keeps | split | (with_reducible refine Keeps.of ?_ rfl rfl rfl rfl rfl rfl; first | with_reducible assumption | with_reducible apply Keeps.ite | with_reducible apply State.flashErase_keeps | split))

theorem State.saveSettings_keeps' {s0 tK : State} (s : State) {xK : Nat} (eK : State.saveSettings s = (xK, tK)) (hK : Keeps s0 s) :
    Keeps s0 tK := by
  have := State.saveSettings_keeps s hK
  rw [eK] at this; exact this

theorem State.migrate_keeps {s0 : State} (s : State) (hK : Keeps s0 s) :
    Keeps s0 (State.migrate s) := by
  unfold State.migrate
  repeat' (first | with_reducible assumption | intro _ | (extract_lets +onlyGivenNames x; first | ((first | refine (fun hx => ?_ : Keeps s0 x → Keeps s0 _) ?_); (on_goal 1 => clear_value x); (on_goal 2 => subst x)) | (refine (fun hx => ?_ : Keeps s0 x → Keeps s0 _) ?_; (on_goal 2 => subst x)) | clear_value x | skip) | with_reducible apply Keeps.ite | with_reducible apply State.saveFailed_keeps | with_reducible apply State.flashErase_keeps | split | (with_reducible refine Keeps.of ?_ rfl rfl rfl rfl rfl rfl; first | with_reducible assumption | with_reducible apply Keeps.ite | with_reducible apply State.saveFailed_keeps | with_reducible apply State.flashErase_keeps | split))

theorem State.saveDone_keeps {s0 : State} (ok : Bool) (s : State) (hK : Keeps s0 s) :
    Keeps s0 (State.saveDone ok s) := by
  unfold State.saveDone
  repeat' (first | with_reducible assumption | intro _ | (extract_lets +onlyGivenNames x; first | ((first | refine (fun hx => ?_ : Keeps s0 x → Keeps s0 _) ?_); (on_goal 1 => clear_value x); (on_goal 2 => subst x)) | (refine (fun hx => ?_ : Keeps s0 x → Keeps s0 _) ?_; (on_goal 2 => subst x)) | clear_value x | skip) | with_reducible apply Keeps.ite | with_reducible apply State.migrate_keeps | with_reducible apply State.saveFailed_keeps | with_reducible apply State.writeSlot_keeps | split | (with_reducible refine Keeps.of ?_ rfl rfl rfl rfl rfl rfl; first | with_reducible assumption | with_reducible apply Keeps.ite | with_reducible apply State.migrate_keeps | with_reducible apply State.saveFailed_keeps | with_reducible apply State.writeSlot_keeps | split))

theorem State.migrationDone_keeps {s0 : State} (ok : Bool) (s : State) (hK : Keeps s0 s) :
    Keeps s0 (State.migrationDone ok s) := by
  unfold State.migrationDone
  repeat' (first | with_reducible assumption | intro _ | (extract_lets +onlyGivenNames x; first | ((first | refine (fun hx => ?_ : Keeps s0 x → Keeps s0 _) ?_); (on_goal 1 => clear_value x); (on_goal 2 => subst x)) | (refine (fun hx => ?_ : Keeps s0 x → Keeps s0 _) ?_; (on_goal 2 => subst x)) | clear_value x | skip) | with_reducible apply Keeps.ite | with_reducible apply State.saveFailed_keeps | with_reducible apply State.writeSlot_keeps | split | (with_reducible refine Keeps.of ?_ rfl rfl rfl rfl rfl rfl; first | with_reducible assumption | with_reducible apply Keeps.ite | with_reducible apply State.saveFailed_keeps | with_reducible apply State.writeSlot_keeps | split))

theorem State.selectBank_keeps {s0 : State} (atStart : Bool) (s : State) (hK : Keeps s0 s) :
    Keeps s0 (State.selectBank atStart s).2 := by
  unfold State.selectBank
  repeat' (first | with_reducible assumption | intro _ | (extract_lets +onlyGivenNames x; first | ((first | refine (fun hx => ?_ : Keeps s0 x → Keeps s0 _) ?_); (on_goal 1 => clear_value x); (on_goal 2 => subst x)) | (refine (fun hx => ?_ : Keeps s0 x → Keeps s0 _) ?_; (on_goal 2 => subst x)) | clear_value x | skip) | with_reducible apply Keeps.ite | with_reducible apply State.rollBack_keeps | with_reducible apply State.setBootRec_keeps | split | (with_reducible refine Keeps.of ?_ rfl rfl rfl rfl rfl rfl; first | with_reducible assumption | with_reducible apply Keeps.ite | with_reducible apply State.rollBack_keeps | with_reducible apply State.setBootRec_keeps | split))

theorem State.selectBank_keeps' {s0 tK : State} (atStart : Bool) (s : State) {xK : Option (Nat × Nat)} (eK : State.selectBank atStart s = (xK, tK)) (hK : Keeps s0 s) :
    Keeps s0 tK := by
  have := State.selectBank_keeps atStart s hK
  rw [eK] at this; exact this

theorem State.bootSettings_keeps {s0 : State} (s : State) (hK : Keeps s0 s) :
    Keeps s0 (State.bootSettings s).2 := by
  unfold State.bootSettings
  repeat' (first | with_reducible assumption | intro _ | (extract_lets +onlyGivenNames x; first | ((first | refine (fun hx => ?_ : Keeps s0 x → Keeps s0 _) ?_); (on_goal 1 => clear_value x); (on_goal 2 => subst x)) | (refine (fun hx => ?_ : Keeps s0 x → Keeps s0 _) ?_; (on_goal 2 => subst x)) | clear_value x | skip) | with_reducible apply Keeps.ite | split | (with_reducible refine Keeps.of ?_ rfl rfl rfl rfl rfl rfl; first | with_reducible assumption | with_reducible apply Keeps.ite | split))

theorem State.bootSettings_keeps' {s0 tK : State} (s : State) {xK : Bool} (eK : State.bootSettings s = (xK, tK)) (hK : Keeps s0 s) :
    Keeps s0 tK := by
  have := State.bootSettings_keeps s hK
  rw [eK] at this; exact this

theorem State.boot_keeps {s0 : State} (atStart : Bool) (s : State) (hK : Keeps s0 s) :
    Keeps s0 (State.boot atStart s).2 := by
  unfold State.boot
  repeat' (first | with_reducible assumption | intro _ | (extract_lets +onlyGivenNames x; first | ((first | refine (fun hx => ?_ : Keeps s0 x → Keeps s0 _) ?_); (on_goal 1 => clear_value x); (on_goal 2 => subst x)) | (refine (fun hx => ?_ : Keeps s0 x → Keeps s0 _) ?_; (on_goal 2 => subst x)) | clear_value x | skip) | with_reducible apply Keeps.ite | with_reducible apply State.bootSettings_keeps | (with_reducible apply State.bootSettings_keeps'; on_goal 1 => with_reducible assumption) | with_reducible apply State.selectBank_keeps | (with_reducible apply State.selectBank_keeps'; on_goal 1 => with_reducible assumption) | with_reducible apply State.migrate_keeps | with_reducible apply State.rollBack_keeps | with_reducible apply State.regGo_keeps | with_reducible apply State.dial_keeps | split | (with_reducible refine Keeps.of ?_ rfl rfl rfl rfl rfl rfl; first | with_reducible assumption | with_reducible apply Keeps.ite | with_reducible apply State.bootSettings_keeps | (with_reducible apply State.bootSettings_keeps'; on_goal 1 => with_reducible assumption) | with_reducible apply State.selectBank_keeps | (with_reducible apply State.selectBank_keeps'; on_goal 1 => with_reducible assumption) | with_reducible apply State.migrate_keeps | with_reducible apply State.rollBack_keeps | with_reducible apply State.regGo_keeps | with_reducible apply State.dial_keeps | split))

theorem State.boot_keeps' {s0 tK : State} (atStart : Bool) (s : State) {xK : Boot} (eK : State.boot atStart s = (xK, tK)) (hK : Keeps s0 s) :
    Keeps s0 tK := by
  have := State.boot_keeps atStart s hK
  rw [eK] at this; exact this

theorem State.confirm_keeps {s0 : State} (s : State) (hK : Keeps s0 s) :
    Keeps s0 (State.confirm s) := by
  unfold State.confirm
  repeat' (first | with_reducible assumption | intro _ | (extract_lets +onlyGivenNames x; first | ((first | refine (fun hx => ?_ : Keeps s0 x → Keeps s0 _) ?_); (on_goal 1 => clear_value x); (on_goal 2 => subst x)) | (refine (fun hx => ?_ : Keeps s0 x → Keeps s0 _) ?_; (on_goal 2 => subst x)) | clear_value x | skip) | with_reducible apply Keeps.ite | with_reducible apply State.migrate_keeps | with_reducible apply State.setBootRec_keeps | split | (with_reducible refine Keeps.of ?_ rfl rfl rfl rfl rfl rfl; first | with_reducible assumption | with_reducible apply Keeps.ite | with_reducible apply State.migrate_keeps | with_reducible apply State.setBootRec_keeps | split))

theorem State.rollBackNow_keeps {s0 : State} (code : Nat) (isolate : Bool) (s : State) (hK : Keeps s0 s) :
    Keeps s0 (State.rollBackNow code isolate s) := by
  unfold State.rollBackNow
  repeat' (first | with_reducible assumption | intro _ | with_reducible apply State.rollBack_keeps | with_reducible apply State.blkRequest_keeps | with_reducible apply State.isolate_keeps | split)

theorem State.trialEnds_keeps {s0 : State} (s : State) (hK : Keeps s0 s) :
    Keeps s0 (State.trialEnds s) := by
  unfold State.trialEnds
  repeat' (first | with_reducible assumption | intro _ | with_reducible apply Keeps.ite | with_reducible apply State.rollBackNow_keeps | with_reducible apply State.confirm_keeps | split)

theorem State.trialStuck_keeps {s0 : State} (s : State) (hK : Keeps s0 s) :
    Keeps s0 (State.trialStuck s) := by
  unfold State.trialStuck
  repeat' (first | with_reducible assumption | intro _ | (extract_lets +onlyGivenNames x; first | ((first | refine (fun hx => ?_ : Keeps s0 x → Keeps s0 _) ?_); (on_goal 1 => clear_value x); (on_goal 2 => subst x)) | (refine (fun hx => ?_ : Keeps s0 x → Keeps s0 _) ?_; (on_goal 2 => subst x)) | clear_value x | skip) | with_reducible apply Keeps.ite | with_reducible apply State.rollBackNow_keeps | split)

theorem State.lockedUp_keeps {s0 : State} (record : Bool) (s : State) (hK : Keeps s0 s) :
    Keeps s0 (State.lockedUp record s) := by
  unfold State.lockedUp
  repeat' (first | with_reducible assumption | intro _ | (extract_lets +onlyGivenNames x; first | ((first | refine (fun hx => ?_ : Keeps s0 x → Keeps s0 _) ?_); (on_goal 1 => clear_value x); (on_goal 2 => subst x)) | (refine (fun hx => ?_ : Keeps s0 x → Keeps s0 _) ?_; (on_goal 2 => subst x)) | clear_value x | skip) | with_reducible apply Keeps.ite | with_reducible apply State.rollBackNow_keeps | with_reducible apply State.blkRequest_keeps | with_reducible apply State.requestReset_keeps | with_reducible apply State.fault_keeps | with_reducible apply State.setO_keeps | split | (with_reducible refine Keeps.of ?_ rfl rfl rfl rfl rfl rfl; first | with_reducible assumption | with_reducible apply Keeps.ite | with_reducible apply State.rollBackNow_keeps | with_reducible apply State.blkRequest_keeps | with_reducible apply State.requestReset_keeps | with_reducible apply State.fault_keeps | with_reducible apply State.setO_keeps | split))

theorem State.lockup_keeps {s0 : State} (s : State) (hK : Keeps s0 s) :
    Keeps s0 (State.lockup s) := by
  unfold State.lockup
  repeat' (first | with_reducible assumption | intro _ | with_reducible apply Keeps.ite | with_reducible apply State.lockedUp_keeps | split)

theorem State.lockupsClear_keeps {s0 : State} (s : State) (hK : Keeps s0 s) :
    Keeps s0 (State.lockupsClear s) := by
  unfold State.lockupsClear
  repeat' (first | with_reducible assumption | intro _ | with_reducible apply Keeps.ite | with_reducible apply State.setO_keeps | split)

theorem State.stageSet_keeps {s0 : State} (v : Nat) (s : State) (hK : Keeps s0 s) :
    Keeps s0 (State.stageSet v s).2 := by
  unfold State.stageSet
  repeat' (first | with_reducible assumption | intro _ | (extract_lets +onlyGivenNames x; first | ((first | refine (fun hx => ?_ : Keeps s0 x → Keeps s0 _) ?_); (on_goal 1 => clear_value x); (on_goal 2 => subst x)) | (refine (fun hx => ?_ : Keeps s0 x → Keeps s0 _) ?_; (on_goal 2 => subst x)) | clear_value x | skip) | with_reducible apply Keeps.ite | with_reducible apply State.migrate_keeps | with_reducible apply State.flashErase_keeps | with_reducible apply State.stage_keeps | (with_reducible apply State.stage_keeps'; on_goal 1 => with_reducible assumption) | split | (with_reducible refine Keeps.of ?_ rfl rfl rfl rfl rfl rfl; first | with_reducible assumption | with_reducible apply Keeps.ite | with_reducible apply State.migrate_keeps | with_reducible apply State.flashErase_keeps | with_reducible apply State.stage_keeps | (with_reducible apply State.stage_keeps'; on_goal 1 => with_reducible assumption) | split))

theorem State.stageSet_keeps' {s0 tK : State} (v : Nat) (s : State) {xK : Nat} (eK : State.stageSet v s = (xK, tK)) (hK : Keeps s0 s) :
    Keeps s0 tK := by
  have := State.stageSet_keeps v s hK
  rw [eK] at this; exact this

theorem State.stageData_keeps {s0 : State} (k : Nat) (v : List Byte) (bad : Bool) (s : State) (hK : Keeps s0 s) :
    Keeps s0 (State.stageData k v bad s).2 := by
  unfold State.stageData
  repeat' (first | with_reducible assumption | intro _ | (extract_lets +onlyGivenNames x; first | ((first | refine (fun hx => ?_ : Keeps s0 x → Keeps s0 _) ?_); (on_goal 1 => clear_value x); (on_goal 2 => subst x)) | (refine (fun hx => ?_ : Keeps s0 x → Keeps s0 _) ?_; (on_goal 2 => subst x)) | clear_value x | skip) | with_reducible apply Keeps.ite | with_reducible apply State.migrate_keeps | with_reducible apply State.flashProgram_keeps | with_reducible apply State.flashSet_keeps | with_reducible apply State.stage_keeps | (with_reducible apply State.stage_keeps'; on_goal 1 => with_reducible assumption) | with_reducible apply State.draw_keeps | (with_reducible apply State.draw_keeps'; on_goal 1 => with_reducible assumption) | split | (with_reducible refine Keeps.of ?_ rfl rfl rfl rfl rfl rfl; first | with_reducible assumption | with_reducible apply Keeps.ite | with_reducible apply State.migrate_keeps | with_reducible apply State.flashProgram_keeps | with_reducible apply State.flashSet_keeps | with_reducible apply State.stage_keeps | (with_reducible apply State.stage_keeps'; on_goal 1 => with_reducible assumption) | with_reducible apply State.draw_keeps | (with_reducible apply State.draw_keeps'; on_goal 1 => with_reducible assumption) | split))

theorem State.stageData_keeps' {s0 tK : State} (k : Nat) (v : List Byte) (bad : Bool) (s : State) {xK : Nat} (eK : State.stageData k v bad s = (xK, tK)) (hK : Keeps s0 s) :
    Keeps s0 tK := by
  have := State.stageData_keeps k v bad s hK
  rw [eK] at this; exact this

theorem State.eraseDone_keeps {s0 : State} (ok : Bool) (s : State) (hK : Keeps s0 s) :
    Keeps s0 (State.eraseDone ok s) := by
  unfold State.eraseDone
  repeat' (first | with_reducible assumption | intro _ | with_reducible apply Keeps.ite | with_reducible apply State.migrate_keeps | with_reducible apply State.stage_keeps | (with_reducible apply State.stage_keeps'; on_goal 1 => with_reducible assumption) | split | (with_reducible refine Keeps.of ?_ rfl rfl rfl rfl rfl rfl; first | with_reducible assumption | with_reducible apply Keeps.ite | with_reducible apply State.migrate_keeps | with_reducible apply State.stage_keeps | (with_reducible apply State.stage_keeps'; on_goal 1 => with_reducible assumption) | split))

theorem State.verifyDone_keeps {s0 : State} (s : State) (hK : Keeps s0 s) :
    Keeps s0 (State.verifyDone s) := by
  unfold State.verifyDone
  repeat' (first | with_reducible assumption | intro _ | with_reducible apply Keeps.ite | with_reducible apply State.migrate_keeps | with_reducible apply State.stage_keeps | (with_reducible apply State.stage_keeps'; on_goal 1 => with_reducible assumption) | split | (with_reducible refine Keeps.of ?_ rfl rfl rfl rfl rfl rfl; first | with_reducible assumption | with_reducible apply Keeps.ite | with_reducible apply State.migrate_keeps | with_reducible apply State.stage_keeps | (with_reducible apply State.stage_keeps'; on_goal 1 => with_reducible assumption) | split))

theorem State.activate_keeps {s0 : State} (v : Nat) (s : State) (hK : Keeps s0 s) :
    Keeps s0 (State.activate v s).2 := by
  unfold State.activate
  repeat' (first | with_reducible assumption | intro _ | (extract_lets +onlyGivenNames x; first | ((first | refine (fun hx => ?_ : Keeps s0 x → Keeps s0 _) ?_); (on_goal 1 => clear_value x); (on_goal 2 => subst x)) | (refine (fun hx => ?_ : Keeps s0 x → Keeps s0 _) ?_; (on_goal 2 => subst x)) | clear_value x | skip) | with_reducible apply Keeps.ite | with_reducible apply State.bootWritten_keeps | with_reducible apply State.setBootRec_keeps | with_reducible apply State.setBlk_keeps | with_reducible apply State.askReset_keeps | with_reducible apply State.stage_keeps | (with_reducible apply State.stage_keeps'; on_goal 1 => with_reducible assumption) | split | (with_reducible refine Keeps.of ?_ rfl rfl rfl rfl rfl rfl; first | with_reducible assumption | with_reducible apply Keeps.ite | with_reducible apply State.bootWritten_keeps | with_reducible apply State.setBootRec_keeps | with_reducible apply State.setBlk_keeps | with_reducible apply State.askReset_keeps | with_reducible apply State.stage_keeps | (with_reducible apply State.stage_keeps'; on_goal 1 => with_reducible assumption) | split))

theorem State.activate_keeps' {s0 tK : State} (v : Nat) (s : State) {xK : Nat} (eK : State.activate v s = (xK, tK)) (hK : Keeps s0 s) :
    Keeps s0 tK := by
  have := State.activate_keeps v s hK
  rw [eK] at this; exact this

theorem State.rebootFromHere_keeps {s0 : State} (s : State) (hK : Keeps s0 s) :
    Keeps s0 (State.rebootFromHere s) := by
  unfold State.rebootFromHere
  repeat' (first | with_reducible assumption | intro _ | (extract_lets +onlyGivenNames x; first | ((first | refine (fun hx => ?_ : Keeps s0 x → Keeps s0 _) ?_); (on_goal 1 => clear_value x); (on_goal 2 => subst x)) | (refine (fun hx => ?_ : Keeps s0 x → Keeps s0 _) ?_; (on_goal 2 => subst x)) | clear_value x | skip) | with_reducible apply State.setBlk_keeps | split | (with_reducible refine Keeps.of ?_ rfl rfl rfl rfl rfl rfl; first | with_reducible assumption | with_reducible apply State.setBlk_keeps | split))

end Sys2Proof.Machine
end

