-- ==== Sys2Proof/Laws/KeepsWind.lean ====
section
/-! SUPPORT. What the operations of Machine/Wind.lean keep. -/

set_option linter.all false

namespace Sys2Proof.Machine

open Sys2Proof

theorem State.setDraft_keeps {s0 : State} (scope k v : Nat) (s : State) (hK : Keeps s0 s) :
    Keeps s0 (State.setDraft scope k v s) := by
  unfold State.setDraft
  repeat' (first | with_reducible assumption | intro _ | with_reducible apply Keeps.ite | split | (with_reducible refine Keeps.of ?_ rfl rfl rfl rfl rfl rfl; first | with_reducible assumption | with_reducible apply Keeps.ite | split) | (with_reducible refine Keeps.ofF ?_ rfl rfl (by first | exact id | exact fun _ => smWf_nil _ | exact smWf_filter _ _ | exact smWf_set _ | exact memFilter_wf _ _ | exact memSetAll_wf _ _ _) (by first | exact id | exact fun _ => smWf_nil _ | exact smWf_filter _ _ | exact smWf_set _ | exact memFilter_wf _ _ | exact memSetAll_wf _ _ _) (by first | exact id | exact fun _ => smWf_nil _ | exact smWf_filter _ _ | exact smWf_set _ | exact memFilter_wf _ _ | exact memSetAll_wf _ _ _) (by first | exact id | exact fun _ => smWf_nil _ | exact smWf_filter _ _ | exact smWf_set _ | exact memFilter_wf _ _ | exact memSetAll_wf _ _ _); first | with_reducible assumption | with_reducible apply Keeps.ite | split))

theorem State.windRequest_keeps {s0 : State} (scope : Nat) (s : State) (hK : Keeps s0 s) :
    Keeps s0 (State.windRequest scope s).2 := by
  unfold State.windRequest
  repeat' (first | with_reducible assumption | intro _ | with_reducible apply Keeps.ite | split | (with_reducible refine Keeps.of ?_ rfl rfl rfl rfl rfl rfl; first | with_reducible assumption | with_reducible apply Keeps.ite | split))

theorem State.windRequest_keeps' {s0 tK : State} (scope : Nat) (s : State) {xK : Nat} (eK : State.windRequest scope s = (xK, tK)) (hK : Keeps s0 s) :
    Keeps s0 tK := by
  have := State.windRequest_keeps scope s hK
  rw [eK] at this; exact this

theorem State.dropDrafts_keeps {s0 : State} (scope : Nat) (s : State) (hK : Keeps s0 s) :
    Keeps s0 (State.dropDrafts scope s) := by
  unfold State.dropDrafts
  repeat' (first | with_reducible assumption | intro _ | split | (with_reducible refine Keeps.of ?_ rfl rfl rfl rfl rfl rfl; first | with_reducible assumption | split) | (with_reducible refine Keeps.ofF ?_ rfl rfl (by first | exact id | exact fun _ => smWf_nil _ | exact smWf_filter _ _ | exact smWf_set _ | exact memFilter_wf _ _ | exact memSetAll_wf _ _ _) (by first | exact id | exact fun _ => smWf_nil _ | exact smWf_filter _ _ | exact smWf_set _ | exact memFilter_wf _ _ | exact memSetAll_wf _ _ _) (by first | exact id | exact fun _ => smWf_nil _ | exact smWf_filter _ _ | exact smWf_set _ | exact memFilter_wf _ _ | exact memSetAll_wf _ _ _) (by first | exact id | exact fun _ => smWf_nil _ | exact smWf_filter _ _ | exact smWf_set _ | exact memFilter_wf _ _ | exact memSetAll_wf _ _ _); first | with_reducible assumption | split))

theorem State.draftDiscard_keeps {s0 : State} (scope : Nat) (s : State) (hK : Keeps s0 s) :
    Keeps s0 (State.draftDiscard scope s).2 := by
  unfold State.draftDiscard
  repeat' (first | with_reducible assumption | intro _ | with_reducible apply Keeps.ite | with_reducible apply State.dropDrafts_keeps | split)

theorem State.draftDiscard_keeps' {s0 tK : State} (scope : Nat) (s : State) {xK : Nat} (eK : State.draftDiscard scope s = (xK, tK)) (hK : Keeps s0 s) :
    Keeps s0 tK := by
  have := State.draftDiscard_keeps scope s hK
  rw [eK] at this; exact this

theorem State.draftDefaults_keeps {s0 : State} (scope : Nat) (s : State) (hK : Keeps s0 s) :
    Keeps s0 (State.draftDefaults scope s).2 := by
  unfold State.draftDefaults
  repeat' (first | with_reducible assumption | intro _ | with_reducible apply Keeps.ite | split | (with_reducible refine Keeps.of ?_ rfl rfl rfl rfl rfl rfl; first | with_reducible assumption | with_reducible apply Keeps.ite | split))

theorem State.draftDefaults_keeps' {s0 tK : State} (scope : Nat) (s : State) {xK : Nat} (eK : State.draftDefaults scope s = (xK, tK)) (hK : Keeps s0 s) :
    Keeps s0 tK := by
  have := State.draftDefaults_keeps scope s hK
  rw [eK] at this; exact this

theorem State.withValues_keeps {s0 : State} (chg : List (Nat × Nat)) (s : State) (hK : Keeps s0 s) : Keeps s0
    (State.withValues chg s) :=
  Keeps.ofF hK rfl rfl (fun h => each_keep (fun m => smWf dfltKey m = true) (fun e o => smSet dfltKey o e.1 e.2) (fun _ _ h => smWf_set _ h) chg _ h) id id id

theorem State.regroupSrc_keeps {s0 : State} (g n : Nat) (s : State) (hK : Keeps s0 s) :
    Keeps s0 (State.regroupSrc g n s) := by
  unfold State.regroupSrc
  repeat' (first | with_reducible assumption | intro _ | (extract_lets +onlyGivenNames x; first | ((first | refine (fun hx => ?_ : Keeps s0 x → Keeps s0 _) ?_); (on_goal 1 => clear_value x); (on_goal 2 => subst x)) | (refine (fun hx => ?_ : Keeps s0 x → Keeps s0 _) ?_; (on_goal 2 => subst x)) | clear_value x | skip) | with_reducible apply each_keeps | with_reducible apply Keeps.ite | with_reducible apply State.loseMember_keeps | with_reducible apply State.select_keeps | split)

theorem State.regroup_keeps {s0 : State} (skip : List Nat) (g : Nat) (s : State) (hK : Keeps s0 s) :
    Keeps s0 (State.regroup skip g s) := by
  unfold State.regroup
  repeat' (first | with_reducible assumption | intro _ | (extract_lets +onlyGivenNames x; first | ((first | refine (fun hx => ?_ : Keeps s0 x → Keeps s0 _) ?_); (on_goal 1 => clear_value x); (on_goal 2 => subst x)) | (refine (fun hx => ?_ : Keeps s0 x → Keeps s0 _) ?_; (on_goal 2 => subst x)) | clear_value x | skip) | with_reducible apply each_keeps | with_reducible apply Keeps.ite | with_reducible apply State.regroupSrc_keeps | with_reducible apply State.setO_keeps | split)

theorem State.rewound_keeps {s0 : State} (n : Nat) (s : State) (hK : Keeps s0 s) :
    Keeps s0 (State.rewound n s) := by
  unfold State.rewound
  repeat' (first | with_reducible assumption | intro _ | with_reducible apply Keeps.ite | with_reducible apply State.select_keeps | split)

theorem State.unmigrate_keeps {s0 : State} (ts : List Nat) (s : State) (hK : Keeps s0 s) :
    Keeps s0 (State.unmigrate ts s) := by
  unfold State.unmigrate
  repeat' (first | with_reducible assumption | intro _ | (extract_lets +onlyGivenNames x; first | ((first | refine (fun hx => ?_ : Keeps s0 x → Keeps s0 _) ?_); (on_goal 1 => clear_value x); (on_goal 2 => subst x)) | (refine (fun hx => ?_ : Keeps s0 x → Keeps s0 _) ?_; (on_goal 2 => subst x)) | clear_value x | skip) | with_reducible apply each_keeps | with_reducible apply Keeps.ite | with_reducible apply State.setEsc_keeps | with_reducible apply State.setTgt_keeps | split | (with_reducible refine Keeps.of ?_ rfl rfl rfl rfl rfl rfl; first | with_reducible assumption | with_reducible apply each_keeps | with_reducible apply Keeps.ite | with_reducible apply State.setEsc_keeps | with_reducible apply State.setTgt_keeps | split))

theorem State.ringAnew_keeps {s0 : State} (reason : Nat) (s : State) (hK : Keeps s0 s) :
    Keeps s0 (State.ringAnew reason s) := by
  unfold State.ringAnew
  repeat' (first | with_reducible assumption | intro _ | (extract_lets +onlyGivenNames x; first | ((first | refine (fun hx => ?_ : Keeps s0 x → Keeps s0 _) ?_); (on_goal 1 => clear_value x); (on_goal 2 => subst x)) | (refine (fun hx => ?_ : Keeps s0 x → Keeps s0 _) ?_; (on_goal 2 => subst x)) | clear_value x | skip) | with_reducible apply Keeps.ite | with_reducible apply State.newRing_keeps | with_reducible apply State.dial_keeps | with_reducible apply State.bump_keeps | split | (with_reducible refine Keeps.of ?_ rfl rfl rfl rfl rfl rfl; first | with_reducible assumption | with_reducible apply Keeps.ite | with_reducible apply State.newRing_keeps | with_reducible apply State.dial_keeps | with_reducible apply State.bump_keeps | split))

theorem State.supplyWound_keeps {s0 : State} (chg : List Nat) (s : State) (hK : Keeps s0 s) :
    Keeps s0 (State.supplyWound chg s) := by
  unfold State.supplyWound
  repeat' (first | with_reducible assumption | intro _ | (extract_lets +onlyGivenNames x; first | ((first | refine (fun hx => ?_ : Keeps s0 x → Keeps s0 _) ?_); (on_goal 1 => clear_value x); (on_goal 2 => subst x)) | (refine (fun hx => ?_ : Keeps s0 x → Keeps s0 _) ?_; (on_goal 2 => subst x)) | clear_value x | skip) | with_reducible apply Keeps.ite | with_reducible apply State.feedDisabled_keeps | split | (with_reducible refine Keeps.of ?_ rfl rfl rfl rfl rfl rfl; first | with_reducible assumption | with_reducible apply Keeps.ite | with_reducible apply State.feedDisabled_keeps | split))

theorem State.ppsWound_keeps {s0 : State} (s : State) (hK : Keeps s0 s) :
    Keeps s0 (State.ppsWound s) := by
  unfold State.ppsWound
  repeat' (first | with_reducible assumption | intro _ | with_reducible apply Keeps.ite | with_reducible apply State.setO_keeps | split | (with_reducible refine Keeps.of ?_ rfl rfl rfl rfl rfl rfl; first | with_reducible assumption | with_reducible apply Keeps.ite | with_reducible apply State.setO_keeps | split))

theorem State.periodWound_keeps {s0 : State} (s : State) (hK : Keeps s0 s) :
    Keeps s0 (State.periodWound s) := by
  unfold State.periodWound
  repeat' (first | with_reducible assumption | intro _ | (extract_lets +onlyGivenNames x; first | ((first | refine (fun hx => ?_ : Keeps s0 x → Keeps s0 _) ?_); (on_goal 1 => clear_value x); (on_goal 2 => subst x)) | (refine (fun hx => ?_ : Keeps s0 x → Keeps s0 _) ?_; (on_goal 2 => subst x)) | clear_value x | skip) | split | (with_reducible refine Keeps.of ?_ rfl rfl rfl rfl rfl rfl; first | with_reducible assumption | split))

theorem State.clientWound_keeps {s0 : State} (fresh : Bool) (c : Nat) (s : State) (hK : Keeps s0 s) :
    Keeps s0 (State.clientWound fresh c s) := by
  unfold State.clientWound
  repeat' (first | with_reducible assumption | intro _ | (extract_lets +onlyGivenNames x; first | ((first | refine (fun hx => ?_ : Keeps s0 x → Keeps s0 _) ?_); (on_goal 1 => clear_value x); (on_goal 2 => subst x)) | (refine (fun hx => ?_ : Keeps s0 x → Keeps s0 _) ?_; (on_goal 2 => subst x)) | clear_value x | skip) | with_reducible apply Keeps.ite | split | (with_reducible refine Keeps.of ?_ rfl rfl rfl rfl rfl rfl; first | with_reducible assumption | with_reducible apply Keeps.ite | split))

theorem State.modeWound_keeps {s0 : State} (s : State) (hK : Keeps s0 s) :
    Keeps s0 (State.modeWound s) := by
  unfold State.modeWound
  repeat' (first | with_reducible assumption | intro _ | split | (with_reducible refine Keeps.of ?_ rfl rfl rfl rfl rfl rfl; first | with_reducible assumption | split))

theorem State.probe_keeps {s0 : State} (idx : Nat) (s : State) (hK : Keeps s0 s) :
    Keeps s0 (State.probe idx s) := by
  unfold State.probe
  repeat' (first | with_reducible assumption | intro _ | (extract_lets +onlyGivenNames x; first | ((first | refine (fun hx => ?_ : Keeps s0 x → Keeps s0 _) ?_); (on_goal 1 => clear_value x); (on_goal 2 => subst x)) | (refine (fun hx => ?_ : Keeps s0 x → Keeps s0 _) ?_; (on_goal 2 => subst x)) | clear_value x | skip) | with_reducible apply Keeps.ite | with_reducible apply State.emit_keeps | split)

theorem State.senseWound_keeps {s0 : State} (n : Nat) (s : State) (hK : Keeps s0 s) :
    Keeps s0 (State.senseWound n s) := by
  unfold State.senseWound
  repeat' (first | with_reducible assumption | intro _ | with_reducible apply Keeps.ite | with_reducible apply State.filtRestart_keeps | split)

theorem State.mirrorWound_keeps {s0 : State} (n : Nat) (s : State) (hK : Keeps s0 s) :
    Keeps s0 (State.mirrorWound n s) := by
  unfold State.mirrorWound
  repeat' (first | with_reducible assumption | intro _ | with_reducible apply Keeps.ite | with_reducible apply State.queueMirror_keeps | split)

theorem State.windApply_keeps {s0 : State} (chg : List (Nat × Nat)) (s : State) (hK : Keeps s0 s) :
    Keeps s0 (State.windApply chg s) := by
  unfold State.windApply
  repeat' (first | with_reducible assumption | intro _ | (extract_lets +onlyGivenNames x; first | ((first | refine (fun hx => ?_ : Keeps s0 x → Keeps s0 _) ?_ | refine (fun hx => ?_ : (∀ z, Keeps s0 z → Keeps s0 (x z)) → Keeps s0 _) ?_ | refine (fun hx => ?_ : (∀ a z, Keeps s0 z → Keeps s0 (x a z)) → Keeps s0 _) ?_ | refine (fun hx => ?_ : (∀ a z, Keeps s0 z → Keeps s0 (x a z).2) → Keeps s0 _) ?_ | refine (fun hx => ?_ : (∀ a c z, Keeps s0 z → Keeps s0 (x a c z)) → Keeps s0 _) ?_ | refine (fun hx => ?_ : (∀ a, Keeps s0 (x a)) → Keeps s0 _) ?_); (on_goal 1 => clear_value x); (on_goal 2 => subst x)) | (refine (fun hx => ?_ : Keeps s0 x → Keeps s0 _) ?_; (on_goal 2 => subst x)) | clear_value x | skip) | with_reducible apply each_keeps | with_reducible apply Keeps.ite | with_reducible apply State.mirrorWound_keeps | with_reducible apply State.senseWound_keeps | with_reducible apply State.probe_keeps | with_reducible apply State.modeWound_keeps | with_reducible apply State.clientWound_keeps | with_reducible apply State.periodWound_keeps | with_reducible apply State.ppsWound_keeps | with_reducible apply State.supplyWound_keeps | with_reducible apply State.ringAnew_keeps | with_reducible apply State.unmigrate_keeps | with_reducible apply State.rewound_keeps | with_reducible apply State.regroup_keeps | with_reducible apply State.withValues_keeps | with_reducible apply State.linkSilent_keeps | with_reducible apply State.resetSource_keeps | with_reducible apply State.disablePort_keeps | with_reducible apply State.queueMirror_keeps | with_reducible apply State.setSrc_keeps | with_reducible apply_assumption | split | (with_reducible refine Keeps.of ?_ rfl rfl rfl rfl rfl rfl; first | with_reducible assumption | with_reducible apply each_keeps | with_reducible apply Keeps.ite | with_reducible apply State.mirrorWound_keeps | with_reducible apply State.senseWound_keeps | with_reducible apply State.probe_keeps | with_reducible apply State.modeWound_keeps | with_reducible apply State.clientWound_keeps | with_reducible apply State.periodWound_keeps | with_reducible apply State.ppsWound_keeps | with_reducible apply State.supplyWound_keeps | with_reducible apply State.ringAnew_keeps | with_reducible apply State.unmigrate_keeps | with_reducible apply State.rewound_keeps | with_reducible apply State.regroup_keeps | with_reducible apply State.withValues_keeps | with_reducible apply State.linkSilent_keeps | with_reducible apply State.resetSource_keeps | with_reducible apply State.disablePort_keeps | with_reducible apply State.queueMirror_keeps | with_reducible apply State.setSrc_keeps | with_reducible apply_assumption | split) | dsimp -zeta only)

theorem State.delayFrom_keeps {s0 : State} (idx : Nat) (s : State) (hK : Keeps s0 s) :
    Keeps s0 (State.delayFrom idx s) := by
  unfold State.delayFrom
  repeat' (first | with_reducible assumption | intro _ | with_reducible apply Keeps.ite | with_reducible apply State.rebootFromHere_keeps | split | (with_reducible refine Keeps.of ?_ rfl rfl rfl rfl rfl rfl; first | with_reducible assumption | with_reducible apply Keeps.ite | with_reducible apply State.rebootFromHere_keeps | split))

theorem State.winDone_keeps {s0 : State} (fn : Nat) (s : State) (hK : Keeps s0 s) :
    Keeps s0 (State.winDone fn s) := by
  unfold State.winDone
  repeat' (first | with_reducible assumption | intro _ | (extract_lets +onlyGivenNames x; first | ((first | refine (fun hx => ?_ : Keeps s0 x → Keeps s0 _) ?_); (on_goal 1 => clear_value x); (on_goal 2 => subst x)) | (refine (fun hx => ?_ : Keeps s0 x → Keeps s0 _) ?_; (on_goal 2 => subst x)) | clear_value x | skip) | with_reducible apply each_keeps | with_reducible apply Keeps.ite | with_reducible apply State.delayFrom_keeps | with_reducible apply State.raiseVec_keeps | with_reducible apply State.setFn_keeps | split | (with_reducible refine Keeps.of ?_ rfl rfl rfl rfl rfl rfl; first | with_reducible assumption | with_reducible apply each_keeps | with_reducible apply Keeps.ite | with_reducible apply State.delayFrom_keeps | with_reducible apply State.raiseVec_keeps | with_reducible apply State.setFn_keeps | split))

theorem State.nrWound_keeps {s0 : State} (scope status : Nat) (s : State) (hK : Keeps s0 s) :
    Keeps s0 (State.nrWound scope status s) := by
  unfold State.nrWound
  repeat' (first | with_reducible assumption | intro _ | with_reducible apply Keeps.ite | split | (with_reducible refine Keeps.of ?_ rfl rfl rfl rfl rfl rfl; first | with_reducible assumption | with_reducible apply Keeps.ite | split))

theorem State.winWound_keeps {s0 : State} (scope status : Nat) (s : State) (hK : Keeps s0 s) :
    Keeps s0 (State.winWound scope status s) := by
  unfold State.winWound
  repeat' (first | with_reducible assumption | intro _ | (extract_lets +onlyGivenNames x; first | ((first | refine (fun hx => ?_ : Keeps s0 x → Keeps s0 _) ?_); (on_goal 1 => clear_value x); (on_goal 2 => subst x)) | (refine (fun hx => ?_ : Keeps s0 x → Keeps s0 _) ?_; (on_goal 2 => subst x)) | clear_value x | skip) | with_reducible apply Keeps.ite | with_reducible apply State.nrWound_keeps | with_reducible apply State.winDone_keeps | with_reducible apply State.setFn_keeps | split | (with_reducible refine Keeps.of ?_ rfl rfl rfl rfl rfl rfl; first | with_reducible assumption | with_reducible apply Keeps.ite | with_reducible apply State.nrWound_keeps | with_reducible apply State.winDone_keeps | with_reducible apply State.setFn_keeps | split))

theorem State.windRefused_keeps {s0 : State} (scope status at_ : Nat) (s : State) (hK : Keeps s0 s) :
    Keeps s0 (State.windRefused scope status at_ s) := by
  unfold State.windRefused
  repeat' (first | with_reducible assumption | intro _ | with_reducible apply State.winWound_keeps | with_reducible apply State.dial_keeps | with_reducible apply State.bump_keeps | with_reducible apply State.setO_keeps | split)

theorem State.windCount_keeps {s0 : State} (scope d : Nat) (s : State) (hK : Keeps s0 s) :
    Keeps s0 (State.windCount scope d s) := by
  unfold State.windCount
  repeat' (first | with_reducible assumption | intro _ | (extract_lets +onlyGivenNames x; first | ((first | refine (fun hx => ?_ : Keeps s0 x → Keeps s0 _) ?_); (on_goal 1 => clear_value x); (on_goal 2 => subst x)) | (refine (fun hx => ?_ : Keeps s0 x → Keeps s0 _) ?_; (on_goal 2 => subst x)) | clear_value x | skip) | with_reducible apply State.chrPut_keeps | with_reducible apply State.setO_keeps | split)

theorem State.windBeat_keeps {s0 : State} (s : State) (hK : Keeps s0 s) :
    Keeps s0 (State.windBeat s) := by
  unfold State.windBeat
  repeat' (first | with_reducible assumption | intro _ | (extract_lets +onlyGivenNames x; first | ((first | refine (fun hx => ?_ : Keeps s0 x → Keeps s0 _) ?_); (on_goal 1 => clear_value x); (on_goal 2 => subst x)) | (refine (fun hx => ?_ : Keeps s0 x → Keeps s0 _) ?_; (on_goal 2 => subst x)) | clear_value x | skip) | with_reducible apply State.windCount_keeps | with_reducible apply State.windRefused_keeps | with_reducible apply State.winWound_keeps | with_reducible apply State.windApply_keeps | split | (with_reducible refine Keeps.of ?_ rfl rfl rfl rfl rfl rfl; first | with_reducible assumption | with_reducible apply State.windCount_keeps | with_reducible apply State.windRefused_keeps | with_reducible apply State.winWound_keeps | with_reducible apply State.windApply_keeps | split) | (with_reducible refine Keeps.ofF ?_ rfl rfl (by first | exact id | exact fun _ => smWf_nil _ | exact smWf_filter _ _ | exact smWf_set _ | exact memFilter_wf _ _ | exact memSetAll_wf _ _ _) (by first | exact id | exact fun _ => smWf_nil _ | exact smWf_filter _ _ | exact smWf_set _ | exact memFilter_wf _ _ | exact memSetAll_wf _ _ _) (by first | exact id | exact fun _ => smWf_nil _ | exact smWf_filter _ _ | exact smWf_set _ | exact memFilter_wf _ _ | exact memSetAll_wf _ _ _) (by first | exact id | exact fun _ => smWf_nil _ | exact smWf_filter _ _ | exact smWf_set _ | exact memFilter_wf _ _ | exact memSetAll_wf _ _ _); first | with_reducible assumption | with_reducible apply State.windCount_keeps | with_reducible apply State.windRefused_keeps | with_reducible apply State.winWound_keeps | with_reducible apply State.windApply_keeps | split))

theorem State.windAt_keeps {s0 : State} (b : Nat) (s : State) (hK : Keeps s0 s) :
    Keeps s0 (State.windAt b s) := by
  unfold State.windAt
  repeat' (first | with_reducible assumption | intro _ | with_reducible apply State.windBeat_keeps | with_reducible apply State.fwdWake_keeps | with_reducible apply State.syncLive_keeps | with_reducible apply State.toBeat_keeps | with_reducible apply State.hwRow_keeps | split)

end Sys2Proof.Machine
end

