-- ==== Sys2Proof/Laws/KeepsDict.lean ====
section
/-! SUPPORT. What the operations of Machine/Dict.lean keep. -/

set_option linter.all false

namespace Sys2Proof.Machine

open Sys2Proof

theorem State.cplUr_keeps {s0 : State} (fn : Nat) (s : State) (hK : Keeps s0 s) :
    Keeps s0 (State.cplUr fn s) := by
  unfold State.cplUr
  repeat' (first | with_reducible assumption | intro _ | (extract_lets +onlyGivenNames x; first | ((first | refine (fun hx => ?_ : Keeps s0 x → Keeps s0 _) ?_); (on_goal 1 => clear_value x); (on_goal 2 => subst x)) | (refine (fun hx => ?_ : Keeps s0 x → Keeps s0 _) ?_; (on_goal 2 => subst x)) | clear_value x | skip) | with_reducible apply Keeps.ite | with_reducible apply State.aerLog_keeps | with_reducible apply State.post_keeps | split)

theorem State.doorbellArrive_keeps {s0 : State} (s : State) (hK : Keeps s0 s) :
    Keeps s0 (State.doorbellArrive s) := by
  unfold State.doorbellArrive
  repeat' (first | with_reducible assumption | intro _ | with_reducible apply Keeps.ite | with_reducible apply State.ringSource_keeps | split | (with_reducible refine Keeps.of ?_ rfl rfl rfl rfl rfl rfl; first | with_reducible assumption | with_reducible apply Keeps.ite | with_reducible apply State.ringSource_keeps | split))

theorem State.doorbellsLand_keeps {s0 : State} (s : State) (hK : Keeps s0 s) :
    Keeps s0 (State.doorbellsLand s) := by
  unfold State.doorbellsLand
  repeat' (first | with_reducible assumption | intro _ | with_reducible apply times_keeps | with_reducible apply State.doorbellArrive_keeps | with_reducible apply times_keeps | split)

theorem State.memServe_keeps {s0 : State} (fn : Nat) (read : Bool) (i : Instr) (f : State → State) (s : State) (hf :
    ∀ z, Keeps s0 z → Keeps s0 (f z)) (hK : Keeps s0 s) :
    Keeps s0 (State.memServe fn read i f s) := by
  unfold State.memServe
  repeat' (first | with_reducible assumption | intro _ | with_reducible apply Keeps.ite | with_reducible apply State.cplUr_keeps | with_reducible apply State.wake_keeps | with_reducible apply_assumption | split | (with_reducible refine Keeps.of ?_ rfl rfl rfl rfl rfl rfl; first | with_reducible assumption | with_reducible apply Keeps.ite | with_reducible apply State.cplUr_keeps | with_reducible apply State.wake_keeps | with_reducible apply_assumption | split))

theorem State.memReq_keeps {s0 : State} (fn : Nat) (read : Bool) (i : Instr) (f : State → State) (s : State) (hf : ∀
    z, Keeps s0 z → Keeps s0 (f z)) (hK : Keeps s0 s) :
    Keeps s0 (State.memReq fn read i f s) := by
  unfold State.memReq
  repeat' (first | with_reducible assumption | intro _ | (extract_lets +onlyGivenNames x; first | ((first | refine (fun hx => ?_ : Keeps s0 x → Keeps s0 _) ?_); (on_goal 1 => clear_value x); (on_goal 2 => subst x)) | (refine (fun hx => ?_ : Keeps s0 x → Keeps s0 _) ?_; (on_goal 2 => subst x)) | clear_value x | skip) | with_reducible apply Keeps.ite | with_reducible apply State.memServe_keeps | with_reducible apply State.doorbellsLand_keeps | with_reducible apply State.linkUp_keeps | with_reducible apply_assumption | split)

theorem State.setEnable_keeps {s0 : State} (n : Nat) (on : Bool) (s : State) (hK : Keeps s0 s) :
    Keeps s0 (State.setEnable n on s) := by
  unfold State.setEnable
  repeat' (first | with_reducible assumption | intro _ | (extract_lets +onlyGivenNames x; first | ((first | refine (fun hx => ?_ : Keeps s0 x → Keeps s0 _) ?_); (on_goal 1 => clear_value x); (on_goal 2 => subst x)) | (refine (fun hx => ?_ : Keeps s0 x → Keeps s0 _) ?_; (on_goal 2 => subst x)) | clear_value x | skip) | with_reducible apply Keeps.ite | with_reducible apply State.rerank_keeps | with_reducible apply State.setO_keeps | split)

theorem State.setTgtEnable_keeps {s0 : State} (t : Nat) (on : Bool) (s : State) (hK : Keeps s0 s) :
    Keeps s0 (State.setTgtEnable t on s).2 := by
  unfold State.setTgtEnable
  repeat' (first | with_reducible assumption | intro _ | (extract_lets +onlyGivenNames x; first | ((first | refine (fun hx => ?_ : Keeps s0 x → Keeps s0 _) ?_); (on_goal 1 => clear_value x); (on_goal 2 => subst x)) | (refine (fun hx => ?_ : Keeps s0 x → Keeps s0 _) ?_; (on_goal 2 => subst x)) | clear_value x | skip) | with_reducible apply Keeps.ite | with_reducible apply State.becameEligible_keeps | with_reducible apply State.setO_keeps | split)

theorem State.setTgtEnable_keeps' {s0 tK : State} (t : Nat) (on : Bool) (s : State) {xK : Nat} (eK : State.setTgtEnable t on s = (xK, tK)) (hK : Keeps s0 s) :
    Keeps s0 tK := by
  have := State.setTgtEnable_keeps t on s hK
  rw [eK] at this; exact this

theorem State.tgtQuarantine_keeps {s0 : State} (b t : Nat) (mm : Bool) (s : State) (hK : Keeps s0 s) :
    Keeps s0 (State.tgtQuarantine b t mm s) := by
  unfold State.tgtQuarantine
  repeat' (first | with_reducible assumption | intro _ | (extract_lets +onlyGivenNames x; first | ((first | refine (fun hx => ?_ : Keeps s0 x → Keeps s0 _) ?_); (on_goal 1 => clear_value x); (on_goal 2 => subst x)) | (refine (fun hx => ?_ : Keeps s0 x → Keeps s0 _) ?_; (on_goal 2 => subst x)) | clear_value x | skip) | with_reducible apply Keeps.ite | with_reducible apply State.row8_keeps | with_reducible apply State.mismatch_keeps | with_reducible apply State.quarFlags_keeps | with_reducible apply State.quarRevoke_keeps | with_reducible apply State.leaveTarget_keeps | with_reducible apply State.setO_keeps | split)

theorem State.alarmWrite_keeps {s0 : State} (idx n v : Nat) (s : State) (hK : Keeps s0 s) :
    Keeps s0 (State.alarmWrite idx n v s) := by
  unfold State.alarmWrite
  repeat' (first | with_reducible assumption | intro _ | with_reducible apply Keeps.ite | with_reducible apply State.setO_keeps | split | (with_reducible refine Keeps.of ?_ rfl rfl rfl rfl rfl rfl; first | with_reducible assumption | with_reducible apply Keeps.ite | with_reducible apply State.setO_keeps | split))

theorem State.alarmArm_keeps {s0 : State} (n v : Nat) (s : State) (hK : Keeps s0 s) :
    Keeps s0 (State.alarmArm n v s) := by
  unfold State.alarmArm
  repeat' (first | with_reducible assumption | intro _ | with_reducible apply Keeps.ite | with_reducible apply State.setO_keeps | split | (with_reducible refine Keeps.of ?_ rfl rfl rfl rfl rfl rfl; first | with_reducible assumption | with_reducible apply Keeps.ite | with_reducible apply State.setO_keeps | split))

theorem State.progSet_keeps {s0 : State} (el v : Nat) (s : State) (hK : Keeps s0 s) :
    Keeps s0 (State.progSet el v s).2 := by
  unfold State.progSet
  repeat' (first | with_reducible assumption | intro _ | (extract_lets +onlyGivenNames x; first | ((first | refine (fun hx => ?_ : Keeps s0 x → Keeps s0 _) ?_); (on_goal 1 => clear_value x); (on_goal 2 => subst x)) | (refine (fun hx => ?_ : Keeps s0 x → Keeps s0 _) ?_; (on_goal 2 => subst x)) | clear_value x | skip) | with_reducible apply Keeps.ite | with_reducible apply State.setProg_keeps | split)

theorem State.progSet_keeps' {s0 tK : State} (el v : Nat) (s : State) {xK : Nat} (eK : State.progSet el v s = (xK, tK)) (hK : Keeps s0 s) :
    Keeps s0 tK := by
  have := State.progSet_keeps el v s hK
  rw [eK] at this; exact this

theorem State.faultClear_keeps {s0 : State} (v : Nat) (s : State) (hK : Keeps s0 s) : Keeps s0 (State.faultClear v
    s).2 := by
  have h (a c : Bool) (b : FaultBeat) : Keeps s0 (if !a && !c then (6, s) else (0, s.faultSlots b) : Nat × State).2 := by
    split
    · exact hK
    · exact State.faultSlots_keeps _ _ hK
  exact h _ _ _

theorem State.faultClear_keeps' {s0 tK : State} (v : Nat) (s : State) {xK : Nat} (eK : State.faultClear v s = (xK, tK)) (hK : Keeps s0 s) :
    Keeps s0 tK := by
  have := State.faultClear_keeps v s hK
  rw [eK] at this; exact this

theorem State.actLow_keeps {s0 : State} (idx el v : Nat) (mm : Bool) (s : State) (hK : Keeps s0 s) :
    Keeps s0 (State.actLow idx el v mm s).2 := by
  unfold State.actLow
  repeat' (first | with_reducible assumption | intro _ | with_reducible apply Keeps.ite | with_reducible apply State.faultClear_keeps | (with_reducible apply State.faultClear_keeps'; on_goal 1 => with_reducible assumption) | with_reducible apply State.alarmArm_keeps | with_reducible apply State.alarmWrite_keeps | with_reducible apply State.ringAnew_keeps | with_reducible apply State.activate_keeps | (with_reducible apply State.activate_keeps'; on_goal 1 => with_reducible assumption) | with_reducible apply State.stageData_keeps | (with_reducible apply State.stageData_keeps'; on_goal 1 => with_reducible assumption) | with_reducible apply State.stageSet_keeps | (with_reducible apply State.stageSet_keeps'; on_goal 1 => with_reducible assumption) | with_reducible apply State.rollBackNow_keeps | with_reducible apply State.confirm_keeps | with_reducible apply State.blkRequest_keeps | with_reducible apply State.wdogKick_keeps | with_reducible apply State.wdogArm_keeps | with_reducible apply State.requestReset_keeps | with_reducible apply State.quietSchedule_keeps | with_reducible apply State.tandemWake_keeps | with_reducible apply State.promote_keeps | with_reducible apply State.setReadSeq_keeps | with_reducible apply State.setCursor_keeps | with_reducible apply State.chrFlush_keeps | with_reducible apply State.loadCounter_keeps | with_reducible apply State.chrPut_keeps | with_reducible apply State.setO_keeps | split)

theorem State.actLow_keeps' {s0 tK : State} (idx el v : Nat) (mm : Bool) (s : State) {xK : Nat} (eK : State.actLow idx el v mm s = (xK, tK)) (hK : Keeps s0 s) :
    Keeps s0 tK := by
  have := State.actLow_keeps idx el v mm s hK
  rw [eK] at this; exact this

theorem State.actHigh_keeps {s0 : State} (pr idx el v : Nat) (mm : Bool) (s : State) (hK : Keeps s0 s) :
    Keeps s0 (State.actHigh pr idx el v mm s).2 := by
  unfold State.actHigh
  repeat' (first | with_reducible assumption | intro _ | with_reducible apply Keeps.ite | with_reducible apply State.progSet_keeps | (with_reducible apply State.progSet_keeps'; on_goal 1 => with_reducible assumption) | with_reducible apply State.tgtQuarantine_keeps | with_reducible apply State.setTgtEnable_keeps | (with_reducible apply State.setTgtEnable_keeps'; on_goal 1 => with_reducible assumption) | with_reducible apply State.setEnable_keeps | with_reducible apply State.draftDefaults_keeps | (with_reducible apply State.draftDefaults_keeps'; on_goal 1 => with_reducible assumption) | with_reducible apply State.draftDiscard_keeps | (with_reducible apply State.draftDiscard_keeps'; on_goal 1 => with_reducible assumption) | with_reducible apply State.windRequest_keeps | (with_reducible apply State.windRequest_keeps'; on_goal 1 => with_reducible assumption) | with_reducible apply State.saveSettings_keeps | (with_reducible apply State.saveSettings_keeps'; on_goal 1 => with_reducible assumption) | with_reducible apply State.tenantReset_keeps | with_reducible apply State.engBell_keeps | with_reducible apply State.engSwapForce_keeps | with_reducible apply State.engSwapCancel_keeps | with_reducible apply State.engSwapReq_keeps | with_reducible apply State.engStop_keeps | with_reducible apply State.engStart_keeps | with_reducible apply State.unquarantine_keeps | with_reducible apply State.release_keeps | with_reducible apply State.clearPending_keeps | with_reducible apply State.setPending_keeps | with_reducible apply State.quarantine_keeps | with_reducible apply State.setO_keeps | split)

theorem State.actHigh_keeps' {s0 tK : State} (pr idx el v : Nat) (mm : Bool) (s : State) {xK : Nat} (eK : State.actHigh pr idx el v mm s = (xK, tK)) (hK : Keeps s0 s) :
    Keeps s0 tK := by
  have := State.actHigh_keeps pr idx el v mm s hK
  rw [eK] at this; exact this

theorem State.writeAns_keeps {s0 : State} (pr idx e : Nat) (o : Obj) (len v : Nat) (mm : Bool) (s : State) (hK :
    Keeps s0 s) :
    Keeps s0 (State.writeAns pr idx e o len v mm s).2 := by
  unfold State.writeAns
  split
  · exact hK
  · split
    · exact hK
    · split
      · exact hK
      · split
        · exact hK
        · split
          · exact State.setDraft_keeps _ _ _ _ hK
          · have h : Keeps s0 (if idx < 0x2000 then s.actLow idx e v mm else s.actHigh pr idx e v mm).2 := by
              split
              · exact State.actLow_keeps _ _ _ _ _ hK
              · exact State.actHigh_keeps _ _ _ _ _ _ hK
            exact h

theorem State.writeAns_keeps' {s0 tK : State} (pr idx e : Nat) (o : Obj) (len v : Nat) (mm : Bool) (s : State) {xK : Ans} (eK : State.writeAns pr idx e o len v mm s = (xK, tK)) (hK : Keeps s0 s) :
    Keeps s0 tK := by
  have := State.writeAns_keeps pr idx e o len v mm s hK
  rw [eK] at this; exact this

theorem State.access_keeps {s0 : State} (pr idx el : Nat) (op : DOp) (len v : Nat) (mm : Bool) (s : State) (hK :
    Keeps s0 s) :
    Keeps s0 (State.access pr idx el op len v mm s).2 := by
  unfold State.access
  repeat' (first | with_reducible assumption | intro _ | with_reducible apply Keeps.ite | with_reducible apply State.writeAns_keeps | (with_reducible apply State.writeAns_keeps'; on_goal 1 => with_reducible assumption) | split)

theorem State.access_keeps' {s0 tK : State} (pr idx el : Nat) (op : DOp) (len v : Nat) (mm : Bool) (s : State) {xK : Ans} (eK : State.access pr idx el op len v mm s = (xK, tK)) (hK : Keeps s0 s) :
    Keeps s0 tK := by
  have := State.access_keeps pr idx el op len v mm s hK
  rw [eK] at this; exact this

theorem State.dictCmd_keeps {s0 : State} (op : Option DOp) (fn : Nat) (seq : Byte) (mm : Bool) (s : State) (hK :
    Keeps s0 s) :
    Keeps s0 (State.dictCmd op fn seq mm s) := by
  unfold State.dictCmd
  repeat' (first | with_reducible assumption | intro _ | (extract_lets +onlyGivenNames x; first | ((first | refine (fun hx => ?_ : Keeps s0 x → Keeps s0 _) ?_); (on_goal 1 => clear_value x); (on_goal 2 => subst x)) | (refine (fun hx => ?_ : Keeps s0 x → Keeps s0 _) ?_; (on_goal 2 => subst x)) | clear_value x | skip) | with_reducible apply Keeps.ite | with_reducible apply State.access_keeps | (with_reducible apply State.access_keeps'; on_goal 1 => with_reducible assumption) | with_reducible apply State.setFn_keeps | split | (with_reducible refine Keeps.of ?_ rfl rfl rfl rfl rfl rfl; first | with_reducible assumption | with_reducible apply Keeps.ite | with_reducible apply State.access_keeps | (with_reducible apply State.access_keeps'; on_goal 1 => with_reducible assumption) | with_reducible apply State.setFn_keeps | split))

theorem State.dictDone_keeps {s0 : State} (fn : Nat) (s : State) (hK : Keeps s0 s) :
    Keeps s0 (State.dictDone fn s) := by
  unfold State.dictDone
  repeat' (first | with_reducible assumption | intro _ | with_reducible apply Keeps.ite | with_reducible apply State.winDone_keeps | split)

theorem State.dictRow_keeps {s0 : State} (pr idx el len v : Nat) (mm : Bool) (s : State) (hK : Keeps s0 s) :
    Keeps s0 (State.dictRow pr idx el len v mm s) := by
  unfold State.dictRow
  repeat' (first | with_reducible assumption | intro _ | (extract_lets +onlyGivenNames x; first | ((first | refine (fun hx => ?_ : Keeps s0 x → Keeps s0 _) ?_); (on_goal 1 => clear_value x); (on_goal 2 => subst x)) | (refine (fun hx => ?_ : Keeps s0 x → Keeps s0 _) ?_; (on_goal 2 => subst x)) | clear_value x | skip) | with_reducible apply Keeps.ite | with_reducible apply State.access_keeps | (with_reducible apply State.access_keeps'; on_goal 1 => with_reducible assumption) | with_reducible apply State.answer_keeps | split)

theorem State.pageWind_keeps {s0 : State} (fn : Nat) (s : State) (hK : Keeps s0 s) :
    Keeps s0 (State.pageWind fn s) := by
  unfold State.pageWind
  repeat' (first | with_reducible assumption | intro _ | (extract_lets +onlyGivenNames x; first | ((first | refine (fun hx => ?_ : Keeps s0 x → Keeps s0 _) ?_); (on_goal 1 => clear_value x); (on_goal 2 => subst x)) | (refine (fun hx => ?_ : Keeps s0 x → Keeps s0 _) ?_; (on_goal 2 => subst x)) | clear_value x | skip) | with_reducible apply Keeps.ite | with_reducible apply State.windRequest_keeps | (with_reducible apply State.windRequest_keeps'; on_goal 1 => with_reducible assumption) | with_reducible apply State.setO_keeps | split)

end Sys2Proof.Machine
end

