-- ==== Sys2Proof/Laws/KeepsNarind.lean ====
section
/-! SUPPORT. What the operations of Machine/Narind.lean keep. -/

set_option linter.all false

namespace Sys2Proof.Machine

open Sys2Proof

theorem State.viaHop_keeps {s0 : State} (addr : Nat) (mk : Nat → Out) (s : State) (hK : Keeps s0 s) :
    Keeps s0 (State.viaHop addr mk s) := by
  unfold State.viaHop
  repeat' (first | with_reducible assumption | intro _ | (extract_lets +onlyGivenNames x; first | ((first | refine (fun hx => ?_ : Keeps s0 x → Keeps s0 _) ?_); (on_goal 1 => clear_value x); (on_goal 2 => subst x)) | (refine (fun hx => ?_ : Keeps s0 x → Keeps s0 _) ?_; (on_goal 2 => subst x)) | clear_value x | skip) | with_reducible apply Keeps.ite | with_reducible apply State.emit_keeps | split)

theorem State.sendUdp_keeps {s0 : State} (src addr : Nat) (frame : List Byte) (s : State) (hK : Keeps s0 s) :
    Keeps s0 (State.sendUdp src addr frame s) := by
  unfold State.sendUdp
  repeat' (first | with_reducible assumption | intro _ | with_reducible apply Keeps.ite | with_reducible apply State.viaHop_keeps | split)

theorem State.setClient_keeps {s0 : State} (c : Nat) (x : Client) (s : State) (hK : Keeps s0 s) :
    Keeps s0 (State.setClient c x s) := by
  unfold State.setClient
  repeat' (first | with_reducible assumption | intro _ | split | (with_reducible refine Keeps.of ?_ rfl rfl rfl rfl rfl rfl; first | with_reducible assumption | split))

theorem State.nrSend_keeps {s0 : State} (c src addr op count seq status : Nat) (body : List Byte) (s : State) (hK :
    Keeps s0 s) :
    Keeps s0 (State.nrSend c src addr op count seq status body s) := by
  unfold State.nrSend
  repeat' (first | with_reducible assumption | intro _ | with_reducible apply State.sendUdp_keeps | split)

theorem State.nrTell_keeps {s0 : State} (c addr op count seq : Nat) (body : List Byte) (s : State) (hK : Keeps s0 s) :
    Keeps s0 (State.nrTell c addr op count seq body s) := by
  unfold State.nrTell
  repeat' (first | with_reducible assumption | intro _ | with_reducible apply State.nrSend_keeps | split)

theorem State.nrRefuse_keeps {s0 : State} (i : NrIn) (status : Nat) (s : State) (hK : Keeps s0 s) :
    Keeps s0 (State.nrRefuse i status s) := by
  unfold State.nrRefuse
  repeat' (first | with_reducible assumption | intro _ | with_reducible apply State.nrSend_keeps | with_reducible apply State.bump_keeps | split)

theorem State.nrSubscribe_keeps {s0 : State} (c addr idx el : Nat) (v : List Byte) (s : State) (hK : Keeps s0 s) :
    Keeps s0 (State.nrSubscribe c addr idx el v s).2 := by
  unfold State.nrSubscribe
  repeat' (first | with_reducible assumption | intro _ | (extract_lets +onlyGivenNames x; first | ((first | refine (fun hx => ?_ : Keeps s0 x → Keeps s0 _) ?_); (on_goal 1 => clear_value x); (on_goal 2 => subst x)) | (refine (fun hx => ?_ : Keeps s0 x → Keeps s0 _) ?_; (on_goal 2 => subst x)) | clear_value x | skip) | with_reducible apply Keeps.ite | with_reducible apply State.setClient_keeps | with_reducible apply State.access_keeps | (with_reducible apply State.access_keeps'; on_goal 1 => with_reducible assumption) | split | (with_reducible refine Keeps.of ?_ rfl rfl rfl rfl rfl rfl; first | with_reducible assumption | with_reducible apply Keeps.ite | with_reducible apply State.setClient_keeps | with_reducible apply State.access_keeps | (with_reducible apply State.access_keeps'; on_goal 1 => with_reducible assumption) | split))

theorem State.nrSubscribe_keeps' {s0 tK : State} (c addr idx el : Nat) (v : List Byte) (s : State) {xK : Nat} (eK : State.nrSubscribe c addr idx el v s = (xK, tK)) (hK : Keeps s0 s) :
    Keeps s0 tK := by
  have := State.nrSubscribe_keeps c addr idx el v s hK
  rw [eK] at this; exact this

theorem State.nrWrite_keeps {s0 : State} (c idx el : Nat) (op : DOp) (v : List Byte) (s : State) (hK : Keeps s0 s) :
    Keeps s0 (State.nrWrite c idx el op v s).2 := by
  unfold State.nrWrite
  repeat' (first | with_reducible assumption | intro _ | (extract_lets +onlyGivenNames x; first | ((first | refine (fun hx => ?_ : Keeps s0 x → Keeps s0 _) ?_); (on_goal 1 => clear_value x); (on_goal 2 => subst x)) | (refine (fun hx => ?_ : Keeps s0 x → Keeps s0 _) ?_; (on_goal 2 => subst x)) | clear_value x | skip) | with_reducible apply Keeps.ite | with_reducible apply State.access_keeps | (with_reducible apply State.access_keeps'; on_goal 1 => with_reducible assumption) | split)

theorem State.nrWrite_keeps' {s0 tK : State} (c idx el : Nat) (op : DOp) (v : List Byte) (s : State) {xK : WinResult} (eK : State.nrWrite c idx el op v s = (xK, tK)) (hK : Keeps s0 s) :
    Keeps s0 tK := by
  have := State.nrWrite_keeps c idx el op v s hK
  rw [eK] at this; exact this

theorem State.nrOp_keeps {s0 : State} (c addr : Nat) (o : NrOp) (s : State) (hK : Keeps s0 s) :
    Keeps s0 (State.nrOp c addr o s).2 := by
  unfold State.nrOp
  repeat' (first | with_reducible assumption | intro _ | (extract_lets +onlyGivenNames x; first | ((first | refine (fun hx => ?_ : Keeps s0 x → Keeps s0 _) ?_); (on_goal 1 => clear_value x); (on_goal 2 => subst x)) | (refine (fun hx => ?_ : Keeps s0 x → Keeps s0 _) ?_; (on_goal 2 => subst x)) | clear_value x | skip) | with_reducible apply Keeps.ite | with_reducible apply State.nrWrite_keeps | (with_reducible apply State.nrWrite_keeps'; on_goal 1 => with_reducible assumption) | with_reducible apply State.nrSubscribe_keeps | (with_reducible apply State.nrSubscribe_keeps'; on_goal 1 => with_reducible assumption) | with_reducible apply State.setClient_keeps | split | (with_reducible refine Keeps.of ?_ rfl rfl rfl rfl rfl rfl; first | with_reducible assumption | with_reducible apply Keeps.ite | with_reducible apply State.nrWrite_keeps | (with_reducible apply State.nrWrite_keeps'; on_goal 1 => with_reducible assumption) | with_reducible apply State.nrSubscribe_keeps | (with_reducible apply State.nrSubscribe_keeps'; on_goal 1 => with_reducible assumption) | with_reducible apply State.setClient_keeps | split))

theorem State.nrOp_keeps' {s0 tK : State} (c addr : Nat) (o : NrOp) (s : State) {xK : WinResult} (eK : State.nrOp c addr o s = (xK, tK)) (hK : Keeps s0 s) :
    Keeps s0 tK := by
  have := State.nrOp_keeps c addr o s hK
  rw [eK] at this; exact this

theorem State.setJob_keeps {s0 : State} (j : Option NrJob) (s : State) (hK : Keeps s0 s) :
    Keeps s0 (State.setJob j s) := by
  unfold State.setJob
  repeat' (first | with_reducible assumption | intro _ | split | (with_reducible refine Keeps.of ?_ rfl rfl rfl rfl rfl rfl; first | with_reducible assumption | split))

theorem State.nrDone_keeps {s0 : State} (i : NrIn) (op count : Nat) (body : List Byte) (s : State) (hK : Keeps s0 s) :
    Keeps s0 (State.nrDone i op count body s) := by
  unfold State.nrDone
  repeat' (first | with_reducible assumption | intro _ | (extract_lets +onlyGivenNames x; first | ((first | refine (fun hx => ?_ : Keeps s0 x → Keeps s0 _) ?_); (on_goal 1 => clear_value x); (on_goal 2 => subst x)) | (refine (fun hx => ?_ : Keeps s0 x → Keeps s0 _) ?_; (on_goal 2 => subst x)) | clear_value x | skip) | with_reducible apply State.setClient_keeps | with_reducible apply State.sendUdp_keeps | split | (with_reducible refine Keeps.of ?_ rfl rfl rfl rfl rfl rfl; first | with_reducible assumption | with_reducible apply State.setClient_keeps | with_reducible apply State.sendUdp_keeps | split))

theorem State.nrStart_keeps {s0 : State} (j : NrJob) (o : NrOp) (s : State) (hK : Keeps s0 s) :
    Keeps s0 (State.nrStart j o s) := by
  unfold State.nrStart
  repeat' (first | with_reducible assumption | intro _ | (extract_lets +onlyGivenNames x; first | ((first | refine (fun hx => ?_ : Keeps s0 x → Keeps s0 _) ?_); (on_goal 1 => clear_value x); (on_goal 2 => subst x)) | (refine (fun hx => ?_ : Keeps s0 x → Keeps s0 _) ?_; (on_goal 2 => subst x)) | clear_value x | skip) | with_reducible apply Keeps.ite | with_reducible apply State.setJob_keeps | with_reducible apply State.nrOp_keeps | (with_reducible apply State.nrOp_keeps'; on_goal 1 => with_reducible assumption) | with_reducible apply State.upToReq_keeps | with_reducible apply State.draw_keeps | (with_reducible apply State.draw_keeps'; on_goal 1 => with_reducible assumption) | split | (with_reducible refine Keeps.of ?_ rfl rfl rfl rfl rfl rfl; first | with_reducible assumption | with_reducible apply Keeps.ite | with_reducible apply State.setJob_keeps | with_reducible apply State.nrOp_keeps | (with_reducible apply State.nrOp_keeps'; on_goal 1 => with_reducible assumption) | with_reducible apply State.upToReq_keeps | with_reducible apply State.draw_keeps | (with_reducible apply State.draw_keeps'; on_goal 1 => with_reducible assumption) | split))

theorem State.nrFinish_keeps {s0 : State} (j : NrJob) (r : WinResult) (s : State) (hK : Keeps s0 s) :
    Keeps s0 (State.nrFinish j r s) := by
  unfold State.nrFinish
  repeat' (first | with_reducible assumption | intro _ | (extract_lets +onlyGivenNames x; first | ((first | refine (fun hx => ?_ : Keeps s0 x → Keeps s0 _) ?_); (on_goal 1 => clear_value x); (on_goal 2 => subst x)) | (refine (fun hx => ?_ : Keeps s0 x → Keeps s0 _) ?_; (on_goal 2 => subst x)) | clear_value x | skip) | with_reducible apply Keeps.ite | with_reducible apply State.setJob_keeps | with_reducible apply State.delayFrom_keeps | with_reducible apply State.answer_keeps | split | (with_reducible refine Keeps.of ?_ rfl rfl rfl rfl rfl rfl; first | with_reducible assumption | with_reducible apply Keeps.ite | with_reducible apply State.setJob_keeps | with_reducible apply State.delayFrom_keeps | with_reducible apply State.answer_keeps | split))

theorem State.nrReply_keeps {s0 : State} (j : NrJob) (s : State) (hK : Keeps s0 s) :
    Keeps s0 (State.nrReply j s) := by
  unfold State.nrReply
  repeat' (first | with_reducible assumption | intro _ | (extract_lets +onlyGivenNames x; first | ((first | refine (fun hx => ?_ : Keeps s0 x → Keeps s0 _) ?_); (on_goal 1 => clear_value x); (on_goal 2 => subst x)) | (refine (fun hx => ?_ : Keeps s0 x → Keeps s0 _) ?_; (on_goal 2 => subst x)) | clear_value x | skip) | with_reducible apply each_keeps | with_reducible apply Keeps.ite | with_reducible apply State.nrDone_keeps | with_reducible apply State.setJob_keeps | with_reducible apply State.delayFrom_keeps | with_reducible apply State.emit_keeps | split)

theorem State.nrWork_keeps {s0 : State} (j : NrJob) (s : State) (hK : Keeps s0 s) :
    Keeps s0 (State.nrWork j s) := by
  unfold State.nrWork
  repeat' (first | with_reducible assumption | intro _ | with_reducible apply Keeps.ite | with_reducible apply State.nrReply_keeps | with_reducible apply State.nrFinish_keeps | with_reducible apply State.nrStart_keeps | with_reducible apply State.setJob_keeps | split | (with_reducible refine Keeps.of ?_ rfl rfl rfl rfl rfl rfl; first | with_reducible assumption | with_reducible apply Keeps.ite | with_reducible apply State.nrReply_keeps | with_reducible apply State.nrFinish_keeps | with_reducible apply State.nrStart_keeps | with_reducible apply State.setJob_keeps | split))

theorem State.nrBegin_keeps {s0 : State} (i : NrIn) (ops : List NrOp) (s : State) (hK : Keeps s0 s) :
    Keeps s0 (State.nrBegin i ops s) := by
  unfold State.nrBegin
  repeat' (first | with_reducible assumption | intro _ | with_reducible apply State.setJob_keeps | split)

theorem State.nrRequest_keeps {s0 : State} (i : NrIn) (s : State) (hK : Keeps s0 s) :
    Keeps s0 (State.nrRequest i s) := by
  unfold State.nrRequest
  repeat' (first | with_reducible assumption | intro _ | (extract_lets +onlyGivenNames x; first | ((first | refine (fun hx => ?_ : Keeps s0 x → Keeps s0 _) ?_); (on_goal 1 => clear_value x); (on_goal 2 => subst x)) | (refine (fun hx => ?_ : Keeps s0 x → Keeps s0 _) ?_; (on_goal 2 => subst x)) | clear_value x | skip) | with_reducible apply Keeps.ite | with_reducible apply State.nrBegin_keeps | with_reducible apply State.nrRefuse_keeps | split)

theorem State.nrReset_keeps {s0 : State} (i : NrIn) (s : State) (hK : Keeps s0 s) :
    Keeps s0 (State.nrReset i s) := by
  unfold State.nrReset
  repeat' (first | with_reducible assumption | intro _ | (extract_lets +onlyGivenNames x; first | ((first | refine (fun hx => ?_ : Keeps s0 x → Keeps s0 _) ?_); (on_goal 1 => clear_value x); (on_goal 2 => subst x)) | (refine (fun hx => ?_ : Keeps s0 x → Keeps s0 _) ?_; (on_goal 2 => subst x)) | clear_value x | skip) | with_reducible apply Keeps.ite | with_reducible apply State.nrDone_keeps | with_reducible apply State.nrRefuse_keeps | with_reducible apply State.requestReset_keeps | split)

theorem State.nrPing_keeps {s0 : State} (i : NrIn) (s : State) (hK : Keeps s0 s) :
    Keeps s0 (State.nrPing i s) := by
  unfold State.nrPing
  repeat' (first | with_reducible assumption | intro _ | (extract_lets +onlyGivenNames x; first | ((first | refine (fun hx => ?_ : Keeps s0 x → Keeps s0 _) ?_); (on_goal 1 => clear_value x); (on_goal 2 => subst x)) | (refine (fun hx => ?_ : Keeps s0 x → Keeps s0 _) ?_; (on_goal 2 => subst x)) | clear_value x | skip) | with_reducible apply Keeps.ite | with_reducible apply State.nrDone_keeps | with_reducible apply State.nrRefuse_keeps | with_reducible apply State.nrSend_keeps | with_reducible apply State.wake_keeps | split)

theorem State.nrExecute_keeps {s0 : State} (i : NrIn) (s : State) (hK : Keeps s0 s) :
    Keeps s0 (State.nrExecute i s) := by
  unfold State.nrExecute
  repeat' (first | with_reducible assumption | intro _ | (extract_lets +onlyGivenNames x; first | ((first | refine (fun hx => ?_ : Keeps s0 x → Keeps s0 _) ?_); (on_goal 1 => clear_value x); (on_goal 2 => subst x)) | (refine (fun hx => ?_ : Keeps s0 x → Keeps s0 _) ?_; (on_goal 2 => subst x)) | clear_value x | skip) | with_reducible apply Keeps.ite | with_reducible apply State.nrPing_keeps | with_reducible apply State.nrReset_keeps | with_reducible apply State.nrRequest_keeps | with_reducible apply State.nrRefuse_keeps | split)

theorem State.nrHandle_keeps {s0 : State} (i : NrIn) (s : State) (hK : Keeps s0 s) :
    Keeps s0 (State.nrHandle i s) := by
  unfold State.nrHandle
  repeat' (first | with_reducible assumption | intro _ | (extract_lets +onlyGivenNames x; first | ((first | refine (fun hx => ?_ : Keeps s0 x → Keeps s0 _) ?_); (on_goal 1 => clear_value x); (on_goal 2 => subst x)) | (refine (fun hx => ?_ : Keeps s0 x → Keeps s0 _) ?_; (on_goal 2 => subst x)) | clear_value x | skip) | with_reducible apply Keeps.ite | with_reducible apply State.nrExecute_keeps | with_reducible apply State.nrRefuse_keeps | with_reducible apply State.sendUdp_keeps | with_reducible apply State.bump_keeps | split)

theorem State.nrTake_keeps {s0 : State} (i : NrIn) (s : State) (hK : Keeps s0 s) :
    Keeps s0 (State.nrTake i s) := by
  unfold State.nrTake
  repeat' (first | with_reducible assumption | intro _ | with_reducible apply Keeps.ite | with_reducible apply State.nrHandle_keeps | with_reducible apply State.nrBegin_keeps | split)

theorem State.nrStep_keeps {s0 : State} (s : State) (hK : Keeps s0 s) :
    Keeps s0 (State.nrStep s) := by
  unfold State.nrStep
  repeat' (first | with_reducible assumption | intro _ | with_reducible apply State.nrTake_keeps | with_reducible apply State.nrWork_keeps | split | (with_reducible refine Keeps.of ?_ rfl rfl rfl rfl rfl rfl; first | with_reducible assumption | with_reducible apply State.nrTake_keeps | with_reducible apply State.nrWork_keeps | split))

theorem nrRun_keeps {s0 : State} (f : Nat) (s : State) (h : Keeps s0 s) : Keeps s0 (nrRun f s) := by
  induction f generalizing s with
  | zero => exact h
  | succ f ih => unfold nrRun; split; exact ih _ (State.nrStep_keeps _ h); exact h

theorem State.nrDrain_keeps {s0 : State} (s : State) (hK : Keeps s0 s) :
    Keeps s0 (State.nrDrain s) := by
  unfold State.nrDrain
  repeat' (first | with_reducible assumption | intro _ | with_reducible apply nrRun_keeps | split)

theorem nrPass_keeps {s0 : State} (f b : Nat) (s : State) (h : Keeps s0 s) : Keeps s0 (nrPass f b s) := by
  induction f generalizing s with
  | zero => exact State.nrDrain_keeps _ (State.upTo_keeps _ _ h)
  | succ f ih =>
    unfold nrPass; split
    · exact State.nrDrain_keeps _ (State.upTo_keeps _ _ h)
    · exact ih _ (State.nrDrain_keeps _ (State.upTo_keeps _ _ h))

theorem State.nrTo_keeps {s0 : State} (b : Nat) (s : State) (hK : Keeps s0 s) :
    Keeps s0 (State.nrTo b s) := by
  unfold State.nrTo
  repeat' (first | with_reducible assumption | intro _ | with_reducible apply nrPass_keeps | split)

theorem State.atReq_keeps {s0 : State} (s : State) (b : Nat) (hK : Keeps s0 s) :
    Keeps s0 (State.atReq s b) := by
  unfold State.atReq
  repeat' (first | with_reducible assumption | intro _ | with_reducible apply State.nrTo_keeps | with_reducible apply State.upToReq_keeps | split)

theorem State.nrArrive_keeps {s0 : State} (addr dst : Nat) (f : List Byte) (s : State) (hK : Keeps s0 s) :
    Keeps s0 (State.nrArrive addr dst f s) := by
  unfold State.nrArrive
  repeat' (first | with_reducible assumption | intro _ | (extract_lets +onlyGivenNames x; first | ((first | refine (fun hx => ?_ : Keeps s0 x → Keeps s0 _) ?_); (on_goal 1 => clear_value x); (on_goal 2 => subst x)) | (refine (fun hx => ?_ : Keeps s0 x → Keeps s0 _) ?_; (on_goal 2 => subst x)) | clear_value x | skip) | with_reducible apply Keeps.ite | with_reducible apply State.nrDrain_keeps | with_reducible apply State.setClient_keeps | with_reducible apply State.bump_keeps | split | (with_reducible refine Keeps.of ?_ rfl rfl rfl rfl rfl rfl; first | with_reducible assumption | with_reducible apply Keeps.ite | with_reducible apply State.nrDrain_keeps | with_reducible apply State.setClient_keeps | with_reducible apply State.bump_keeps | split))

theorem State.nrReport_keeps {s0 : State} (c : Nat) (rs : List (List Byte)) (s : State) (hK : Keeps s0 s) :
    Keeps s0 (State.nrReport c rs s) := by
  unfold State.nrReport
  repeat' (first | with_reducible assumption | intro _ | (extract_lets +onlyGivenNames x; first | ((first | refine (fun hx => ?_ : Keeps s0 x → Keeps s0 _) ?_); (on_goal 1 => clear_value x); (on_goal 2 => subst x)) | (refine (fun hx => ?_ : Keeps s0 x → Keeps s0 _) ?_; (on_goal 2 => subst x)) | clear_value x | skip) | with_reducible apply State.nrTell_keeps | with_reducible apply State.setClient_keeps | split | (with_reducible refine Keeps.of ?_ rfl rfl rfl rfl rfl rfl; first | with_reducible assumption | with_reducible apply State.nrTell_keeps | with_reducible apply State.setClient_keeps | split))

theorem State.nrReports_keeps {s0 : State} (k c : Nat) (s : State) (hK : Keeps s0 s) :
    Keeps s0 (State.nrReports k c s) := by
  unfold State.nrReports
  repeat' (first | with_reducible assumption | intro _ | (extract_lets +onlyGivenNames x; first | ((first | refine (fun hx => ?_ : Keeps s0 x → Keeps s0 _) ?_); (on_goal 1 => clear_value x); (on_goal 2 => subst x)) | (refine (fun hx => ?_ : Keeps s0 x → Keeps s0 _) ?_; (on_goal 2 => subst x)) | clear_value x | skip) | with_reducible apply each_keeps | with_reducible apply State.nrReport_keeps | with_reducible apply State.setClient_keeps | split | (with_reducible refine Keeps.of ?_ rfl rfl rfl rfl rfl rfl; first | with_reducible assumption | with_reducible apply each_keeps | with_reducible apply State.nrReport_keeps | with_reducible apply State.setClient_keeps | split))

theorem State.ticksPass_keeps {s0 : State} (k c : Nat) (s : State) (hK : Keeps s0 s) :
    Keeps s0 (State.ticksPass k c s) := by
  unfold State.ticksPass
  repeat' (first | with_reducible assumption | intro _ | (extract_lets +onlyGivenNames x; first | ((first | refine (fun hx => ?_ : Keeps s0 x → Keeps s0 _) ?_); (on_goal 1 => clear_value x); (on_goal 2 => subst x)) | (refine (fun hx => ?_ : Keeps s0 x → Keeps s0 _) ?_; (on_goal 2 => subst x)) | clear_value x | skip) | with_reducible apply State.setClient_keeps | split | (with_reducible refine Keeps.of ?_ rfl rfl rfl rfl rfl rfl; first | with_reducible assumption | with_reducible apply State.setClient_keeps | split))

theorem State.reportTick_keeps {s0 : State} (s : State) (hK : Keeps s0 s) :
    Keeps s0 (State.reportTick s) := by
  unfold State.reportTick
  repeat' (first | with_reducible assumption | intro _ | (extract_lets +onlyGivenNames x; first | ((first | refine (fun hx => ?_ : Keeps s0 x → Keeps s0 _) ?_); (on_goal 1 => clear_value x); (on_goal 2 => subst x)) | (refine (fun hx => ?_ : Keeps s0 x → Keeps s0 _) ?_; (on_goal 2 => subst x)) | clear_value x | skip) | with_reducible apply each_keeps | with_reducible apply Keeps.ite | with_reducible apply State.ticksPass_keeps | with_reducible apply State.nrReports_keeps | split | (with_reducible refine Keeps.of ?_ rfl rfl rfl rfl rfl rfl; first | with_reducible assumption | with_reducible apply each_keeps | with_reducible apply Keeps.ite | with_reducible apply State.ticksPass_keeps | with_reducible apply State.nrReports_keeps | split))

theorem State.gaspCopy_keeps {s0 : State} (d : Nat × Nat) (s : State) (hK : Keeps s0 s) :
    Keeps s0 (State.gaspCopy d s) := by
  unfold State.gaspCopy
  repeat' (first | with_reducible assumption | intro _ | with_reducible apply State.nrTell_keeps | split)

theorem State.gaspRound_keeps {s0 : State} (s : State) (hK : Keeps s0 s) :
    Keeps s0 (State.gaspRound s) := by
  unfold State.gaspRound
  repeat' (first | with_reducible assumption | intro _ | (extract_lets +onlyGivenNames x; first | ((first | refine (fun hx => ?_ : Keeps s0 x → Keeps s0 _) ?_); (on_goal 1 => clear_value x); (on_goal 2 => subst x)) | (refine (fun hx => ?_ : Keeps s0 x → Keeps s0 _) ?_; (on_goal 2 => subst x)) | clear_value x | skip) | with_reducible apply each_keeps | with_reducible apply Keeps.ite | with_reducible apply State.gaspCopy_keeps | split | (with_reducible refine Keeps.of ?_ rfl rfl rfl rfl rfl rfl; first | with_reducible assumption | with_reducible apply each_keeps | with_reducible apply Keeps.ite | with_reducible apply State.gaspCopy_keeps | split))

theorem State.arpAsked_keeps {s0 : State} (target sender : Nat) (s : State) (hK : Keeps s0 s) :
    Keeps s0 (State.arpAsked target sender s) := by
  unfold State.arpAsked
  repeat' (first | with_reducible assumption | intro _ | with_reducible apply Keeps.ite | with_reducible apply State.emit_keeps | split)

theorem State.resolved_keeps {s0 : State} (v6 : Bool) (ip mac : Nat) (s : State) (hK : Keeps s0 s) :
    Keeps s0 (State.resolved v6 ip mac s) := by
  unfold State.resolved
  repeat' (first | with_reducible assumption | intro _ | with_reducible apply Keeps.ite | split | (with_reducible refine Keeps.of ?_ rfl rfl rfl rfl rfl rfl; first | with_reducible assumption | with_reducible apply Keeps.ite | split))

theorem State.arpAnswered_keeps {s0 : State} (ip mac : Nat) (s : State) (hK : Keeps s0 s) :
    Keeps s0 (State.arpAnswered ip mac s) := by
  unfold State.arpAnswered
  repeat' (first | with_reducible assumption | intro _ | with_reducible apply Keeps.ite | with_reducible apply State.resolved_keeps | split)

theorem State.ndAsked_keeps {s0 : State} (target sender : Nat) (s : State) (hK : Keeps s0 s) :
    Keeps s0 (State.ndAsked target sender s) := by
  unfold State.ndAsked
  repeat' (first | with_reducible assumption | intro _ | with_reducible apply Keeps.ite | with_reducible apply State.emit_keeps | split)

theorem State.ndAnswered_keeps {s0 : State} (target mac : Nat) (s : State) (hK : Keeps s0 s) :
    Keeps s0 (State.ndAnswered target mac s) := by
  unfold State.ndAnswered
  repeat' (first | with_reducible assumption | intro _ | with_reducible apply Keeps.ite | with_reducible apply State.resolved_keeps | split | (with_reducible refine Keeps.of ?_ rfl rfl rfl rfl rfl rfl; first | with_reducible assumption | with_reducible apply Keeps.ite | with_reducible apply State.resolved_keeps | split))

theorem State.echo_keeps {s0 : State} (addr dst : Nat) (data : List Byte) (s : State) (hK : Keeps s0 s) :
    Keeps s0 (State.echo addr dst data s) := by
  unfold State.echo
  repeat' (first | with_reducible assumption | intro _ | (extract_lets +onlyGivenNames x; first | ((first | refine (fun hx => ?_ : Keeps s0 x → Keeps s0 _) ?_); (on_goal 1 => clear_value x); (on_goal 2 => subst x)) | (refine (fun hx => ?_ : Keeps s0 x → Keeps s0 _) ?_; (on_goal 2 => subst x)) | clear_value x | skip) | with_reducible apply Keeps.ite | with_reducible apply State.viaHop_keeps | split | (with_reducible refine Keeps.of ?_ rfl rfl rfl rfl rfl rfl; first | with_reducible assumption | with_reducible apply Keeps.ite | with_reducible apply State.viaHop_keeps | split))

theorem State.mgmtLink_keeps {s0 : State} (up : Bool) (speed : Nat) (s : State) (hK : Keeps s0 s) :
    Keeps s0 (State.mgmtLink up speed s) := by
  unfold State.mgmtLink
  repeat' (first | with_reducible assumption | intro _ | (extract_lets +onlyGivenNames x; first | ((first | refine (fun hx => ?_ : Keeps s0 x → Keeps s0 _) ?_); (on_goal 1 => clear_value x); (on_goal 2 => subst x)) | (refine (fun hx => ?_ : Keeps s0 x → Keeps s0 _) ?_; (on_goal 2 => subst x)) | clear_value x | skip) | with_reducible apply each_keeps | with_reducible apply Keeps.ite | with_reducible apply State.emit_keeps | split | (with_reducible refine Keeps.of ?_ rfl rfl rfl rfl rfl rfl; first | with_reducible assumption | with_reducible apply each_keeps | with_reducible apply Keeps.ite | with_reducible apply State.emit_keeps | split))

theorem State.nrRow_keeps {s0 : State} (c addr op idx el : Nat) (v : List Byte) (s : State) (hK : Keeps s0 s) :
    Keeps s0 (State.nrRow c addr op idx el v s) := by
  unfold State.nrRow
  repeat' (first | with_reducible assumption | intro _ | with_reducible apply Keeps.ite | with_reducible apply State.nrDrain_keeps | split | (with_reducible refine Keeps.of ?_ rfl rfl rfl rfl rfl rfl; first | with_reducible assumption | with_reducible apply Keeps.ite | with_reducible apply State.nrDrain_keeps | split))

end Sys2Proof.Machine
end

