-- ==== Sys2Proof/Laws/KeepsMailbox.lean ====
section
/-! SUPPORT. What the operations of Machine/Mailbox.lean keep. -/

set_option linter.all false

namespace Sys2Proof.Machine

open Sys2Proof

theorem State.issueDecision_keeps {s0 : State} (e : Nat) (mm : Bool) (i : Instr) (f : State → State) (s : State) (hf
    : ∀ z, Keeps s0 z → Keeps s0 (f z)) (hK : Keeps s0 s) :
    Keeps s0 (State.issueDecision e mm i f s) := by
  unfold State.issueDecision
  repeat' (first | with_reducible assumption | intro _ | with_reducible apply Keeps.ite | with_reducible apply State.mismatch_keeps | with_reducible apply State.setEsc_keeps | with_reducible apply_assumption | split | (with_reducible refine Keeps.of ?_ rfl rfl rfl rfl rfl rfl; first | with_reducible assumption | with_reducible apply Keeps.ite | with_reducible apply State.mismatch_keeps | with_reducible apply State.setEsc_keeps | with_reducible apply_assumption | split))

theorem State.escIssue_keeps {s0 : State} (e : Nat) (mm : Bool) (s : State) (hK : Keeps s0 s) :
    Keeps s0 (State.escIssue e mm s) := by
  unfold State.escIssue
  repeat' (first | with_reducible assumption | intro _ | (extract_lets +onlyGivenNames x; first | ((first | refine (fun hx => ?_ : Keeps s0 x → Keeps s0 _) ?_); (on_goal 1 => clear_value x); (on_goal 2 => subst x)) | (refine (fun hx => ?_ : Keeps s0 x → Keeps s0 _) ?_; (on_goal 2 => subst x)) | clear_value x | skip) | with_reducible apply Keeps.ite | with_reducible apply State.issueDecision_keeps | with_reducible apply State.row8_keeps | with_reducible apply State.issueTo_keeps | split)

theorem State.syncRelease_keeps {s0 : State} (e : Nat) (mm : Bool) (s : State) (hK : Keeps s0 s) :
    Keeps s0 (State.syncRelease e mm s) := by
  unfold State.syncRelease
  repeat' (first | with_reducible assumption | intro _ | (extract_lets +onlyGivenNames x; first | ((first | refine (fun hx => ?_ : Keeps s0 x → Keeps s0 _) ?_); (on_goal 1 => clear_value x); (on_goal 2 => subst x)) | (refine (fun hx => ?_ : Keeps s0 x → Keeps s0 _) ?_; (on_goal 2 => subst x)) | clear_value x | skip) | with_reducible apply Keeps.ite | with_reducible apply State.issueDecision_keeps | with_reducible apply State.row8_keeps | with_reducible apply State.syncCore_keeps | split)

theorem State.claimTimeout_keeps {s0 : State} (b t tag : Nat) (mm : Bool) (s : State) (hK : Keeps s0 s) :
    Keeps s0 (State.claimTimeout b t tag mm s) := by
  unfold State.claimTimeout
  repeat' (first | with_reducible assumption | intro _ | (extract_lets +onlyGivenNames x; first | ((first | refine (fun hx => ?_ : Keeps s0 x → Keeps s0 _) ?_); (on_goal 1 => clear_value x); (on_goal 2 => subst x)) | (refine (fun hx => ?_ : Keeps s0 x → Keeps s0 _) ?_; (on_goal 2 => subst x)) | clear_value x | skip) | with_reducible apply Keeps.ite | with_reducible apply State.row8_keeps | with_reducible apply State.mismatch_keeps | with_reducible apply State.timeoutCore_keeps | split)

theorem State.cplZeros_keeps {s0 : State} (fn n : Nat) (s : State) (hK : Keeps s0 s) :
    Keeps s0 (State.cplZeros fn n s) := by
  unfold State.cplZeros
  repeat' (first | with_reducible assumption | intro _ | with_reducible apply State.post_keeps | split)

theorem State.pageWrite_keeps {s0 : State} (fn page : Nat) (f : Nat → State → State) (s : State) (hf : ∀ a z, Keeps
    s0 z → Keeps s0 (f a z)) (hK : Keeps s0 s) :
    Keeps s0 (State.pageWrite fn page f s) := by
  unfold State.pageWrite
  repeat' (first | with_reducible assumption | intro _ | with_reducible apply Keeps.ite | with_reducible apply State.pageFault_keeps | with_reducible apply State.accessFault_keeps | with_reducible apply_assumption | split)

theorem State.pageClaim_keeps {s0 : State} (b fn page : Nat) (wide mm : Bool) (s : State) (hK : Keeps s0 s) :
    Keeps s0 (State.pageClaim b fn page wide mm s) := by
  unfold State.pageClaim
  repeat' (first | with_reducible assumption | intro _ | (extract_lets +onlyGivenNames x; first | ((first | refine (fun hx => ?_ : Keeps s0 x → Keeps s0 _) ?_ | refine (fun hx => ?_ : (∀ z, Keeps s0 z → Keeps s0 (x z)) → Keeps s0 _) ?_ | refine (fun hx => ?_ : (∀ a z, Keeps s0 z → Keeps s0 (x a z)) → Keeps s0 _) ?_ | refine (fun hx => ?_ : (∀ a z, Keeps s0 z → Keeps s0 (x a z).2) → Keeps s0 _) ?_ | refine (fun hx => ?_ : (∀ a c z, Keeps s0 z → Keeps s0 (x a c z)) → Keeps s0 _) ?_ | refine (fun hx => ?_ : (∀ a, Keeps s0 (x a)) → Keeps s0 _) ?_); (on_goal 1 => clear_value x); (on_goal 2 => subst x)) | (refine (fun hx => ?_ : Keeps s0 x → Keeps s0 _) ?_; (on_goal 2 => subst x)) | clear_value x | skip) | with_reducible apply Keeps.ite | with_reducible apply State.cplZeros_keeps | with_reducible apply State.row8_keeps | with_reducible apply State.claimDecision_keeps | with_reducible apply State.pageFault_keeps | with_reducible apply State.accessFault_keeps | with_reducible apply_assumption | split | (with_reducible refine Keeps.of ?_ rfl rfl rfl rfl rfl rfl; first | with_reducible assumption | with_reducible apply Keeps.ite | with_reducible apply State.cplZeros_keeps | with_reducible apply State.row8_keeps | with_reducible apply State.claimDecision_keeps | with_reducible apply State.pageFault_keeps | with_reducible apply State.accessFault_keeps | with_reducible apply_assumption | split) | dsimp -zeta only)

theorem State.tgtComplete_keeps {s0 : State} (b fn : Nat) (d : Dw) (t : Nat) (s : State) (hK : Keeps s0 s) :
    Keeps s0 (State.tgtComplete b fn d t s) := by
  unfold State.tgtComplete
  repeat' (first | with_reducible assumption | intro _ | (extract_lets +onlyGivenNames x; first | ((first | refine (fun hx => ?_ : Keeps s0 x → Keeps s0 _) ?_); (on_goal 1 => clear_value x); (on_goal 2 => subst x)) | (refine (fun hx => ?_ : Keeps s0 x → Keeps s0 _) ?_; (on_goal 2 => subst x)) | clear_value x | skip) | with_reducible apply Keeps.ite | with_reducible apply State.completeCore_keeps | split | (with_reducible refine Keeps.of ?_ rfl rfl rfl rfl rfl rfl; first | with_reducible assumption | with_reducible apply Keeps.ite | with_reducible apply State.completeCore_keeps | split))

theorem State.admitBelow_keeps {s0 : State} (t old new : Nat) (s : State) (hK : Keeps s0 s) :
    Keeps s0 (State.admitBelow t old new s) := by
  unfold State.admitBelow
  repeat' (first | with_reducible assumption | intro _ | (extract_lets +onlyGivenNames x; first | ((first | refine (fun hx => ?_ : Keeps s0 x → Keeps s0 _) ?_); (on_goal 1 => clear_value x); (on_goal 2 => subst x)) | (refine (fun hx => ?_ : Keeps s0 x → Keeps s0 _) ?_; (on_goal 2 => subst x)) | clear_value x | skip) | with_reducible apply each_keeps | with_reducible apply Keeps.ite | with_reducible apply State.setSrc_keeps | split | (with_reducible refine Keeps.of ?_ rfl rfl rfl rfl rfl rfl; first | with_reducible assumption | with_reducible apply each_keeps | with_reducible apply Keeps.ite | with_reducible apply State.setSrc_keeps | split))

theorem State.tgtThreshold_keeps {s0 : State} (b fn : Nat) (v : BitVec 8) (mm : Bool) (t : Nat) (s : State) (hK :
    Keeps s0 s) :
    Keeps s0 (State.tgtThreshold b fn v mm t s) := by
  unfold State.tgtThreshold
  repeat' (first | with_reducible assumption | intro _ | (extract_lets +onlyGivenNames x; first | ((first | refine (fun hx => ?_ : Keeps s0 x → Keeps s0 _) ?_); (on_goal 1 => clear_value x); (on_goal 2 => subst x)) | (refine (fun hx => ?_ : Keeps s0 x → Keeps s0 _) ?_; (on_goal 2 => subst x)) | clear_value x | skip) | with_reducible apply Keeps.ite | with_reducible apply State.admitBelow_keeps | with_reducible apply State.row8_keeps | with_reducible apply State.mismatch_keeps | with_reducible apply State.thresholdCore_keeps | with_reducible apply State.setTgt_keeps | split | (with_reducible refine Keeps.of ?_ rfl rfl rfl rfl rfl rfl; first | with_reducible assumption | with_reducible apply Keeps.ite | with_reducible apply State.admitBelow_keeps | with_reducible apply State.row8_keeps | with_reducible apply State.mismatch_keeps | with_reducible apply State.thresholdCore_keeps | with_reducible apply State.setTgt_keeps | split))

theorem State.tgtPair_keeps {s0 : State} (b fn : Nat) (d h : Dw) (t : Nat) (s : State) (hK : Keeps s0 s) :
    Keeps s0 (State.tgtPair b fn d h t s) := by
  unfold State.tgtPair
  repeat' (first | with_reducible assumption | intro _ | with_reducible apply State.tgtComplete_keeps | with_reducible apply State.freeCore_keeps | split)

end Sys2Proof.Machine
end

