-- ==== Sys2Proof/Laws/KeepsPcie.lean ====
section
/-! SUPPORT. What the operations of Machine/Pcie.lean keep. -/

set_option linter.all false

namespace Sys2Proof.Machine

open Sys2Proof

theorem State.arrayBits_keeps {s0 : State} (fn k : Nat) (mask : Dw) (f : Nat → State → State) (s : State) (hf : ∀ a
    z, Keeps s0 z → Keeps s0 (f a z)) (hK : Keeps s0 s) :
    Keeps s0 (State.arrayBits fn k mask f s) := by
  unfold State.arrayBits
  repeat' (first | with_reducible assumption | intro _ | with_reducible apply loop_keeps | with_reducible apply Keeps.ite | with_reducible apply_assumption | split)

theorem State.dialPendSet_keeps {s0 : State} (fn : Nat) (hi : Bool) (v : Dw) (s : State) (hK : Keeps s0 s) :
    Keeps s0 (State.dialPendSet fn hi v s) := by
  unfold State.dialPendSet
  repeat' (first | with_reducible assumption | intro _ | with_reducible apply State.setFn_keeps | split)

theorem State.dialPendClr_keeps {s0 : State} (fn : Nat) (hi : Bool) (v : Dw) (s : State) (hK : Keeps s0 s) :
    Keeps s0 (State.dialPendClr fn hi v s) := by
  unfold State.dialPendClr
  repeat' (first | with_reducible assumption | intro _ | with_reducible apply State.setFn_keeps | split)

theorem State.dialEnSet_keeps {s0 : State} (fn : Nat) (hi : Bool) (v : Dw) (s : State) (hK : Keeps s0 s) :
    Keeps s0 (State.dialEnSet fn hi v s) := by
  unfold State.dialEnSet
  repeat' (first | with_reducible assumption | intro _ | with_reducible apply State.setFn_keeps | split)

theorem State.dialEnClr_keeps {s0 : State} (fn : Nat) (hi : Bool) (v : Dw) (s : State) (hK : Keeps s0 s) :
    Keeps s0 (State.dialEnClr fn hi v s) := by
  unfold State.dialEnClr
  repeat' (first | with_reducible assumption | intro _ | with_reducible apply State.setFn_keeps | split | (with_reducible refine Keeps.of ?_ rfl rfl rfl rfl rfl rfl; first | with_reducible assumption | with_reducible apply State.setFn_keeps | split))

theorem State.offFault_keeps {s0 : State} (fn off : Nat) (s : State) (hK : Keeps s0 s) :
    Keeps s0 (State.offFault fn off s) := by
  unfold State.offFault
  repeat' (first | with_reducible assumption | intro _ | with_reducible apply State.pageFault_keeps | with_reducible apply State.accessFault_keeps | split)

theorem State.cfgWrite_keeps {s0 : State} (b fn off : Nat) (be : BitVec 4) (v : Dw) (s : State) (hK : Keeps s0 s) :
    Keeps s0 (State.cfgWrite b fn off be v s) := by
  unfold State.cfgWrite
  repeat' (first | with_reducible assumption | intro _ | (extract_lets +onlyGivenNames x; first | ((first | refine (fun hx => ?_ : Keeps s0 x → Keeps s0 _) ?_); (on_goal 1 => clear_value x); (on_goal 2 => subst x)) | (refine (fun hx => ?_ : Keeps s0 x → Keeps s0 _) ?_; (on_goal 2 => subst x)) | clear_value x | skip) | with_reducible apply Keeps.ite | with_reducible apply State.tgtThreshold_keeps | with_reducible apply State.pageWrite_keeps | with_reducible apply State.featAccept_keeps | with_reducible apply State.setFn_keeps | split | (with_reducible refine Keeps.of ?_ rfl rfl rfl rfl rfl rfl; first | with_reducible assumption | with_reducible apply Keeps.ite | with_reducible apply State.tgtThreshold_keeps | with_reducible apply State.pageWrite_keeps | with_reducible apply State.featAccept_keeps | with_reducible apply State.setFn_keeps | split))

theorem State.actWrite_keeps {s0 : State} (b fn off : Nat) (v : Dw) (s : State) (hK : Keeps s0 s) :
    Keeps s0 (State.actWrite b fn off v s) := by
  unfold State.actWrite
  repeat' (first | with_reducible assumption | intro _ | (extract_lets +onlyGivenNames x; first | ((first | refine (fun hx => ?_ : Keeps s0 x → Keeps s0 _) ?_); (on_goal 1 => clear_value x); (on_goal 2 => subst x)) | (refine (fun hx => ?_ : Keeps s0 x → Keeps s0 _) ?_; (on_goal 2 => subst x)) | clear_value x | skip) | with_reducible apply Keeps.ite | with_reducible apply State.dialEnClr_keeps | with_reducible apply State.dialEnSet_keeps | with_reducible apply State.dialPendClr_keeps | with_reducible apply State.dialPendSet_keeps | with_reducible apply State.arrayBits_keeps | with_reducible apply State.tgtComplete_keeps | with_reducible apply State.pageWrite_keeps | with_reducible apply State.pageWind_keeps | with_reducible apply State.dictCmd_keeps | with_reducible apply State.setEnable_keeps | with_reducible apply State.featOk_keeps | with_reducible apply State.freeCore_keeps | with_reducible apply State.clearPending_keeps | with_reducible apply State.setPending_keeps | split)

theorem State.cfgWrites_keeps {s0 : State} (b fn : Nat) (w : MemWrite) (s : State) (hK : Keeps s0 s) :
    Keeps s0 (State.cfgWrites b fn w s) := by
  unfold State.cfgWrites
  repeat' (first | with_reducible assumption | intro _ | with_reducible apply each_keeps | with_reducible apply State.cfgWrite_keeps | split)

theorem State.regWrite_keeps {s0 : State} (b fn : Nat) (w : MemWrite) (s : State) (hK : Keeps s0 s) :
    Keeps s0 (State.regWrite b fn w s) := by
  unfold State.regWrite
  repeat' (first | with_reducible assumption | intro _ | (extract_lets +onlyGivenNames x; first | ((first | refine (fun hx => ?_ : Keeps s0 x → Keeps s0 _) ?_); (on_goal 1 => clear_value x); (on_goal 2 => subst x)) | (refine (fun hx => ?_ : Keeps s0 x → Keeps s0 _) ?_; (on_goal 2 => subst x)) | clear_value x | skip) | with_reducible apply Keeps.ite | with_reducible apply State.cfgWrites_keeps | with_reducible apply State.actWrite_keeps | with_reducible apply State.offFault_keeps | with_reducible apply State.tgtPair_keeps | with_reducible apply State.pageWrite_keeps | with_reducible apply State.accessFault_keeps | split)

theorem State.doorbell_keeps {s0 : State} (fn : Nat) (w : MemWrite) (s : State) (hK : Keeps s0 s) :
    Keeps s0 (State.doorbell fn w s) := by
  unfold State.doorbell
  repeat' (first | with_reducible assumption | intro _ | (extract_lets +onlyGivenNames x; first | ((first | refine (fun hx => ?_ : Keeps s0 x → Keeps s0 _) ?_); (on_goal 1 => clear_value x); (on_goal 2 => subst x)) | (refine (fun hx => ?_ : Keeps s0 x → Keeps s0 _) ?_; (on_goal 2 => subst x)) | clear_value x | skip) | with_reducible apply Keeps.ite | with_reducible apply State.accessFault_keeps | with_reducible apply State.aerLog_keeps | split | (with_reducible refine Keeps.of ?_ rfl rfl rfl rfl rfl rfl; first | with_reducible assumption | with_reducible apply Keeps.ite | with_reducible apply State.accessFault_keeps | with_reducible apply State.aerLog_keeps | split))

theorem State.doorbellRd_keeps {s0 : State} (fn : Nat) (r : MemRead) (s : State) (hK : Keeps s0 s) :
    Keeps s0 (State.doorbellRd fn r s) := by
  unfold State.doorbellRd
  repeat' (first | with_reducible assumption | intro _ | (extract_lets +onlyGivenNames x; first | ((first | refine (fun hx => ?_ : Keeps s0 x → Keeps s0 _) ?_); (on_goal 1 => clear_value x); (on_goal 2 => subst x)) | (refine (fun hx => ?_ : Keeps s0 x → Keeps s0 _) ?_; (on_goal 2 => subst x)) | clear_value x | skip) | with_reducible apply Keeps.ite | with_reducible apply State.cplZeros_keeps | with_reducible apply State.accessFault_keeps | split)

theorem State.payloadRd_keeps {s0 : State} (fn : Nat) (r : MemRead) (s : State) (hK : Keeps s0 s) :
    Keeps s0 (State.payloadRd fn r s) := by
  unfold State.payloadRd
  repeat' (first | with_reducible assumption | intro _ | (extract_lets +onlyGivenNames x; first | ((first | refine (fun hx => ?_ : Keeps s0 x → Keeps s0 _) ?_); (on_goal 1 => clear_value x); (on_goal 2 => subst x)) | (refine (fun hx => ?_ : Keeps s0 x → Keeps s0 _) ?_; (on_goal 2 => subst x)) | clear_value x | skip) | with_reducible apply Keeps.ite | with_reducible apply State.cplZeros_keeps | with_reducible apply State.accessFault_keeps | with_reducible apply State.aerLog_keeps | with_reducible apply State.post_keeps | with_reducible apply State.bump_keeps | split)

theorem State.apertureRd_keeps {s0 : State} (fn : Nat) (r : MemRead) (s : State) (hK : Keeps s0 s) :
    Keeps s0 (State.apertureRd fn r s) := by
  unfold State.apertureRd
  repeat' (first | with_reducible assumption | intro _ | with_reducible apply Keeps.ite | with_reducible apply State.cplZeros_keeps | with_reducible apply State.post_keeps | split)

theorem State.regRd_keeps {s0 : State} (b fn : Nat) (r : MemRead) (s : State) (hK : Keeps s0 s) :
    Keeps s0 (State.regRd b fn r s) := by
  unfold State.regRd
  repeat' (first | with_reducible assumption | intro _ | with_reducible apply Keeps.ite | with_reducible apply State.offFault_keeps | with_reducible apply State.pageClaim_keeps | with_reducible apply State.cplZeros_keeps | with_reducible apply State.accessFault_keeps | with_reducible apply State.aerLog_keeps | with_reducible apply State.post_keeps | split)

theorem State.memWrite_keeps {s0 : State} (b fn : Nat) (w : MemWrite) (s : State) (hK : Keeps s0 s) :
    Keeps s0 (State.memWrite b fn w s) := by
  unfold State.memWrite
  repeat' (first | with_reducible assumption | intro _ | with_reducible apply Keeps.ite | with_reducible apply State.doorbell_keeps | with_reducible apply State.regWrite_keeps | with_reducible apply State.offFault_keeps | with_reducible apply State.accessFault_keeps | with_reducible apply State.aerLog_keeps | split)

theorem State.memRead_keeps {s0 : State} (b fn : Nat) (r : MemRead) (s : State) (hK : Keeps s0 s) :
    Keeps s0 (State.memRead b fn r s) := by
  unfold State.memRead
  repeat' (first | with_reducible assumption | intro _ | with_reducible apply State.regRd_keeps | with_reducible apply State.apertureRd_keeps | with_reducible apply State.payloadRd_keeps | with_reducible apply State.doorbellRd_keeps | with_reducible apply State.doorbell_keeps | with_reducible apply State.cplZeros_keeps | split)

theorem State.msixSend_keeps {s0 : State} (fn v : Nat) (s : State) (hK : Keeps s0 s) :
    Keeps s0 (State.msixSend fn v s) := by
  unfold State.msixSend
  repeat' (first | with_reducible assumption | intro _ | (extract_lets +onlyGivenNames x; first | ((first | refine (fun hx => ?_ : Keeps s0 x → Keeps s0 _) ?_); (on_goal 1 => clear_value x); (on_goal 2 => subst x)) | (refine (fun hx => ?_ : Keeps s0 x → Keeps s0 _) ?_; (on_goal 2 => subst x)) | clear_value x | skip) | with_reducible apply Keeps.ite | with_reducible apply State.post_keeps | with_reducible apply State.setFn_keeps | split | (with_reducible refine Keeps.of ?_ rfl rfl rfl rfl rfl rfl; first | with_reducible assumption | with_reducible apply Keeps.ite | with_reducible apply State.post_keeps | with_reducible apply State.setFn_keeps | split))

theorem memOp_keeps {i : Instr} {fn : Nat} {rd : Bool} {f : State → State} (e : memOp i = some (fn, rd, f)) {s0 :
    State}
    (z : State) (hz : Keeps s0 z) : Keeps s0 (f z) := by
  unfold memOp at e
  split at e <;> first | (cases e; done) | skip
  all_goals (simp only [Option.some.injEq, Prod.mk.injEq] at e; obtain ⟨-, -, rfl⟩ := e)
  case h_1 => exact State.arrayBits_keeps _ _ _ _ _ (fun a z h => State.setPending_keeps _ _ h) hz
  case h_2 => exact State.arrayBits_keeps _ _ _ _ _ (fun a z h => State.clearPending_keeps _ _ h) hz
  case h_3 => exact State.arrayBits_keeps _ _ _ _ _ (fun a z h => State.setEnable_keeps _ _ _ h) hz
  case h_4 => exact State.arrayBits_keeps _ _ _ _ _ (fun a z h => State.setEnable_keeps _ _ _ h) hz
  case h_8 => exact State.pageWrite_keeps _ _ _ _ (fun a z h => State.freeCore_keeps _ _ _ h) hz
  case h_9 => exact State.pageWrite_keeps _ _ _ _ (fun a z h => State.tgtPair_keeps _ _ _ _ _ _ h) hz
  case h_12 => exact State.pageWrite_keeps _ _ _ _ (fun a z h => State.tgtComplete_keeps _ _ _ _ _ h) hz
  case h_13 => exact State.pageWrite_keeps _ _ _ _ (fun a z h => State.tgtThreshold_keeps _ _ _ _ _ _ h) hz
  all_goals with_reducible first
    | exact State.doorbell_keeps _ _ _ hz | exact State.doorbellRd_keeps _ _ _ hz | exact State.memRead_keeps _ _ _ _ hz
    | exact State.pageClaim_keeps _ _ _ _ _ _ hz | exact State.featAccept_keeps _ _ _ _ _ hz | exact State.featOk_keeps _ _ hz
    | exact State.dictCmd_keeps _ _ _ _ _ hz | exact State.pageWind_keeps _ _ hz | exact State.dialPendSet_keeps _ _ _ _ hz
    | exact State.dialPendClr_keeps _ _ _ _ hz | exact State.dialEnSet_keeps _ _ _ _ hz | exact State.dialEnClr_keeps _ _ _ _ hz
    | exact State.memWrite_keeps _ _ _ _ hz | exact State.cplUr_keeps _ _ hz

theorem State.request_keeps {s0 : State} (i : Instr) (s : State) (hK : Keeps s0 s) : Keeps s0 (State.request i s) :=
    by
  unfold State.request
  split
  · rename_i e
    exact State.memReq_keeps _ _ _ _ _ (fun z h => memOp_keeps e z h) hK
  · exact hK

theorem State.wakeResume_keeps {s0 : State} (s : State) (hK : Keeps s0 s) :
    Keeps s0 (State.wakeResume s) := by
  unfold State.wakeResume
  repeat' (first | with_reducible assumption | intro _ | (extract_lets +onlyGivenNames x; first | ((first | refine (fun hx => ?_ : Keeps s0 x → Keeps s0 _) ?_); (on_goal 1 => clear_value x); (on_goal 2 => subst x)) | (refine (fun hx => ?_ : Keeps s0 x → Keeps s0 _) ?_; (on_goal 2 => subst x)) | clear_value x | skip) | with_reducible apply each_keeps | with_reducible apply Keeps.ite | with_reducible apply State.request_keeps | with_reducible apply State.resume_keeps | with_reducible apply State.upToReq_keeps | split | (with_reducible refine Keeps.of ?_ rfl rfl rfl rfl rfl rfl; first | with_reducible assumption | with_reducible apply each_keeps | with_reducible apply Keeps.ite | with_reducible apply State.request_keeps | with_reducible apply State.resume_keeps | with_reducible apply State.upToReq_keeps | split))

theorem State.cfgPut_keeps {s0 : State} (fn : Nat) (op : CfgOp) (s : State) (hK : Keeps s0 s) :
    Keeps s0 (State.cfgPut fn op s) := by
  unfold State.cfgPut
  repeat' (first | with_reducible assumption | intro _ | (extract_lets +onlyGivenNames x; first | ((first | refine (fun hx => ?_ : Keeps s0 x → Keeps s0 _) ?_); (on_goal 1 => clear_value x); (on_goal 2 => subst x)) | (refine (fun hx => ?_ : Keeps s0 x → Keeps s0 _) ?_; (on_goal 2 => subst x)) | clear_value x | skip) | with_reducible apply Keeps.ite | with_reducible apply State.setFn_keeps | split | (with_reducible refine Keeps.of ?_ rfl rfl rfl rfl rfl rfl; first | with_reducible assumption | with_reducible apply Keeps.ite | with_reducible apply State.setFn_keeps | split))

theorem State.cfgRequest_keeps {s0 : State} (fn : Nat) (op : CfgOp) (s : State) (hK : Keeps s0 s) :
    Keeps s0 (State.cfgRequest fn op s) := by
  unfold State.cfgRequest
  repeat' (first | with_reducible assumption | intro _ | (extract_lets +onlyGivenNames x; first | ((first | refine (fun hx => ?_ : Keeps s0 x → Keeps s0 _) ?_); (on_goal 1 => clear_value x); (on_goal 2 => subst x)) | (refine (fun hx => ?_ : Keeps s0 x → Keeps s0 _) ?_; (on_goal 2 => subst x)) | clear_value x | skip) | with_reducible apply Keeps.ite | with_reducible apply State.cfgPut_keeps | with_reducible apply State.linkUp_keeps | with_reducible apply State.post_keeps | split)

end Sys2Proof.Machine
end

