-- ==== Sys2Proof/Laws/KeepsStart.lean ====
section
/-! SUPPORT. What the operations of Machine/Start.lean keep. -/

set_option linter.all false

namespace Sys2Proof.Machine

open Sys2Proof

theorem State.countReset_keeps {s0 : State} (lvl : Level) (cause : Nat) (esc : Bool) (s : State) (hK : Keeps s0 s) :
    Keeps s0 (State.countReset lvl cause esc s).2 := by
  unfold State.countReset
  repeat' (first | with_reducible assumption | intro _ | (extract_lets +onlyGivenNames x; first | ((first | refine (fun hx => ?_ : Keeps s0 x → Keeps s0 _) ?_); (on_goal 1 => clear_value x); (on_goal 2 => subst x)) | (refine (fun hx => ?_ : Keeps s0 x → Keeps s0 _) ?_; (on_goal 2 => subst x)) | clear_value x | skip) | with_reducible apply State.bk_keeps | split | (with_reducible refine Keeps.of ?_ rfl rfl rfl rfl rfl rfl; first | with_reducible assumption | with_reducible apply State.bk_keeps | split))

theorem State.countReset_keeps' {s0 tK : State} (lvl : Level) (cause : Nat) (esc : Bool) (s : State) {xK : Dw} (eK : State.countReset lvl cause esc s = (xK, tK)) (hK : Keeps s0 s) :
    Keeps s0 tK := by
  have := State.countReset_keeps lvl cause esc s hK
  rw [eK] at this; exact this

theorem State.restore_keeps {s0 : State} (rank : Nat) (s : State) (hK : Keeps s0 s) :
    Keeps s0 (State.restore rank s) := by
  unfold State.restore
  repeat' (first | with_reducible assumption | intro _ | (extract_lets +onlyGivenNames x; first | ((first | refine (fun hx => ?_ : Keeps s0 x → Keeps s0 _) ?_ | refine (fun hx => ?_ : (∀ z, Keeps s0 z → Keeps s0 (x z)) → Keeps s0 _) ?_ | refine (fun hx => ?_ : (∀ a z, Keeps s0 z → Keeps s0 (x a z)) → Keeps s0 _) ?_ | refine (fun hx => ?_ : (∀ a z, Keeps s0 z → Keeps s0 (x a z).2) → Keeps s0 _) ?_ | refine (fun hx => ?_ : (∀ a c z, Keeps s0 z → Keeps s0 (x a c z)) → Keeps s0 _) ?_ | refine (fun hx => ?_ : (∀ a, Keeps s0 (x a)) → Keeps s0 _) ?_); (on_goal 1 => clear_value x); (on_goal 2 => subst x)) | (refine (fun hx => ?_ : Keeps s0 x → Keeps s0 _) ?_; (on_goal 2 => subst x)) | clear_value x | skip) | with_reducible apply_assumption | split | (with_reducible refine Keeps.of ?_ rfl rfl rfl rfl rfl rfl; first | with_reducible assumption | with_reducible apply_assumption | split) | (with_reducible refine Keeps.ofF ?_ rfl rfl (by first | exact id | exact fun _ => smWf_nil _ | exact smWf_filter _ _ | exact smWf_set _ | exact memFilter_wf _ _ | exact memSetAll_wf _ _ _) (by first | exact id | exact fun _ => smWf_nil _ | exact smWf_filter _ _ | exact smWf_set _ | exact memFilter_wf _ _ | exact memSetAll_wf _ _ _) (by first | exact id | exact fun _ => smWf_nil _ | exact smWf_filter _ _ | exact smWf_set _ | exact memFilter_wf _ _ | exact memSetAll_wf _ _ _) (by first | exact id | exact fun _ => smWf_nil _ | exact smWf_filter _ _ | exact smWf_set _ | exact memFilter_wf _ _ | exact memSetAll_wf _ _ _); first | with_reducible assumption | with_reducible apply_assumption | split) | dsimp -zeta only)

theorem State.dropWork_keeps {s0 : State} (s : State) (hK : Keeps s0 s) :
    Keeps s0 (State.dropWork s) := by
  unfold State.dropWork
  repeat' (first | with_reducible assumption | intro _ | split | (with_reducible refine Keeps.of ?_ rfl rfl rfl rfl rfl rfl; first | with_reducible assumption | split) | (with_reducible refine Keeps.ofF ?_ rfl rfl (by first | exact id | exact fun _ => smWf_nil _ | exact smWf_filter _ _ | exact smWf_set _ | exact memFilter_wf _ _ | exact memSetAll_wf _ _ _) (by first | exact id | exact fun _ => smWf_nil _ | exact smWf_filter _ _ | exact smWf_set _ | exact memFilter_wf _ _ | exact memSetAll_wf _ _ _) (by first | exact id | exact fun _ => smWf_nil _ | exact smWf_filter _ _ | exact smWf_set _ | exact memFilter_wf _ _ | exact memSetAll_wf _ _ _) (by first | exact id | exact fun _ => smWf_nil _ | exact smWf_filter _ _ | exact smWf_set _ | exact memFilter_wf _ _ | exact memSetAll_wf _ _ _); first | with_reducible assumption | split))

theorem State.resetPlane_keeps {s0 : State} (s : State) (hK : Keeps s0 s) :
    Keeps s0 (State.resetPlane s) := by
  unfold State.resetPlane
  repeat' (first | with_reducible assumption | intro _ | split | (with_reducible refine Keeps.of ?_ rfl rfl rfl rfl rfl rfl; first | with_reducible assumption | split))

theorem State.coldChrono_keeps {s0 : State} (body : List Byte) (s : State) (hK : Keeps s0 s) :
    Keeps s0 (State.coldChrono body s) := by
  unfold State.coldChrono
  repeat' (first | with_reducible assumption | intro _ | split | (with_reducible refine Keeps.of ?_ rfl rfl rfl rfl rfl rfl; first | with_reducible assumption | split))

theorem State.resetCold_keeps {s0 : State} (s : State) (hK : Keeps s0 s) :
    Keeps s0 (State.resetCold s) := by
  unfold State.resetCold
  repeat' (first | with_reducible assumption | intro _ | split | (with_reducible refine Keeps.of ?_ rfl rfl rfl rfl rfl rfl; first | with_reducible assumption | split))

theorem State.warmBuffers_keeps {s0 : State} (s : State) (hK : Keeps s0 s) :
    Keeps s0 (State.warmBuffers s) := by
  unfold State.warmBuffers
  repeat' (first | with_reducible assumption | intro _ | (extract_lets +onlyGivenNames x; first | ((first | refine (fun hx => ?_ : Keeps s0 x → Keeps s0 _) ?_); (on_goal 1 => clear_value x); (on_goal 2 => subst x)) | (refine (fun hx => ?_ : Keeps s0 x → Keeps s0 _) ?_; (on_goal 2 => subst x)) | clear_value x | skip) | with_reducible apply each_keeps | with_reducible apply State.returnBuf_keeps | split | (with_reducible refine Keeps.of ?_ rfl rfl rfl rfl rfl rfl; first | with_reducible assumption | with_reducible apply each_keeps | with_reducible apply State.returnBuf_keeps | split))

theorem State.coldReset_keeps {s0 : State} (lvl : Level) (cause : Nat) (esc : Bool) (s : State) (hK : Keeps s0 s) :
    Keeps s0 (State.coldReset lvl cause esc s) := by
  unfold State.coldReset
  repeat' (first | with_reducible assumption | intro _ | (extract_lets +onlyGivenNames x; first | ((first | refine (fun hx => ?_ : Keeps s0 x → Keeps s0 _) ?_); (on_goal 1 => clear_value x); (on_goal 2 => subst x)) | (refine (fun hx => ?_ : Keeps s0 x → Keeps s0 _) ?_; (on_goal 2 => subst x)) | clear_value x | skip) | with_reducible apply Keeps.ite | with_reducible apply State.resetCold_keeps | with_reducible apply State.coldChrono_keeps | with_reducible apply State.resetPlane_keeps | with_reducible apply State.dropWork_keeps | with_reducible apply State.restore_keeps | with_reducible apply State.countReset_keeps | (with_reducible apply State.countReset_keeps'; on_goal 1 => with_reducible assumption) | with_reducible apply State.phyBack_keeps | split | (with_reducible refine Keeps.of ?_ rfl rfl rfl rfl rfl rfl; first | with_reducible assumption | with_reducible apply Keeps.ite | with_reducible apply State.resetCold_keeps | with_reducible apply State.coldChrono_keeps | with_reducible apply State.resetPlane_keeps | with_reducible apply State.dropWork_keeps | with_reducible apply State.restore_keeps | with_reducible apply State.countReset_keeps | (with_reducible apply State.countReset_keeps'; on_goal 1 => with_reducible assumption) | with_reducible apply State.phyBack_keeps | split))

theorem State.warmReset_keeps {s0 : State} (cause : Nat) (esc : Bool) (s : State) (hK : Keeps s0 s) :
    Keeps s0 (State.warmReset cause esc s) := by
  unfold State.warmReset
  repeat' (first | with_reducible assumption | intro _ | (extract_lets +onlyGivenNames x; first | ((first | refine (fun hx => ?_ : Keeps s0 x → Keeps s0 _) ?_); (on_goal 1 => clear_value x); (on_goal 2 => subst x)) | (refine (fun hx => ?_ : Keeps s0 x → Keeps s0 _) ?_; (on_goal 2 => subst x)) | clear_value x | skip) | with_reducible apply State.warmBuffers_keeps | with_reducible apply State.resetPlane_keeps | with_reducible apply State.dropWork_keeps | with_reducible apply State.restore_keeps | with_reducible apply State.countReset_keeps | (with_reducible apply State.countReset_keeps'; on_goal 1 => with_reducible assumption) | with_reducible apply State.phyBack_keeps | split | (with_reducible refine Keeps.of ?_ rfl rfl rfl rfl rfl rfl; first | with_reducible assumption | with_reducible apply State.warmBuffers_keeps | with_reducible apply State.resetPlane_keeps | with_reducible apply State.dropWork_keeps | with_reducible apply State.restore_keeps | with_reducible apply State.countReset_keeps | (with_reducible apply State.countReset_keeps'; on_goal 1 => with_reducible assumption) | with_reducible apply State.phyBack_keeps | split) | (with_reducible refine Keeps.ofF ?_ rfl rfl (by first | exact id | exact fun _ => smWf_nil _ | exact smWf_filter _ _ | exact smWf_set _ | exact memFilter_wf _ _ | exact memSetAll_wf _ _ _) (by first | exact id | exact fun _ => smWf_nil _ | exact smWf_filter _ _ | exact smWf_set _ | exact memFilter_wf _ _ | exact memSetAll_wf _ _ _) (by first | exact id | exact fun _ => smWf_nil _ | exact smWf_filter _ _ | exact smWf_set _ | exact memFilter_wf _ _ | exact memSetAll_wf _ _ _) (by first | exact id | exact fun _ => smWf_nil _ | exact smWf_filter _ _ | exact smWf_set _ | exact memFilter_wf _ _ | exact memSetAll_wf _ _ _); first | with_reducible assumption | with_reducible apply State.warmBuffers_keeps | with_reducible apply State.resetPlane_keeps | with_reducible apply State.dropWork_keeps | with_reducible apply State.restore_keeps | with_reducible apply State.countReset_keeps | (with_reducible apply State.countReset_keeps'; on_goal 1 => with_reducible assumption) | with_reducible apply State.phyBack_keeps | split))

theorem State.endQuiet_keeps {s0 : State} (s : State) (hK : Keeps s0 s) :
    Keeps s0 (State.endQuiet s) := by
  unfold State.endQuiet
  repeat' (first | with_reducible assumption | intro _ | (extract_lets +onlyGivenNames x; first | ((first | refine (fun hx => ?_ : Keeps s0 x → Keeps s0 _) ?_); (on_goal 1 => clear_value x); (on_goal 2 => subst x)) | (refine (fun hx => ?_ : Keeps s0 x → Keeps s0 _) ?_; (on_goal 2 => subst x)) | clear_value x | skip) | with_reducible apply each_keeps | with_reducible apply Keeps.ite | with_reducible apply State.wakeResume_keeps | with_reducible apply State.phyBack_keeps | with_reducible apply State.engStart_keeps | split | (with_reducible refine Keeps.of ?_ rfl rfl rfl rfl rfl rfl; first | with_reducible assumption | with_reducible apply each_keeps | with_reducible apply Keeps.ite | with_reducible apply State.wakeResume_keeps | with_reducible apply State.phyBack_keeps | with_reducible apply State.engStart_keeps | split))

theorem State.coreReset_keeps {s0 : State} (cause : Nat) (esc : Bool) (s : State) (hK : Keeps s0 s) :
    Keeps s0 (State.coreReset cause esc s) := by
  have h (z : State) (hz : Keeps s0 z) :
      Keeps s0 (if z.bare then { z with start := { z.start with step := 9 } } else z) :=
    Keeps.ite (Keeps.of hz rfl rfl rfl rfl rfl rfl) hz
  have h1 := State.dropWork_keeps _ (State.restore_keeps 4 _ (State.endQuiet_keeps _ (State.countReset_keeps .l3 cause esc s hK)))
  exact h _ (State.chrPut_keeps _ _ _ _ (each_keeps _ _ _ (fun a z hz => State.escReturn_keeps a z hz)
    (State.regGo_keeps _ _ (Keeps.of (Keeps.of h1 rfl rfl rfl rfl rfl rfl) rfl rfl rfl rfl rfl rfl))))

theorem State.levelReset_keeps {s0 : State} (lvl : Level) (cause : Nat) (esc : Bool) (s : State) (hK : Keeps s0 s) :
    Keeps s0 (State.levelReset lvl cause esc s) := by
  unfold State.levelReset
  repeat' (first | with_reducible assumption | intro _ | (extract_lets +onlyGivenNames x; first | ((first | refine (fun hx => ?_ : Keeps s0 x → Keeps s0 _) ?_); (on_goal 1 => clear_value x); (on_goal 2 => subst x)) | (refine (fun hx => ?_ : Keeps s0 x → Keeps s0 _) ?_; (on_goal 2 => subst x)) | clear_value x | skip) | with_reducible apply Keeps.ite | with_reducible apply State.coreReset_keeps | with_reducible apply State.warmReset_keeps | with_reducible apply State.coldReset_keeps | with_reducible apply State.cutBoot_keeps | split)

theorem State.resetStart_keeps {s0 : State} (s : State) (hK : Keeps s0 s) :
    Keeps s0 (State.resetStart s) := by
  unfold State.resetStart
  repeat' (first | with_reducible assumption | intro _ | with_reducible apply Keeps.ite | with_reducible apply State.levelReset_keeps | split)

theorem State.powerOn_keeps {s0 : State} (held : Bool) (s : State) (hK : Keeps s0 s) :
    Keeps s0 (State.powerOn held s) := by
  unfold State.powerOn
  repeat' (first | with_reducible assumption | intro _ | (extract_lets +onlyGivenNames x; first | ((first | refine (fun hx => ?_ : Keeps s0 x → Keeps s0 _) ?_); (on_goal 1 => clear_value x); (on_goal 2 => subst x)) | (refine (fun hx => ?_ : Keeps s0 x → Keeps s0 _) ?_; (on_goal 2 => subst x)) | clear_value x | skip) | with_reducible apply Keeps.ite | with_reducible apply State.requestReset_keeps | split | (with_reducible refine Keeps.of ?_ rfl rfl rfl rfl rfl rfl; first | with_reducible assumption | with_reducible apply Keeps.ite | with_reducible apply State.requestReset_keeps | split))

theorem State.resetPin_keeps {s0 : State} (low : Nat) (s : State) (hK : Keeps s0 s) :
    Keeps s0 (State.resetPin low s) := by
  unfold State.resetPin
  repeat' (first | with_reducible assumption | intro _ | (extract_lets +onlyGivenNames x; first | ((first | refine (fun hx => ?_ : Keeps s0 x → Keeps s0 _) ?_); (on_goal 1 => clear_value x); (on_goal 2 => subst x)) | (refine (fun hx => ?_ : Keeps s0 x → Keeps s0 _) ?_; (on_goal 2 => subst x)) | clear_value x | skip) | with_reducible apply Keeps.ite | with_reducible apply State.requestReset_keeps | with_reducible apply State.draw_keeps | (with_reducible apply State.draw_keeps'; on_goal 1 => with_reducible assumption) | split | (with_reducible refine Keeps.of ?_ rfl rfl rfl rfl rfl rfl; first | with_reducible assumption | with_reducible apply Keeps.ite | with_reducible apply State.requestReset_keeps | with_reducible apply State.draw_keeps | (with_reducible apply State.draw_keeps'; on_goal 1 => with_reducible assumption) | split))

theorem State.pinRelease_keeps {s0 : State} (porst : Bool) (s : State) (hK : Keeps s0 s) :
    Keeps s0 (State.pinRelease porst s) := by
  unfold State.pinRelease
  repeat' (first | with_reducible assumption | intro _ | with_reducible apply Keeps.ite | split | (with_reducible refine Keeps.of ?_ rfl rfl rfl rfl rfl rfl; first | with_reducible assumption | with_reducible apply Keeps.ite | split))

theorem State.supplyOut_keeps {s0 : State} (s : State) (hK : Keeps s0 s) :
    Keeps s0 (State.supplyOut s) := by
  unfold State.supplyOut
  repeat' (first | with_reducible assumption | intro _ | split | (with_reducible refine Keeps.of ?_ rfl rfl rfl rfl rfl rfl; first | with_reducible assumption | split))

theorem State.vbakLoss_keeps {s0 : State} (s : State) (hK : Keeps s0 s) :
    Keeps s0 (State.vbakLoss s) := by
  unfold State.vbakLoss
  repeat' (first | with_reducible assumption | intro _ | split | (with_reducible refine Keeps.of ?_ rfl rfl rfl rfl rfl rfl; first | with_reducible assumption | split))

theorem State.vbakRestore_keeps {s0 : State} (s : State) (hK : Keeps s0 s) :
    Keeps s0 (State.vbakRestore s) := by
  unfold State.vbakRestore
  repeat' (first | with_reducible assumption | intro _ | with_reducible apply Keeps.ite | split | (with_reducible refine Keeps.of ?_ rfl rfl rfl rfl rfl rfl; first | with_reducible assumption | with_reducible apply Keeps.ite | split))

theorem State.stepDone_keeps {s0 : State} (k : Nat) (s : State) (hK : Keeps s0 s) :
    Keeps s0 (State.stepDone k s) := by
  unfold State.stepDone
  repeat' (first | with_reducible assumption | intro _ | (extract_lets +onlyGivenNames x; first | ((first | refine (fun hx => ?_ : Keeps s0 x → Keeps s0 _) ?_); (on_goal 1 => clear_value x); (on_goal 2 => subst x)) | (refine (fun hx => ?_ : Keeps s0 x → Keeps s0 _) ?_; (on_goal 2 => subst x)) | clear_value x | skip) | with_reducible apply Keeps.ite | with_reducible apply State.regGo_keeps | with_reducible apply State.bk_keeps | split | (with_reducible refine Keeps.of ?_ rfl rfl rfl rfl rfl rfl; first | with_reducible assumption | with_reducible apply Keeps.ite | with_reducible apply State.regGo_keeps | with_reducible apply State.bk_keeps | split))

theorem State.trims_keeps {s0 : State} (s : State) (hK : Keeps s0 s) :
    Keeps s0 (State.trims s) := by
  unfold State.trims
  repeat' (first | with_reducible assumption | intro _ | (extract_lets +onlyGivenNames x; first | ((first | refine (fun hx => ?_ : Keeps s0 x → Keeps s0 _) ?_); (on_goal 1 => clear_value x); (on_goal 2 => subst x)) | (refine (fun hx => ?_ : Keeps s0 x → Keeps s0 _) ?_; (on_goal 2 => subst x)) | clear_value x | skip) | with_reducible apply State.stepDone_keeps | with_reducible apply State.bk_keeps | split | (with_reducible refine Keeps.of ?_ rfl rfl rfl rfl rfl rfl; first | with_reducible assumption | with_reducible apply State.stepDone_keeps | with_reducible apply State.bk_keeps | split))

theorem State.supplyGood_keeps {s0 : State} (s : State) (hK : Keeps s0 s) :
    Keeps s0 (State.supplyGood s) := by
  unfold State.supplyGood
  repeat' (first | with_reducible assumption | intro _ | with_reducible apply Keeps.ite | with_reducible apply State.stepDone_keeps | split)

theorem State.becomeCold_keeps {s0 : State} (s : State) (hK : Keeps s0 s) :
    Keeps s0 (State.becomeCold s) := by
  unfold State.becomeCold
  repeat' (first | with_reducible assumption | intro _ | (extract_lets +onlyGivenNames x; first | ((first | refine (fun hx => ?_ : Keeps s0 x → Keeps s0 _) ?_); (on_goal 1 => clear_value x); (on_goal 2 => subst x)) | (refine (fun hx => ?_ : Keeps s0 x → Keeps s0 _) ?_; (on_goal 2 => subst x)) | clear_value x | skip) | with_reducible apply State.resetCold_keeps | with_reducible apply State.coldChrono_keeps | with_reducible apply State.restore_keeps | with_reducible apply State.bk_keeps | split | (with_reducible refine Keeps.of ?_ rfl rfl rfl rfl rfl rfl; first | with_reducible assumption | with_reducible apply State.resetCold_keeps | with_reducible apply State.coldChrono_keeps | with_reducible apply State.restore_keeps | with_reducible apply State.bk_keeps | split))

theorem State.pllLock_keeps {s0 : State} (straps : BitVec 5) (s : State) (hK : Keeps s0 s) :
    Keeps s0 (State.pllLock straps s) := by
  have hA (z : State) (hz : Keeps s0 z) :
      Keeps s0 (if z.start.level = .l2w then (if z.backup.strapsCold = straps then z else z.becomeCold) else z) :=
    Keeps.ite (Keeps.ite hz (State.becomeCold_keeps _ hz)) hz
  have hB (z : State) (f : Backup → Backup) (hz : Keeps s0 z) : Keeps s0 (if z.start.level = .l2w then z else z.bk f) :=
    Keeps.ite hz (State.bk_keeps _ _ hz)
  have hC (z : State) (f : Backup → Backup) (hz : Keeps s0 z) : Keeps s0 (if z.nextStep = 3 then z.bk f else z.trims) :=
    Keeps.ite (State.bk_keeps _ _ hz) (State.trims_keeps _ hz)
  unfold State.pllLock
  split
  · exact Keeps.of hK rfl rfl rfl rfl rfl rfl
  split
  · exact hC _ _ (State.stepDone_keeps _ _ (hB _ _ (hA _ (Keeps.of (State.bk_keeps _ _ (Keeps.of hK rfl rfl rfl rfl rfl rfl))
      rfl rfl rfl rfl rfl rfl))))
  · exact hK

theorem State.optionLoad_keeps {s0 : State} (s : State) (hK : Keeps s0 s) :
    Keeps s0 (State.optionLoad s) := by
  unfold State.optionLoad
  repeat' (first | with_reducible assumption | intro _ | (extract_lets +onlyGivenNames x; first | ((first | refine (fun hx => ?_ : Keeps s0 x → Keeps s0 _) ?_); (on_goal 1 => clear_value x); (on_goal 2 => subst x)) | (refine (fun hx => ?_ : Keeps s0 x → Keeps s0 _) ?_; (on_goal 2 => subst x)) | clear_value x | skip) | with_reducible apply Keeps.ite | with_reducible apply State.trims_keeps | with_reducible apply State.stepDone_keeps | with_reducible apply State.dial_keeps | with_reducible apply State.bk_keeps | with_reducible apply State.setO_keeps | split | (with_reducible refine Keeps.of ?_ rfl rfl rfl rfl rfl rfl; first | with_reducible assumption | with_reducible apply Keeps.ite | with_reducible apply State.trims_keeps | with_reducible apply State.stepDone_keeps | with_reducible apply State.dial_keeps | with_reducible apply State.bk_keeps | with_reducible apply State.setO_keeps | split))

theorem State.bankTaken_keeps {s0 : State} (s : State) (hK : Keeps s0 s) :
    Keeps s0 (State.bankTaken s) := by
  unfold State.bankTaken
  repeat' (first | with_reducible assumption | intro _ | with_reducible apply State.bk_keeps | split | (with_reducible refine Keeps.of ?_ rfl rfl rfl rfl rfl rfl; first | with_reducible assumption | with_reducible apply State.bk_keeps | split))

theorem State.enterMinimal_keeps {s0 : State} (s : State) (hK : Keeps s0 s) :
    Keeps s0 (State.enterMinimal s) := by
  unfold State.enterMinimal
  repeat' (first | with_reducible assumption | intro _ | (extract_lets +onlyGivenNames x; first | ((first | refine (fun hx => ?_ : Keeps s0 x → Keeps s0 _) ?_); (on_goal 1 => clear_value x); (on_goal 2 => subst x)) | (refine (fun hx => ?_ : Keeps s0 x → Keeps s0 _) ?_; (on_goal 2 => subst x)) | clear_value x | skip) | with_reducible apply Keeps.ite | with_reducible apply State.stepDone_keeps | with_reducible apply State.lanesDown_keeps | with_reducible apply State.regGo_keeps | with_reducible apply State.dial_keeps | with_reducible apply State.bk_keeps | split | (with_reducible refine Keeps.of ?_ rfl rfl rfl rfl rfl rfl; first | with_reducible assumption | with_reducible apply Keeps.ite | with_reducible apply State.stepDone_keeps | with_reducible apply State.lanesDown_keeps | with_reducible apply State.regGo_keeps | with_reducible apply State.dial_keeps | with_reducible apply State.bk_keeps | split))

theorem State.startFails_keeps {s0 : State} (s : State) (hK : Keeps s0 s) :
    Keeps s0 (State.startFails s) := by
  unfold State.startFails
  repeat' (first | with_reducible assumption | intro _ | (extract_lets +onlyGivenNames x; first | ((first | refine (fun hx => ?_ : Keeps s0 x → Keeps s0 _) ?_ | refine (fun hx => ?_ : (∀ z, Keeps s0 z → Keeps s0 (x z)) → Keeps s0 _) ?_ | refine (fun hx => ?_ : (∀ a z, Keeps s0 z → Keeps s0 (x a z)) → Keeps s0 _) ?_ | refine (fun hx => ?_ : (∀ a z, Keeps s0 z → Keeps s0 (x a z).2) → Keeps s0 _) ?_ | refine (fun hx => ?_ : (∀ a c z, Keeps s0 z → Keeps s0 (x a c z)) → Keeps s0 _) ?_ | refine (fun hx => ?_ : (∀ a, Keeps s0 (x a)) → Keeps s0 _) ?_); (on_goal 1 => clear_value x); (on_goal 2 => subst x)) | (refine (fun hx => ?_ : Keeps s0 x → Keeps s0 _) ?_; (on_goal 2 => subst x)) | clear_value x | skip) | with_reducible apply Keeps.ite | with_reducible apply State.enterMinimal_keeps | with_reducible apply State.bankTaken_keeps | with_reducible apply State.rollBack_keeps | with_reducible apply State.bk_keeps | with_reducible apply_assumption | split | (with_reducible refine Keeps.of ?_ rfl rfl rfl rfl rfl rfl; first | with_reducible assumption | with_reducible apply Keeps.ite | with_reducible apply State.enterMinimal_keeps | with_reducible apply State.bankTaken_keeps | with_reducible apply State.rollBack_keeps | with_reducible apply State.bk_keeps | with_reducible apply_assumption | split) | dsimp -zeta only)

theorem State.sramBist_keeps {s0 : State} (ok : Bool) (s : State) (hK : Keeps s0 s) :
    Keeps s0 (State.sramBist ok s) := by
  unfold State.sramBist
  repeat' (first | with_reducible assumption | intro _ | with_reducible apply Keeps.ite | with_reducible apply State.startFails_keeps | with_reducible apply State.stepDone_keeps | split)

theorem State.ddrTraining_keeps {s0 : State} (mib : Nat) (s : State) (hK : Keeps s0 s) :
    Keeps s0 (State.ddrTraining mib s) := by
  unfold State.ddrTraining
  repeat' (first | with_reducible assumption | intro _ | (extract_lets +onlyGivenNames x; first | ((first | refine (fun hx => ?_ : Keeps s0 x → Keeps s0 _) ?_); (on_goal 1 => clear_value x); (on_goal 2 => subst x)) | (refine (fun hx => ?_ : Keeps s0 x → Keeps s0 _) ?_; (on_goal 2 => subst x)) | clear_value x | skip) | with_reducible apply Keeps.ite | with_reducible apply State.stepDone_keeps | with_reducible apply State.ringAnew_keeps | with_reducible apply State.fault_keeps | with_reducible apply State.dial_keeps | split | (with_reducible refine Keeps.of ?_ rfl rfl rfl rfl rfl rfl; first | with_reducible assumption | with_reducible apply Keeps.ite | with_reducible apply State.stepDone_keeps | with_reducible apply State.ringAnew_keeps | with_reducible apply State.fault_keeps | with_reducible apply State.dial_keeps | split))

theorem State.tableInit_keeps {s0 : State} (s : State) (hK : Keeps s0 s) :
    Keeps s0 (State.tableInit s) := by
  unfold State.tableInit
  repeat' (first | with_reducible assumption | intro _ | with_reducible apply Keeps.ite | with_reducible apply State.stepDone_keeps | split | (with_reducible refine Keeps.of ?_ rfl rfl rfl rfl rfl rfl; first | with_reducible assumption | with_reducible apply Keeps.ite | with_reducible apply State.stepDone_keeps | split))

theorem State.tailStep_keeps {s0 : State} (s : State) (hK : Keeps s0 s) :
    Keeps s0 (State.tailStep s) := by
  unfold State.tailStep
  repeat' (first | with_reducible assumption | intro _ | with_reducible apply Keeps.ite | with_reducible apply State.stepDone_keeps | with_reducible apply State.tailRecover_keeps | split)

theorem State.bootFrom_keeps {s0 : State} (atStart flash : Bool) (s : State) (hK : Keeps s0 s) :
    Keeps s0 (State.bootFrom atStart flash s).2 := by
  unfold State.bootFrom
  repeat' (first | with_reducible assumption | intro _ | with_reducible apply Keeps.ite | with_reducible apply State.boot_keeps | (with_reducible apply State.boot_keeps'; on_goal 1 => with_reducible assumption) | split)

theorem State.bootFrom_keeps' {s0 tK : State} (atStart flash : Bool) (s : State) {xK : Boot} (eK : State.bootFrom atStart flash s = (xK, tK)) (hK : Keeps s0 s) :
    Keeps s0 tK := by
  have := State.bootFrom_keeps atStart flash s hK
  rw [eK] at this; exact this

theorem State.regBoot_keeps {s0 : State} (flash : Bool) (s : State) (hK : Keeps s0 s) :
    Keeps s0 (State.regBoot flash s) := by
  unfold State.regBoot
  repeat' (first | with_reducible assumption | intro _ | with_reducible apply Keeps.ite | with_reducible apply State.bootFrom_keeps | (with_reducible apply State.bootFrom_keeps'; on_goal 1 => with_reducible assumption) | with_reducible apply State.startFails_keeps | with_reducible apply State.bankTaken_keeps | with_reducible apply State.stepDone_keeps | with_reducible apply State.blkRequest_keeps | split | (with_reducible refine Keeps.of ?_ rfl rfl rfl rfl rfl rfl; first | with_reducible assumption | with_reducible apply Keeps.ite | with_reducible apply State.bootFrom_keeps | (with_reducible apply State.bootFrom_keeps'; on_goal 1 => with_reducible assumption) | with_reducible apply State.startFails_keeps | with_reducible apply State.bankTaken_keeps | with_reducible apply State.stepDone_keeps | with_reducible apply State.blkRequest_keeps | split))

theorem State.settingsWind_keeps {s0 : State} (dflt : Bool) (rs : List SetRec) (s : State) (hK : Keeps s0 s) :
    Keeps s0 (State.settingsWind dflt rs s) := by
  unfold State.settingsWind
  repeat' (first | with_reducible assumption | intro _ | (extract_lets +onlyGivenNames x; first | ((first | refine (fun hx => ?_ : Keeps s0 x → Keeps s0 _) ?_); (on_goal 1 => clear_value x); (on_goal 2 => subst x)) | (refine (fun hx => ?_ : Keeps s0 x → Keeps s0 _) ?_; (on_goal 2 => subst x)) | clear_value x | skip) | with_reducible apply Keeps.ite | with_reducible apply State.windCount_keeps | with_reducible apply State.windRefused_keeps | with_reducible apply State.windApply_keeps | split)

theorem State.settingsProgs_keeps {s0 : State} (rs : List SetRec) (s : State) (hK : Keeps s0 s) :
    Keeps s0 (State.settingsProgs rs s) := by
  unfold State.settingsProgs
  repeat' (first | with_reducible assumption | intro _ | (extract_lets +onlyGivenNames x; first | ((first | refine (fun hx => ?_ : Keeps s0 x → Keeps s0 _) ?_); (on_goal 1 => clear_value x); (on_goal 2 => subst x)) | (refine (fun hx => ?_ : Keeps s0 x → Keeps s0 _) ?_; (on_goal 2 => subst x)) | clear_value x | skip) | with_reducible apply loop_keeps | with_reducible apply each_keeps | with_reducible apply State.setProg_keeps | with_reducible apply State.setEng_keeps | split | (with_reducible refine Keeps.of ?_ rfl rfl rfl rfl rfl rfl; first | with_reducible assumption | with_reducible apply loop_keeps | with_reducible apply each_keeps | with_reducible apply State.setProg_keeps | with_reducible apply State.setEng_keeps | split) | (with_reducible refine Keeps.ofF ?_ rfl rfl (by first | exact id | exact fun _ => smWf_nil _ | exact smWf_filter _ _ | exact smWf_set _ | exact memFilter_wf _ _ | exact memSetAll_wf _ _ _) (by first | exact id | exact fun _ => smWf_nil _ | exact smWf_filter _ _ | exact smWf_set _ | exact memFilter_wf _ _ | exact memSetAll_wf _ _ _) (by first | exact id | exact fun _ => smWf_nil _ | exact smWf_filter _ _ | exact smWf_set _ | exact memFilter_wf _ _ | exact memSetAll_wf _ _ _) (by first | exact id | exact fun _ => smWf_nil _ | exact smWf_filter _ _ | exact smWf_set _ | exact memFilter_wf _ _ | exact memSetAll_wf _ _ _); first | with_reducible assumption | with_reducible apply loop_keeps | with_reducible apply each_keeps | with_reducible apply State.setProg_keeps | with_reducible apply State.setEng_keeps | split))

theorem State.senseOn_keeps {s0 : State} (s : State) (hK : Keeps s0 s) :
    Keeps s0 (State.senseOn s) := by
  unfold State.senseOn
  repeat' (first | with_reducible assumption | intro _ | (extract_lets +onlyGivenNames x; first | ((first | refine (fun hx => ?_ : Keeps s0 x → Keeps s0 _) ?_); (on_goal 1 => clear_value x); (on_goal 2 => subst x)) | (refine (fun hx => ?_ : Keeps s0 x → Keeps s0 _) ?_; (on_goal 2 => subst x)) | clear_value x | skip) | split | (with_reducible refine Keeps.of ?_ rfl rfl rfl rfl rfl rfl; first | with_reducible assumption | split))

theorem State.startRecord_keeps {s0 : State} (s : State) (hK : Keeps s0 s) :
    Keeps s0 (State.startRecord s) := by
  unfold State.startRecord
  repeat' (first | with_reducible assumption | intro _ | (extract_lets +onlyGivenNames x; first | ((first | refine (fun hx => ?_ : Keeps s0 x → Keeps s0 _) ?_); (on_goal 1 => clear_value x); (on_goal 2 => subst x)) | (refine (fun hx => ?_ : Keeps s0 x → Keeps s0 _) ?_; (on_goal 2 => subst x)) | clear_value x | skip) | with_reducible apply Keeps.ite | with_reducible apply State.chrPut_keeps | split)

theorem State.crownRequest_keeps {s0 : State} (s : State) (hK : Keeps s0 s) :
    Keeps s0 (State.crownRequest s) := by
  unfold State.crownRequest
  repeat' (first | with_reducible assumption | intro _ | with_reducible apply Keeps.ite | with_reducible apply State.requestReset_keeps | split)

theorem State.settingsLoad_keeps {s0 : State} (s : State) (hK : Keeps s0 s) :
    Keeps s0 (State.settingsLoad s) := by
  unfold State.settingsLoad
  repeat' (first | with_reducible assumption | intro _ | (extract_lets +onlyGivenNames x; first | ((first | refine (fun hx => ?_ : Keeps s0 x → Keeps s0 _) ?_); (on_goal 1 => clear_value x); (on_goal 2 => subst x)) | (refine (fun hx => ?_ : Keeps s0 x → Keeps s0 _) ?_; (on_goal 2 => subst x)) | clear_value x | skip) | with_reducible apply Keeps.ite | with_reducible apply State.crownRequest_keeps | with_reducible apply State.startRecord_keeps | with_reducible apply State.senseOn_keeps | with_reducible apply State.settingsProgs_keeps | with_reducible apply State.settingsWind_keeps | with_reducible apply State.stepDone_keeps | with_reducible apply State.portStart_keeps | with_reducible apply State.newSession_keeps | with_reducible apply State.dial_keeps | with_reducible apply State.bk_keeps | split | (with_reducible refine Keeps.of ?_ rfl rfl rfl rfl rfl rfl; first | with_reducible assumption | with_reducible apply Keeps.ite | with_reducible apply State.crownRequest_keeps | with_reducible apply State.startRecord_keeps | with_reducible apply State.senseOn_keeps | with_reducible apply State.settingsProgs_keeps | with_reducible apply State.settingsWind_keeps | with_reducible apply State.stepDone_keeps | with_reducible apply State.portStart_keeps | with_reducible apply State.newSession_keeps | with_reducible apply State.dial_keeps | with_reducible apply State.bk_keeps | split))

theorem State.ready_keeps {s0 : State} (s : State) (hK : Keeps s0 s) :
    Keeps s0 (State.ready s) := by
  unfold State.ready
  repeat' (first | with_reducible assumption | intro _ | (extract_lets +onlyGivenNames x; first | ((first | refine (fun hx => ?_ : Keeps s0 x → Keeps s0 _) ?_); (on_goal 1 => clear_value x); (on_goal 2 => subst x)) | (refine (fun hx => ?_ : Keeps s0 x → Keeps s0 _) ?_; (on_goal 2 => subst x)) | clear_value x | skip) | with_reducible apply loop_keeps | with_reducible apply Keeps.ite | with_reducible apply State.crownRequest_keeps | with_reducible apply State.startRecord_keeps | with_reducible apply State.stepDone_keeps | with_reducible apply State.migrate_keeps | with_reducible apply State.autorun_keeps | with_reducible apply State.dial_keeps | with_reducible apply State.bk_keeps | split | (with_reducible refine Keeps.of ?_ rfl rfl rfl rfl rfl rfl; first | with_reducible assumption | with_reducible apply loop_keeps | with_reducible apply Keeps.ite | with_reducible apply State.crownRequest_keeps | with_reducible apply State.startRecord_keeps | with_reducible apply State.stepDone_keeps | with_reducible apply State.migrate_keeps | with_reducible apply State.autorun_keeps | with_reducible apply State.dial_keeps | with_reducible apply State.bk_keeps | split))

theorem State.startTimeout_keeps {s0 : State} (s : State) (hK : Keeps s0 s) :
    Keeps s0 (State.startTimeout s) := by
  unfold State.startTimeout
  repeat' (first | with_reducible assumption | intro _ | with_reducible apply Keeps.ite | with_reducible apply State.startFails_keeps | split)

theorem State.failedReset_keeps {s0 : State} (s : State) (hK : Keeps s0 s) :
    Keeps s0 (State.failedReset s) := by
  unfold State.failedReset
  repeat' (first | with_reducible assumption | intro _ | with_reducible apply Keeps.ite | split | (with_reducible refine Keeps.of ?_ rfl rfl rfl rfl rfl rfl; first | with_reducible assumption | with_reducible apply Keeps.ite | split))

end Sys2Proof.Machine
end

