-- ==== Sys2Proof/Laws/KeepsCrown.lean ====
section
/-! SUPPORT. What the operations of Machine/Crown.lean keep. -/

set_option linter.all false

namespace Sys2Proof.Machine

open Sys2Proof

theorem State.crownAct_keeps {s0 : State} (op : Nat) (f : CrownFrame) (s : State) (hK : Keeps s0 s) :
    Keeps s0 (State.crownAct op f s) := by
  unfold State.crownAct
  repeat' (first | with_reducible assumption | intro _ | with_reducible apply State.crownRequest_keeps | with_reducible apply State.bk_keeps | split | (with_reducible refine Keeps.of ?_ rfl rfl rfl rfl rfl rfl; first | with_reducible assumption | with_reducible apply State.crownRequest_keeps | with_reducible apply State.bk_keeps | split))

theorem State.crownEnd_keeps {s0 : State} (res : Nat) (addr : Byte) (reading : Option Nat) (unlock : Nat) (s : State)
    (hK : Keeps s0 s) :
    Keeps s0 (State.crownEnd res addr reading unlock s) := by
  unfold State.crownEnd
  repeat' (first | with_reducible assumption | intro _ | (extract_lets +onlyGivenNames x; first | ((first | refine (fun hx => ?_ : Keeps s0 x → Keeps s0 _) ?_); (on_goal 1 => clear_value x); (on_goal 2 => subst x)) | (refine (fun hx => ?_ : Keeps s0 x → Keeps s0 _) ?_; (on_goal 2 => subst x)) | clear_value x | skip) | with_reducible apply Keeps.ite | with_reducible apply State.bk_keeps | split | (with_reducible refine Keeps.of ?_ rfl rfl rfl rfl rfl rfl; first | with_reducible assumption | with_reducible apply Keeps.ite | with_reducible apply State.bk_keeps | split))

theorem State.crownBegin_keeps {s0 : State} (n : Nat) (s : State) (hK : Keeps s0 s) :
    Keeps s0 (State.crownBegin n s) := by
  unfold State.crownBegin
  repeat' (first | with_reducible assumption | intro _ | (extract_lets +onlyGivenNames x; first | ((first | refine (fun hx => ?_ : Keeps s0 x → Keeps s0 _) ?_); (on_goal 1 => clear_value x); (on_goal 2 => subst x)) | (refine (fun hx => ?_ : Keeps s0 x → Keeps s0 _) ?_; (on_goal 2 => subst x)) | clear_value x | skip) | with_reducible apply State.emit_keeps | split | (with_reducible refine Keeps.of ?_ rfl rfl rfl rfl rfl rfl; first | with_reducible assumption | with_reducible apply State.emit_keeps | split))

theorem State.crownFrame_keeps {s0 : State} (op : Nat) (f : CrownFrame) (s : State) (hK : Keeps s0 s) :
    Keeps s0 (State.crownFrame op f s) := by
  unfold State.crownFrame
  repeat' (first | with_reducible assumption | intro _ | (extract_lets +onlyGivenNames x; first | ((first | refine (fun hx => ?_ : Keeps s0 x → Keeps s0 _) ?_); (on_goal 1 => clear_value x); (on_goal 2 => subst x)) | (refine (fun hx => ?_ : Keeps s0 x → Keeps s0 _) ?_; (on_goal 2 => subst x)) | clear_value x | skip) | with_reducible apply Keeps.ite | with_reducible apply State.crownBegin_keeps | with_reducible apply State.crownEnd_keeps | with_reducible apply State.crownAct_keeps | split)

theorem State.crownShort_keeps {s0 : State} (edges : Nat) (bits : BitVec 40) (s : State) (hK : Keeps s0 s) :
    Keeps s0 (State.crownShort edges bits s) := by
  unfold State.crownShort
  repeat' (first | with_reducible assumption | intro _ | (extract_lets +onlyGivenNames x; first | ((first | refine (fun hx => ?_ : Keeps s0 x → Keeps s0 _) ?_); (on_goal 1 => clear_value x); (on_goal 2 => subst x)) | (refine (fun hx => ?_ : Keeps s0 x → Keeps s0 _) ?_; (on_goal 2 => subst x)) | clear_value x | skip) | with_reducible apply Keeps.ite | with_reducible apply State.crownBegin_keeps | with_reducible apply State.crownEnd_keeps | with_reducible apply State.draw_keeps | (with_reducible apply State.draw_keeps'; on_goal 1 => with_reducible assumption) | split)

theorem State.scanDr_keeps {s0 : State} (s : State) (hK : Keeps s0 s) :
    Keeps s0 (State.scanDr s) := by
  unfold State.scanDr
  repeat' (first | with_reducible assumption | intro _ | with_reducible apply State.emit_keeps | split)

theorem State.jtagIr_keeps {s0 : State} (code : Byte) (s : State) (hK : Keeps s0 s) :
    Keeps s0 (State.jtagIr code s) := by
  unfold State.jtagIr
  repeat' (first | with_reducible assumption | intro _ | with_reducible apply State.emit_keeps | split | (with_reducible refine Keeps.of ?_ rfl rfl rfl rfl rfl rfl; first | with_reducible assumption | with_reducible apply State.emit_keeps | split))

theorem State.jtagScan_keeps {s0 : State} (code : Byte) (s : State) (hK : Keeps s0 s) :
    Keeps s0 (State.jtagScan code s) := by
  unfold State.jtagScan
  repeat' (first | with_reducible assumption | intro _ | with_reducible apply State.jtagIr_keeps | with_reducible apply State.scanDr_keeps | split)

theorem State.jtagReset_keeps {s0 : State} (s : State) (hK : Keeps s0 s) :
    Keeps s0 (State.jtagReset s) := by
  unfold State.jtagReset
  repeat' (first | with_reducible assumption | intro _ | with_reducible apply State.jtagIr_keeps | with_reducible apply State.scanDr_keeps | with_reducible apply State.requestReset_keeps | split)

theorem State.spiCommand_keeps {s0 : State} (bytes : List Byte) (s : State) (hK : Keeps s0 s) :
    Keeps s0 (State.spiCommand bytes s) := by
  unfold State.spiCommand
  repeat' (first | with_reducible assumption | intro _ | (extract_lets +onlyGivenNames x; first | ((first | refine (fun hx => ?_ : Keeps s0 x → Keeps s0 _) ?_ | refine (fun hx => ?_ : (∀ z, Keeps s0 z → Keeps s0 (x z)) → Keeps s0 _) ?_ | refine (fun hx => ?_ : (∀ a z, Keeps s0 z → Keeps s0 (x a z)) → Keeps s0 _) ?_ | refine (fun hx => ?_ : (∀ a z, Keeps s0 z → Keeps s0 (x a z).2) → Keeps s0 _) ?_ | refine (fun hx => ?_ : (∀ a c z, Keeps s0 z → Keeps s0 (x a c z)) → Keeps s0 _) ?_ | refine (fun hx => ?_ : (∀ a, Keeps s0 (x a)) → Keeps s0 _) ?_); (on_goal 1 => clear_value x); (on_goal 2 => subst x)) | (refine (fun hx => ?_ : Keeps s0 x → Keeps s0 _) ?_; (on_goal 2 => subst x)) | clear_value x | skip) | with_reducible apply each_keeps | with_reducible apply Keeps.ite | with_reducible apply State.flashProgram_keeps | with_reducible apply State.flashErase_keeps | with_reducible apply_assumption | split | (with_reducible refine Keeps.of ?_ rfl rfl rfl rfl rfl rfl; first | with_reducible assumption | with_reducible apply each_keeps | with_reducible apply Keeps.ite | with_reducible apply State.flashProgram_keeps | with_reducible apply State.flashErase_keeps | with_reducible apply_assumption | split) | dsimp -zeta only)

theorem State.flashSpi_keeps {s0 : State} (xfer : BitVec 16) (miso : Byte) (s : State) (hK : Keeps s0 s) :
    Keeps s0 (State.flashSpi xfer miso s) := by
  unfold State.flashSpi
  repeat' (first | with_reducible assumption | intro _ | (extract_lets +onlyGivenNames x; first | ((first | refine (fun hx => ?_ : Keeps s0 x → Keeps s0 _) ?_); (on_goal 1 => clear_value x); (on_goal 2 => subst x)) | (refine (fun hx => ?_ : Keeps s0 x → Keeps s0 _) ?_; (on_goal 2 => subst x)) | clear_value x | skip) | with_reducible apply Keeps.ite | with_reducible apply State.spiCommand_keeps | with_reducible apply State.jtagScan_keeps | with_reducible apply State.emit_keeps | split | (with_reducible refine Keeps.of ?_ rfl rfl rfl rfl rfl rfl; first | with_reducible assumption | with_reducible apply Keeps.ite | with_reducible apply State.spiCommand_keeps | with_reducible apply State.jtagScan_keeps | with_reducible apply State.emit_keeps | split))

end Sys2Proof.Machine
end

