-- ==== Sys2Proof/Laws/KeepsHealth.lean ====
section
/-! SUPPORT. What the operations of Machine/Health.lean keep. -/

set_option linter.all false

namespace Sys2Proof.Machine

open Sys2Proof

theorem State.sourceUe_keeps {s0 : State} (n : Nat) (s : State) (hK : Keeps s0 s) :
    Keeps s0 (State.sourceUe n s) := by
  unfold State.sourceUe
  repeat' (first | with_reducible assumption | intro _ | (extract_lets +onlyGivenNames x; first | ((first | refine (fun hx => ?_ : Keeps s0 x → Keeps s0 _) ?_ | refine (fun hx => ?_ : (∀ z, Keeps s0 z → Keeps s0 (x z)) → Keeps s0 _) ?_ | refine (fun hx => ?_ : (∀ a z, Keeps s0 z → Keeps s0 (x a z)) → Keeps s0 _) ?_ | refine (fun hx => ?_ : (∀ a z, Keeps s0 z → Keeps s0 (x a z).2) → Keeps s0 _) ?_ | refine (fun hx => ?_ : (∀ a c z, Keeps s0 z → Keeps s0 (x a c z)) → Keeps s0 _) ?_ | refine (fun hx => ?_ : (∀ a, Keeps s0 (x a)) → Keeps s0 _) ?_); (on_goal 1 => clear_value x); (on_goal 2 => subst x)) | (refine (fun hx => ?_ : Keeps s0 x → Keeps s0 _) ?_; (on_goal 2 => subst x)) | clear_value x | skip) | with_reducible apply each_keeps | with_reducible apply Keeps.ite | with_reducible apply State.isolate_keeps | with_reducible apply State.chrQuar_keeps | with_reducible apply State.note_keeps | with_reducible apply State.checkBuf_keeps | with_reducible apply State.discardBuf_keeps | with_reducible apply State.setSrc_keeps | with_reducible apply_assumption | split | (with_reducible refine Keeps.of ?_ rfl rfl rfl rfl rfl rfl; first | with_reducible assumption | with_reducible apply each_keeps | with_reducible apply Keeps.ite | with_reducible apply State.isolate_keeps | with_reducible apply State.chrQuar_keeps | with_reducible apply State.note_keeps | with_reducible apply State.checkBuf_keeps | with_reducible apply State.discardBuf_keeps | with_reducible apply State.setSrc_keeps | with_reducible apply_assumption | split) | dsimp -zeta only)

theorem State.slotUe_keeps {s0 : State} (e k : Nat) (s : State) (hK : Keeps s0 s) :
    Keeps s0 (State.slotUe e k s) := by
  unfold State.slotUe
  repeat' (first | with_reducible assumption | intro _ | with_reducible apply each_keeps | with_reducible apply State.isolate_keeps | split)

theorem State.payloadUe_keeps {s0 : State} (i : Nat) (s : State) (hK : Keeps s0 s) :
    Keeps s0 (State.payloadUe i s) := by
  unfold State.payloadUe
  repeat' (first | with_reducible assumption | intro _ | (extract_lets +onlyGivenNames x; first | ((first | refine (fun hx => ?_ : Keeps s0 x → Keeps s0 _) ?_); (on_goal 1 => clear_value x); (on_goal 2 => subst x)) | (refine (fun hx => ?_ : Keeps s0 x → Keeps s0 _) ?_; (on_goal 2 => subst x)) | clear_value x | skip) | with_reducible apply Keeps.ite | with_reducible apply State.setBuf_keeps | split | (with_reducible refine Keeps.of ?_ rfl rfl rfl rfl rfl rfl; first | with_reducible assumption | with_reducible apply Keeps.ite | with_reducible apply State.setBuf_keeps | split))

theorem State.draftUe_keeps {s0 : State} (scope : Nat) (s : State) (hK : Keeps s0 s) :
    Keeps s0 (State.draftUe scope s) := by
  unfold State.draftUe
  repeat' (first | with_reducible assumption | intro _ | (extract_lets +onlyGivenNames x; first | ((first | refine (fun hx => ?_ : Keeps s0 x → Keeps s0 _) ?_); (on_goal 1 => clear_value x); (on_goal 2 => subst x)) | (refine (fun hx => ?_ : Keeps s0 x → Keeps s0 _) ?_; (on_goal 2 => subst x)) | clear_value x | skip) | with_reducible apply Keeps.ite | with_reducible apply State.windRefused_keeps | with_reducible apply State.dropDrafts_keeps | split | (with_reducible refine Keeps.of ?_ rfl rfl rfl rfl rfl rfl; first | with_reducible assumption | with_reducible apply Keeps.ite | with_reducible apply State.windRefused_keeps | with_reducible apply State.dropDrafts_keeps | split))

theorem State.mirrorUe_keeps {s0 : State} (k : Nat) (s : State) (hK : Keeps s0 s) :
    Keeps s0 (State.mirrorUe k s) := by
  unfold State.mirrorUe
  repeat' (first | with_reducible assumption | intro _ | split | (with_reducible refine Keeps.of ?_ rfl rfl rfl rfl rfl rfl; first | with_reducible assumption | split))

theorem State.queueUe_keeps {s0 : State} (k : Nat) (s : State) (hK : Keeps s0 s) :
    Keeps s0 (State.queueUe k s) := by
  unfold State.queueUe
  repeat' (first | with_reducible assumption | intro _ | (extract_lets +onlyGivenNames x; first | ((first | refine (fun hx => ?_ : Keeps s0 x → Keeps s0 _) ?_); (on_goal 1 => clear_value x); (on_goal 2 => subst x)) | (refine (fun hx => ?_ : Keeps s0 x → Keeps s0 _) ?_; (on_goal 2 => subst x)) | clear_value x | skip) | with_reducible apply Keeps.ite | with_reducible apply State.dial_keeps | with_reducible apply State.bump_keeps | split | (with_reducible refine Keeps.of ?_ rfl rfl rfl rfl rfl rfl; first | with_reducible assumption | with_reducible apply Keeps.ite | with_reducible apply State.dial_keeps | with_reducible apply State.bump_keeps | split))

theorem State.configUe_keeps {s0 : State} (a k : Nat) (s : State) (hK : Keeps s0 s) :
    Keeps s0 (State.configUe a k s) := by
  unfold State.configUe
  repeat' (first | with_reducible assumption | intro _ | (extract_lets +onlyGivenNames x; first | ((first | refine (fun hx => ?_ : Keeps s0 x → Keeps s0 _) ?_); (on_goal 1 => clear_value x); (on_goal 2 => subst x)) | (refine (fun hx => ?_ : Keeps s0 x → Keeps s0 _) ?_; (on_goal 2 => subst x)) | clear_value x | skip) | with_reducible apply each_keeps | with_reducible apply Keeps.ite | with_reducible apply State.setEnable_keeps | with_reducible apply State.windApply_keeps | with_reducible apply State.revoke_keeps | with_reducible apply State.withdrawEnd_keeps | with_reducible apply State.leaveTarget_keeps | with_reducible apply State.setO_keeps | split)

theorem State.uncorrectable_keeps {s0 : State} (array a k : Nat) (s : State) (hK : Keeps s0 s) :
    Keeps s0 (State.uncorrectable array a k s) := by
  unfold State.uncorrectable
  repeat' (first | with_reducible assumption | intro _ | (extract_lets +onlyGivenNames x; first | ((first | refine (fun hx => ?_ : Keeps s0 x → Keeps s0 _) ?_); (on_goal 1 => clear_value x); (on_goal 2 => subst x)) | (refine (fun hx => ?_ : Keeps s0 x → Keeps s0 _) ?_; (on_goal 2 => subst x)) | clear_value x | skip) | with_reducible apply Keeps.ite | with_reducible apply State.configUe_keeps | with_reducible apply State.queueUe_keeps | with_reducible apply State.mirrorUe_keeps | with_reducible apply State.draftUe_keeps | with_reducible apply State.payloadUe_keeps | with_reducible apply State.slotUe_keeps | with_reducible apply State.sourceUe_keeps | with_reducible apply State.lockedUp_keeps | with_reducible apply State.lateNow_keeps | with_reducible apply State.fault_keeps | with_reducible apply State.aerLog_keeps | with_reducible apply State.setTgt_keeps | split | (with_reducible refine Keeps.of ?_ rfl rfl rfl rfl rfl rfl; first | with_reducible assumption | with_reducible apply Keeps.ite | with_reducible apply State.configUe_keeps | with_reducible apply State.queueUe_keeps | with_reducible apply State.mirrorUe_keeps | with_reducible apply State.draftUe_keeps | with_reducible apply State.payloadUe_keeps | with_reducible apply State.slotUe_keeps | with_reducible apply State.sourceUe_keeps | with_reducible apply State.lockedUp_keeps | with_reducible apply State.lateNow_keeps | with_reducible apply State.fault_keeps | with_reducible apply State.aerLog_keeps | with_reducible apply State.setTgt_keeps | split))

theorem State.scrub_keeps {s0 : State} (array : Nat) (err : ScrubErr) (a k : Nat) (s : State) (hK : Keeps s0 s) :
    Keeps s0 (State.scrub array err a k s) := by
  unfold State.scrub
  repeat' (first | with_reducible assumption | intro _ | with_reducible apply State.uncorrectable_keeps | with_reducible apply State.fault_keeps | with_reducible apply State.bump_keeps | split)

theorem State.rebuildEnd_keeps {s0 : State} (t : Nat) (s : State) (hK : Keeps s0 s) :
    Keeps s0 (State.rebuildEnd t s) := by
  unfold State.rebuildEnd
  repeat' (first | with_reducible assumption | intro _ | (extract_lets +onlyGivenNames x; first | ((first | refine (fun hx => ?_ : Keeps s0 x → Keeps s0 _) ?_); (on_goal 1 => clear_value x); (on_goal 2 => subst x)) | (refine (fun hx => ?_ : Keeps s0 x → Keeps s0 _) ?_; (on_goal 2 => subst x)) | clear_value x | skip) | with_reducible apply Keeps.ite | with_reducible apply State.letGo_keeps | with_reducible apply State.setTgt_keeps | split | (with_reducible refine Keeps.of ?_ rfl rfl rfl rfl rfl rfl; first | with_reducible assumption | with_reducible apply Keeps.ite | with_reducible apply State.letGo_keeps | with_reducible apply State.setTgt_keeps | split))

end Sys2Proof.Machine
end

