-- ==== Sys2Proof/Laws/NarindOps.lean ====
section
/-! SUPPORT. What handling one Narind frame does (Table 10-5), and what the port's work does step by step. -/

set_option linter.all false

namespace Sys2Proof.Machine

open Sys2Proof

/-! ## What leaves the port -/

theorem State.viaHop_eq (a : Nat) (mk : Nat → Out) (s : State) : s.viaHop a mk = { s with sent := (s.viaHop a mk).sent } := by
  unfold State.viaHop
  split
  · rfl
  · dsimp only; split <;> [skip; split] <;> rfl

theorem State.sendUdp_eq (src a : Nat) (f : List Byte) (s : State) : s.sendUdp src a f = { s with sent := (s.sendUdp src a f).sent } := by
  unfold State.sendUdp
  split
  · exact State.viaHop_eq _ _ _
  · rfl

/-- A destination whose next hop is resolved is sent to at once (R234, R235). -/
theorem State.sendUdp_resolved (src a h : Nat) (f : List Byte) (s : State) (hl : s.portLive = true) (hh : s.hopOf a = some h)
    (hr : (smGet (fun _ => none) s.port.arp (hopKey (addrV6 a) h)).isSome = true) :
    s.sendUdp src a f = s.emit (.udp src a h f) := by
  unfold State.sendUdp State.viaHop
  rw [if_pos hl, hh]
  dsimp only
  rw [if_pos hr]

/-! ## Frames -/

/-- A frame of a newer sequence number, or a PING, is executed (Table 10-5, steps 5 to 9). -/
theorem State.nrHandle_executes (i : NrIn) (s : State) (h1 : beAt 2 1 i.bytes = 1) (h2 : 1 ≤ beAt 6 1 i.bytes)
    (h3 : beAt 6 1 i.bytes ≤ 4) (h4 : s.asleep = false)
    (h5 : beAt 6 1 i.bytes = 2 ∨ beAt 12 4 i.bytes = s.port.session.toNat
      ∧ (s.client i.client).newer (BitVec.ofNat 32 (beAt 8 4 i.bytes)) = true) :
    s.nrHandle i = s.nrExecute i := by
  have hq : s.quietFrame i.client (beAt 6 1 i.bytes) = true := by unfold State.quietFrame; rw [h4]; rfl
  unfold State.nrHandle
  dsimp only
  generalize beAt 6 1 i.bytes = op at *
  rw [if_neg (by omega), if_neg (by omega), if_neg (by rw [hq]; decide)]
  rcases h5 with h | ⟨h, h'⟩
  · exact if_pos h
  · by_cases h6 : op = 2
    · exact if_pos h6
    · rw [if_neg h6, if_neg (fun hh => hh h)]; exact if_pos h'

/-- A frame whose sequence number is in the reply cache is answered with the cached reply (R242). -/
theorem State.nrHandle_cached (i : NrIn) (e : Dw × List Byte) (s : State) (h1 : beAt 2 1 i.bytes = 1)
    (h2 : 1 ≤ beAt 6 1 i.bytes) (h3 : beAt 6 1 i.bytes ≤ 4) (h0 : beAt 6 1 i.bytes ≠ 2) (h4 : s.asleep = false)
    (h5 : beAt 12 4 i.bytes = s.port.session.toNat)
    (h6 : (s.client i.client).newer (BitVec.ofNat 32 (beAt 8 4 i.bytes)) = false)
    (h7 : (s.client i.client).cache.find? (fun y => y.1 == BitVec.ofNat 32 (beAt 8 4 i.bytes)) = some e) :
    s.nrHandle i = (s.sendUdp i.dst i.addr e.2).bump 0x1822 0 1 := by
  have hq : s.quietFrame i.client (beAt 6 1 i.bytes) = true := by unfold State.quietFrame; rw [h4]; rfl
  unfold State.nrHandle
  dsimp only
  generalize beAt 6 1 i.bytes = op at *
  rw [if_neg (by omega), if_neg (by omega), if_neg (by rw [hq]; decide), if_neg h0, if_neg (fun hh => hh h5)]
  refine (if_neg (by rw [h6]; decide)).trans ?_
  rw [h7]

/-- A frame of the right length runs as its opcode says. -/
theorem State.nrExecute_runs (i : NrIn) (s : State) (h1 : beAt 16 2 i.bytes + 40 = i.bytes.length)
    (h2 : i.bytes.length ≤ bodyMax i.addr + 40) :
    s.nrExecute i = (match beAt 6 1 i.bytes with
      | 1 => s.nrRequest i
      | 4 => s.nrReset i
      | _ => s.nrPing i) := by
  unfold State.nrExecute; dsimp only; exact if_neg (by omega)

theorem State.nrPing_ping (i : NrIn) (s : State) (h1 : beAt 7 1 i.bytes = 0) (h2 : i.bytes.length = 40)
    (h3 : beAt 6 1 i.bytes = 2) : s.nrPing i
      = s.nrSend i.client i.dst i.addr 0x82 0 (beAt 8 4 i.bytes) 0 (beBytes 4 s.port.session.toNat) := by
  unfold State.nrPing; dsimp only; rw [if_neg (by omega), if_pos h3]

theorem State.nrPing_wake (i : NrIn) (s : State) (h1 : beAt 7 1 i.bytes = 0) (h2 : i.bytes.length = 40)
    (h3 : beAt 6 1 i.bytes = 3) : ∃ t, t = s.nrDone i 0x83 0 (beBytes 4 s.port.session.toNat)
      ∧ s.nrPing i = if t.o 0x1811 i.client = 0 then t.wake 1 0 else t := by
  refine ⟨_, rfl, ?_⟩
  unfold State.nrPing; dsimp only; rw [if_neg (by omega), if_neg (by omega)]

theorem State.nrReset_resets (i : NrIn) (s : State) (h1 : beAt 7 1 i.bytes = 0) (h2 : i.bytes.length = 44)
    (h3 : 1 ≤ beAt 24 4 i.bytes) (h4 : beAt 24 4 i.bytes ≤ 3) (h5 : s.o 0x1811 i.client = 0)
    (h6 : bitOf (s.o 0x1813 i.client) 1 = true) :
    s.nrReset i = (s.nrDone i 0x84 0 []).requestReset (reqLevel (beAt 24 4 i.bytes)) 8 8000 := by
  unfold State.nrReset
  dsimp only
  generalize beAt 24 4 i.bytes = w at *
  rw [if_neg (by omega), if_neg (by rw [h6, h5]; simp)]

/-- A REQUEST whose operations fill its body, all clean, and whose reply fits, begins (steps 11 to 13). -/
theorem State.nrRequest_runs (i : NrIn) (ops : List NrOp) (s : State)
    (h1 : nrParse (beAt 7 1 i.bytes) ((i.bytes.drop 24).take (i.bytes.length - 40)) = some (ops, []))
    (h2 : requestClean i.bytes ops [] = true) (h3 : replyBound ops ≤ bodyMax i.addr) : s.nrRequest i = s.nrBegin i ops := by
  unfold State.nrRequest
  dsimp only
  rw [h1]
  dsimp only
  rw [if_neg (by rw [h2]; decide), if_neg (by omega)]

/-- An executed request becomes the client's H, and its reply is cached and sent (R242, R243). -/
theorem State.nrDone_what (i : NrIn) (op n : Nat) (body : List Byte) (s : State) :
    ∃ r, ((s.nrDone i op n body).client i.client) = { s.client i.client with
          high := some (BitVec.ofNat 32 (beAt 8 4 i.bytes))
          cache := ((BitVec.ofNat 32 (beAt 8 4 i.bytes), r) :: (s.client i.client).cache).take 8 }
      ∧ (s.nrDone i op n body).sent = (s.sendUdp i.dst i.addr r).sent ∧ (s.nrDone i op n body).quiet = s.quiet
      ∧ (s.nrDone i op n body).resetReq = s.resetReq ∧ (s.nrDone i op n body).start = s.start
      ∧ (s.nrDone i op n body).now = s.now := by
  have key (x : Client) (r : List Byte) : ((s.setClient i.client x).sendUdp i.dst i.addr r).sent = (s.sendUdp i.dst i.addr r).sent := by
    have hh : (s.setClient i.client x).hopOf i.addr = s.hopOf i.addr := rfl
    have hp : (s.setClient i.client x).portLive = s.portLive := rfl
    unfold State.sendUdp State.viaHop
    rw [hh, hp]
    split
    · cases s.hopOf i.addr with
      | none => rfl
      | some h =>
        have ha : (s.setClient i.client x).port.arp = s.port.arp := rfl
        dsimp only
        rw [ha]
        split <;> rfl
    · rfl
  have eqn (x : Client) (r : List Byte) := State.sendUdp_eq i.dst i.addr r (s.setClient i.client x)
  refine ⟨nrFrame (s.nrKey i.client) (s.o 0x1810 i.client) op n (BitVec.ofNat 32 (beAt 8 4 i.bytes)).toNat s.port.session.toNat 0 body,
    ?_, key _ _, ?_, ?_, ?_, ?_⟩ <;> unfold State.nrDone <;> dsimp only <;> rw [eqn]
  · exact smGet_set_same (fun _ => Client.init) s.port.clients i.client _
  all_goals rfl

/-! ## The port's work -/

theorem nrRun_stop {f : Nat} {s : State} (h : s.nrReady = false) : nrRun f s = s := by
  cases f with
  | zero => rfl
  | succ f => unfold nrRun; rw [h]; rfl

theorem nrRun_go {f : Nat} {s : State} (h : s.nrReady = true) : nrRun (f + 1) s = nrRun f s.nrStep := by
  rw [nrRun]; exact if_pos h

/-- An idle port with an empty queue has nothing to do. -/
theorem State.nrReady_idle (s : State) (hj : s.port.job = none) (hq : s.port.queue = []) : s.nrReady = false := by
  unfold State.nrReady; rw [hj, hq]; simp

/-- What is taken in by an idle port has its turn at once (R245). -/
theorem State.nrDrain_takes (i : NrIn) (s : State) (hj : s.port.job = none) (hq : s.port.queue = [])
    (hb : s.start.dictBarUntil ≤ s.now) :
    ({ s with port := { s.port with queue := s.port.queue ++ [i] } } : State).nrDrain = nrRun 8703 (s.nrTake i) := by
  have hr : ({ s with port := { s.port with queue := s.port.queue ++ [i] } } : State).nrReady = true := by
    unfold State.nrReady
    dsimp only
    rw [hj, hq]
    simpa using hb
  refine (nrRun_go (f := 8703) hr).trans (congrArg (nrRun 8703) ?_)
  unfold State.nrStep
  dsimp only
  rw [hj, hq]
  have e : ({ s with port := { s.port with queue := ([] : List NrIn), job := none } } : State) = s := by rw [← hq, ← hj]
  dsimp only [List.nil_append]
  exact congrArg (State.nrTake i) e

end Sys2Proof.Machine
end

