-- ==== Sys2Proof/Tests/Slice0.lean ====
section
/-! SUPPORT. Small tests: commands that name nothing are refused; worked examples of the spec; and for every statement of
Obligations.lean with hypotheses, a state and operands that meet them (`test_meets_<its name>`). -/

open Sys2Proof Sys2Proof.Machine

namespace Sys2Proof.Tests

set_option linter.all false
set_option Elab.async false

/-- A started device, its counter running, its lanes down, its link up. -/
def up : State :=
  { State.reset with
    start := { Start.init with step := 12, stateCode := 1 }, sensing := true, linkL0 := true,
    time := { Time.init with mode := .perBeat, watched := true },
    fw := { Firmware.init with regState := 1, regBackTo := 1, runningFrom := some 0 } }

/-- The same device with every feature bit granted to tenant T0. -/
def upF : State := up.setFn 0 { Func.init with ok := true, accepted := BitVec.allOnes 64 }

/-- The same device with its physical function a bus master. -/
def upM : State := up.setFn 0 { Func.init with bme := true }

/-- `State.takes` as a Bool. -/
def takesB (u : State) (pr idx el v e : Nat) : Bool :=
  u.dictOpen && !u.asleep && !u.engRefused idx e && u.valueOk pr idx e v
    && (match u.gate pr idx el .set with
        | .ok (k, o) => k == e && lengthOk idx o.ty (typeSize (typeOf idx)) && o.acc != .rwd
        | .error _ => false)

theorem takes_of {u : State} {pr idx el v e : Nat} (h : takesB u pr idx el v e = true) : u.takes pr idx el v e := by
  simp only [takesB, Bool.and_eq_true, Bool.not_eq_true'] at h
  obtain ⟨⟨⟨⟨h1, h2⟩, h3⟩, h4⟩, h5⟩ := h
  split at h5
  · next k o hg =>
    simp only [Bool.and_eq_true, beq_iff_eq, bne_iff_ne] at h5
    obtain ⟨⟨rfl, h6⟩, h7⟩ := h5
    exact ⟨h1, h2, h3, h4, o, hg, h6, h7⟩
  · cases h5


/-- A delivery of a source to a target. -/
def given (src tgt tag : Nat) (active : Bool) : Delivery :=
  { grp := 0, esc := 0, slot := 0, tgt := some tgt, src := src, tag := tag, prio := 1, active := active, arrival := 0,
    start := 0, accept := 0, issuedAt := 0, expire := none, info := .none, bcast := false, lseq := none }

/-! ## Commands that name nothing -/

theorem test_wf_line : (Instr.glitchFilterChange 0 96 true 0).wf = false := by decide
theorem test_wf_source : (Instr.stormWindowClose 0 4096).wf = false := by decide
theorem test_wf_alarm : (Instr.alarmFire 0 16).wf = false := by decide
theorem test_wf_value : (Instr.alarmArmWrite 0 0 0 256).wf = false := by decide
theorem test_wf_principal : (Instr.setPending 0 32 0 1).wf = false := by decide
theorem test_wf_element : (Instr.sourceQuarantine 0 0 65536).wf = false := by decide
theorem test_wf_array : (Instr.pendSet 0 0 128 0).wf = false := by decide
theorem test_wf_function : (Instr.flr 0 32).wf = false := by decide
theorem test_wf_page : (Instr.claim 0 0 1024 false).wf = false := by decide
theorem test_wf_tag : (Instr.claimTimeout 0 0 1024 false).wf = false := by decide
theorem test_wf_escapement : (Instr.escapementIssue 0 8 false).wf = false := by decide
theorem test_wf_doorbell : (Instr.doorbellWrite 0 0 ⟨0, [0, 0], 0xF, 0xF, false⟩).wf = false := by decide
theorem test_wf_read_region : (Instr.doorbellRead 0 0 ⟨0x200000, 1, 0xF, 0⟩).wf = false := by decide
theorem test_wf_bar : (Instr.payloadRead 0 0 ⟨0x4000000, 1, 0xF, 0⟩).wf = false := by decide
theorem test_wf_opcode : (Instr.request 0 0 [0x4E, 0x52, 1, 0, 0, 0, 2, 0] 0).wf = false := by decide
theorem test_wf_address : (Instr.ping 0 (2 ^ 145) [0, 0, 0, 0, 0, 0, 2] 0).wf = false ∧ (Instr.wake 0 0 [0, 0, 0, 0, 0, 0, 3] (2 ^ 145)).wf = false := by decide
theorem test_wf_client : (Instr.nrGet 0 16 0 0).wf = false := by decide
theorem test_wf_data (v : List Byte) (h : v.length = 1425) : (Instr.nrSet 0 0 0 0 v).wf = false := by simp [Instr.wf, h]
theorem test_wf_ip : (Instr.arpRequest 0 (2 ^ 32) 0).wf = false := by decide
theorem test_wf_neighbour : (Instr.neighbourSolicitation 0 (2 ^ 128) 0).wf = false := by decide
theorem test_wf_vector : (Instr.msixPendingSend 0 0 2).wf = false := by decide
theorem test_wf_block : (Instr.blockResetEnd 0 0x24).wf = false := by decide
theorem test_wf_ddr : (Instr.ddrTraining 0 256).wf = false := by decide
theorem test_wf_short : (Instr.crownShortFrame 0 40 0).wf = false := by decide
theorem test_wf_crown_opcode : (Instr.crownUndefinedOpcode 0 0x10 ⟨0, 0, 0, false⟩).wf = false := by decide
theorem test_wf_bypass : (Instr.bypass 0 0x20).wf = false ∧ (Instr.bypass 0 0x21).wf = true := by decide
theorem test_wf_adc : (Instr.adcConversion 0 4096).wf = false := by decide
theorem test_wf_alarm_kind : (Instr.supplyAlarm 0 3 true 0 0).wf = false := by decide
theorem test_wf_cause : (Instr.quietWake 0 5 0).wf = false := by decide
theorem test_wf_forward : (Instr.forward 0 ⟨0x10, 0, 12, 1, 0, 0⟩ 1151 0 0 false []).wf = false := by decide
theorem test_wf_mirror : (Instr.mirrorState 0 ⟨0x11, 0, 4, 1, 0, 0⟩ ⟨0, 8, false⟩).wf = false := by decide
theorem test_wf_sync : (Instr.syncEntries 0 ⟨0x13, 0, 84, 1, 0, 0⟩ (List.replicate 20 ⟨0, 0, false⟩)).wf = false := by decide
theorem test_wf_lane_type : (Instr.ack 0 ⟨0x03, 0, 0, 1, 0, 0⟩).wf = false ∧ (Instr.ack 0 ⟨0x77, 0, 0, 1, 0, 0⟩).wf = true := by decide
theorem test_wf_array_word : (Instr.scrub 0 11 .clean 0 0).wf = false := by decide
theorem test_wf_engine : (Instr.movi 0 8).wf = false := by decide
theorem test_wf_speed : (Instr.mgmtLinkChange 0 true 3).wf = false := by decide
theorem test_illFormed_stops : exec (.alarmFire 0 16) up = .fault .illFormed := by rfl

/-! ## Witnesses: the whole block -/

theorem test_meets_StepRunsFrontCommand : State.reset.pending = [] := by decide

theorem test_meets_WellFormedCompletes :
    (Instr.alarmFire 0 15).wf = true ∧ (Instr.alarmFire 0 16).wf = false := by decide

theorem reset_sound : State.reset.sound := ⟨by decide, by decide, by decide, by decide⟩

theorem test_meets_StepKeepsSound : State.reset.sound ∧ ∃ t, step State.reset = .next t := ⟨reset_sound, _, rfl⟩

theorem test_meets_StepQueueAndTime : ∃ t, step { State.reset with pending := [.supplyGood 5] } = .next t := ⟨_, rfl⟩

theorem test_meets_WellFormedQueueRuns :
    ({ State.reset with pending := [.supplyGood 5, .alarmFire 9 15] } : State).sound
      ∧ [Instr.supplyGood 5, .alarmFire 9 15].all Instr.wf = true := ⟨⟨by decide, by decide, by decide, by decide⟩, by decide⟩

/-! ## Witnesses: interrupt inputs, alarms, time -/

theorem test_meets_BankSupplies :
    7 < 8 ∧ 95 < 96 ∧ (decide (4 ≤ 7) != true) = false ∧ (decide (48 ≤ 95) != true) = false ∧ (decide (48 ≤ 95) != false) = true
      ∧ ((up.setFilt 95 ⟨true, true, 5⟩).upTo 0).filtAt 95 = ⟨true, true, 5⟩ := by decide

/-- IRQ_IN[95] shows the filtered value `v` and the sample `w` since beat 5, and it is beat 7; GLITCH is 2. -/
def upG (v w : Bool) : State := { up.setFilt 95 ⟨v, w, 5⟩ with now := 7 }

theorem test_meets_GlitchFilterOutput :
    95 < 96 ∧ ((upG false false).upTo 0).filtAt 95 = ⟨false, false, 5⟩ ∧ ((upG false false).upTo 0).bankOf 95 = true
      ∧ (({ upG false false with bankA := false, bankB := false } : State).upTo 0).bankOf 95 = false
      ∧ ((upG true false).upTo 0).filtAt 95 = ⟨true, false, 5⟩ ∧ (({ upG true false with now := 6 } : State).upTo 0).filtAt 95 = ⟨true, false, 5⟩
      ∧ (({ upG true false with now := 6 } : State).upTo 0).now < max (min 6 6) 5 + 2
      ∧ ((upG false false).upTo 0).now < max (min 6 7) 5 + ((upG false false).upTo 0).o 0x2005 127
      ∧ max (min 5 7) 5 + ((upG false false).upTo 0).o 0x2005 127 ≤ ((upG false false).upTo 0).now
      ∧ ((upG false false).upTo 0).sensing = true ∧ (State.reset.upTo 0).sensing = false := by decide

theorem test_meets_Alarms :
    ((up.setO 0x1212 15 1).upTo 0).alarmDue 15 = true ∧ ((up.setO 0x1212 15 1).upTo 0).o 0x1211 15 = 0
      ∧ (((up.setO 0x1212 15 1).setO 0x1211 15 800).upTo 0).alarmDue 15 = true
      ∧ 0 < (((up.setO 0x1212 15 1).setO 0x1211 15 800).upTo 0).o 0x1211 15
      ∧ (Instr.alarmCompareWrite 0 0 15 (2 ^ 64 - 1)).wf = true ∧ (up.atReq 0).takes 0 0x1210 15 (2 ^ 64 - 1) 15
      ∧ (Instr.alarmPeriodWrite 0 0 15 800).wf = true ∧ (up.atReq 0).takes 0 0x1211 15 800 15
      ∧ (Instr.alarmArmWrite 0 0 15 1).wf = true ∧ (up.atReq 0).takes 0 0x1212 15 1 15
      ∧ (Instr.alarmArmWrite 0 0 15 0).wf = true ∧ (up.atReq 0).takes 0 0x1212 15 0 15 := by
  repeat' (with_reducible apply And.intro)
  all_goals first | decide | exact takes_of (by decide)

theorem test_meets_CounterAndSeconds :
    (up.atReq 0).takes 0 0x1201 0 (0xFFFFFFFFFFFFFFFF : Beat).toNat 0
      ∧ (up.upTo 0).time.watched = true ∧ (up.upTo 0).goesBack = false ∧ (up.upTo 0).time.nextSecond ≤ (up.upTo 0).cnt.toNat
      ∧ (({ up with time := { up.time with ppsOutUntil := some 0 } } : State).upTo 0).time.ppsOutUntil = some 0
      ∧ 0 ≤ (({ up with time := { up.time with ppsOutUntil := some 0 } } : State).upTo 0).now := by
  repeat' (with_reducible apply And.intro)
  all_goals first | decide | exact takes_of (by decide)

/-- DISCIPLINE mode, an edge accepted at beat 0. -/
def upP (now : Nat) (first : Bool) : State :=
  { up.setO 0x1202 0 1 with now := now, time := { up.time with ppsFirst := first, ppsLast := some 0 } }

theorem test_meets_PpsInput :
    ((upP 719999999 false).upTo 0).o 0x1202 0 = 1 ∧ ((upP 719999999 false).upTo 0).time.mode = .perBeat
      ∧ ((upP 719999999 false).upTo 0).time.ppsFirst = false ∧ ((upP 719999999 false).upTo 0).time.ppsLast = some 0
      ∧ ((upP 719999999 false).upTo 0).now < 0 + 720000000
      ∧ ((upP 720000000 false).upTo 0).o 0x1202 0 = 1 ∧ ((upP 720000000 false).upTo 0).time.mode = .perBeat
      ∧ ((upP 720000000 false).upTo 0).time.ppsLast = some 0 ∧ 0 + 720000000 ≤ ((upP 720000000 false).upTo 0).now
      ∧ bitOf ((((upP 800800000 false).setO 0x1206 0 4).upTo 0).o 0x1206 0) 2 = true
      ∧ (((upP 800800000 false).setO 0x1206 0 4).upTo 0).time.mode ≠ .quiet
      ∧ (((upP 800800000 false).setO 0x1206 0 4).upTo 0).time.ppsLast = some 0
      ∧ 0 + 800800000 ≤ (((upP 800800000 false).setO 0x1206 0 4).upTo 0).now := by decide

theorem test_meets_PpsCorrection :
    (up.o 0x1204 0 = 0 ∨ (-8 : Int).natAbs ≤ up.o 0x1204 0) ∧ up.time.ppsWake = false := by decide

theorem test_meets_Balance :
    let z (t : Time) : State := ({ up with time := t } : State).upTo 0
    (z { up.time with mode := .quiet }).time.mode = .quiet ∧ (z { up.time with mode := .quiet }).time.resumeAtTick = false
      ∧ (z { up.time with mode := .quiet, resumeAtTick := true }).time.resumeAtTick = true
      ∧ (up.upTo 0).time.mode = .perBeat ∧ (up.upTo 0).time.watched = true ∧ (up.upTo 0).time.spanAdv = none
      ∧ (z { up.time with spanAdv := some 7, spanTicks := 32766 }).time.spanAdv = some 7
      ∧ (z { up.time with spanAdv := some 7, spanTicks := 32766 }).time.spanTicks < 32767
      ∧ 32767 ≤ (z { up.time with spanAdv := some 7, spanTicks := 32767 }).time.spanTicks
      ∧ (z { up.time with spanFull := some 7 }).time.spanFull = some 7 ∧ (up.upTo 0).time.spanFull = none := by decide

theorem test_meets_SteeringPeriods :
    (({ up with time := { up.time with nextPeriod := 0 } } : State).upTo 0).goesBack = false
    ∧ (({ up with time := { up.time with nextPeriod := 0 } } : State).upTo 0).time.nextPeriod
        ≤ (({ up with time := { up.time with nextPeriod := 0 } } : State).upTo 0).cnt.toNat
      ∧ (({ up with time := { up.time with toUpdate := true } } : State).upTo 0).time.toUpdate = true
      ∧ (({ up with time := { up.time with toUpdate := true } } : State).upTo 0).steering = true
      ∧ (({ up with time := { up.time with toUpdate := true } } : State).upTo 0).cnt.toNat
        < (({ up with time := { up.time with toUpdate := true } } : State).upTo 0).time.nextPeriod := by decide

/-! ## Witnesses: sources -/

theorem test_meets_SourceArrays : 127 < 128 ∧ 31 < 32 ∧ (up.atMem 0).takesMem 0 := by
  repeat' (with_reducible apply And.intro)
  all_goals first | decide | exact ⟨by decide, by decide⟩

theorem test_meets_EnableKeepsSource :
    (1 : Nat) ≠ 0 ∧ ((up.setSrc 0 { Source.init with st := .pending }).srcAt 0).st = .pending
      ∧ ((up.setSrc 0 { Source.init with st := .pending }).o 0x2006 0 == 1) ≠ true := by decide

/-- A device whose source 4095 is in the state `st`. -/
def upS (st : SrcState) : State := { up.setSrc 4095 { Source.init with st := st, target := some 0 } with now := 5 }

theorem test_meets_SetPending :
    4095 < 4096 ∧ (Instr.setPending 0 0 4095 1).wf = true ∧ ((upS .idle).atReq 0).takes 0 0xF008 4095 1 4095
      ∧ ((upS .idle).atReq 0).sensing = true ∧ ((upS .idle).atReq 0).resetting (((upS .idle).atReq 0).srcTen 4095) = false
      ∧ (((upS .idle).atReq 0).srcAt 4095).hwAt ≠ some ((upS .idle).atReq 0).now ∧ ((upS .idle).atReq 0).o 0x2007 4095 = 0
      ∧ (((upS .idle).atReq 0).srcAt 4095).st = .idle ∧ (((upS .pending).atReq 0).srcAt 4095).st = .pending
      ∧ (((upS .inFlight).atReq 0).srcAt 4095).st = .inFlight ∧ (((upS .active).atReq 0).srcAt 4095).st = .active
      ∧ (((upS .completed).atReq 0).srcAt 4095).st = .completed
      ∧ (((upS .quarantined).atReq 0).srcAt 4095).st = .quarantined := by
  repeat' (with_reducible apply And.intro)
  all_goals first | decide | exact takes_of (by decide)

theorem test_meets_ClearPending :
    (Instr.clearPending 0 0 4095 1).wf = true ∧ ((upS .pending).atReq 0).takes 0 0xF009 4095 1 4095
      ∧ (((upS .pending).atReq 0).srcAt 4095).st = .pending
      ∧ ((upS .inFlight).atReq 0).takes 0 0xF009 4095 1 4095 ∧ (((upS .inFlight).atReq 0).srcAt 4095).st = .inFlight
      ∧ ((upS .quarantined).atReq 0).takes 0 0xF009 4095 1 4095
      ∧ (((upS .quarantined).atReq 0).srcAt 4095).st = .quarantined := by
  repeat' (with_reducible apply And.intro)
  all_goals first | decide | exact takes_of (by decide)

/-! ## Witnesses: doorbells, payloads, mailboxes -/

/-- A doorbell write to source `n` of 8 + 4k bytes. -/
def bellTo (n k : Nat) : MemWrite := ⟨0x100000 + 128 * n, List.replicate (k + 2) 0x01004321, 0xF, 0xF, false⟩

theorem test_meets_Doorbells :
    (Instr.doorbellWrite 0 0 (bellTo 1152 0)).wf = true ∧ (up.atBell 0).takesMem 0
      ∧ (up.atBell 0).slotSource 0 (((bellTo 1152 0).off - 0x100000) / 128) = some 1152
      ∧ (bellTo 1152 0).poisoned = false ∧ (bellTo 1152 0).off % 128 = 0 ∧ 2 ≤ (bellTo 1152 0).data.length
      ∧ (bellTo 1152 0).beFirst = 0xF ∧ (bellTo 1152 0).beLast = 0xF
      ∧ 8 ≤ (writeBytes (bellTo 1152 0)).length ∧ (writeBytes (bellTo 4095 16)).length ≤ 72
      ∧ (Instr.doorbellWrite 0 0 (bellTo 4095 16)).wf = true
      ∧ (up.atBell 0).slotSource 0 (((bellTo 4095 16).off - 0x100000) / 128) = some 4095
      ∧ (Instr.doorbellWrite 0 0 (bellTo 1151 0)).wf = true
      ∧ (up.atBell 0).slotSource 0 (((bellTo 1151 0).off - 0x100000) / 128) = none
      ∧ (up.atBell 0).slotSource 0 (((bellTo 1152 1).off - 0x100000) / 128) = some 1152
      ∧ (Instr.doorbellWrite 0 0 { bellTo 1152 0 with poisoned := true }).wf = true ∧ { bellTo 1152 0 with poisoned := true }.poisoned = true
      ∧ (Instr.doorbellWrite 0 0 { bellTo 1152 0 with off := 0x100000 + 128 * 1152 + 4 }).wf = true
      ∧ ¬ { bellTo 1152 0 with off := 0x100000 + 128 * 1152 + 4 }.off % 128 = 0 ∧ (up.upTo 0).doorbells = []
      ∧ (({ up with doorbells := [⟨1152, 0, 0, false, []⟩] } : State).upTo 0).doorbells = ⟨1152, 0, 0, false, []⟩ :: []
      ∧ (({ up with doorbells := [⟨1152, 0, 0, false, []⟩] } : State).upTo 0).asleep = false := by
  repeat' (with_reducible apply And.intro)
  all_goals first | decide | exact ⟨by decide, by decide⟩

theorem test_meets_DoorbellRead :
    (Instr.doorbellRead 0 0 ⟨0x17FFFC, 1, 0xF, 0⟩).wf = true ∧ (up.atMem 0).takesMem 0
      ∧ ¬ ((⟨0x17FFFC, 1, 0xF, 0⟩ : MemRead).dws = 1 ∧ (⟨0x17FFFC, 1, 0xF, 0⟩ : MemRead).beFirst = 0)
      ∧ (Instr.doorbellRead 0 0 ⟨0x100000, 1, 0, 0⟩).wf = true := by
  repeat' (with_reducible apply And.intro)
  all_goals first | decide | exact ⟨by decide, by decide⟩

/-- Buffer 8191 is owned by target 0 under generation 3. -/
def upB : State := up.setBuf 8191 { Buf.init with st := .owned, gen := 3, bytes := [1, 2, 3], holders := [0] }

theorem test_meets_PayloadRead :
    (Instr.payloadRead 0 0 ⟨0x27FFC0, 16, 0xF, 0xF⟩).wf = true ∧ (upB.atMem 0).takesMem 0
      ∧ regionOf 0x27FFC0 = .payload ∧ ¬ ((16 : Nat) = 1 ∧ (0xF : BitVec 4) = 0) ∧ (0x27FFC0 - 0x200000) % 64 + 4 * 16 ≤ 64
      ∧ ((upB.atMem 0).bufAt ((0x27FFC0 - 0x200000) / 64)).st = .owned
      ∧ ((upB.atMem 0).bufAt ((0x27FFC0 - 0x200000) / 64)).bad = false
      ∧ ((up.atMem 0).bufAt ((0x27FFC0 - 0x200000) / 64)).st ≠ .owned
      ∧ (Instr.payloadRead 0 0 ⟨0x27FF84, 16, 0xF, 0xF⟩).wf = true ∧ 64 < (0x27FF84 - 0x200000) % 64 + 4 * 16 := by
  repeat' (with_reducible apply And.intro)
  all_goals first | decide | exact ⟨by decide, by decide⟩

theorem test_meets_Free :
    1023 < 1024 ∧ (upB.atMem 0).takesMem 0 ∧ (upB.atMem 0).fromView 0x3000 0 1023 = some 1023
      ∧ (upB.atMem 0).pageBarred 0 1023 = false ∧ (upB.atMem 0).fromView 0x3000 0 0 = some 0
      ∧ (0x80031FFF : Dw).getLsbD 31 = true ∧ field (0x80031FFF : Dw).toNat 24 7 = 0 ∧ field (0x80031FFF : Dw).toNat 13 3 = 0
      ∧ field (0x80031FFF : Dw).toNat 0 13 = 8191 ∧ ((upB.atMem 0).bufAt 8191).st = .owned
      ∧ ((upB.atMem 0).bufAt 8191).gen = BitVec.ofNat 8 (field (0x80031FFF : Dw).toNat 16 8)
      ∧ 0 ∈ ((upB.atMem 0).bufAt 8191).holders ∧ 1023 ∉ ((upB.atMem 0).bufAt 8191).holders
      ∧ (((up.setBuf 8191 { Buf.init with record := some (3, [0]) }).atMem 0).bufAt 8191).record = some (3, [0])
      ∧ 0 ∉ (((up.setBuf 8191 { Buf.init with record := some (3, [0]) }).atMem 0).bufAt 8191).holders := by
  repeat' (with_reducible apply And.intro)
  all_goals first | decide | exact ⟨by decide, by decide⟩

theorem test_meets_Claims :
    1023 < 1024 ∧ (upF.atMem 0).takesMem 0 ∧ (upF.atMem 0).fromView 0x3000 0 1023 = some 1023
      ∧ (upF.atMem 0).pageBarred 0 1023 = false ∧ (upF.atMem 0).row8.mustWait (.claim 0 0 1023 false) = false
      ∧ (upF.atMem 0).row8.compares ((upF.atMem 0).row8.servEsc 1023) = false
      ∧ ((upF.setO 0x3800 6 1).atMem 0).row8.compares (((upF.setO 0x3800 6 1).atMem 0).row8.servEsc 1023) = true
      ∧ ((upF.setO 0x3800 6 1).atMem 0).row8.mustWait (.claim 0 0 1023 false) = false
      ∧ ((upF.setEsc 7 { Esc.init with claimAt := some 0 }).atMem 0).row8.mustWait (.claim 0 0 1023 false) = true
      ∧ (upF.atMem 0).row8.mustWait (.claim64 0 0 1023 false) = false
      ∧ (upF.atMem 0).hasFeat ((upF.atMem 0).tgtTen 1023) 3 = true ∧ (up.atMem 0).hasFeat ((up.atMem 0).tgtTen 1023) 3 = false
      ∧ bestRank (upF.pendCands 1023 0 false) = none ∧ upF.dlv.filter (fun e => e.tgt == some 1023 && !e.active) = [] := by
  repeat' (with_reducible apply And.intro)
  all_goals first | decide | exact ⟨by decide, by decide⟩

/-- Target 1023 holds source 4095 under tag 1023. -/
def upD (active : Bool) : State :=
  { up.setSrc 4095 { Source.init with st := if active then .active else .inFlight, target := some 1023 } with
    dlv := [given 4095 1023 1023 active] }

/-- The same device with every feature accepted, its escapement 7 coupled. -/
def upDC : State := ((upD false).setFn 0 { Func.init with ok := true, accepted := BitVec.allOnes 64 }).setO 0x3800 6 1

theorem test_meets_ClaimInFlight :
    bestRank ((upD false).pendCands 1023 0 false) = none
      ∧ (upD false).dlv.filter (fun e => e.tgt == some 1023 && !e.active) = [given 4095 1023 1023 false] := by decide

theorem test_meets_CompleteAndThreshold :
    1023 < 1024 ∧ ((upD true).atMem 0).takesMem 0 ∧ ((upD true).atMem 0).fromView 0x3000 0 1023 = some 1023
      ∧ ((upD true).atMem 0).pageBarred 0 1023 = false ∧ ((upD true).atMem 0).mustWait (.complete 0 0 1023 0x003FFFFF) = false
      ∧ (({ upD true with heldOps := [.complete 0 0 1023 0] } : State).atMem 0).mustWait (.complete 0 0 1023 0x003FFFFF) = true
      ∧ (((upDC.atMem 0).row8.setTgt 1023 { Target.init with threshold := 9 }).admitBelow 1023 0 9).thresholdHits 1023 = true
      ∧ (((upDC.atMem 0).row8.setTgt 1023 { Target.init with threshold := 9 }).admitBelow 1023 0 9).compares 7 = true
      ∧ ((upD true).atMem 0).fromView 0x2000 0 (field (0x003FFFFF : Dw).toNat 10 12) = some 4095
      ∧ ((upD true).atMem 0).dlv.find? (fun d => d.src == 4095 && d.tgt == some 1023 && d.active
          && d.tag == field (0x003FFFFF : Dw).toNat 0 10) = some (given 4095 1023 1023 true)
      ∧ ((upD true).atMem 0).dlv.find? (fun d => d.src == 4095 && d.tgt == some 1023 && d.active
          && d.tag == field (0x003FFFFE : Dw).toNat 0 10) = none
      ∧ ((upD true).atMem 0).hasFeat 0 10 = false ∧ (upF.atMem 0).hasFeat ((upF.atMem 0).tgtTen 1023) 10 = true := by
  repeat' (with_reducible apply And.intro)
  all_goals first | decide +kernel | exact ⟨by decide, by decide⟩

/-! ## Witnesses: quarantine, issue, pairs, targets -/

theorem test_meets_SourceQuarantine :
    (Instr.sourceQuarantine 0 0 4095).wf = true ∧ ((upS .pending).atReq 0).takes 0 0x2009 4095 1 4095
      ∧ (((upS .pending).atReq 0).srcAt 4095).st = .pending ∧ (((upS .pending).atReq 0).srcAt 4095).lvl = false
      ∧ (((upS .active).atReq 0).srcAt 4095).st = .active ∧ ((upS .active).atReq 0).takes 0 0x2009 4095 1 4095
      ∧ (Instr.sourceRelease 0 0 4095).wf = true ∧ ((upS .quarantined).atReq 0).takes 0 0x2009 4095 0 4095
      ∧ (((upS .quarantined).atReq 0).srcAt 4095).st = .quarantined ∧ (((upS .quarantined).atReq 0).srcAt 4095).qpend = false
      ∧ ((upS .quarantined).atReq 0).sense 4095 < 3
      ∧ (((up.setSrc 4095 { Source.init with storm := some ⟨0, 1⟩ }).upTo 0).srcAt 4095).storm = some ⟨0, 1⟩ ∧ 4095 < 4096
      ∧ ((upS .completed).atReq 0).takes 0 0x2009 4095 1 4095 ∧ (((upS .completed).atReq 0).srcAt 4095).st = .completed := by
  repeat' (with_reducible apply And.intro)
  all_goals first | decide | exact takes_of (by decide)

/-- Source 4095 waits for the enabled target 1023 of escapement 7 of a bus master, alone or as a broadcast. -/
def upI (bcast : Bool) : State :=
  { ((((upM.setO 0x3005 1023 1).setO 0x2006 4095 1).setO 0x2001 4095 1).setO 0x3800 6 1).setSrc 4095
      { Source.init with
        st := .pending, target := if bcast then none else some 1023, bcast := bcast, prio := 1,
        members := if bcast then [⟨1023, 0, true⟩] else [], release := if bcast then some 100 else none } with now := 100 }

theorem test_meets_EscapementIssue :
    let c := ((upI false).upTo 0).row8
    7 < 8 ∧ 1023 < 1024 ∧ 4095 < 4096 ∧ c.issueTurn 7 = some 1023 ∧ c.issueReady 1023 = some 4095 ∧ c.compares 7 = true
      ∧ (c.escAt 7).issueAt ≠ some c.now
      ∧ ((((upI false).setEsc 7 { Esc.init with issueAt := some 100 }).upTo 0).row8.escAt 7).issueAt
        = some (((upI false).setEsc 7 { Esc.init with issueAt := some 100 }).upTo 0).row8.now := by decide

/-- Pair 6 of the escapements in the state `x`. -/
def upPair (x : Esc) : State := up.setEsc 6 x

theorem test_meets_PairRetryAndMigration :
    (((upPair { Esc.init with retry := [(0, .escapementIssue 0 7 false)] }).upTo 0).escAt (7 / 2 * 2)).retry
        = (0, .escapementIssue 0 7 false) :: []
      ∧ 0 ≤ ((upPair { Esc.init with retry := [(0, .escapementIssue 0 7 false)] }).upTo 0).now
      ∧ (((upPair { Esc.init with retry := [(0, .escapementIssue 0 7 false)] }).upTo 0).escAt (7 / 2 * 2)).migrating = none
      ∧ (((upPair { Esc.init with migrating := some 4 }).upTo 0).escAt (7 / 2 * 2)).migrating = some 4
      ∧ (((upPair { Esc.init with migrating := some 4 }).upTo 0).escAt (7 / 2 * 2)).retry = []
      ∧ ((upPair { Esc.init with migrating := some 4 }).upTo 0).heldOps = []
      ∧ ((upPair { Esc.init with migrating := some 4 }).upTo 0).asleep = false ∧ 7 < 8 := by decide

theorem test_meets_SyncReleaseAndTimeout :
    let c (z : State) : State := (z.upTo 0).row8
    let late := (upI true).setO 0x3005 1023 0
    let z (u : State) : State := u.setEsc 7 { u.escAt 7 with issueAt := some u.now }
    let d : Delivery := { given 0 1023 1023 false with expire := some 0 }
    7 < 8 ∧ ((c (upI true)).escAt 7).issueAt ≠ some (c (upI true)).now ∧ (c (upI true)).asleep = false
      ∧ (c (upI true)).dueMembers 7 ((c (upI true)).undecidedRelease 7) (c (upI true)).now = [(1023, 4095)]
      ∧ (((c (upI true)).srcAt 4095).members.find? (fun y => y.tgt == 1023)).map (·.rankedAt) = some 0
      ∧ (z (c (upI true))).candidate 4095 1023 0 = true ∧ (z (c (upI true))).room 1023 = true
      ∧ (z (c (upI true))).issueOpen 1023 = true ∧ (c (upI true)).compares 7 = true
      ∧ ((c late).escAt 7).issueAt ≠ some (c late).now
      ∧ (c late).dueMembers 7 ((c late).undecidedRelease 7) (c late).now = [(1023, 4095)]
      ∧ (((c late).srcAt 4095).members.find? (fun y => y.tgt == 1023)).map (·.rankedAt) = some 0
      ∧ (z (c late)).issueOpen 1023 = false
      ∧ 1023 < 1024 ∧ (c { up with dlv := [d] }).expired 1023 1023 = some d
      ∧ (c { up with dlv := [d] }).asleep = false ∧ (c (({ up with dlv := [d] } : State).setO 0x3800 6 1)).compares 7 = true
      ∧ (c up).expired 1023 1023 = none := by decide

theorem test_meets_Targets :
    (Instr.tgtEnableWrite 0 0 1023 0).wf = true ∧ ((up.setO 0x3005 1023 1).atReq 0).takes 0 0x3005 1023 0 1023
      ∧ ((up.setO 0x3005 1023 1).atReq 0).o 0x3005 1023 = 1
      ∧ (Instr.tgtEnableWrite 0 0 1023 1).wf = true ∧ (up.atReq 0).takes 0 0x3005 1023 1 1023
      ∧ (up.atReq 0).o 0x3005 1023 = 0 ∧ enableFaults (up.atReq 0) (up.atReq 0) 1023 ≠ []
      ∧ ((upF.setO 0x3001 1023 16).atReq 0).takes 0 0x3005 1023 1 1023
      ∧ enableFaults ((upF.setO 0x3001 1023 16).atReq 0) ((upF.setO 0x3001 1023 16).atReq 0) 1023 = []
      ∧ (Instr.targetQuarantine 0 1023 false).wf = true ∧ (upF.atReq 0).takes 0 0x3009 1023 1 1023
      ∧ ((upF.atReq 0).tgtAt 1023).quarantined = false
      ∧ (let c := (upDC.atReq 0).row8
        let left := (c.quarFlags 1023 1).leaveTarget 1023
        left.compares (left.servEsc 1023) = true ∧ left.quarDlvs 1023 ≠ [])
      ∧ (upDC.atReq 0).takes 0 0x3009 1023 1 1023
      ∧ ((upDC.atReq 0).tgtAt 1023).quarantined = false
      ∧ ((upF.setTgt 1023 { Target.init with quarantined := true }).atReq 0).takes 0 0x3009 1023 0 1023
      ∧ (((upF.setTgt 1023 { Target.init with quarantined := true }).atReq 0).tgtAt 1023).quarantined = true := by
  repeat' (with_reducible apply And.intro)
  all_goals first | decide | exact takes_of (by decide)

/-! ## Witnesses: engines -/

/-- Engine 7 runs and has fetched the word `w`. -/
def upE (w : Dw) (e : Engine) : State := up.setEng 7 { e with run := .running, fetched := some w }

/-- An instruction word: opcode, DST, SRC, I, H and the low half. -/
def word (op dst src : Nat) (i h : Bool) (low : Nat) : Dw :=
  BitVec.ofNat 32 (op * 2 ^ 27 + dst * 2 ^ 23 + src * 2 ^ 18 + b2n i * 2 ^ 17 + b2n h * 2 ^ 16 + low)

/-- Time has passed to the beat at which engine 7's instruction starts. -/
def atE (w : Dw) (e : Engine) : State := (upE w e).upTo (max 0 ((upE w e).engAt 7).doneAt)

theorem test_meets_EngineArithmetic :
    7 < 8 ∧ (atE (word 5 15 0 false true 0xFFFF) .init).executes 7 5 (word 5 15 0 false true 0xFFFF)
      ∧ (atE (word 6 15 15 true false 0x8000) .init).executes 7 6 (word 6 15 15 true false 0x8000)
      ∧ (atE (word 7 15 15 false false 15) .init).executes 7 7 (word 7 15 15 false false 15)
      ∧ (atE (word 8 15 15 false false 24) .init).executes 7 8 (word 8 15 15 false false 24)
      ∧ (atE (word 9 0 24 true false 0) .init).executes 7 9 (word 9 0 24 true false 0) := by
  repeat' (with_reducible apply And.intro)
  all_goals first | decide | exact ⟨by decide, by decide, by decide, by decide, by decide, by decide⟩

theorem test_meets_EngineBranches :
    7 < 8 ∧ (atE (word 0x0A 10 0 false false 255) .init).executes 7 0x0A (word 0x0A 10 0 false false 255)
      ∧ (atE (word 0x0B 0 0 false false 255) .init).executes 7 0x0B (word 0x0B 0 0 false false 255)
      ∧ (atE (word 0x10 0 0 false false 0) { Engine.init with inHandler := true }).executes 7 0x10 (word 0x10 0 0 false false 0) := by
  repeat' (with_reducible apply And.intro)
  all_goals first | decide | exact ⟨by decide, by decide, by decide, by decide, by decide, by decide⟩

theorem test_meets_EngineWaits :
    7 < 8 ∧ (atE (word 3 0 0 false false 0) .init).executes 7 3 (word 3 0 0 false false 0)
      ∧ (atE (word 4 0 15 false false 0) .init).executes 7 4 (word 4 0 15 false false 0) ∧ wI (word 4 0 15 false false 0) = false
      ∧ (atE (word 4 0 0 true false 1) .init).executes 7 4 (word 4 0 0 true false 1) ∧ wI (word 4 0 0 true false 1) = true
      ∧ 0 < wImm (word 4 0 0 true false 1) ∧ ((atE (word 4 0 0 true false 1) .init).engAt 7).waitUntil = none
      ∧ (((upE 0 { Engine.init with waitHold := true }).upTo 0).engAt 7).run = .running
      ∧ (((upE 0 { Engine.init with waitHold := true }).upTo 0).engAt 7).waitHold = true
      ∧ (((upE 0 { Engine.init with waitHold := true }).upTo 0).engAt 7).shifting = none
      ∧ (let z (e : Engine) (n : Nat) : State := ({ (upE 0 e).setO 0x4002 7 1 with now := n } : State).upTo 0
        (z { Engine.init with waitHold := true } 8).o 0x4002 7 ≠ 0
          ∧ ((z { Engine.init with waitHold := true } 8).engAt 7).holdSince + 8 * 1 ≤ (z { Engine.init with waitHold := true } 8).now
          ∧ ¬ ((z { Engine.init with waitHold := true } 7).engAt 7).holdSince + 8 * 1 ≤ (z { Engine.init with waitHold := true } 7).now
          ∧ ((z { Engine.init with waitHold := true, shifting := some true } 8).engAt 7).shifting = some true)
      ∧ ((up.upTo 0).engAt 7).run ≠ .running ∧ (((upE 0 .init).upTo 0).engAt 7).waitHold = false := by
  repeat' (with_reducible apply And.intro)
  all_goals first | decide | exact ⟨by decide, by decide, by decide, by decide, by decide, by decide⟩

theorem test_meets_EngineFrames :
    7 < 8 ∧ ((atE (word 1 0 0 false false 1) .init).engAt 7).susp = none
      ∧ (atE (word 1 0 0 false false 1) .init).executes 7 1 (word 1 0 0 false false 1)
      ∧ (atE (word 2 0 0 false false 128) .init).executes 7 2 (word 2 0 0 false false 128) ∧ wLow (word 2 0 0 false false 128) ≤ 128
      ∧ (atE (word 0x0D 0 0 false false 0) { Engine.init with frame := true }).executes 7 0x0D (word 0x0D 0 0 false false 0)
      ∧ ((atE (word 0x0D 0 0 false false 0) { Engine.init with frame := true }).engAt 7).frame = true
      ∧ ((atE (word 0x0D 0 0 false false 0) { Engine.init with frame := true, frameLen := 8, cp := 8 }).engAt 7).cp = 8
      ∧ ((atE (word 0x0D 0 0 false false 0) { Engine.init with frame := true }).engAt 7).aborted = false
      ∧ ((atE (word 0x0D 0 0 false false 0) { Engine.init with frame := true }).engAt 7).swapPending = false := by
  repeat' (with_reducible apply And.intro)
  all_goals first | decide | exact ⟨by decide, by decide, by decide, by decide, by decide, by decide⟩

theorem test_meets_EngineOutputs :
    7 < 8 ∧ (atE (word 0x0C 0 24 false false 0) .init).executes 7 0x0C (word 0x0C 0 24 false false 0)
      ∧ (atE (word 0x0E 0 0 false false 0) .init).executes 7 0x0E (word 0x0E 0 0 false false 0)
      ∧ (atE (word 0x0F 0 15 false false 255) .init).executes 7 0x0F (word 0x0F 0 15 false false 255)
      ∧ (atE (word 0x11 0 0 false false 0) .init).executes 7 0x11 (word 0x11 0 0 false false 0)
      ∧ ((atE (word 0x11 0 0 false false 0) .init).engAt 7).swapPending = false
      ∧ ((atE (word 0x12 0 0 false false 0) .init).engAt 7).run = .running
      ∧ ((atE (word 0x12 0 0 false false 0) .init).engAt 7).shifting = none
      ∧ (atE (word 0x12 0 0 false false 0) .init).engWord 7 = word 0x12 0 0 false false 0
      ∧ wIllegal (word 0x12 0 0 false false 0) false = true
      ∧ (atE (word 0x12 0 0 false false 0) .init).parityFault 7 (word 0x12 0 0 false false 0) = none := by
  repeat' (with_reducible apply And.intro)
  all_goals first | decide | exact ⟨by decide, by decide, by decide, by decide, by decide, by decide⟩

theorem test_meets_EngineEventEntry :
    let u (e : Engine) : State := ((upE 0 e).upTo 0).upTo (max 0 (((upE 0 e).upTo 0).engAt 7).doneAt)
    7 < 8 ∧ ((u { Engine.init with evBell := true }).engAt 7).run = .running
      ∧ ((u { Engine.init with evBell := true }).engAt 7).inHandler = false
      ∧ (let e := (u { Engine.init with evBell := true }).engAt 7; (e.evHold || e.evAlarm || e.evBell) = true)
      ∧ (let e := (u { Engine.init with evHold := true, evAlarm := true }).engAt 7; (e.evHold || e.evAlarm || e.evBell) = true) := by
  decide

theorem test_meets_EngineCommands :
    (up.atReq 0).takes 0 0x4008 7 1 7 ∧ ((up.atReq 0).engAt 7).run ≠ .running ∧ ((up.setO 0x4000 7 1).atReq 0).o 0x4000 7 ≠ 0
      ∧ ((up.setO 0x4000 7 1).atReq 0).takes 0 0x4008 7 1 7
      ∧ ((upE 0 .init).atReq 0).takes 0 0x4008 7 0 7 ∧ (((upE 0 .init).atReq 0).engAt 7).run = .running
      ∧ (up.atReq 0).takes 0 0x4009 7 0 7 ∧ (up.atReq 0).takes 0 0x4009 7 1 7 ∧ (up.atReq 0).takes 0 0x4009 7 2 7
      ∧ (up.atReq 0).takes 0 0x400A 7 (0xFFFFFFFF : Dw).toNat 7
      ∧ (up.atReq 0).takes 0 0x4100 4095 (0xFFFFFFFF : Dw).toNat 4095
      ∧ ((up.atReq 0).engAt (4095 / 512)).bank ≠ decide (256 ≤ 4095 % 512) ∧ ((up.atReq 0).engAt (4095 / 512)).swapPending = false
      ∧ (up.atReq 0).takes 0 0x4100 3839 (0xFFFFFFFF : Dw).toNat 3839
      ∧ ((up.atReq 0).engAt (3839 / 512)).bank = decide (256 ≤ 3839 % 512) := by
  repeat' (with_reducible apply And.intro)
  all_goals first | decide | exact takes_of (by decide)

/-! ## Witnesses: tenants, the dictionary, winds -/

/-- 31 virtual functions are present. -/
def upV : State := { up with straps := 0x10, vfEnable := true, numVfs := 31 }

theorem test_meets_Negotiation :
    31 < 32 ∧ (upV.atMem 0).takesMem 31 ∧ (upF.atMem 0).takesMem 0 ∧ ((upF.atMem 0).fn 0).ok = true
      ∧ ((upV.atMem 0).fn 31).ok = false ∧ (upV.atMem 0).inReset 31 = false
      ∧ (upV.upTo 0).cfgServed = true ∧ (upV.upTo 0).present 31 = true := by
  repeat' (with_reducible apply And.intro)
  all_goals first | decide | exact ⟨by decide, by decide⟩

theorem test_meets_TenantResets :
    31 < 32 ∧ (upV.atReq 0).takes 0 0x5003 31 1 31 ∧ ((upV.atReq 0).fn 31).rst = .none
      ∧ (upV.atReq 0).takes 0 0x5003 31 2 31
      ∧ (((upV.setFn 31 { Func.init with rst := .quiescing 0 }).upTo 0).fn 31).rst = .quiescing 0
      ∧ ((upV.setFn 31 { Func.init with rst := .quiescing 0 }).upTo 0).tenantDrained 31 = true
      ∧ ((((upD true).setFn 0 { Func.init with rst := .quiescing 1 }).upTo 0).fn 0).rst = .quiescing 1
      ∧ (((upD true).setFn 0 { Func.init with rst := .quiescing 1 }).upTo 0).tenantDrained 0 = false
      ∧ (((upD true).setFn 0 { Func.init with rst := .quiescing 1 }).upTo 0).now < 1
      ∧ (((upV.setFn 31 { Func.init with rst := .resetting }).upTo 0).fn 31).rst = .resetting
      ∧ (upV.upTo 0).cfgServed = true ∧ (upV.upTo 0).present 31 = true ∧ ((upV.upTo 0).fn 31).rst ≠ .resetting
      ∧ (upV.upTo 0).straps.getLsbD 4 = true := by
  repeat' (with_reducible apply And.intro)
  all_goals first | decide | exact takes_of (by decide)

/-- The physical function's dictionary window is busy. -/
def upBusy (r : WinResult) : State := up.setFn 0 { Func.init with win := { Window.init with busy := some r } }

theorem test_meets_DictionaryWindow :
    let r : WinResult := ⟨0, some [1], false, 1, false, false, 0⟩
    let bar : State := { up with start := { up.start with dictBarUntil := 1 } }
    (up.atMem 0).takesMem 0 ∧ (bar.atMem 0).takesMem 0 ∧ (bar.atMem 0).now < (bar.atMem 0).start.dictBarUntil
      ∧ (((up.atMem 0).setFn 0 { (up.atMem 0).fn 0 with win := { ((up.atMem 0).fn 0).win with
          done := false, collided := false, draftPresent := false } }).access 0 0 0 .set 0 0 false).2.resetting 0 = false
      ∧ (up.atMem 0).start.dictBarUntil ≤ (up.atMem 0).now ∧ ((up.atMem 0).fn 0).win.busy = none
      ∧ (((upBusy r).atMem 0).fn 0).win.busy.isSome = true ∧ ((upBusy r).atMem 0).takesMem 0
      ∧ (((upBusy r).upTo 0).fn 0).win.busy = some r
      ∧ (((upBusy { r with wind := true }).upTo 0).fn 0).win.busy = some { r with wind := true } := by
  repeat' (with_reducible apply And.intro)
  all_goals first | decide | exact ⟨by decide, by decide⟩

/-- A wind of the Owner's scope whose snapshot is one draft. -/
def upW (key v : Nat) : State := { up with drafts := [(key, some v)], winds := [⟨0, [(key, some v)], false, []⟩] }

theorem test_meets_Winds :
    31 < 32 ∧ (up.atReq 0).takes 0 0xF000 0 1 0 ∧ (up.atReq 0).takes 0 0xF001 0 1 0 ∧ (up.atReq 0).takes 0 0xF002 0 1 0
      ∧ ((upV.setFn 31 { Func.init with ok := true, accepted := BitVec.allOnes 64 }).atMem 0).takesMem 31
      ∧ (upV.atReq 0).start.dictBarUntil ≤ (upV.atReq 0).now
      ∧ ((upV.setFn 31 { Func.init with ok := true, accepted := BitVec.allOnes 64 }).atMem 0).hasFeat 31 9 = true
      ∧ ((upV.setFn 31 { Func.init with ok := true, accepted := BitVec.allOnes 64 }).atMem 0).start.dictBarUntil
        ≤ ((upV.setFn 31 { Func.init with ok := true, accepted := BitVec.allOnes 64 }).atMem 0).now
      ∧ (up.atReq 0).winding 0 = false ∧ ((upW 0x20010412 200).atReq 0).winding 0 = true ∧ (up.toBeat 0).winds = []
      ∧ ((upW 0x20010412 200).toBeat 0).winds = ⟨0, [(0x20010412, some 200)], false, []⟩ :: []
      ∧ ((upW 0x20010412 200).toBeat 0).windJudge (((upW 0x20010412 200).toBeat 0).windChanges
          ⟨0, [(0x20010412, some 200)], false, []⟩) [0x20010412] = none
      ∧ (((upW 0x20020412 700).setO 0x3400 700 3).toBeat 0).windJudge ((((upW 0x20020412 700).setO 0x3400 700 3).toBeat 0).windChanges
          ⟨0, [(0x20020412, some 700)], false, []⟩) [0x20020412] = some (6, 0x20020412) := by
  repeat' (with_reducible apply And.intro)
  all_goals first | decide | exact takes_of (by decide) | exact ⟨by decide, by decide⟩

/-! ## Witnesses: Narind -/

/-- The port has its link and address 10.0.0.1; client entry 15 is client 7, an Owner that may reset; its H is `h`. -/
def upNr (h : Option Dw) : State :=
  let z := (((up.setO 0x1802 0 0x0A000001).setO 0x1810 15 7).setO 0x1812 15 (blobEnc (List.replicate 32 0x5A))).setO 0x1813 15 2
  ({ z with port := { Port.init with up := true, link := true, session := 0x00123402 } }).setClient 15
    { Client.init with high := h, cache := h.elim [] (fun x => [(x, [1])]) }

/-- The device's own UDP address, and one of a client on its prefix. -/
def own : Nat := mkAddr false 0x0A000001 9414
def from_ : Nat := mkAddr false 0x0A000002 5000

/-- A frame of client 7 with the sequence number 0x131, signed. -/
def signed (op count : Byte) (body : List Byte) : List Byte :=
  let f := [0x4E, 0x52, 1, 0, 0, 7, op, count, 0, 0, 1, 0x31, 0, 0x12, 0x34, 2] ++ beBytes 2 body.length ++ List.replicate 6 0 ++ body
  f ++ nrTag (List.replicate 32 0x5A) f

/-- The body of worked example 10-1: SET 0x2001:0412 to 200 and WIND. -/
def body101 : List Byte :=
  [2, 0, 0, 1, 0x20, 1, 4, 0x12, 0xC8, 0, 0, 0, 3, 0, 0, 1, 0xF0, 0, 0, 0, 1, 0, 0, 0]

theorem test_meets_NarindFrames_port :
    let q (h : Option Dw) : State := (upNr h).nrTo 0
    addrOk from_ = true ∧ addrOk own = true ∧ addrPort own = (q none).o 0x1808 0 ∧ (up.nrTo 0).nrOn from_ own = false
      ∧ (q none).nrOn from_ own = true ∧ (q none).nrEntry 7 = some 15 ∧ (q none).nrEntry 8 = none
      ∧ (q none).port.queue = [] ∧ (q none).port.job = none ∧ (q none).start.dictBarUntil ≤ (q none).now
      ∧ (q none).quiet.code ≠ 2 ∧ (q none).quiet.code ≠ 3 ∧ (q none).o 0x1811 15 = 0
      ∧ bitOf ((q none).o 0x1813 15) 1 = true ∧ (q none).started = true ∧ (q none).resetReq = none
      ∧ ((q none).client 15).newer 0x131 = true ∧ ((q (some 0x131)).client 15).newer 0x131 = false
      ∧ ((q (some 0x131)).client 15).cache.find? (fun y => y.1 == 0x131) = some (0x131, [1])
      ∧ (q none).hopOf from_ = some 0x0A000002 ∧ (q none).hopOf (mkAddr false 0x0B000002 5000) = none
      ∧ (q none).portLive = true ∧ regServed 0x0000 = false
      ∧ ((((q none).setClient 15 { (q none).client 15 with addr := some from_, seen := true }).bump 0x1820 0 1).nrBegin
          ⟨15, from_, own, false, []⟩ [⟨1, 0, 0, [], true⟩]).asleep = false := by decide +kernel

theorem test_meets_NarindFrames_frames :
    let k := ((upNr none).nrTo 0).nrKey 15
    let whole (f : List Byte) : Prop := beAt 0 2 f = 0x4E52 ∧ beAt 4 2 f = 7
      ∧ nrTag k (f.take (f.length - 16)) = f.drop (f.length - 16)
      ∧ beAt 2 1 f = 1 ∧ beAt 16 2 f + 40 = f.length ∧ beAt 12 4 f = 0x00123402 ∧ beAt 8 4 f = 0x131
    (whole (signed 2 0 []) ∧ beAt 6 1 (signed 2 0 []) = 2 ∧ (signed 2 0 []).length = 40 ∧ beAt 7 1 (signed 2 0 []) = 0)
      ∧ (whole (signed 3 0 []) ∧ beAt 6 1 (signed 3 0 []) = 3)
      ∧ (whole (signed 4 0 [0, 0, 0, 3]) ∧ beAt 6 1 (signed 4 0 [0, 0, 0, 3]) = 4 ∧ (signed 4 0 [0, 0, 0, 3]).length = 44
        ∧ beAt 24 4 (signed 4 0 [0, 0, 0, 3]) = 3)
      ∧ (whole (signed 1 2 body101) ∧ beAt 6 1 (signed 1 2 body101) = 1
        ∧ nrParse (beAt 7 1 (signed 1 2 body101)) (((signed 1 2 body101).drop 24).take ((signed 1 2 body101).length - 40))
          = some ([⟨2, 0x2001, 0x412, [0xC8], true⟩, ⟨3, 0xF000, 0, [1], true⟩], [])
        ∧ requestClean (signed 1 2 body101) [⟨2, 0x2001, 0x412, [0xC8], true⟩, ⟨3, 0xF000, 0, [1], true⟩] [] = true
        ∧ (signed 1 2 body101).length ≤ bodyMax from_ + 40 ∧ replyBound [⟨2, 0x2001, 0x412, [0xC8], true⟩, ⟨3, 0xF000, 0, [1], true⟩] ≤ bodyMax from_) := by decide +kernel

theorem test_meets_NarindOperations :
    let z : State := (upNr none).setClient 15 { Client.init with addr := some from_ }
    let q := z.nrTo 0
    let u (op idx el : Nat) (v : List Byte) : State := (q.setJob (some ⟨⟨15, from_, 0, true, nrRec op 0 idx el v⟩, q.o 0x1811 15,
      [⟨op, idx, el, v, true⟩], false, [], none, q.now, []⟩)).upToReq q.now
    let put (op idx el : Nat) (v : List Byte) (d : DOp) : Ans × State :=
      (u op idx el v).access ((u op idx el v).o 0x1811 15) idx el d v.length (beVal v) false
    15 < 16 ∧ q.portLive = true ∧ q.start.dictBarUntil ≤ q.now ∧ q.port.queue = [] ∧ q.port.job = none
      ∧ regServed 0x2001 = false ∧ regServed 0x1504 = true
      ∧ (u 1 0x2001 0x412 []).asleep = false ∧ (u 1 0x1504 0 []).asleep = false ∧ (u 2 0x2001 0x412 [200]).asleep = false
      ∧ (put 2 0x2001 0x412 [200] .nrSet).1.wind = false ∧ (put 2 0x2001 0x412 [200] .nrSet).2.port = (u 2 0x2001 0x412 [200]).port
      ∧ (put 2 0x2001 0x412 [200] .nrSet).2.start.dictBarUntil ≤ (put 2 0x2001 0x412 [200] .nrSet).2.now
      ∧ (u 2 0x2001 0x412 [200]).delayBegun (put 2 0x2001 0x412 [200] .nrSet).2 0x2001 = 0
      ∧ (put 2 0x1504 0 [0] .nrSet).1.wind = false ∧ (put 2 0x1504 0 [0] .nrSet).2.port = (u 2 0x1504 0 [0]).port
      ∧ (put 2 0x1504 0 [0] .nrSet).2.start.dictBarUntil ≤ (put 2 0x1504 0 [0] .nrSet).2.now
      ∧ (u 2 0x1504 0 [0]).delayBegun (put 2 0x1504 0 [0] .nrSet).2 0x1504 = 0
      ∧ (u 3 0xF008 0x412 [1]).asleep = false
      ∧ (put 3 0xF008 0x412 [1] .action).1.wind = false ∧ (put 3 0xF008 0x412 [1] .action).2.port = (u 3 0xF008 0x412 [1]).port
      ∧ (put 3 0xF008 0x412 [1] .action).2.start.dictBarUntil ≤ (put 3 0xF008 0x412 [1] .action).2.now
      ∧ (u 3 0xF008 0x412 [1]).delayBegun (put 3 0xF008 0x412 [1] .action).2 0xF008 = 0
      ∧ (u 3 0xF000 0 [1]).asleep = false ∧ regServed 0xF000 = false
      ∧ (put 3 0xF000 0 [1] .action).1.wind = true ∧ (put 3 0xF000 0 [1] .action).2.port = (u 3 0xF000 0 [1]).port
      ∧ (put 3 0xF000 0 [1] .action).2.winding (q.o 0x1811 15) = true
      ∧ (u 3 0xF000 0 [1]).delayBegun (put 3 0xF000 0 [1] .action).2 0xF000 = 0
      ∧ addrOk from_ = true ∧ (u 4 0x2001 0x412 [0, 0, 0x17, 0x70]).asleep = false
      ∧ (∃ o, (u 4 0x2001 0x412 [0, 0, 0x17, 0x70]).gate ((u 4 0x2001 0x412 [0, 0, 0x17, 0x70]).o 0x1811 15) 0x2001 0x412 .get = .ok o
          ∧ (u 4 0x2001 0x412 [0, 0, 0x17, 0x70]).engRefused 0x2001 o.1 = false)
      ∧ field (beVal [0, 0, 0x17, 0x70]) 0 16 ≤ 6000 ∧ field (beVal [0, 0, 0x17, 0x70]) 0 16 ≠ 0
      ∧ (((q.client 15).subs.filter (fun y => !(y.idx == 0x2001 && y.el == 0x412))).length < 16)
      ∧ ((List.range 16).map (fun k => (q.client k).subs.length)).sum < 64 ∧ (u 5 0x2001 0x412 []).asleep = false := by
  repeat' (with_reducible apply And.intro)
  all_goals first | decide +kernel | exact ⟨_, rfl, by decide +kernel⟩

theorem test_meets_ReportsAndGasp :
    let q (n : Nat) (z : State) : State := ({ z with now := n } : State).nrTo 0
    let k (z : State) : Nat := (z.now - z.port.tickAt) / 8000000
    let g : State := ({ upNr none with gasp := { Gasp.init with sending := true, rounds := 2 }, now := 160000 } : State).upTo 0
    let w := (upNr none).setClient 15 { Client.init with addr := some from_ }
    k (q 7999999 (upNr none)) = 0 ∧ k (q 8000000 (upNr none)) ≠ 0 ∧ (q 8000000 (upNr none)).portLive = true
      ∧ (q 8000000 (upNr none)).fw.regState = 1 ∧ (q 8000000 (upNr none)).asleep = false
      ∧ k (q 8000000 up) ≠ 0 ∧ (q 8000000 up).portLive = false
      ∧ g.gasp.sending = true ∧ g.gasp.rounds < 3 ∧ g.gasp.commitAt + 80000 * g.gasp.rounds ≤ g.now ∧ g.portLive = true
      ∧ (up.upTo 0).gasp.sending = false
      ∧ w.portLive = true ∧ (w.client 15).addr = some from_ ∧ w.srcFor from_ = some own ∧ w.hopOf from_ = some 0x0A000002
      ∧ (smGet (fun _ => none) ({ w with port := { w.port with arp := [(0x0A000002, some 1)] } } : State).port.arp
          (hopKey (addrV6 from_) 0x0A000002)).isSome = true := by decide +kernel

theorem test_meets_PortFrames :
    let u := (upNr none).upTo 0
    let many : State := ({ upNr none with port := { (upNr none).port with echoCount := 100 } } : State).upTo 0
    u.portLive = true ∧ u.asleep = false ∧ 0x0A000001 ≠ 0 ∧ 0x0A000001 = u.o 0x1802 0 ∧ (up.upTo 0).portLive = false
      ∧ (((upNr none).setClient 15 { Client.init with addr := some from_ }).upTo 0).nextHop false 0x0A000002 = true
      ∧ u.port.llConflict = false ∧ 1 ≠ (u.shadow.extractLsb' 16 48).toNat ∧ addrOk from_ = true ∧ addrOk own = true
      ∧ (((upNr none).setClient 15 { Client.init with addr := some (mkAddr true 5 7) }).upTo 0).nextHop true
          5 = false
      ∧ (((upNr none).setClient 15 { Client.init with addr := some (mkAddr true (0x3FA * 2 ^ 118 + 9) 7) }).upTo 0).nextHop true
          (0x3FA * 2 ^ 118 + 9) = true
      ∧ u.linkLocal ≠ 0x3FA * 2 ^ 118 + 9 ∧ u.nrOn from_ own = true ∧ u.nrOn from_ from_ = false
      ∧ u.port.echoCount = 0 ∧ ([] : List Byte).length ≤ 1472
      ∧ ¬ (many.port.echoFrom + 800000000 ≤ many.now ∨ many.port.echoCount = 0) ∧ 100 ≤ many.port.echoCount
      ∧ u.hopOf from_ = some 0x0A000002 ∧ u.hopOf (mkAddr false 0x0B000002 5000) = none
      ∧ u.port.up = true ∧ (State.reset.upTo 0).port.up = false := by decide +kernel

/-! ## Witnesses: Dial, MSI-X, registers, the link -/

/-- A function whose two vectors are enabled; vector 1 pends as `pba` says. -/
def armed (pba : Bool) : Func :=
  { Func.init with msixEn := true, bme := true, v0 := { Vec.init with masked := false }, v1 := { Vec.init with masked := false, pba := pba } }

theorem test_meets_DialAndMsix :
    31 < 32 ∧ (upV.atMem 0).takesMem 31 ∧ 1 < 2 ∧ (up.fn 0).msixEn = false ∧ (up.fn 0).rst ≠ .resetting
      ∧ (let g := (up.setFn 0 { Func.init with dialPend := 4, dialEn := 4 }).fn 0
        g.dialPend &&& g.dialEn ≠ 0 ∧ g.dialB.was = false)
      ∧ up.start.step = 12 ∧ up.start.holdPorst = false ∧ up.start.holdRstn = false ∧ (up.fn 0).dialPend &&& (up.fn 0).dialEn = 0
      ∧ ((up.setFn 0 (armed false)).fn 0).msixEn = true ∧ ((up.setFn 0 (armed false)).fn 0).fmask = false
      ∧ (((up.setFn 0 (armed false)).fn 0).vec 1).masked = false ∧ ((up.setFn 0 (armed false)).fn 0).bme = true
      ∧ (up.setFn 0 (armed false)).quiet.d3Bar = false ∧ (((up.setFn 0 (armed false)).fn 0).vec 1).pba = false
      ∧ (((up.setFn 0 (armed true)).fn 0).vec 1).pba = true
      ∧ ((((up.setFn 0 (armed true)).upTo 0).fn 0).vec 1).pba = true ∧ (((up.setFn 0 (armed true)).upTo 0).fn 0).msixEn = true := by
  repeat' (with_reducible apply And.intro)
  all_goals first | decide | exact ⟨by decide, by decide⟩

/-- R405, R420: an enabled event of the device Dial pulls ALERT_N and raises IRQ_OUT[0]; that of an absent function raises nothing. -/
theorem test_pins :
    let z := up.setFn 0 { up.fn 0 with dialPend := 4, dialEn := 4 }
    let y := up.setFn 1 { up.fn 1 with dialPend := 4, dialEn := 4 }
    z.alertLow = true ∧ z.irqOut 0 = true ∧ z.irqOut 16 = false ∧ y.alertLow = false ∧ y.irqOut 1 = false
      ∧ ({ y with straps := 16, vfEnable := true, numVfs := 1 } : State).irqOut 1 = true
      ∧ ({ z with start := { z.start with level := .l2c, step := 10 } } : State).irqOut 0 = false := by decide

theorem test_meets_RegisterWrites :
    31 < 32 ∧ (upV.atMem 0).takesMem 31 ∧ 127 < 128 ∧ (0xFFFFFFFF : Dw).getLsbD 0 = true
      ∧ (0xFFF1 : Dw).toNat % 16 = 1 ∧ (0x0102 : Dw).toNat % 16 = 2 ∧ (0x0103 : Dw).toNat % 16 = 3
      ∧ (up.atMem 0).takesMem 0 ∧ (up.atMem 0).fromView 0x3000 0 1023 ≠ none
      ∧ (Instr.doorbellWrite 0 0 (bellTo 1152 0)).wf = true ∧ (up.atBell 0).takesMem 0
      ∧ writeFits 0 ⟨0x20000, [0], 0xF, 0, false⟩ = true ∧ regionOf 0x20000 = .reserved
      ∧ writeFits 0 ⟨0xFFFFFC, [0], 0xF, 0, false⟩ = true ∧ regionOf 0xFFFFFC = .aperture
      ∧ writeFits 0 ⟨0x200000, [0], 0xF, 0, false⟩ = true ∧ regionOf 0x200000 = .payload
      ∧ writeFits 0 ⟨0x1FFC - 8, [0, 0, 0], 0xF, 0xF, false⟩ = true ∧ regionOf (0x1FFC - 8) = .global
      ∧ inDictData (0x1FFC - 8) 3 = false ∧ writeFits 0 ⟨0x10000, [0], 0xF, 0, true⟩ = true ∧ regionOf 0x10000 = .dict := by
  repeat' (with_reducible apply And.intro)
  all_goals first | decide | exact ⟨by decide, by decide⟩

theorem test_meets_PcieLink :
    let z (k : Nat) : State := { State.reset with start := { Start.init with step := k } }
    ((z 1).upTo 0).linkCan = false ∧ ((z 2).upTo 0).linkCan = true ∧ ((z 2).upTo 0).cfgServed = false
      ∧ (upV.upTo 0).cfgServed = true ∧ (upV.upTo 0).present 31 = true ∧ (up.upTo 0).present 31 = false ∧ (up.upTo 0).cfgServed = true
      ∧ ((up.setO 0x1404 0 0).upTo 0).o 0x1404 0 = 0 ∧ ((up.setO 0x1404 0 1).upTo 0).o 0x1404 0 = 1
      ∧ ((up.setO 0x1404 0 1).upTo 0).cfgServed = true ∧ (up.upTo 0).quiet.code = 0 ∧ (up.upTo 0).quiet.beginAt = none
      ∧ (({ up with pfD3 := true } : State).upTo 0).pfD3 = true ∧ (({ up with perst := true } : State).upTo 0).perst = true := by
  decide

theorem test_meets_Identification : 31 < 32 ∧ (upV.upTo 0).cfgServed = true ∧ (upV.upTo 0).present 31 = true := by decide

/-! ## Witnesses: resets and the start -/

/-- A reset requested, due at beat 16. -/
def upR (l : Level) (now : Nat) : State := { up with now := now, resetReq := some ⟨l, 6, false, 16, false⟩ }

theorem test_meets_ResetRequests :
    (up.upTo 0).started = true ∧ (up.upTo 0).resetReq = none ∧ (up.atReq 0).started = true ∧ (up.atReq 0).resetReq = none
      ∧ 100 < 101 ∧ 99 < 100 ∧ (up.atReq 0).takes 0 0x1000 0 1 0 ∧ (up.atReq 0).takes 0 0x1000 0 2 0
      ∧ (up.atReq 0).takes 0 0x1000 0 3 0 ∧ ((upR .l2w 0).upTo 0).resetReq = some ⟨.l2w, 6, false, 16, false⟩
      ∧ 600000 < 2 ^ 32 ∧ (up.atReq 0).takes 0 0x1002 0 600000 0 ∧ (up.atReq 0).takes 0 0x1003 0 255 0
      ∧ (({ up.setO 0x1002 0 1 with wdogFrom := some 0, now := 800000 } : State).upTo 0).wdogFrom = some 0
      ∧ 0 + (({ up.setO 0x1002 0 1 with wdogFrom := some 0, now := 800000 } : State).upTo 0).o 0x1002 0 * 800000
        ≤ (({ up.setO 0x1002 0 1 with wdogFrom := some 0, now := 800000 } : State).upTo 0).now
      ∧ (({ up.setO 0x1002 0 1 with wdogFrom := some 0, now := 799999 } : State).upTo 0).now
        < 0 + (({ up.setO 0x1002 0 1 with wdogFrom := some 0, now := 799999 } : State).upTo 0).o 0x1002 0 * 800000
      ∧ (up.upTo 0).asleep = false ∧ (up.upTo 0).wdogFrom = none
      ∧ (({ up with quiet := { Quiet.init with code := 2, stepsDone := true } } : State).upTo 0).asleep = true := by
  repeat' (with_reducible apply And.intro)
  all_goals first | decide | exact takes_of (by decide)

theorem test_meets_LevelResets :
    (up.upTo 0).resetReq = none ∧ ((upR .l2w 15).upTo 0).resetReq = some ⟨.l2w, 6, false, 16, false⟩ ∧ ((upR .l2w 15).upTo 0).now < 16
      ∧ (({ upR .l2w 1760015 with supply := { Supply.init with gaspState := 1 } } : State).upTo 0).gasping = true
      ∧ (({ upR .l2w 1760015 with supply := { Supply.init with gaspState := 1 } } : State).upTo 0).now < 16 + 1760000
      ∧ 16 ≤ ((upR .l1 16).upTo 0).now ∧ ((upR .l1 16).upTo 0).resetReq = some ⟨.l1, 6, false, 16, false⟩
      ∧ ((upR .l2c 16).upTo 0).resetReq = some ⟨.l2c, 6, false, 16, false⟩ ∧ ((upR .l2c 16).upTo 0).gasping = false
      ∧ ((upR .l3 16).upTo 0).quiet.code = 0 ∧ ((upR .l3 16).upTo 0).blk = []
      ∧ (({ upR .l2w 16 with start := { up.start with minimal := true } } : State).upTo 0).bare = true
      ∧ ((upR .l2w 16).upTo 0).bare = false ∧ (∀ k e, ((upR .l1 16).upTo 0).fw.bootWrite ≠ some (k, e))
      ∧ (({ upR .l1 16 with fw := { up.fw with bootWrite := some (1, 17) } } : State).upTo 0).fw.bootWrite = some (1, 17)
      ∧ (({ upR .l1 16 with fw := { up.fw with bootWrite := some (1, 17) } } : State).upTo 0).now < 17
      ∧ (up.upTo 0).backup.present = true := by
  repeat' (with_reducible apply And.intro)
  all_goals first | decide | exact fun k e h => nomatch h

/-- The start is at step `k` of an L1 reset's start. -/
def atStep (k : Nat) : State := { State.reset with start := { Start.init with step := k, boundFrom := some 0 } }

/-- The start is at step `k` of an L2 warm or an L3 reset's start. -/
def atWarm (l : Level) (k : Nat) : State :=
  { State.reset with start := { Start.init with step := k, boundFrom := some 0, level := l, optionsDone := true } }

theorem boot_is {x : Boot × State} {k : Boot} (h : x.1 = k) : ∃ w, x = (k, w) := ⟨x.2, by rw [← h]⟩

/-- A start at the level `l` at step 4 and beat `now`, with `w` warm and `c` cold fails; failed at beat 0 as `failed` says. -/
def failing (l : Level) (now w c : Nat) (failed : Bool) : State :=
  { State.reset with
    now := now
    start := { Start.init with
      step := 4, level := l, failedAt := if failed then some 0 else none, failNext := (.l2c, true), boundFrom := some 0 }
    backup := { State.reset.backup with warmFails := w, coldFails := c } }

/-- A flash whose bank A holds a valid image of four bytes that reads schema 6, with slot A written. -/
def upImg : State :=
  let h := leBytes 4 0x5A465731 ++ leBytes 2 1 ++ leBytes 2 0 ++ leBytes 4 0x00010000 ++ leBytes 4 4 ++ leBytes 2 4 ++ leBytes 2 8
    ++ leBytes 2 6 ++ leBytes 2 0x4096 ++ [0, 0, 0, 0]
  (({ atStep 8 with flash := [] } : State).flashSet (bankBase 0)
    (h ++ leBytes 4 (crc32 h).toNat ++ sha256 [1, 2, 3, 4] ++ [1, 2, 3, 4])).writeSlot 0 []

theorem test_meets_StartSteps_steps :
    ((atStep 0).upTo 0).mayStep 1 = true ∧ ((atStep 1).upTo 0).mayStep 2 = true ∧ ((atStep 2).upTo 0).mayStep 3 = true
      ∧ ((atStep 4).upTo 0).mayStep 5 = true ∧ ((atStep 5).upTo 0).mayStep 6 = true ∧ ((atStep 6).upTo 0).mayStep 7 = true
      ∧ ((atWarm .l2w 2).upTo 0).mayStep 8 = true ∧ ((atStep 8).upTo 0).mayStep 9 = true ∧ ((atStep 9).upTo 0).mayStep 10 = true
      ∧ ((atStep 11).upTo 0).mayStep 12 = true ∧ (up.upTo 0).mayStep 1 = false ∧ (up.upTo 0).mayStep 12 = false
      ∧ ((atStep 9).upTo 0).start.level ≠ .l3 ∧ ((atStep 11).upTo 0).bare = false ∧ ((atStep 11).upTo 0).backup.present = true
      ∧ ((atWarm .l3 9).upTo 0).mayStep 10 = true ∧ ((atWarm .l3 9).upTo 0).bare = false
      ∧ (let w : State := { up with quiet := { Quiet.init with code := 3, stepsDone := true }, time := { up.time with mode := .quiet } }
        (w.upTo 0).quiet.code = 3 ∧ (w.upTo 0).time.mode = .quiet) ∧ ¬ ((atStep 1).upTo 0).quiet.code = 3
      ∧ (let w : State := { atStep 9 with start := { (atStep 9).start with bringup := true } }
        (w.upTo 0).mayStep 10 = true ∧ (w.upTo 0).bare = true)
      ∧ (let w : State := { atStep 11 with start := { (atStep 11).start with bringup := true } }
        (w.upTo 0).mayStep 12 = true ∧ (w.upTo 0).bare = true) := by decide +kernel

theorem test_meets_StartSteps_boot :
    (∃ w, (upImg.upTo 0).boot true = (.running, w)) ∧ (∃ w, ((atStep 8).upTo 0).boot true = (.noImage, w)) :=
  ⟨boot_is (by decide +kernel), boot_is (by decide +kernel)⟩

theorem test_meets_StartSteps_fails :
    ((atStep 11).upTo 0).start.boundFrom = some 0 ∧ ((atStep 11).upTo 0).start.step < 12 ∧ ((atStep 11).upTo 0).bare = false
      ∧ ((atStep 11).upTo 0).start.failedAt = none
      ∧ ((failing .l2w 7999999 0 0 true).upTo 0).start.failedAt = some 0 ∧ ((failing .l2w 7999999 0 0 true).upTo 0).now < 0 + 8000000
      ∧ ((failing .l2w 8000000 0 0 true).upTo 0).start.failedAt = some 0 ∧ 0 + 8000000 ≤ ((failing .l2w 8000000 0 0 true).upTo 0).now
      ∧ ((failing .l2w 8000000 0 0 true).upTo 0).resetReq = none
      ∧ (failing .l2w 0 2 0 false).backup.present = true ∧ (failing .l2w 0 2 0 false).start.level = .l2w
      ∧ 2 ≤ (failing .l2w 0 2 0 false).backup.warmFails ∧ ¬ 2 ≤ (failing .l3 0 1 0 false).backup.warmFails
      ∧ (failing .l2c 0 0 1 false).backup.coldFails < 2 ∧ 2 ≤ (failing .l2c 0 0 2 false).backup.coldFails
      ∧ (failing .l2c 0 0 2 false).bankIsTrial = false
      ∧ (upImg.setBootRec { upImg.bootRec with trial := 0 }).bankIsTrial = true := by
  decide +kernel

/-- A block reset under way. -/
def upBlk (el : Nat) (p : BlkPhase) : State := up.setBlk el (some p)

theorem test_meets_BlockResets_requests :
    blkElement 0 = true ∧ blkElement 0x23 = true ∧ blkElement 0x5F = true ∧ (up.atReq 0).takes 0 0x1006 0x10 1 0x10
      ∧ (up.atReq 0).takes 0 0x1006 0x10 2 0x10 ∧ (up.atReq 0).takes 0 0x1006 0x40 1 0x40
      ∧ ((upBlk 0x10 .resetting).atReq 0).takes 0 0x1006 0x10 2 0x10 ∧ ((upBlk 0x10 .resetting).atReq 0).blkAt 0x10 = some .resetting
      ∧ ((upBlk 0x10 (.waiting 9)).atReq 0).takes 0 0x1006 0x10 1 0x10 ∧ ((upBlk 0x10 (.waiting 9)).atReq 0).blkAt 0x10 = some (.waiting 9)
      ∧ (up.atReq 0).takes 0 0x1006 7 1 7 ∧ (up.atReq 0).takes 0 0x1006 7 2 7 ∧ (up.atReq 0).blkAt 7 = none
      ∧ ((upBlk 7 (.waiting 9)).atReq 0).takes 0 0x1006 7 2 7 ∧ ((upBlk 7 (.waiting 9)).atReq 0).blkAt 7 = some (.waiting 9)
      ∧ (up.atReq 0).blkAt 0x10 = none ∧ (up.atReq 0).gasping = false := by
  repeat' (with_reducible apply And.intro)
  all_goals first | decide | exact takes_of (by decide)

theorem test_meets_BlockResets_phases :
    ((upBlk 0x21 (.waiting 9)).upTo 0).blkAt 0x21 = some (.waiting 9) ∧ ((upBlk 0x21 (.waiting 9)).upTo 0).now < 9
      ∧ ((upBlk 0x21 (.waiting 0)).upTo 0).blkAt 0x21 = some (.waiting 0) ∧ 0 ≤ ((upBlk 0x21 (.waiting 0)).upTo 0).now
      ∧ ((upBlk 0x21 (.waiting 0)).upTo 0).portDeferred = false ∧ ((upBlk 0x21 (.waiting 0)).upTo 0).asleep = false
      ∧ (({ upBlk 0x20 (.waiting 0) with fw := { up.fw with rebootAt := some 8000 } } : State).upTo 0).rebootHeld = true
      ∧ ((upBlk 7 .resetting).upTo 0).blkAt 7 = some .resetting ∧ (((upBlk 7 .resetting).upTo 0).escAt 7).failed = false ∧ (up.upTo 0).blkAt 0x21 ≠ some .resetting
      ∧ ((upBlk 0x17 .resetting).upTo 0).blkAt 0x17 = some .resetting ∧ ((upBlk 0x20 .resetting).upTo 0).blkAt 0x20 = some .resetting
      ∧ ((upBlk 0x21 .resetting).upTo 0).blkAt 0x21 = some .resetting ∧ ((upBlk 0x22 .resetting).upTo 0).blkAt 0x22 = some .resetting
      ∧ (({ up with now := 7999999 } : State).upTo 0).now < (({ up with now := 7999999 } : State).upTo 0).fw.lastBeatOfHeart + 8000000
      ∧ (({ up with now := 8000000 } : State).upTo 0).fw.lastBeatOfHeart + 8000000 ≤ (({ up with now := 8000000 } : State).upTo 0).now
      ∧ (up.upTo 0).fw.regState ≤ 2 ∧ (up.upTo 0).fw.fwState ≠ 1 ∧ ((up.setO 0x1015 0 2).upTo 0).o 0x1015 0 = 2
      ∧ (up.upTo 0).fw.runningFrom = some 0 := by decide

theorem test_meets_CrownAndJtag :
    (up.upTo 0).backup.present = true ∧ (({ up with backup := Backup.cleared false } : State).upTo 0).backup.present = false
      ∧ crc8 ([0x01, 0x00] ++ beBytes 2 0) = 0x16 ∧ crc8 ([0x10, 0x00] ++ beBytes 2 0xB5A4) = 0x1C
      ∧ crc8 ([0x11, 0x00] ++ beBytes 2 0x4A5B) = 0x2E ∧ crc8 ([0x20, 0x40] ++ beBytes 2 0x0009) = 0x77
      ∧ crc8 ([0x02, 0x40] ++ beBytes 2 0) = 0xAA ∧ ((up.upTo 0).crownItem 0x40).isSome = true
      ∧ (({ up with crown := { Crown.init with unlock := 2 } } : State).upTo 0).crown.unlock = 2
      ∧ crownOpcode (BitVec.ofNat 8 255) = false ∧ crownOpcode (BitVec.ofNat 8 0) = false ∧ crc8 [0, 0, 0, 0] ≠ 1
      ∧ 39 < 40 ∧ 16 ≤ 39 ∧ ((up.upTo 0).crownItem 0xFF).isSome = false ∧ 4 < (0xFF : Byte).toNat
      ∧ (up.upTo 0).start.stateCode ≠ 3
      ∧ (({ up with start := { up.start with stateCode := 3 } } : State).upTo 0).start.stateCode = 3 := by decide +kernel

/-! ## Witnesses: firmware, supply, quiet -/

/-- The firmware's state. -/
def upFw (f : Firmware) : State := { up with fw := f }

/-- A confirmed, running firmware. -/
def fw0 : Firmware := { Firmware.init with regState := 1 }

theorem test_meets_FirmwareAndSaves_actions :
    (up.atReq 0).takes 0 0x1505 0 255 0 ∧ (up.atReq 0).fw.fwState = 0 ∧ ((upFw { fw0 with fwState := 1 }).atReq 0).fw.fwState = 1
      ∧ ((upFw { fw0 with fwState := 1, rolledBack := true }).atReq 0).fw.rolledBack = true ∧ (up.atReq 0).fw.rolledBack = false
      ∧ ((upFw { fw0 with stage := 4 }).atReq 0).blkAt 0x20 = none ∧ ((upFw { fw0 with stage := 4 }).atReq 0).takes 0 0x150A 0 1 0
      ∧ ((({ upFw { fw0 with stage := 4 } with blk := [(0x20, some (.waiting 9))] } : State).atReq 0).blkAt 0x20) ≠ none
      ∧ (up.atReq 0).takes 0 0x1506 0 255 0 ∧ (up.atReq 0).takes 0 0x1507 0 1 0 ∧ (up.atReq 0).takes 0 0x1507 0 2 0
      ∧ (up.atReq 0).takes 0 0x1507 0 0 0 ∧ (up.atReq 0).fw.save ≠ 1 ∧ (up.atReq 0).fw.save ≠ 4
      ∧ ((upFw { fw0 with fwState := 1 }).atReq 0).takes 0 0x1507 0 1 0
      ∧ (up.atReq 0).takes 0 0x150A 0 1 0 ∧ (up.atReq 0).takes 0 0x150A 0 2 0 ∧ (up.atReq 0).fw.stage ≠ 4
      ∧ ((upFw { fw0 with stage := 4 }).atReq 0).fw.stage = 4 ∧ ((upFw { fw0 with stage := 4 }).atReq 0).takes 0 0x150A 0 2 0
      ∧ ((upFw { fw0 with stage := 4 }).atReq 0).started = true ∧ ((upFw { fw0 with stage := 4 }).atReq 0).resetReq = none
      ∧ (up.atReq 0).takes 0 0xF003 0 1 0 ∧ (up.atReq 0).staging = false ∧ (up.atReq 0).topGen ≠ 0xFFFFFFFF := by
  repeat' (with_reducible apply And.intro)
  all_goals first | decide +kernel | exact takes_of (by decide)

theorem test_meets_FirmwareAndSaves_data :
    let q := (upFw { fw0 with stage := 2 }).atReq 0
    q.dictOpen = true ∧ q.asleep = false
      ∧ (∃ o : Obj, q.gate 0 0x1508 16383 .set = .ok (16383, o) ∧ o.ty = 12 ∧ o.acc ≠ .rwd ∧ lengthOk 0x1508 o.ty 256 = true)
      ∧ 16383 < 16384 ∧ (List.replicate 256 (0x5A : Byte)).length = 256
      ∧ q.valueOk 0 0x1508 16383 (blobEnc (List.replicate 256 0x5A)) = true ∧ q.engRefused 0x1508 16383 = false
      ∧ q.fw.stage = 2 ∧ 16383 ∉ q.fw.chunks ∧ q.fw.fwState = 0 := by
  repeat' (with_reducible apply And.intro)
  all_goals first | decide +kernel | exact ⟨_, rfl, by decide, by decide, by decide⟩

theorem test_meets_FirmwareAndSaves_timed :
    ((upFw { fw0 with trialEnd := some 1 }).upTo 0).fw.trialEnd = some 1 ∧ ((upFw { fw0 with trialEnd := some 1 }).upTo 0).now < 1
      ∧ ((upFw { fw0 with trialEnd := some 0 }).upTo 0).fw.trialEnd = some 0 ∧ ((upFw { fw0 with trialEnd := some 0 }).upTo 0).fw.regState = 1
      ∧ (up.upTo 0).fw.trialEnd = none ∧ ((upFw { fw0 with save := 1 }).upTo 0).fw.save = 1 ∧ (up.upTo 0).fw.save ≠ 1
      ∧ (({ upImg with fw := { fw0 with save := 4, slot := 1 } } : State).upTo 0).fw.save = 4
      ∧ ((({ upImg with fw := { fw0 with save := 4, slot := 1 } } : State).upTo 0).slotOf
          (({ upImg with fw := { fw0 with save := 4, slot := 1 } } : State).upTo 0).fw.slot).isSome = true := by decide +kernel

/-- The supply monitor's state, at a beat. -/
def upSup (x : Supply) (now : Nat) : State := { up with supply := { x with running := true }, now := now }

/-- Quiet mode's state, at beat 9. -/
def upQ (x : Quiet) : State := { up with quiet := x, now := 9 }

theorem test_meets_SupplyAndQuiet_supply :
    let z (x : Supply) (n : Nat) (idx v : Nat) : State := ((upSup x n).setO idx 0 v).upTo 0
    4095 < 4096 ∧ (up.upTo 0).supply.running = false ∧ ((upSup .init 0).upTo 0).supply.running = true
      ∧ ((upSup { Supply.init with adcSlot := 1 } 0).upTo 0).supply.adcSlot = 1
      -- a feed alarm, at once above its reference; an IBV low alarm set, and one cleared above reference and hysteresis
      ∧ 2 < 3 ∧ (z .init 1600 0x1302 3000).supply.feedHigh ≠ true ∧ (z .init 1600 0x1302 3000).o 0x1302 0 ≠ 0
      ∧ (z .init 1600 0x1302 3000).o 0x1302 0 < 3001 ∧ 0 + ((z .init 1600 0x1302 3000).o 0x1305 0 + 7) / 8 * 8 ≤ (z .init 1600 0x1302 3000).now
      ∧ (z .init 8000 0x1303 2000).supply.ibvLow ≠ true ∧ 1999 < (z .init 8000 0x1303 2000).o 0x1303 0
      ∧ 0 + ((z .init 8000 0x1303 2000).o 0x1305 1 + 7) / 8 * 8 ≤ (z .init 8000 0x1303 2000).now
      ∧ (z { Supply.init with ibvLow := true } 8000 0x1303 2000).supply.ibvLow ≠ false
      ∧ (z { Supply.init with ibvLow := true } 8000 0x1303 2000).o 0x1303 0 + 16 < 2017
      -- a warning in ARMED and in COMMITTED, a recovery in HOLDOFF and after it, a re-arm
      ∧ (z .init 1600 0x1300 2048).o 0x1300 0 ≠ 0 ∧ 2047 < (z .init 1600 0x1300 2048).o 0x1300 0 ∧ (z .init 1600 0x1300 2048).supply.gaspState = 0
      ∧ 0 + ((z .init 1600 0x1300 2048).o 0x1305 0 + 7) / 8 * 8 ≤ (z .init 1600 0x1300 2048).now
      ∧ (z { Supply.init with gaspState := 2 } 1600 0x1300 2048).supply.gaspState ≠ 0 ∧ (z .init 0 0x1300 0).o 0x1300 0 = 0
      ∧ (z { Supply.init with gaspState := 1, holdEnd := 1601 } 1600 0x1300 2048).supply.gaspState = 1
      ∧ (z { Supply.init with gaspState := 1, holdEnd := 1601 } 1600 0x1300 2048).o 0x1300 0
          + (z { Supply.init with gaspState := 1, holdEnd := 1601 } 1600 0x1300 2048).o 0x1301 0 < 4095
      ∧ (z { Supply.init with gaspState := 1, holdEnd := 1601 } 1600 0x1300 2048).now < 1601
      ∧ 1601 ≤ (z { Supply.init with gaspState := 1, holdEnd := 1601 } 1601 0x1300 2048).now
      ∧ (z { Supply.init with gaspState := 2, warnAt := 5 } 800000005 0x1300 2048).supply.gaspState = 2
      ∧ (z { Supply.init with gaspState := 2, warnAt := 5 } 800000005 0x1300 2048).supply.warnAt ≤ 5
      ∧ 5 + 800000000 ≤ (z { Supply.init with gaspState := 2, warnAt := 5 } 800000005 0x1300 2048).now
      ∧ (({ up with gasp := { Gasp.init with sending := true }, now := 1600000 } : State).upTo 0).gasp.commitAt + 1600000
          ≤ (({ up with gasp := { Gasp.init with sending := true }, now := 1600000 } : State).upTo 0).now := by
  repeat' (with_reducible apply And.intro)
  all_goals decide

theorem test_meets_SupplyAndQuiet_quiet :
    (up.atReq 0).takes 0 0x1400 0 1 0 ∧ (up.atReq 0).quiet.code = 0 ∧ (up.atReq 0).quiet.beginAt = none
      ∧ (up.atReq 0).winds = [] ∧ (up.atReq 0).blk = [] ∧ (up.atReq 0).func = [] ∧ (up.atReq 0).fw.migrateDue = false
      ∧ ((upSup { Supply.init with feedLow := true } 0).atReq 0).takes 0 0x1400 0 1 0
      ∧ ((upSup { Supply.init with feedLow := true } 0).atReq 0).supply.feedLow = true
      ∧ ((upQ { Quiet.init with beginAt := some 10 }).upTo 0).quiet.beginAt = some 10
      ∧ ((upQ { Quiet.init with beginAt := some 10 }).upTo 0).now < 10
      ∧ ((upQ { Quiet.init with beginAt := some 9 }).upTo 0).quiet.beginAt = some 9 ∧ 9 ≤ ((upQ { Quiet.init with beginAt := some 9 }).upTo 0).now
      ∧ ((upQ { Quiet.init with beginAt := some 9 }).upTo 0).delayHeld 0x1400 = false
      ∧ (({ (upBusy ⟨0, none, false, 1, false, false, 0x1400⟩) with quiet := { Quiet.init with beginAt := some 0 } } : State).upTo 0).delayHeld 0x1400 = true
      ∧ ((upQ { Quiet.init with beginAt := some 9 }).upTo 0).quiet.d3Waits = false
      ∧ (∀ e, e < 8 → ((upQ { Quiet.init with code := 1 }).upTo 0).row8.undecidedDrain e = false)
      ∧ ((upQ { Quiet.init with code := 1 }).upTo 0).quiet.code = 1 ∧ ((upQ { Quiet.init with code := 1 }).upTo 0).dlv = []
      ∧ (up.upTo 0).quiet.code ≠ 1 ∧ 4 < 5
      ∧ ((upQ { Quiet.init with code := 2, stepsDone := true, latch := [⟨40, 9, 0⟩] }).upTo 0).quiet.code = 2
      ∧ (((upQ { Quiet.init with code := 2, stepsDone := true, latch := [⟨40, 9, 0⟩] }).setO 0x2006 40 1 |>.setO 0x2001 40 220 |>.setO 0x1402 0 200).upTo 0).wakes 40 = true
      ∧ ((upQ { Quiet.init with code := 3, stepsDone := true }).upTo 0).quiet.code = 3
      ∧ (up.upTo 0).fw.regState ≠ 4 ∧ ((upFw { Firmware.init with regBackTo := 1 }).upTo 0).fw.regState = 4
      ∧ ((upFw { Firmware.init with regBackTo := 1 }).upTo 0).fw.regBackTo ≠ 4 := by
  repeat' (with_reducible apply And.intro)
  all_goals first | decide | exact takes_of (by decide)

/-! ## Witnesses: the tandem link, faults, the chronograph -/

/-- A device whose Owner has granted TANDEM, its tandem state given. -/
def upL (x : Tandem) : State := { up.setO 0x1900 0 1 with tdm := x }

/-- Lanes UP with the partner present. -/
def lanes2 : Tandem := { Tandem.init with lanes := 2, blockLock := true, seen := true, present := true }

/-- A header of a lane frame of the given TYPE and body, with its CRC-32. -/
def hdr (kind : Byte) (lseq : Dw) (body : List Byte) : LaneHdr :=
  ⟨kind, 0, body.length, lseq, 0, crc32 (laneHead kind 0 body.length lseq 0 ++ body)⟩

theorem test_meets_TandemFrames :
    let good (h : LaneHdr) (kind : Byte) (body : List Byte) : Prop := (h.kind = kind ∨ laneKinds.contains h.kind = false)
      ∧ h.kind = kind ∧ h.len ≤ 80 ∧ h.len = body.length ∧ crc32 (laneHead h.kind h.flags h.len h.lseq h.credit ++ body) = h.crc
    let met (x : Tandem) : State := let z := (upL x).upTo 0
      { z with tdm := { z.tdm with laneHeardAt := z.now, heardAt := z.now, present := true } }.takeCredit 0
    ((upL lanes2).upTo 0).tdm.lanes = 2 ∧ ((upL lanes2).upTo 0).tdm.blockLock = true ∧ ((upL lanes2).upTo 0).linkOn = true
      ∧ ((upL lanes2).upTo 0).tdm.present = true ∧ (up.upTo 0).tdm.lanes = 0
      ∧ ((upL { lanes2 with lanes := 1 }).upTo 0).tdm.lanes = 1 ∧ ((upL { lanes2 with lanes := 1 }).upTo 0).tdm.blockLock = true
      ∧ 1152 < 4096 ∧ 255 < 256 ∧ (List.replicate 64 (0 : Byte)).length ≤ 64 ∧ 7 < 8 ∧ (List.replicate 19 (⟨4095, 7, true⟩ : MirrorEntry)).length ≤ 19
      -- a valid frame of each shape of body, and two that do not hold
      ∧ good (hdr 0x12 1 []) 0x12 [] ∧ good (hdr 0x11 1 (mirrorBytes ⟨4095, 7, true⟩)) 0x11 (mirrorBytes ⟨4095, 7, true⟩)
      ∧ good (hdr 0x01 0 (helloBody 1 2 3 4 5)) 0x01 (helloBody 1 2 3 4 5) ∧ good (hdr 0x90 1 []) 0x90 []
      ∧ good (hdr 0x10 1 (forwardBody 1152 7 4 false [1, 2, 3, 4])) 0x10 (forwardBody 1152 7 4 false [1, 2, 3, 4])
      ∧ (hdr 0x14 1 []).crc + 1 ≠ crc32 (laneHead 0x14 0 0 1 0) ∧ laneKinds.contains (0x77 : Byte) = false ∧ (0x77 : Byte) ≠ 0x14
      -- the expected, an earlier and a later LSEQ
      ∧ (met lanes2).tdm.lanes = 2 ∧ (1 : Dw) = (met lanes2).tdm.expected
      ∧ lseqBefore 0xFFFFFFFF (met lanes2).tdm.expected = true ∧ (0xFFFFFFFF : Dw) ≠ (met lanes2).tdm.expected
      ∧ lseqBefore 2 (met lanes2).tdm.expected = false ∧ (met { lanes2 with lanes := 1 }).tdm.lanes ≠ 2
      ∧ (upL { lanes2 with frozenIn := true }).tdm.frozenIn = true ∧ (upL lanes2).tdm.frozenIn = false := by
  repeat' (with_reducible apply And.intro)
  all_goals decide +kernel

/-- A pair frame of the given kind, with its SFD and CRC-16. -/
def pairOf (kind : Nat) : PairFrame := ⟨0xD5, 0, 5, 6, crc16Bytes (pairMid kind 0 5 6)⟩

theorem test_meets_TandemTimersAndPair :
    let z (x : Tandem) (n : Nat) : State := ({ upL x with now := n } : State).upTo 0
    (z lanes2 0).linkOn = true ∧ (z lanes2 0).o 0x1900 0 = 1 ∧ ((up.setO 0x1900 0 0).upTo 0).o 0x1900 0 = 0
      -- HELLO, HEARTBEAT and the pair's own: the first, one overdue, one not
      ∧ (z { lanes2 with lanes := 1 } 0).tdm.lanes = 1 ∧ (z { lanes2 with lanes := 1 } 0).tdm.blockLock = true
      ∧ (z { lanes2 with lanes := 1 } 0).tdm.helloAt = none
      ∧ (z { lanes2 with lanes := 1, helloAt := some 0 } 8000000).tdm.helloAt = some 0
      ∧ 0 + (z { lanes2 with lanes := 1, helloAt := some 0 } 8000000).o 0x1902 0 ≤ (z { lanes2 with lanes := 1, helloAt := some 0 } 8000000).now
      ∧ ¬ 0 + (z { lanes2 with lanes := 1, helloAt := some 0 } 0).o 0x1902 0 ≤ (z { lanes2 with lanes := 1, helloAt := some 0 } 0).now
      ∧ (z lanes2 0).tdm.pairAt = none ∧ ¬ 0 + (z { lanes2 with pairAt := some 0 } 0).o 0x1903 0 ≤ (z { lanes2 with pairAt := some 0 } 0).now
      -- requests not acknowledged
      ∧ (z { lanes2 with unacked := [⟨1, .syncBegin, 8, 0⟩] } 0).tdm.unacked = ⟨1, .syncBegin, 8, 0⟩ :: [] ∧ (z lanes2 0).tdm.unacked = []
      -- the pair: idle or not, a junior that collides, a senior that does not, a clash
      ∧ (z { lanes2 with pairWait := [(1, 0)] } 25600).tdm.pairWait = (1, 0) :: []
      ∧ max ((z { lanes2 with pairWait := [(1, 0)] } 25600).tdm.pairFrom + 25600) 0 ≤ (z { lanes2 with pairWait := [(1, 0)] } 25600).now
      ∧ (z { lanes2 with pairWait := [(1, 0)] } 25599).now < max ((z { lanes2 with pairWait := [(1, 0)] } 25599).tdm.pairFrom + 25600) 0
      ∧ (z lanes2 0).straps.getLsbD 0 = false ∧ ({ upL lanes2 with straps := 1 } : State).straps.getLsbD 0 = true
      ∧ (z { lanes2 with clash := true } 0).tdm.clash = true ∧ (z { lanes2 with backoff := some 0 } 0).tdm.backoff = some 0
      ∧ 0 < ({ upL lanes2 with gasp := { Gasp.init with pairLeft := 3 } } : State).gasp.pairLeft
      -- frames received, whole and not
      ∧ crc16Bytes ([BitVec.ofNat 8 1, 0] ++ beBytes 4 5 ++ beBytes 4 6 ++ [0]) = (pairOf 1).crc
      ∧ crc16Bytes ([BitVec.ofNat 8 2, 0] ++ beBytes 4 5 ++ beBytes 4 6 ++ [0]) = (pairOf 2).crc
      ∧ crc16Bytes ([BitVec.ofNat 8 3, 0] ++ beBytes 4 5 ++ beBytes 4 6 ++ [0]) = (pairOf 3).crc
      ∧ (pairOf 1).crc ≠ (pairOf 2).crc
      -- the partner
      ∧ (z lanes2 24000000).tdm.heardAt + (z lanes2 24000000).o 0x1904 0 * (z lanes2 24000000).o 0x1903 0 ≤ (z lanes2 24000000).now
      ∧ (z lanes2 24000000).tdm.present = true ∧ (up.upTo 0).tdm.present = false
      ∧ (({ State.reset with start := { Start.init with step := 2 } } : State).upTo 0).linkOn = false
      ∧ (up.atReq 0).takes 0 0x1906 0 1 0 ∧ (up.atReq 0).takes 0 0x1907 0 1 0
      ∧ ((upL lanes2).atReq 0).takes 0 0x1907 0 1 0 ∧ ((upL lanes2).atReq 0).linkOn = true ∧ ((upL lanes2).atReq 0).o 0x1900 0 = 1 := by
  repeat' (with_reducible apply And.intro)
  all_goals first | decide +kernel | exact takes_of (by decide)

/-- A trained chronograph with a ring in a 512 MiB device; `q` is queued. -/
def upC (q : List ChrRec) : State := { up with chr := { Chrono.init with queue := q, trained := true, dramMib := 512 } }

/-- The device holds a fault of SEQ 7 as FIRST. -/
def upFault : State := { up with first := some ⟨7, 0x15, 2, 0, 0⟩ }

theorem test_meets_FaultsAndChronograph_scrub :
    scrubOk 0 .uncorrectable 4095 0 = true ∧ scrubOk 1 .uncorrectable 0 0 = true ∧ scrubOk 2 .uncorrectable 0 0 = true
      ∧ scrubOk 3 .uncorrectable 8191 0 = true ∧ scrubOk 4 .uncorrectable 0 0 = true ∧ scrubOk 5 .uncorrectable 4095 0 = true
      ∧ scrubOk 6 .uncorrectable 0 0 = true ∧ scrubOk 7 .uncorrectable 0 0 = true ∧ scrubOk 8 .uncorrectable 0 0 = true
      ∧ scrubOk 9 .uncorrectable 1023 0 = true ∧ scrubOk 10 .uncorrectable 7 511 = true ∧ scrubOk 10 .uncorrectable 7 512 = true
      ∧ scrubOk 0 .clean 0 0 = true ∧ scrubOk 8 .corrected 0 0 = true ∧ scrubOk 1 .copyBad 0 0 = true := by decide

theorem test_meets_FaultsAndChronograph :
    1023 < 1024 ∧ (upFault.atReq 0).takes 0 0x1601 0 7 0 ∧ (upFault.atReq 0).first = some ⟨7, 0x15, 2, 0, 0⟩
      ∧ (upFault.atReq 0).takes 0 0x1601 0 6 0 ∧ (upFault.atReq 0).worst = none
      ∧ (upFault.upTo 0).faultB.list = [] ∧ (upFault.atReq 0).faultB.list = []
      ∧ ((upFault.fault 0x15 0).atReq 0).faultB.list ≠ [] ∧ ((upFault.fault 0x15 0).atReq 0).takes 0 0x1601 0 7 0
      ∧ ((upFault.fault 0x15 0).atReq 0).faultBase.first = some ⟨7, 0x15, 2, 0, 0⟩
      ∧ ((upC []).upTo 0).chr.queue = [] ∧ ((upC [⟨0, 3, 0, []⟩]).upTo 0).chr.queue = ⟨0, 3, 0, []⟩ :: []
      ∧ ((upC [⟨0, 3, 0, []⟩]).upTo 0).chrAvail = true ∧ ((upC [⟨0, 3, 0, []⟩]).upTo 0).chr.selfRefresh = false
      ∧ ((upC [⟨0, 3, 0, []⟩]).upTo 0).start.level ≠ .l2w ∧ ((upC []).atReq 0).takes 0 0x170B 0 1 0
      ∧ ((upC []).atReq 0).takes 0 0x170A 0 1 0 ∧ ((upC []).atReq 0).takes 0 0x170C 0 (2 ^ 64 - 1) 0
      ∧ ((upC []).atReq 0).takes 0 0x1706 0 1 0 ∧ ((upC []).atReq 0).takes 0 0x1706 0 0 0
      ∧ ¬ (BitVec.ofNat 32 1 - ((upC []).atReq 0).oldest).toNat ≤ (((upC []).atReq 0).chr.nextSeq - ((upC []).atReq 0).oldest).toNat
      ∧ (BitVec.ofNat 32 0 - ((upC []).atReq 0).oldest).toNat ≤ (((upC []).atReq 0).chr.nextSeq - ((upC []).atReq 0).oldest).toNat
      ∧ ((upC []).atReq 0).takes 0 0x1710 31 (2 ^ 32 - 1) 31
      ∧ (smGet (fun _ => ChrWin.init) ((upC []).upTo 0).chrWin 31).stale = false
      ∧ (smGet (fun _ => ChrWin.init) (({ upC [] with chrWin := [(31, ⟨[], true⟩)] } : State).upTo 0).chrWin 31).stale = true := by
  repeat' (with_reducible apply And.intro)
  all_goals first | decide | exact takes_of (by decide)

/-! ## The spec's worked examples -/

/-- FIPS 180-4's "abc". -/
theorem test_sha256 : beVal (sha256 [0x61, 0x62, 0x63])
    = 0xba7816bf8f01cfea414140de5dae2223b00361a396177a9cb410ff61f20015ad := by decide +kernel

/-- The counter stands at `c`, for tests of one beat. -/
def atBeat (c : Nat) (s : State) : State := { s with time := { s.time with counter := BitVec.ofNat 64 c } }

/-- Worked example 02-1: A3 at compare 10,160,000 and period 80,000 fires at 10,400,000. -/
def ex021 : State :=
  atBeat 10400000 (((up.setO 0x1210 3 10160000).setO 0x1211 3 80000).setO 0x1212 3 1)

theorem test_alarm_fire_load :
    ∃ t, exec (.alarmFire 0 3) ex021 = .next t ∧ t.o 0x1210 3 = 10480000 ∧ t.o 0x1213 3 = 3
      ∧ (t.srcAt 19).stamp = 10400000 := ⟨_, rfl, by decide +kernel⟩

/-- Worked examples 03-1 and 11-1: target 37 holds S1200 IN_FLIGHT under tag 0x0C4 with buffer 0x0123 of generation 7. -/
def ex031 : State :=
  let d : Delivery := { given 1200 37 0x0C4 false with
    prio := 180, info := { Arrival.none with dbTag := 0x0A31, len := 48, sw := false, buf := some 0x123 } }
  let z := ((atBeat 2001200 upF).setSrc 1200 { Source.init with st := .inFlight, target := some 37 }).setBuf 0x123
    { Buf.init with st := .inTransit, gen := 7, bytes := List.replicate 48 0x5A }
  { z with dlv := [d] }

theorem test_claim64 :
    ∃ t, exec (.claim64 0 0 37 false) ex031 = .next t
      ∧ t.sent.head? = some (.cpl 0 false (leBytes 4 0xAD12C0C4 ++ leBytes 4 0x80070123))
      ∧ (t.tgtAt 37).claimStamp = 0x001E8930 ∧ (t.tgtAt 37).msgInfo = 0x80300A31 ∧ (t.tgtAt 37).lastHandle = 0x80070123
      ∧ t.o 0x7060 37 = 1 := ⟨_, rfl, by decide +kernel⟩

/-- The pair completes the delivery and frees the buffer, whose generation rises. -/
theorem test_complete_free_pair :
    ∃ t u, exec (.claim64 0 0 37 false) ex031 = .next t
      ∧ exec (.completeFreePair 0 0 37 0xAD12C0C4 0x80070123) t = .next u
      ∧ (u.srcAt 1200).st = .idle ∧ (u.bufAt 0x123).st = .free ∧ (u.bufAt 0x123).gen = 8
      ∧ (u.bufAt 0x123).record = some (7, [37]) := ⟨_, _, rfl, rfl, by decide +kernel⟩

/-- A second FREE of the old handle counts DOUBLE_FREE. -/
theorem test_double_free :
    ∃ t, exec (.free 0 0 37 0x80070123) (up.setBuf 0x123 { Buf.init with gen := 8, record := some (7, [37]) }) = .next t
      ∧ (t.tgtAt 37).doubleFree = 1 ∧ t.o 0x7034 0 = 1 ∧ t.o 0x7035 0 = 0 := ⟨_, rfl, by decide +kernel⟩

/-- Worked example 04-1's words. -/
theorem test_engine_add_word :
    wOp 0x30DE0000 = 6 ∧ wDst 0x30DE0000 = 1 ∧ wSrc 0x30DE0000 = 23 ∧ wI 0x30DE0000 = true ∧ wImm 0x30DE0000 = 0
      ∧ wOp 0x30861F40 = 6 ∧ wSrc 0x30861F40 = 1 ∧ wImm 0x30861F40 = 8000 := by decide

theorem test_engine_add :
    ∃ t, exec (.add 0 7 0) (upE 0x30861F40 { Engine.init with w := [(1, 4000000)], pc := 10 }) = .next t
      ∧ (t.engAt 7).reg 1 = 4008000 ∧ (t.engAt 7).pc = 11 := ⟨_, rfl, by decide +kernel⟩

/-- Worked example 04-2: STP DBARG, 0x08. -/
theorem test_engine_stp :
    ∃ t, exec (.stp 0 7 0) (upE 0x78600008 { Engine.init with dbarg := 0x10000060 }) = .next t
      ∧ t.o 0x4100 (512 * 7 + 8) = 0x10000060 := ⟨_, rfl, by decide +kernel⟩

/-- Worked example 05-1: S40 is IN_FLIGHT to target 9 under tag 0x011 when S33, of priority 200, has come. -/
def ex051 : State :=
  let z := (((atBeat 1001000 up).setSrc 40 { Source.init with st := .inFlight, target := some 9, stamp := 1000000, prio := 120 }).setSrc 33
    { Source.init with st := .pending, target := some 9, stamp := 1000500, prio := 200 })
  let z := ((((z.setO 0x3005 9 1).setO 0x2006 33 1).setO 0x2001 33 200).setO 0x2006 40 1).setO 0x2001 40 120
  { z.setTgt 9 { Target.init with tagNext := 0x012 } with dlv := [{ given 40 9 0x011 false with prio := 120 }], now := 100 }

theorem test_claim_supersedes :
    ∃ t, exec (.claim 100 0 9 false) ex051 = .next t ∧ t.sent.head? = some (.cpl 0 false (leBytes 4 0x72008412))
      ∧ (t.srcAt 40).st = .pending ∧ (t.srcAt 40).stamp = 1000000 ∧ (t.srcAt 33).st = .active := ⟨_, rfl, by decide +kernel⟩

/-- The retried COMPLETE is stray. -/
theorem test_stray_complete :
    ∃ t, exec (.complete 0 0 9 0x72008412) up = .next t ∧ t.o 0x7014 9 = 1 ∧ t.o 0x7015 0 = 1 := ⟨_, rfl, by decide +kernel⟩

/-- Worked example 06-1's descriptor; worked example 07-1's descriptor and LEAST_LOAD scores. -/
theorem test_descriptors : descWord 1 240 4 0x101 = 0x7C001101 ∧ descWord 1 240 4 0x02B = 0x7C00102B
    ∧ descWord 1 150 1500 0x07C = 0x6597707C ∧ descWord 3 120 1300 0x005 = 0xDE145005 := by decide

def ex071 : State :=
  { ((up.setO 0x3404 320 256).setO 0x3404 321 128).setO 0x3404 322 233 with
    dlv := [given 1 40 1 true, given 2 40 2 true, given 3 42 1 true] }

theorem test_scores : ex071.score 20 (0, 40) = 768 ∧ ex071.score 20 (1, 41) = 512 ∧ ex071.score 20 (2, 42) = 562 := by decide

/-- Worked example 08-1: PAYLOAD and PULL without CLAIM64 are refused, and granted with it. -/
def ex081 (accept : BitVec 64) : State := (upV.setO 0x5000 5 0x3E7F).setFn 5 { Func.init with accept := accept }

theorem test_features_refused :
    ∃ t, exec (.featuresOkRequest 0 5) (ex081 0xE15) = .next t ∧ (t.fn 5).ok = false ∧ (t.fn 5).refused = true
      ∧ (t.fn 5).reason = 2 ∧ (t.fn 5).bit = 2 := ⟨_, rfl, by decide +kernel⟩

theorem test_features_granted : ∃ t, exec (.featuresOkRequest 0 5) (ex081 0xE1D) = .next t ∧ (t.fn 5).ok = true :=
  ⟨_, rfl, by decide +kernel⟩

/-- Worked example 09-1: CLASS 5 is refused; a group of another tenant fails the wind at 0x2002:0412; the repaired one passes. -/
theorem test_dict_value : ((up.atReq 0).access 0 0x2003 0x412 .set 1 5 false).1.status = 6 := by decide +kernel

theorem test_wind_fails :
    ∃ t, exec (.windBeat 0) ((upW 0x20020412 700).setO 0x3400 700 3) = .next t ∧ t.o 0xF011 0 = 0x106 ∧ t.o 0xF012 0 = 0x20020412
      ∧ t.o 0xF010 0 = 0 := ⟨_, rfl, by decide +kernel⟩

theorem test_wind_passes :
    ∃ t, exec (.windBeat 0) ((upW 0x20020412 7).setO 0xF010 0 41) = .next t ∧ t.o 0x2002 0x412 = 7 ∧ t.o 0xF010 0 = 42
      ∧ t.o 0xF014 0 = 42 ∧ t.drafts = [] := ⟨_, rfl, by decide +kernel⟩

/-- Worked example 10-1: the request's two records, H and the wind; the same frame again is answered from the cache. -/
theorem test_request :
    ∃ t u, exec (.request 0 from_ (signed 1 2 body101) own) (upNr (some 0x130)) = .next t ∧ t.sent = []
      ∧ exec (.windBeat 1) t = .next u ∧ u.o 0x2001 0x412 = 200 ∧ (u.client 15).high = some 0x131
      ∧ (u.sent.head?.map (fun o => match o with | .udp _ _ _ f => f.take 40 | _ => []))
        = some ([0x4E, 0x52, 1, 0, 0, 7, 0x81, 2, 0, 0, 1, 0x31, 0, 0x12, 0x34, 2, 0, 0x10, 0, 0, 0, 0, 0, 0,
            2, 0, 0, 0, 0x20, 1, 4, 0x12, 3, 0, 0, 0, 0xF0, 0, 0, 0]) :=
  ⟨_, _, rfl, by decide +kernel, rfl, by decide +kernel⟩

theorem test_request_duplicate :
    ∃ t, exec (.request 0 from_ (signed 1 2 body101) own) (upNr (some 0x131)) = .next t
      ∧ t.sent.head? = some (.udp own from_ 0x0A000002 [1]) ∧ t.o 0x1822 0 = 1 ∧ t.winds = [] := ⟨_, rfl, by decide +kernel⟩

/-- Worked example 11-1: a CLAIM read without all its bytes claims nothing and counts. -/
theorem test_payload_read_foreign :
    ∃ t, exec (.payloadRead 0 0 ⟨0x200000, 2, 0xF, 0xF⟩) up = .next t ∧ t.sent.head? = some (.cpl 0 false (List.replicate 8 0))
      ∧ t.o 0x7036 0 = 1 := ⟨_, rfl, by decide +kernel⟩

/-- Table 09-10: the identity objects. -/
theorem test_identity :
    (State.reset.access 0 0x0001 0 .get 0 0 false).1.value = some [0x96, 0x40]
      ∧ (State.reset.access 0 0x0007 0 .get 0 0 false).1.value = some [0, 0x10, 0, 4, 0, 4, 0x20, 8] := by decide +kernel

/-- Worked example 12-1, start 4: the third warm fail asks for a cold reset, escalated; the history takes 0x0056_0A0B. -/
theorem test_start_fails :
    ∃ t u, exec (.startTimeout 1600000000) (failing .l2w 1600000000 2 0 false) = .next t ∧ t.backup.warmFails = 0
      ∧ exec (.startFailedReset 1608000000) t = .next u
      ∧ u.resetReq = some ⟨.l2c, 0x0B, true, 1608000016, false⟩ := ⟨_, _, rfl, by decide +kernel, rfl, by decide +kernel⟩

theorem test_reset_history :
    ∃ t, exec (.levelResetStart 0) { up with
        backup := { up.backup with resetCount := 0x55 }, resetReq := some ⟨.l2c, 0x0B, true, 0, false⟩ } = .next t
      ∧ t.backup.history.head? = some 0x00560A0B ∧ t.backup.resetCount = 0x56 := ⟨_, rfl, by decide +kernel⟩

/-- Worked example 13-1, frame 3: the unlocked LATCH_SET changes the latch and requests the L2 cold reset 16 beats on. -/
theorem test_latch_set :
    ∃ t, exec (.latchSet 0 ⟨0x40, 0x0009, 0x77, false⟩) { up with crown := { Crown.init with unlock := 2 } } = .next t
      ∧ t.backup.latch = 9 ∧ t.crown.result = 0 ∧ t.resetReq = some ⟨.l2c, 5, false, 16, false⟩ := ⟨_, rfl, by decide +kernel⟩

theorem test_latch_locked :
    ∃ t, exec (.latchSet 0 ⟨0x40, 0x0009, 0x77, false⟩) up = .next t ∧ t.backup.latch = 0 ∧ t.crown.result ≠ 0 := ⟨_, rfl, by decide +kernel⟩

/-- Worked example 17-1: three faults of classes 1, 2 and 4; FAULT_CLEAR 2 finds nothing, FAULT_CLEAR 1 empties FIRST. -/
def ex171 : State := (((up.fault 0x01 3).endBeat.fault 0x15 0x21C).endBeat.fault 0x31 4).endBeat

/-- R399, R406: two faults of one beat, the higher code found first: FIRST and the older record take the lower code. -/
theorem test_fault_order :
    let z := ((upC []).fault 0x31 4).fault 0x01 3
    z.first = some ⟨1, 0x01, 1, 3, z.cnt⟩ ∧ z.worst = some ⟨2, 0x31, 4, 4, z.cnt⟩ ∧ z.multi = true
      ∧ z.chr.queue.map (fun r => r.body) = [[1, 0, 0, 0, 0x01, 1, 3, 0, 0, 0], [2, 0, 0, 0, 0x31, 4, 4, 0, 0, 0]] := by
  decide +kernel

theorem test_faults :
    ex171.first.map (·.seq) = some 1 ∧ ex171.multi = true ∧ ex171.worst.map (·.seq) = some 3 ∧ ex171.o 0x1602 0 = 3
      ∧ [0, 1, 2, 3].map (ex171.o 0x1603) = [1, 1, 0, 1] := by decide +kernel

theorem test_fault_clear :
    ∃ t u, exec (.faultClear 0 2) ex171 = .next t ∧ t.status = 6 ∧ t.first.map (·.seq) = some 1
      ∧ exec (.faultClear 0 1) t = .next u ∧ u.first = none ∧ u.multi = false ∧ u.worst.map (·.seq) = some 3 :=
  ⟨_, _, rfl, by decide +kernel, by decide +kernel, rfl, by decide +kernel⟩

end Sys2Proof.Tests
end

section
/-! What a read of the identification answers (R2). -/

namespace Sys2Proof.Machine

open Sys2Proof

/-! ## The link in L0 (R255, R361) -/

/-- Where configuration requests are served the link may be up (R296). -/
theorem State.cfgServed_linkCan {u : State} (h : u.cfgServed = true) : u.linkCan = true := by
  simp only [State.cfgServed, State.linkCan, Bool.and_eq_true, Bool.or_eq_true, decide_eq_true_eq] at h ⊢
  obtain ⟨hstart, hperst⟩ := h
  exact ⟨hstart.imp_left (fun hstep => by omega), hperst⟩

/-- The link that reaches L0 sends what waited, in the order of decision, and changes nothing else. -/
theorem State.linkUp_of_linkCan {u : State} (h : u.linkCan = true) :
    u.linkUp = { u with sent := u.txWait.reverse ++ u.sent, txWait := [], linkL0 := true } := by
  simp only [State.linkUp, h, if_true, each_emit]

theorem State.linkUp_linkL0 {u : State} (h : u.linkCan = true) : u.linkUp.linkL0 = true := by
  rw [State.linkUp_of_linkCan h]

/-- A TLP decided while the link is in L0 leaves at once (R274). -/
theorem State.post_of_linkL0 {u : State} (o : Out) (h : u.linkL0 = true) : u.post o = { u with sent := o :: u.sent } :=
  if_pos h

theorem State.linkUp_cfgServed (u : State) : u.linkUp.cfgServed = u.cfgServed := by
  obtain ⟨hstart, hperst⟩ := State.linkUp_same u
  simp only [State.cfgServed, hstart, hperst]

theorem State.linkUp_present {u : State} (h : u.linkCan = true) (fn : Nat) : u.linkUp.present fn = u.present fn := by
  rw [State.linkUp_of_linkCan h]; rfl

/-! ## Configuration requests (R296) -/

theorem exec_configurationRequest (b fn : Nat) (op : CfgOp) (s : State) :
    exec (.configurationRequest b fn op) s = execConfigurationRequest b fn op s := rfl

theorem execConfigurationRequest_next {fn : Nat} (b : Nat) (op : CfgOp) (s : State) (h : fn < 32) :
    execConfigurationRequest b fn op s = .next ((s.upTo b).cfgRequest fn op) :=
  at_runs (decide_eq_true h)

/-- A read of the identification of a present function is answered with its identity, once the link is in L0. -/
theorem State.cfgRequest_readId {u : State} {fn : Nat} (hserved : u.cfgServed = true) (hpresent : u.present fn = true) :
    u.cfgRequest fn .readId = { u.linkUp with sent := .cfgCpl fn false (identity fn) :: u.linkUp.sent } := by
  have hlink : u.linkCan = true := State.cfgServed_linkCan hserved
  calc u.cfgRequest fn .readId
      = u.linkUp.post (.cfgCpl fn false (identity fn)) := by
        simp [State.cfgRequest, hlink, State.linkUp_cfgServed, State.linkUp_present hlink, hserved, hpresent]
    _ = _ := State.post_of_linkL0 _ (State.linkUp_linkL0 hlink)

/-! ## The fields of the identification (R2) -/

theorem identity_vendorId (fn : Nat) : identity fn % 2 ^ 16 = Config.vendorId.toNat := by
  have hv := Config.vendorId.isLt
  unfold identity
  omega

theorem identity_deviceId (fn : Nat) : identity fn / 2 ^ 16 % 2 ^ 16 = if fn = 0 then 0x4096 else 0x4097 := by
  have hv := Config.vendorId.isLt
  unfold identity
  split <;> omega

theorem identity_revisionId (fn : Nat) : identity fn / 2 ^ 32 = 0x01 := by
  have hv := Config.vendorId.isLt
  unfold identity
  split <;> omega

/-- Identity object 0x0000:0000 reads the Vendor ID, to every principal. -/
theorem State.readVal_vendorId (u : State) (pr el : Nat) : u.readVal pr 0x0000 el = Config.vendorId.toNat := rfl

end Sys2Proof.Machine

open Sys2Proof Sys2Proof.Machine

/-- Settles O50: the read is answered with `identity fn`, whose three fields are those of R2. -/
theorem identification : Obligations.Identification := by
  intro s b fn u hfn hserved hpresent
  refine ⟨identity fn, ?_, identity_deviceId fn, identity_revisionId fn, identity_vendorId fn, ?_⟩
  · rw [exec_configurationRequest, execConfigurationRequest_next b _ s hfn, State.cfgRequest_readId hserved hpresent]
  · rw [State.readVal_vendorId, identity_vendorId]

end

section
/-! What the firing of an alarm and the writes of its objects make of the state (R33–R35). -/

namespace Sys2Proof.Machine

open Sys2Proof

/-! ## Firing (R34) -/

/-- What a firing of An brings about once its registers are settled: the edge arrival of its source 16 + n, then the event of
each engine that follows it (R86). -/
def State.alarmRings (n : Nat) (z : State) : State :=
  loop (fun e x => if x.o 0x4004 e = n then x.engEvent e 1 else x) 0 8 (z.edge (16 + n))

theorem State.alarmFire_oneShot {u : State} {n : Nat} (hdue : u.alarmDue n = true) (hperiod : u.o 0x1211 n = 0) :
    u.alarmFire n = (u.setO 0x1212 n 0).alarmRings n := by
  simp only [State.alarmFire, hdue, hperiod, if_true, State.alarmRings]

theorem State.alarmFire_periodic {u : State} {n k : Nat} (hdue : u.alarmDue n = true) (hperiod : 0 < u.o 0x1211 n)
    (hk : k = (u.cnt.toNat - u.o 0x1210 n) / u.o 0x1211 n + 1) :
    u.alarmFire n =
      ((u.setO 0x1210 n ((u.o 0x1210 n + k * u.o 0x1211 n) % 2 ^ 64)).bump 0x1213 n (k - 1)).alarmRings n := by
  simp only [State.alarmFire, hdue, hperiod.ne', if_true, if_false, State.alarmRings, hk]

theorem exec_alarmFire_next (b : Nat) (s : State) {n : Nat} (hn : n < 16) :
    exec (.alarmFire b n) s = .next ((s.upTo b).alarmFire n) :=
  at_runs (decide_eq_true hn)

/-! ## Writes (R33, R35) -/

/-- A write of compare value or period waits for the next beat exactly while the alarm is armed. -/
theorem State.alarmWrite_eq (idx n v : Nat) (u : State) :
    u.alarmWrite idx n v =
      if u.o 0x1212 n = 1 then { u with nextObj := u.nextObj ++ [(pkey idx n, v)] } else u.setO idx n v := by
  simp only [State.alarmWrite, beq_iff_eq]

/-- A dictionary row of areas 0x1000 to 0x1FFF that the dictionary takes, and whose object answers OK. -/
theorem dict_takes_low {s t : State} {b pr idx el v e : Nat} {mm : Bool}
    (hr : (decide (pr < 32) && decide (el < 65536) && decide (v < 256 ^ typeSize (typeOf idx))) = true)
    (h : (s.atReq b).takes pr idx el v e) (hlow : idx < 0x2000) (hact : (s.atReq b).actLow idx e v mm = (0, t)) :
    dict_ b pr idx el v mm s = .next (t.answer 0) := by
  rw [dict_takes hr h, if_pos hlow, hact]

theorem exec_alarmCompareWrite_next {s : State} {b pr n v e : Nat} (hwf : (Instr.alarmCompareWrite b pr n v).wf = true)
    (h : (s.atReq b).takes pr 0x1210 n v e) :
    exec (.alarmCompareWrite b pr n v) s = .next (((s.atReq b).alarmWrite 0x1210 e v).answer 0) :=
  dict_takes_low hwf h (by decide) rfl

theorem exec_alarmPeriodWrite_next {s : State} {b pr n v e : Nat} (hwf : (Instr.alarmPeriodWrite b pr n v).wf = true)
    (h : (s.atReq b).takes pr 0x1211 n v e) :
    exec (.alarmPeriodWrite b pr n v) s = .next (((s.atReq b).alarmWrite 0x1211 e v).answer 0) :=
  dict_takes_low hwf h (by decide) rfl

theorem exec_alarmArmWrite_next {s : State} {b pr n v e : Nat} (hwf : (Instr.alarmArmWrite b pr n v).wf = true)
    (h : (s.atReq b).takes pr 0x1212 n v e) :
    exec (.alarmArmWrite b pr n v) s = .next (((s.atReq b).alarmArm e v).answer 0) :=
  dict_takes_low hwf h (by decide) rfl

theorem State.alarmArm_one (n : Nat) (u : State) :
    u.alarmArm n 1 = { u.setO 0x1213 n 0 with nextObj := u.nextObj ++ [(pkey 0x1212 n, 1)] } := rfl

theorem State.alarmArm_zero (n : Nat) (u : State) : u.alarmArm n 0 = u.setO 0x1212 n 0 := rfl

end Sys2Proof.Machine

open Sys2Proof Sys2Proof.Machine

/-- Settles O9: the two ways an alarm fires, then the write of each of its objects. -/
theorem alarms : Obligations.Alarms := by
  intro s b pr n v e u q fired
  refine ⟨fun hn hdue hperiod => ?oneShot, fun hn hdue hperiod => ?periodic, fun hwf h => ?compare, fun hwf h => ?period,
    fun hwf h => ?arm, fun hwf h => ?disarm⟩
  case oneShot => rw [exec_alarmFire_next b s hn, State.alarmFire_oneShot hdue hperiod]; rfl
  case periodic => rw [exec_alarmFire_next b s hn, State.alarmFire_periodic hdue hperiod rfl]; rfl
  case compare => rw [exec_alarmCompareWrite_next hwf h, State.alarmWrite_eq]
  case period => rw [exec_alarmPeriodWrite_next hwf h, State.alarmWrite_eq]
  case arm => rw [exec_alarmArmWrite_next hwf h, State.alarmArm_one]
  case disarm => rw [exec_alarmArmWrite_next hwf h, State.alarmArm_zero]

end

section
/-! What a read in the doorbell window answers (R44), and how a FREE is judged (R67, R68, Table 03-7). -/

namespace Sys2Proof.Machine

open Sys2Proof

/-! ## Reads in the doorbell window (R44) -/

/-- A zero-length read: one DW with no byte enabled. -/
theorem State.doorbellRd_zeroLength {r : MemRead} (fn : Nat) (u : State) (h : r.dws = 1 ∧ r.beFirst = 0) :
    u.doorbellRd fn r = u.cplZeros fn 4 := by
  obtain ⟨hdws, hbe⟩ := h
  simp [State.doorbellRd, emptyRead, hdws, hbe]

/-- Any other read: its zeros leave and the fault counts after them. -/
theorem State.doorbellRd_faults {r : MemRead} (fn : Nat) (u : State) (h : ¬ (r.dws = 1 ∧ r.beFirst = 0)) :
    u.doorbellRd fn r = (u.cplZeros fn (4 * r.dws)).accessFault fn := by
  have hread : emptyRead r = false := by simpa [emptyRead] using h
  simp [State.doorbellRd, hread]

theorem exec_doorbellRead_next {s : State} {b fn : Nat} {r : MemRead} (hwf : (Instr.doorbellRead b fn r).wf = true)
    (h : (s.atMem b).takesMem fn) : exec (.doorbellRead b fn r) s = .next ((s.atMem b).doorbellRd fn r) :=
  req_takes (rd := true) hwf rfl rfl h

/-! ## The judgement of a FREE (R67, R68, Table 03-7) -/

/-- A handle whose VALID bit is 1 and whose reserved bits are 0. -/
def handleFormed (h : Dw) : Prop := h.getLsbD 31 = true ∧ field h.toNat 24 7 = 0 ∧ field h.toNat 13 3 = 0

/-- The buffer a handle names. -/
def State.handleBuf (u : State) (h : Dw) : Buf := u.bufAt (field h.toNat 0 13)

/-- First row of Table 03-7: the handle is the one under which target `t` holds its buffer. -/
def State.holdsHandle (u : State) (t : Nat) (h : Dw) : Prop :=
  handleFormed h ∧ (u.handleBuf h).st = .owned ∧ (u.handleBuf h).gen = BitVec.ofNat 8 (field h.toNat 16 8)
    ∧ t ∈ (u.handleBuf h).holders

/-- Second row of Table 03-7: the handle and target `t` match the record of the buffer's last holding period. -/
def State.freedHandle (u : State) (t : Nat) (h : Dw) : Prop :=
  handleFormed h ∧ ∃ r, (u.handleBuf h).record = some r ∧ r.1 = BitVec.ofNat 8 (field h.toNat 16 8) ∧ t ∈ r.2

theorem State.freeCore_of_holds {u : State} {t : Nat} {h : Dw} (hheld : u.holdsHandle t h) :
    u.freeCore t h =
      ((u.setBuf (field h.toNat 0 13) { u.handleBuf h with
          holders := (u.handleBuf h).holders.filter (· != t), freed := (u.handleBuf h).freed ++ [t] }).freedBy
        (field h.toNat 0 13) t).checkBuf (some (field h.toNat 0 13)) := by
  obtain ⟨⟨hvalid, hhigh, hlow⟩, howned, hgen, hholder⟩ := hheld
  unfold State.handleBuf at howned hgen hholder ⊢
  simp [State.freeCore, hvalid, hhigh, hlow, howned, hgen, hholder]

/-- The test of `freeCore` for the first row fails for a handle that `t` does not hold. -/
theorem State.holdsTest_eq_false {u : State} {t : Nat} {h : Dw} (hheld : ¬ u.holdsHandle t h) :
    ((h.getLsbD 31 && field h.toNat 24 7 == 0 && field h.toNat 13 3 == 0) && (u.handleBuf h).st == .owned
      && (u.handleBuf h).gen == BitVec.ofNat 8 (field h.toNat 16 8) && (u.handleBuf h).holders.contains t) = false := by
  refine Bool.eq_false_iff.mpr (fun htest => hheld ?_)
  simpa [State.holdsHandle, handleFormed, and_assoc] using htest

/-- An ignored FREE that the record knows counts as double and leaves every buffer. -/
theorem State.freeCore_of_freed {u : State} {t : Nat} {h : Dw} (hheld : ¬ u.holdsHandle t h) (hfreed : u.freedHandle t h) :
    u.freeCore t h = ((u.bump 0x7034 (u.tgtTen t) 1).setTgt t
      { u.tgtAt t with doubleFree := satAdd 32 (u.tgtAt t).doubleFree 1 }).dial 2 (u.tgtTen t) := by
  have htest := State.holdsTest_eq_false hheld
  obtain ⟨⟨hvalid, hhigh, hlow⟩, r, hrecord, hgen, htarget⟩ := hfreed
  unfold State.handleBuf at htest hrecord
  simp only [State.freeCore, htest, hrecord]
  simp [hvalid, hhigh, hlow, hgen, htarget]

/-- Any other ignored FREE counts as foreign and leaves every buffer. -/
theorem State.freeCore_of_foreign {u : State} {t : Nat} {h : Dw} (hheld : ¬ u.holdsHandle t h)
    (hfreed : ¬ u.freedHandle t h) :
    u.freeCore t h = ((u.bump 0x7035 (u.tgtTen t) 1).setTgt t
      { u.tgtAt t with foreignFree := satAdd 32 (u.tgtAt t).foreignFree 1 }).dial 2 (u.tgtTen t) := by
  have htest := State.holdsTest_eq_false hheld
  unfold State.freedHandle handleFormed at hfreed
  unfold State.handleBuf at htest hfreed
  simp only [State.freeCore, htest]
  cases hrecord : (u.bufAt (field h.toNat 0 13)).record with
  | none => simp
  | some r =>
    simp only [Bool.false_eq_true, if_false]
    refine congrArg _ (if_neg (fun hrow => hfreed ?_))
    simpa [hrecord, and_assoc] using hrow

/-- A write to a page of the function's view that is not barred acts on the page's target. -/
theorem State.pageWrite_of_view {u : State} {fn page t : Nat} (f : Nat → State → State)
    (hview : u.fromView 0x3000 fn page = some t) (hbarred : u.pageBarred fn t = false) :
    u.pageWrite fn page f = f t u := by
  simp [State.pageWrite, hview, hbarred]

theorem exec_free_next {s : State} {b fn page t : Nat} (h : Dw) (hpage : page < 1024) (hfn : fn < 32)
    (htakes : (s.atMem b).takesMem fn) (hview : (s.atMem b).fromView 0x3000 fn page = some t)
    (hbarred : (s.atMem b).pageBarred fn t = false) :
    exec (.free b fn page h) s = .next ((s.atMem b).freeCore t h) := by
  rw [← State.pageWrite_of_view (fun t => State.freeCore t h) hview hbarred]
  exact req_takes (rd := false) (by simp [hpage, hfn]) rfl rfl htakes

end Sys2Proof.Machine

open Sys2Proof Sys2Proof.Machine

/-- Settles O20: a zero-length read is answered alone, every other read is an access fault too. -/
theorem doorbellRead : Obligations.DoorbellRead := by
  intro s b fn r q hwf htakes
  refine ⟨fun hlong => ?faults, fun hzero => ?zeroLength⟩
  case faults => rw [exec_doorbellRead_next hwf htakes, State.doorbellRd_faults fn _ hlong]; rfl
  case zeroLength => rw [exec_doorbellRead_next hwf htakes, State.doorbellRd_zeroLength fn _ hzero]; rfl

/-- Settles O22: the three rows of Table 03-7, in their order. -/
theorem free : Obligations.Free := by
  intro s b fn page t h q i x formed good hpage hfn htakes hview hbarred ten y twice freed
  rw [exec_free_next h hpage hfn htakes hview hbarred]
  refine ⟨fun hgood => ?accepted, fun hgood htwice => ?double, fun hgood htwice => ?foreign⟩
  case accepted => rw [State.freeCore_of_holds hgood]; rfl
  case double => rw [State.freeCore_of_freed hgood htwice]
  case foreign => rw [State.freeCore_of_foreign hgood htwice]

end

section
/-! What `exec` answers to any command: it runs exactly the well-formed ones, and what it makes of the state keeps what
`Keeps` names. -/

namespace Sys2Proof.Machine

open Sys2Proof

/-! ## The answer of a command in each shared form (log 14) -/

/-- The outcome `r` of a command met by `s`: the fault `illFormed` unless `ok`, else a state to which `s` keeps. -/
def Answers (ok : Bool) (s : State) (r : Host.Outcome State Fault Refusal) : Prop := ∃ t, r = run ok t ∧ Keeps s t

theorem run_answers {ok : Bool} {s t : State} (ht : Keeps s t) : Answers ok s (run ok t) := ⟨t, rfl, ht⟩

theorem at_answers {ok : Bool} {b : Nat} {f : State → State} {s : State} (hf : ∀ z, Keeps s z → Keeps s (f z)) :
    Answers ok s (at_ b ok f s) :=
  run_answers (hf _ (State.upTo_keeps b s (.refl s)))

theorem nr_answers {ok : Bool} {b : Nat} {f : State → State} {s : State} (hf : ∀ z, Keeps s z → Keeps s (f z)) :
    Answers ok s (nr_ b ok f s) :=
  run_answers (hf _ (State.nrTo_keeps b s (.refl s)))

theorem req_answers {ok : Bool} {b fn : Nat} {i : Instr} {s : State} :
    Answers (ok && decide (fn < 32)) s (req_ b fn ok i s) :=
  run_answers (State.request_keeps i _ (State.atReq_keeps s b (.refl s)))

theorem mem_answers {ok rd : Bool} {b fn : Nat} {i : Instr} {f : State → State} {s : State}
    (hf : ∀ z, Keeps s z → Keeps s (f z)) : Answers (ok && decide (fn < 32)) s (mem_ b fn ok rd i f s) :=
  run_answers (State.memReq_keeps fn rd i f _ hf (State.atReq_keeps s b (.refl s)))

theorem dict_answers {wf mm : Bool} {b pr idx el v : Nat} {s : State}
    (hwf : wf = (decide (pr < 32) && decide (el < 65536) && decide (v < 256 ^ typeSize (typeOf idx)))) :
    Answers wf s (dict_ b pr idx el v mm s) :=
  hwf ▸ run_answers (State.dictRow_keeps pr idx el _ v mm _ (State.atReq_keeps s b (.refl s)))

/-- A dictionary row whose value always fits its object. -/
theorem dict_answers_fits {wf : Bool} {s : State} (b pr idx el v : Nat) (mm : Bool)
    (hv : v < 256 ^ typeSize (typeOf idx)) (hwf : wf = (decide (pr < 32) && decide (el < 65536))) :
    Answers wf s (dict_ b pr idx el v mm s) :=
  dict_answers (by rw [hwf, decide_eq_true hv, Bool.and_true])

/-- An operation of a client entry that carries no value. -/
theorem nrOp_answers_nil {b c addr op idx el : Nat} {s : State} :
    Answers (decide (c < 16) && decide (idx < 65536) && decide (el < 65536)) s (nrOp_ b c addr op idx el [] s) := by
  rw [← Bool.and_true (decide (c < 16) && decide (idx < 65536) && decide (el < 65536))]
  exact nr_answers (fun _ => State.nrRow_keeps c addr op idx el [] _)

theorem wind_answers {b pr : Nat} {page : Bool} {s : State} : Answers (decide (pr < 32)) s (execWind b pr page s) := by
  cases page with
  | true => exact mem_answers (ok := true) (fun _ => State.pageWind_keeps _ _)
  | false => exact dict_answers_fits b pr 0xF000 0 1 false (by decide) (Bool.and_true _).symm

theorem perst_keeps {s0 u : State} (v : Bool) (h : Keeps s0 u) : Keeps s0 { u with perst := v } := ⟨h.pending, h.now, h.sound⟩

/-! ## The answer of every command -/

theorem exec_answers (c : Instr) (s : State) : Answers c.wf s (exec c s) := by
  cases c with
  | bankSupplyLoss | bankSupplyReturn => exact at_answers (fun _ => State.bankSet_keeps _ _ _)
  | glitchFilterChange => exact at_answers (fun _ => State.filterChange_keeps _ _ _ _)
  | stormWindowClose => exact at_answers (fun _ => State.stormClose_keeps _ _)
  | alarmFire => exact at_answers (fun _ => State.alarmFire_keeps _ _)
  | alarmCompareWrite | alarmPeriodWrite | alarmArmWrite | setPending | clearPending | tgtEnableWrite | saveSettings
  | wdogTimeoutWrite | wdogKick | fwConfirm | fwReject | quietEnter | tandemPromote | tandemWake | faultClear
  | chrFlush | chrNewRing | chrMark | chrReadSeqWrite | chrCursorWrite => refine dict_answers ?_; rfl
  | draftDiscard | draftDefaults => refine dict_answers ?_; exact congrArg (· && _) (Bool.and_true _).symm
  | sourceQuarantine b pr el => exact dict_answers_fits b pr 0x2009 el 1 false (by decide) rfl
  | sourceRelease b pr el => exact dict_answers_fits b pr 0x2009 el 0 false (by decide) rfl
  | targetQuarantine b el mm => exact dict_answers_fits b 0 0x3009 el 1 mm (by decide) rfl
  | targetRelease b el => exact dict_answers_fits b 0 0x3009 el 0 false (by decide) rfl
  | tenResetQuiesce b n => exact dict_answers_fits b 0 0x5003 n 1 false (by decide) rfl
  | tenResetIsolate b n => exact dict_answers_fits b 0 0x5003 n 2 false (by decide) rfl
  | resetReqL2Cold b => exact dict_answers_fits b 0 0x1000 0 1 false (by decide) rfl
  | resetReqL2Warm b => exact dict_answers_fits b 0 0x1000 0 2 false (by decide) rfl
  | resetReqL3 b => exact dict_answers_fits b 0 0x1000 0 3 false (by decide) rfl
  | blkResetQuiesce b el mm => exact dict_answers_fits b 0 0x1006 el 1 mm (by decide) rfl
  | blkResetIsolate b el mm => exact dict_answers_fits b 0 0x1006 el 2 mm (by decide) rfl
  | fwStageOpen b => exact dict_answers_fits b 0 0x1507 0 1 false (by decide) rfl
  | fwStageClose b => exact dict_answers_fits b 0 0x1507 0 2 false (by decide) rfl
  | fwStageAbort b => exact dict_answers_fits b 0 0x1507 0 0 false (by decide) rfl
  | fwActivateTrial b => exact dict_answers_fits b 0 0x150A 0 1 false (by decide) rfl
  | fwActivateDefaults b => exact dict_answers_fits b 0 0x150A 0 2 false (by decide) rfl
  | engRunStart b n => exact dict_answers_fits b 0 0x4008 n 1 false (by decide) rfl
  | engRunStop b n => exact dict_answers_fits b 0 0x4008 n 0 false (by decide) rfl
  | engSwapCancel b n => exact dict_answers_fits b 0 0x4009 n 0 false (by decide) rfl
  | engSwapRequest b n => exact dict_answers_fits b 0 0x4009 n 1 false (by decide) rfl
  | engSwapForce b n => exact dict_answers_fits b 0 0x4009 n 2 false (by decide) rfl
  | todLoad b v => exact dict_answers_fits b 0 0x1201 0 v.toNat false v.isLt rfl
  | engDoorbell b n v => exact dict_answers_fits b 0 0x400A n v.toNat false v.isLt rfl
  | progWrite b el v => exact dict_answers_fits b 0 0x4100 el v.toNat false v.isLt rfl
  | pendSet | pendClr | enableSet | enableClr | doorbellWrite | doorbellRead | payloadRead | free | completeFreePair
  | claim | claim64 | complete | thresholdWrite | featAcceptWrite | featuresOkRequest | dialPendSet | dialPendClr
  | dialEnSet | dialEnClr | registerWrite | atomicopRequest | lockedRead => exact req_answers
  | doorbellArrival => exact at_answers (fun _ => State.doorbellArrive_keeps _)
  | escapementIssue => exact at_answers (fun _ => State.escIssue_keeps _ _ _)
  | decisionRetry => exact at_answers (fun _ => State.retryCore_keeps _ _ _)
  | migrationEnd => exact at_answers (fun _ => State.migrateEnd_keeps _ _)
  | syncRelease => exact at_answers (fun _ => State.syncRelease_keeps _ _ _)
  | claimTimeout => exact at_answers (fun _ => State.claimTimeout_keeps _ _ _ _ _)
  | wholeSecond => exact at_answers (fun _ => State.secondReached_keeps _)
  | ppsOutPulseEnd => exact at_answers (fun _ => State.pulseEnd_keeps _)
  | ppsEdge => exact at_answers (fun _ => State.ppsEdge_keeps _)
  | ppsSignalLoss => exact at_answers (fun _ => State.ppsLoss_keeps _)
  | balanceTick => exact at_answers (fun _ => State.balanceTick_keeps _)
  | balSpanEnd => exact at_answers (fun _ => State.spanEnd_keeps _)
  | steeringPeriodBoundary => exact at_answers (fun _ => State.periodBoundary_keeps _)
  | regulatorUpdate => exact at_answers (fun _ => State.regUpdate_keeps _ _ _)
  | busMasterEnableChange => exact at_answers (fun _ => State.setBme_keeps _ _ _)
  | flr => exact at_answers (fun _ => State.flr_keeps _ _)
  | vfEnableChange b =>
    have hup := State.upTo_keeps b s (.refl s)
    exact run_answers (.ite (State.vfSet_keeps _ _ _ hup) hup)
  | tenantResetBeat => exact at_answers (fun _ => State.tenantWaitEnd_keeps _ _)
  | tenantResetEnd => exact at_answers (fun _ => State.tenantResetEnd_keeps _ _)
  | dictGet | dictSet | dictGetDraft => exact mem_answers (ok := true) (fun _ => State.dictCmd_keeps _ _ _ _ _)
  | dictDone => exact at_answers (fun _ => State.dictDone_keeps _ _)
  | wind => exact wind_answers
  | windBeat => exact run_answers (State.nrDrain_keeps _ (State.windAt_keeps _ _ (.refl _)))
  | saveDone => exact at_answers (fun _ => State.saveDone_keeps _ _)
  | request | ping | wake | reset => exact nr_answers (fun _ => State.nrArrive_keeps _ _ _ _)
  | subscribe | nrSet | nrAction => exact nr_answers (fun _ => State.nrRow_keeps _ _ _ _ _ _ _)
  | nrGet | nrGetDraft | unsubscribe => exact nrOp_answers_nil
  | reportTick => exact nr_answers (fun _ => State.reportTick_keeps _)
  | gaspRound => exact at_answers (fun _ => State.gaspRound_keeps _)
  | arpRequest => exact at_answers (fun _ => State.arpAsked_keeps _ _ _)
  | arpReply => exact at_answers (fun _ => State.arpAnswered_keeps _ _ _)
  | neighbourSolicitation => exact at_answers (fun _ => State.ndAsked_keeps _ _ _)
  | neighbourAdvertisement => exact at_answers (fun _ => State.ndAnswered_keeps _ _ _)
  | echoRequest => exact at_answers (fun _ => State.echo_keeps _ _ _ _)
  | unhandledFrame => exact at_answers (fun _ => id)
  | msixPendingSend => exact at_answers (fun _ => State.msixSend_keeps _ _ _)
  | configurationRequest => exact at_answers (fun _ => State.cfgRequest_keeps _ _ _)
  | perstAssert => exact at_answers (fun _ hz => perst_keeps true (State.pcieInterfaceReset_keeps _ hz))
  | hotReset | linkDown => exact at_answers (fun _ => State.linkReset_keeps _)
  | d3hotEntry => exact at_answers (fun _ => State.d3Entry_keeps _)
  | powerOn => exact at_answers (fun _ => State.powerOn_keeps _ _)
  | railBrownout | clockFail => exact at_answers (fun _ => State.requestReset_keeps _ _ _ _)
  | resetPin => exact at_answers (fun _ => State.resetPin_keeps _ _)
  | levelResetStart => exact at_answers (fun _ => State.resetStart_keeps _)
  | watchdog => exact at_answers (fun _ => State.wdogFire_keeps _)
  | regLockup => exact at_answers (fun _ => State.lockup_keeps _)
  | regLockupsClear => exact at_answers (fun _ => State.lockupsClear_keeps _)
  | quiesceDrained => exact at_answers (fun _ => State.blkWaitEnd_keeps _ _)
  | blkTimeout => exact at_answers (fun _ => State.blkTimeout_keeps _ _ _)
  | blockResetEnd => exact at_answers (fun _ => State.blkEnd_keeps _ _)
  | supplyGood => exact at_answers (fun _ => State.supplyGood_keeps _)
  | pllLock => exact at_answers (fun _ => State.pllLock_keeps _ _)
  | optionLoad => exact at_answers (fun _ => State.optionLoad_keeps _)
  | sramBist => exact at_answers (fun _ => State.sramBist_keeps _ _)
  | ddrTraining => exact at_answers (fun _ => State.ddrTraining_keeps _ _)
  | stateTableInit => exact at_answers (fun _ => State.tableInit_keeps _)
  | tailRecovery => exact at_answers (fun _ => State.tailStep_keeps _)
  | regulatorBoot => exact at_answers (fun _ => State.regBoot_keeps _ _)
  | settingsLoad => exact at_answers (fun _ => State.settingsLoad_keeps _)
  | ready => exact at_answers (fun _ => State.ready_keeps _)
  | startTimeout => exact at_answers (fun _ => State.startTimeout_keeps _)
  | startFailedReset => exact at_answers (fun _ => State.failedReset_keeps _)
  | extest | samplePreload | idcode | clamp | highz | bypass => exact at_answers (fun _ => State.jtagScan_keeps _ _)
  | coreReset => exact at_answers (fun _ => State.jtagReset_keeps _)
  | flashSpi => exact at_answers (fun _ => State.flashSpi_keeps _ _ _)
  | nop | read | unlockA | unlockB | latchSet | latchClr | crownUndefinedOpcode =>
    exact at_answers (fun _ => State.crownFrame_keeps _ _ _)
  | crownShortFrame => exact at_answers (fun _ => State.crownShort_keeps _ _ _)
  | vbakLoss => exact at_answers (fun _ => State.vbakLoss_keeps _)
  | mainSupplyLeavesWindow => exact at_answers (fun _ => State.supplyOut_keeps _)
  | fwStageData => exact run_answers (State.dictRow_keeps _ _ _ _ _ _ _ (State.atReq_keeps _ _ (.refl _)))
  | stageEraseDone => exact at_answers (fun _ => State.eraseDone_keeps _ _)
  | stageVerifyDone => exact at_answers (fun _ => State.verifyDone_keeps _)
  | trialWindowEnd => exact at_answers (fun _ => State.trialEnds_keeps _)
  | trialNotRunning => exact at_answers (fun _ => State.trialStuck_keeps _)
  | settingsMigrationDone => exact at_answers (fun _ => State.migrationDone_keeps _ _)
  | adcConversion => exact at_answers (fun _ => State.adc_keeps _ _)
  | supplyAlarm => exact at_answers (fun _ => State.supplyAlarm_keeps _ _ _ _ _)
  | feedWarning => exact at_answers (fun _ => State.feedWarning_keeps _ _ _)
  | feedRecovery => exact at_answers (fun _ => State.feedRecovery_keeps _ _ _)
  | gaspCommit => exact at_answers (fun _ => State.gaspCommit_keeps _)
  | gaspRearm => exact at_answers (fun _ => State.gaspRearm_keeps _ _ _)
  | quietEntryBegin => exact at_answers (fun _ => State.quietBegin_keeps _)
  | quietDrainEnd => exact at_answers (fun _ => State.quietDrained_keeps _ _ _ _)
  | quietWake => exact at_answers (fun _ => State.quietWake_keeps _ _ _)
  | wakeResume => exact at_answers (fun _ => State.wakeResume_keeps _)
  | laneRetrain => exact at_answers (fun _ => State.laneRetrain_keeps _)
  | laneLoss => exact at_answers (fun _ => State.laneLost_keeps _ _ _)
  | hello => exact at_answers (fun _ => State.hello_keeps _ _ _ _ _ _ _)
  | heartbeat => exact at_answers (fun _ => State.laneRx_keeps _ _ _ _ _ (fun _ => State.takeFlags_keeps _ _))
  | nak => exact at_answers (fun _ => State.nak_keeps _ _ _)
  | forward => exact at_answers (fun _ => State.laneReq_keeps _ _ _ _ _ (fun _ => State.ringSource_keeps _ _ _ _ _ _))
  | mirrorState => exact at_answers (fun _ => State.laneReq_keeps _ _ _ _ _ (fun _ => State.setIn_keeps _ _))
  | syncBegin => exact at_answers (fun _ => State.laneReq_keeps _ _ _ _ _ (fun _ => State.syncBegin_keeps _))
  | syncEnd => exact at_answers (fun _ => State.laneReq_keeps _ _ _ _ _ (fun _ => State.syncEnd_keeps _))
  | gasp => exact at_answers (fun _ => State.laneReq_keeps _ _ _ _ _ (fun _ => State.gaspSeen_keeps _ _))
  | syncEntries =>
    exact at_answers (fun _ => State.laneReq_keeps _ _ _ _ _ (fun _ => each_keeps _ _ _ (fun _ _ => State.setIn_keeps _ _)))
  | ack => exact at_answers (fun _ => State.ack_keeps _ _)
  | retransmitTimeout => exact at_answers (fun _ => State.retransmitTimeout_keeps _ _)
  | heartbeatSend => exact at_answers (fun _ => State.heartbeatSend_keeps _)
  | pairHeartbeatSend => exact at_answers (fun _ => State.pairSend_keeps _ _)
  | pairHeartbeat => exact at_answers (fun _ => State.pairHeartbeat_keeps _ _)
  | pairWake => exact at_answers (fun _ => State.pairWake_keeps _ _)
  | pairGasp => exact at_answers (fun _ => State.pairGasp_keeps _ _)
  | pairBackoffEnd => exact at_answers (fun _ => State.pairBackoffEnd_keeps _ _)
  | partnerLoss => exact at_answers (fun _ => State.partnerLoss_keeps _)
  | mirrorResync => exact at_answers (fun _ => State.mirrorResync_keeps _)
  | scrub => exact at_answers (fun _ => State.scrub_keeps _ _ _ _ _)
  | rankRebuildEnd => exact at_answers (fun _ => State.rebuildEnd_keeps _ _)
  | chrWrite => exact at_answers (fun _ => State.chrWrite_keeps _)
  | chrFlushDone => exact at_answers (fun _ => State.chrFlushDone_keeps _)
  | chrWindowRefill => exact at_answers (fun _ => State.refill_keeps _ _)
  | engineEventEntry => exact at_answers (fun _ => State.engEntry_keeps _ _ _)
  | holdTimeout => exact at_answers (fun _ => State.holdTimeout_keeps _ _)
  | load => exact run_answers (State.doLoad_keeps _ _ _ (.refl _))
  | shift => exact run_answers (State.doShift_keeps _ _ _ _ _ _ (.refl _))
  | holdw => exact run_answers (State.doHoldw_keeps _ _ _ _ (.refl _))
  | waitb => exact run_answers (State.doWaitb_keeps _ _ _ _ (.refl _))
  | movi => exact run_answers (State.doMovi_keeps _ _ _ (.refl _))
  | add | and | xor => exact run_answers (State.doAlu_keeps _ _ _ _ _ _ _ _ (.refl _))
  | cmp => exact run_answers (State.doCmp_keeps _ _ _ _ (.refl _))
  | brcc => exact run_answers (State.doBr_keeps _ _ _ _ (.refl _))
  | jmp => exact run_answers (State.doJmp_keeps _ _ _ (.refl _))
  | out => exact run_answers (State.doOut_keeps _ _ _ _ (.refl _))
  | frame => exact run_answers (State.doFrame_keeps _ _ _ (.refl _))
  | evt => exact run_answers (State.doEvt_keeps _ _ _ (.refl _))
  | stp => exact run_answers (State.doStp_keeps _ _ _ _ (.refl _))
  | reti => exact run_answers (State.doReti_keeps _ _ _ (.refl _))
  | halt => exact run_answers (State.doHalt_keeps _ _ _ (.refl _))
  | engineIllegal => exact run_answers (State.doIllegal_keeps _ _ _ (.refl _))
  | vbakRestore => exact at_answers (fun _ => State.vbakRestore_keeps _)
  | resetPinRelease => exact at_answers (fun _ => State.pinRelease_keeps _ _)
  | perstDeassert => exact at_answers (fun _ => State.perstUp_keeps _)
  | d3hotExit => exact at_answers (fun _ => State.d3Exit_keeps _)
  | pcieLinkUp => exact at_answers (fun _ => State.linkUp_keeps _)
  | mgmtLinkChange => exact at_answers (fun _ => State.mgmtLink_keeps _ _ _)
  | laneBlockLock => exact at_answers (fun _ => State.laneLock_keeps _)
  | helloSend => exact at_answers (fun _ => State.helloSend_keeps _)
  | pairGaspCopy => exact at_answers (fun _ => State.pairGaspCopy_keeps _ _)
  | gaspCopyDiscard => exact at_answers (fun _ => State.gaspDiscard_keeps _)
  | holdReleased => exact run_answers (State.holdReleased_keeps _ _ _ _ _ _ (.refl _))
  | selfRefreshExit => exact at_answers (fun _ => State.ddrExit_keeps _)
  | regulatorResume => exact at_answers (fun _ => State.regResume_keeps _)

theorem exec_next_keeps {c : Instr} {s t : State} (h : exec c s = .next t) : c.wf = true ∧ Keeps s t := by
  obtain ⟨z, hz, hkeeps⟩ := exec_answers c s
  rcases run_cases c.wf z with ⟨hrun, hwf⟩ | ⟨hrun, -⟩
  · rw [hz, hrun] at h
    cases h
    exact ⟨hwf, hkeeps⟩
  · rw [hz, hrun] at h
    cases h

theorem exec_next_of_wf {c : Instr} (s : State) (h : c.wf = true) : ∃ t, exec c s = .next t := by
  obtain ⟨t, ht, -⟩ := exec_answers c s
  exact ⟨t, ht.trans (run_ok h)⟩

/-! ## A step (log 1) -/

theorem step_of_front {s : State} {c : Instr} {rest : List Instr} (h : s.pending = c :: rest) :
    step s = exec c { s with pending := rest } := by
  simp only [step, h]

theorem step_of_empty {s : State} (h : s.pending = []) : step s = .next (s.upTo (s.now + 1)) := by
  simp only [step, h]

/-- A step leaves the queue's rest, and does not take a sound state out of its form or time back. -/
theorem step_keeps {s t : State} (h : step s = .next t) : Keeps { s with pending := s.pending.tail } t := by
  cases hpending : s.pending with
  | nil =>
    rw [step_of_empty hpending] at h
    cases h
    have hkeeps := State.upTo_keeps (s.now + 1) s (.refl s)
    exact ⟨hkeeps.pending.trans hpending, hkeeps.now, hkeeps.sound⟩
  | cons c rest =>
    rw [step_of_front hpending] at h
    exact (exec_next_keeps h).2

end Sys2Proof.Machine

open Sys2Proof Sys2Proof.Machine

/-- Settles O1: the two cases of the queue. -/
theorem stepRunsFrontCommand : Obligations.StepRunsFrontCommand :=
  ⟨fun _ _ _ => step_of_front rfl, fun _ => step_of_empty⟩

/-- Settles O2: every command answers `run` of its own well-formedness. -/
theorem wellFormedCompletes : Obligations.WellFormedCompletes := by
  intro c s
  refine ⟨exec_next_of_wf s, fun h => ?_⟩
  obtain ⟨t, ht, -⟩ := exec_answers c s
  rw [ht, h]
  rfl

/-- Settles O3: soundness is part of what every step keeps. -/
theorem stepKeepsSound : Obligations.StepKeepsSound :=
  fun _ _ hsound hstep => (step_keeps hstep).sound hsound

/-- Settles O5: so are the queue's rest and the time. -/
theorem stepQueueAndTime : Obligations.StepQueueAndTime :=
  fun _ _ hstep => ⟨(step_keeps hstep).pending, (step_keeps hstep).now⟩

/-- Settles O6: the command at the front completes, and the queue's rest is well-formed as it was. -/
theorem wellFormedQueueRuns : Obligations.WellFormedQueueRuns := by
  intro s hsound hwf
  have hnext : ∃ t, step s = .next t := by
    cases hpending : s.pending with
    | nil => exact ⟨_, step_of_empty hpending⟩
    | cons c rest =>
      rw [hpending, List.all_cons, Bool.and_eq_true] at hwf
      rw [step_of_front hpending]
      exact exec_next_of_wf _ hwf.1
  obtain ⟨t, ht⟩ := hnext
  have hkeeps := step_keeps ht
  refine ⟨t, ht, hkeeps.sound hsound, hkeeps.pending, ?_⟩
  rw [hkeeps.pending]
  exact List.all_eq_true.mpr fun c hc => List.all_eq_true.mp hwf c (List.mem_of_mem_tail hc)

end

section
/-! What the passing of time leaves (R72, R80). -/

open Sys2Proof Sys2Proof.Machine

/-- Settles O31: all of it is still, and time reaches the beat. -/
theorem timeLeaves : Obligations.TimeLeaves := by
  intro s b t
  have still : Still s t := State.upTo_still b s (.refl s)
  exact ⟨State.now_upTo b s, still.pending, still.eng, still.winds, still.marks, still.bankA, still.bankB, still.doorbells,
    still.crown, still.linkL0, still.drafts, still.start, still.flash, still.fw, still.supply, still.straps, still.fuseA,
    still.fuseB, still.shadow, still.first, still.worst, still.dram, still.port, still.status⟩

end

section
/-! The engine's instructions: what the end of each leaves of the engine (R77–R94, Tables 04-4 and 04-5). -/

namespace Sys2Proof.Machine

open Sys2Proof

/-! ## The end of an instruction -/

theorem State.engAt_engEnd_next (n cycles : Nat) (upd : Engine → Engine) (s : State) :
    (s.engEnd n cycles none upd).engAt n = { upd (s.engAt n) with
      pc := ((upd (s.engAt n)).pc + 1) % 256, fetched := some (s.progWord n ((s.engAt n).pc + 1)),
      fetchedBad := s.wordBad n ((s.engAt n).pc + 1), doneAt := (s.engAt n).doneAt + 8 * cycles } := by
  unfold State.engEnd
  dsimp only
  rw [State.engAt_setEng, State.engAt_upTo]

theorem State.engAt_engEnd_jump (n cycles a : Nat) (upd : Engine → Engine) (s : State) :
    (s.engEnd n cycles (some a) upd).engAt n = { upd (s.engAt n) with
      pc := a % 256, fetched := none, doneAt := (s.engAt n).doneAt + 8 * cycles } := by
  unfold State.engEnd
  dsimp only
  rw [State.engAt_setEng, State.engAt_upTo]

/-- The engine as an instruction meets it: its start is settled, nothing else is touched. -/
def State.begun (u : State) (n start : Nat) : State :=
  u.setEng n { u.engAt n with atFrame := false, doneAt := start }

theorem State.engAt_begun (u : State) (n start : Nat) :
    (u.begun n start).engAt n = { u.engAt n with atFrame := false, doneAt := start } :=
  State.engAt_setEng _ _ _

theorem State.engAt_begun_ne (u : State) (start : Nat) {n m : Nat} (h : m ≠ n) : (u.begun n start).engAt m = u.engAt m :=
  State.engAt_setEng_ne _ _ h

/-- An instruction that executes runs its meaning on the engine begun. -/
theorem State.engDo_begun {s : State} {n b op : Nat} {w : Dw} (f : Engine → Dw → State → State)
    (h : (s.upTo (max b (s.engAt n).doneAt)).executes n op w) :
    s.engDo n b op f = f ((s.upTo (max b (s.engAt n).doneAt)).engAt n) w
      ((s.upTo (max b (s.engAt n).doneAt)).begun n (max b (s.engAt n).doneAt)) :=
  State.engDo_executes b f rfl h

/-! ## Arithmetic (Table 04-4) -/

theorem State.engAt_engWrite (n : Nat) (w r : Dw) (upd : Engine → Engine) (s : State) :
    (s.engWrite n w r upd).engAt n = (s.engEnd n 1 none (fun e => upd (e.setReg (wDst w) r))).engAt n := rfl

theorem State.engAt_engWrite_ne (w r : Dw) (upd : Engine → Engine) (s : State) {n m : Nat} (h : m ≠ n) :
    (s.engWrite n w r upd).engAt m = s.engAt m :=
  State.engAt_engEnd_ne n 1 none (fun e => upd (e.setReg (wDst w) r)) s m h

/-- What an arithmetic instruction of engine `n` leaves: result, flags, PC, and all the rest as it was. -/
def State.Executed (u t : State) (n : Nat) (dst : Option Nat) (r : Dw) (z ng c : Bool) : Prop :=
  (t.engAt n).pc = ((u.engAt n).pc + 1) % 256 ∧ (t.engAt n).run = .running ∧ (t.engAt n).z = z ∧ (t.engAt n).n = ng
    ∧ (t.engAt n).c = c ∧ (t.engAt n).t = (u.engAt n).t ∧ (∀ k, dst = some k → (t.engAt n).reg k = r)
    ∧ (∀ k, dst ≠ some k → (t.engAt n).reg k = (u.engAt n).reg k) ∧ (∀ m, m ≠ n → t.engAt m = u.engAt m)
    ∧ t.port = u.port ∧ t.flash = u.flash

theorem State.engWrite_executed {u : State} {n : Nat} (start : Nat) (w r : Dw) (z ng c : Bool)
    (hrun : (u.engAt n).run = .running) (upd : Engine → Engine)
    (hupd : ∀ e : Engine, e.z = (u.engAt n).z → e.n = (u.engAt n).n → e.c = (u.engAt n).c →
      upd e = { e with z := z, n := ng, c := c }) :
    u.Executed ((u.begun n start).engWrite n w r upd) n (some (wDst w)) r z ng c := by
  have hat := State.engAt_engEnd_next n 1 (fun e => upd (e.setReg (wDst w) r)) (u.begun n start)
  have hflags := hupd (((u.begun n start).engAt n).setReg (wDst w) r)
  rw [State.engAt_begun] at hflags
  rw [← State.engAt_engWrite, State.engAt_begun, hflags rfl rfl rfl] at hat
  obtain ⟨hport, hflash⟩ := State.engEnd_same n 1 none (fun e => upd (e.setReg (wDst w) r)) (u.begun n start)
  unfold State.Executed
  rw [hat]
  refine ⟨rfl, hrun, rfl, rfl, rfl, rfl, fun k hk => ?_, fun k hk => ?_, fun m hm => ?_, hport, hflash⟩
  · cases hk
    exact Engine.reg_setReg _ _ _
  · exact Engine.reg_setReg_ne (u.engAt n) _ _ _ (fun heq => hk (heq ▸ rfl))
  · rw [State.engAt_engWrite_ne _ _ _ _ hm, State.engAt_begun_ne _ _ hm]

theorem State.engEnd_flags_executed {u : State} {n : Nat} (start : Nat) (r : Dw) (c : Bool)
    (hrun : (u.engAt n).run = .running) :
    u.Executed ((u.begun n start).engEnd n 1 none (Engine.flags r c)) n none 0 (r == 0) (r.getLsbD 31) c := by
  have hat := State.engAt_engEnd_next n 1 (Engine.flags r c) (u.begun n start)
  rw [State.engAt_begun] at hat
  obtain ⟨hport, hflash⟩ := State.engEnd_same n 1 none (Engine.flags r c) (u.begun n start)
  unfold State.Executed
  rw [hat]
  refine ⟨rfl, hrun, rfl, rfl, rfl, rfl, fun _ hk => (nomatch hk), fun _ _ => rfl, fun m hm => ?_, hport, hflash⟩
  rw [State.engAt_engEnd_ne _ _ _ _ _ _ hm, State.engAt_begun_ne _ _ hm]

end Sys2Proof.Machine

open Sys2Proof Sys2Proof.Machine

/-- Settles O32: MOVI and the three ALU instructions write a register, CMP writes the flags alone. -/
theorem engineArithmetic : Obligations.EngineArithmetic := by
  intro s b n pins w u e beat x y did hn
  have runs {op : Nat} (h : u.executes n op w) : (u.engAt n).run = .running := h.1
  refine ⟨fun h => ?movi, fun h => ?add, fun h => ?and, fun h => ?xor, fun h => ?cmp⟩
  case movi =>
    refine ⟨_, run_ok (decide_eq_true hn), ?_⟩
    rw [State.doMovi, State.engDo_begun _ h]
    exact State.engWrite_executed _ w _ _ _ _ (runs h) id (by rintro ⟨⟩ rfl rfl rfl; rfl)
  case add =>
    refine ⟨_, run_ok (decide_eq_true hn), ?_⟩
    rw [State.doAlu, State.engDo_begun _ h]
    exact State.engWrite_executed _ w _ _ _ _ (runs h) _ (fun _ _ _ _ => rfl)
  case and =>
    refine ⟨_, run_ok (decide_eq_true hn), ?_⟩
    rw [State.doAlu, State.engDo_begun _ h]
    exact State.engWrite_executed _ w _ _ _ _ (runs h) _ (fun _ _ _ _ => rfl)
  case xor =>
    refine ⟨_, run_ok (decide_eq_true hn), ?_⟩
    rw [State.doAlu, State.engDo_begun _ h]
    exact State.engWrite_executed _ w _ _ _ _ (runs h) _ (fun _ _ _ _ => rfl)
  case cmp =>
    refine ⟨_, run_ok (decide_eq_true hn), ?_⟩
    rw [State.doCmp, State.engDo_begun _ h]
    exact State.engEnd_flags_executed _ _ _ (runs h)

/-- Settles O33: each branch is the jump, or the next address, that its instruction ends with. -/
theorem engineBranches : Obligations.EngineBranches := by
  intro s b n pins w u e hn
  refine ⟨fun h => ?brcc, fun h => ?jmp, fun h => ?reti⟩
  case brcc =>
    refine ⟨_, run_ok (decide_eq_true hn), ?_⟩
    rw [State.doBr, State.engDo_begun _ h]
    split
    · rw [State.engAt_engEnd_jump, State.engAt_begun]
      exact ⟨rfl, rfl, rfl, rfl, rfl, rfl⟩
    · rw [State.engAt_engEnd_next, State.engAt_begun]
      exact ⟨rfl, rfl, rfl, rfl, rfl, rfl⟩
  case jmp =>
    refine ⟨_, run_ok (decide_eq_true hn), ?_⟩
    rw [State.doJmp, State.engDo_begun _ h, State.engAt_engEnd_jump, State.engAt_begun]
    exact ⟨rfl, rfl⟩
  case reti =>
    refine ⟨_, run_ok (decide_eq_true hn), ?_⟩
    rw [State.doReti, State.engDo_begun _ h, State.engAt_engEnd_jump, State.engAt_begun]
    exact ⟨rfl, rfl, rfl, rfl, rfl, rfl, rfl, rfl, rfl⟩

end

section
/-! The waits, events, frames and outputs of an engine (R75, R78, R81–R94). -/

namespace Sys2Proof.Machine

open Sys2Proof

/-! ## Waits and events -/

theorem State.beatOf_begun (u : State) (n start b : Nat) : (u.begun n start).beatOf b = u.beatOf b := rfl

/-- The engine when HOLDW has looked at its wait: a first look clears T. -/
theorem State.engAt_holdwBegun (u : State) (n start : Nat) :
    (if (u.engAt n).waitHold = true then u.begun n start
      else (u.begun n start).setEng n { (u.begun n start).engAt n with t := false }).engAt n
      = { u.engAt n with t := (u.engAt n).waitHold && (u.engAt n).t, atFrame := false, doneAt := start } := by
  cases hwait : (u.engAt n).waitHold with
  | true =>
    rw [if_pos rfl, State.engAt_begun]
    simp [hwait]
  | false =>
    rw [if_neg Bool.false_ne_true, State.engAt_setEng, State.engAt_begun]
    simp [hwait]

/-- An event changes nothing of an engine but the event latches. -/
theorem State.engAt_engEvent (n k : Nat) (s : State) :
    ∃ a b c, (s.engEvent n k).engAt n = { s.engAt n with evHold := a, evAlarm := b, evBell := c } := by
  unfold State.engEvent
  dsimp only
  split
  · exact ⟨_, _, _, rfl⟩
  · split
    · exact ⟨_, _, _, State.engAt_bump _ _ _ _ _⟩
    · rw [State.engAt_setEng]
      split <;> exact ⟨_, _, _, rfl⟩

/-- The engine of a HOLD timeout before its event: T is set and the count of the wait restarts. -/
def State.timedOut (u : State) (n : Nat) : State :=
  (u.bump 0x4022 n 1).setEng n { u.engAt n with
    t := true, holdSince := (u.engAt n).holdSince + 8 * u.o 0x4002 n, doneAt := max u.now (u.engAt n).doneAt }

theorem State.engAt_timedOut (u : State) (n : Nat) : (u.timedOut n).engAt n = { u.engAt n with
    t := true, holdSince := (u.engAt n).holdSince + 8 * u.o 0x4002 n, doneAt := max u.now (u.engAt n).doneAt } :=
  State.engAt_setEng _ _ _

/-- HOLD has been asserted for HOLD_TIMEOUT cycles of this wait. -/
def State.holdPassed (u : State) (n : Nat) : Prop :=
  u.o 0x4002 n ≠ 0 ∧ (u.engAt n).holdSince + 8 * u.o 0x4002 n ≤ u.now

theorem State.holdTimeout_of_passed {u : State} {n : Nat} (hrun : (u.engAt n).run = .running)
    (hwait : (u.engAt n).waitHold = true) (hpassed : u.holdPassed n) :
    u.holdTimeout n = (if (u.engAt n).shifting.isSome then u.timedOut n
      else (u.timedOut n).engEnd n 0 none (fun e => { e with waitHold := false })).engEvent n 0 := by
  obtain ⟨hlim, hnow⟩ := hpassed
  simp [State.holdTimeout, State.timedOut, hrun, hwait, hlim, hnow]

theorem State.holdTimeout_of_not {u : State} {n : Nat}
    (hnot : (u.engAt n).run ≠ .running ∨ (u.engAt n).waitHold = false ∨ ¬ u.holdPassed n) : u.holdTimeout n = u := by
  refine if_pos ?_
  unfold State.holdPassed at hnot
  simp only [Bool.or_eq_true, bne_iff_ne, Bool.not_eq_true', beq_iff_eq, decide_eq_true_eq]
  rcases hnot with hrun | hwait | hpassed
  · exact .inl (.inl (.inl hrun))
  · exact .inl (.inl (.inr hwait))
  · by_cases hlim : u.o 0x4002 n = 0
    · exact .inl (.inr hlim)
    · exact .inr (Nat.lt_of_not_le fun hnow => hpassed ⟨hlim, hnow⟩)

theorem State.o_setProg (el : Nat) (v : Dw) (s : State) : (s.setProg el v).o 0x4100 el = v.toNat :=
  State.o_setO 0x4100 el v.toNat s

theorem State.engAt_setProg (el n : Nat) (v : Dw) (s : State) : (s.setProg el v).engAt n = s.engAt n := rfl

theorem State.engIdle_run (n : Nat) (how : EngRun) (s : State) : ((s.engIdle n how).engAt n).run = how := by
  obtain ⟨_, hidle⟩ := State.engAt_engIdle n how s
  rw [hidle]
  dsimp only
  split <;> rfl

theorem Engine.takeEvent_isSome {e : Engine} (h : (e.evHold || e.evAlarm || e.evBell) = true) :
    e.takeEvent = some (if e.evHold then 1 else if e.evAlarm then 2 else 3,
      { e with evHold := false, evAlarm := e.evHold && e.evAlarm, evBell := (e.evHold || e.evAlarm) && e.evBell }) := by
  unfold Engine.takeEvent
  cases hh : e.evHold <;> cases ha : e.evAlarm <;> simp_all

theorem State.engEntry_takes {s : State} {n b : Nat} (hrun : ((s.upTo (max b (s.engAt n).doneAt)).engAt n).run = .running)
    (hout : ((s.upTo (max b (s.engAt n).doneAt)).engAt n).inHandler = false) {v : Nat} {x : Engine}
    (hevent : ((s.upTo (max b (s.engAt n).doneAt)).engAt n).takeEvent = some (v, x)) :
    (s.engEntry n b).engAt n = { x with
      svZ := x.z, svN := x.n, svC := x.c, svT := x.t, retPc := x.pc, susp := x.shifting, shifting := none,
      resume := false, inHandler := true, waitHold := false, waitBeat := false, waitUntil := none, pc := v,
      fetched := none, doneAt := max b (s.engAt n).doneAt + 8 } := by
  simp only [State.engEntry, hrun, hout, hevent]
  exact State.engAt_setEng _ _ _

end Sys2Proof.Machine

open Sys2Proof Sys2Proof.Machine

/-- Settles O34: what each wait, its release and its timeout make of the engine. -/
theorem engineWaits : Obligations.EngineWaits := by
  intro s b n pins w din k hold d u e beat h x passed hn
  refine ⟨fun hw => ?holds, fun hw => ?goesOn, fun hw hreg => ?waitReg, fun hw himm hpos hfirst => ?waitImm,
    fun hrun hwait hshift => ?released, fun hrun hwait hpassed hshift => ?timeoutHoldw,
    fun hrun hwait hpassed hshift => ?timeoutShift, fun hnot => ?noTimeout⟩
  case holds =>
    refine ⟨_, run_ok (decide_eq_true hn), ?_⟩
    rw [State.doHoldw, State.engDo_begun _ hw]
    dsimp only
    rw [if_pos rfl, State.engAt_setEng, State.engAt_holdwBegun]
    exact ⟨rfl, rfl, rfl⟩
  case goesOn =>
    refine ⟨_, run_ok (decide_eq_true hn), ?_⟩
    rw [State.doHoldw, State.engDo_begun _ hw]
    dsimp only
    rw [if_neg Bool.false_ne_true, State.engAt_engEnd_next, State.engAt_holdwBegun]
    exact ⟨rfl, rfl⟩
  case waitReg =>
    refine ⟨_, run_ok (decide_eq_true hn), ?_⟩
    rw [State.doWaitb, State.engDo_begun _ hw]
    dsimp only
    rw [hreg, if_neg Bool.false_ne_true, State.beatOf_begun]
    split
    · rw [State.engAt_engEnd_next, State.engAt_begun]
      exact ⟨rfl, rfl⟩
    · rw [State.engAt_setEng, State.engAt_begun]
      exact ⟨rfl, rfl⟩
  case waitImm =>
    refine ⟨_, run_ok (decide_eq_true hn), ?_⟩
    rw [State.doWaitb, State.engDo_begun _ hw]
    dsimp only
    rw [himm, if_pos rfl, show (u.engAt n).waitUntil = none from hfirst, Option.getD_none, if_neg (by omega),
      State.engAt_setEng, State.engAt_begun]
    exact ⟨rfl, rfl, rfl⟩
  case released =>
    refine ⟨_, run_ok (decide_eq_true hn), ?_⟩
    have hdone : s.holdReleased n b din k hold
        = (h.setEng n { x with doneAt := (b / 8 + 2) * 8 }).engEnd n 1 none (fun e => { e with waitHold := false }) := by
      simp [State.holdReleased, hrun, hwait, hshift, h, x]
    rw [hdone, State.engAt_engEnd_next, State.engAt_setEng]
    exact ⟨rfl, rfl, rfl⟩
  case timeoutHoldw =>
    refine ⟨_, at_runs (decide_eq_true hn), ?_⟩
    obtain ⟨_, _, _, hevent⟩ :=
      State.engAt_engEvent n 0 ((h.timedOut n).engEnd n 0 none (fun e => { e with waitHold := false }))
    rw [State.holdTimeout_of_passed hrun hwait hpassed, if_neg (by simp [hshift, x]), hevent, State.engAt_engEnd_next,
      State.engAt_timedOut]
    exact ⟨rfl, rfl, rfl⟩
  case timeoutShift =>
    refine ⟨_, at_runs (decide_eq_true hn), ?_⟩
    obtain ⟨_, _, _, hevent⟩ := State.engAt_engEvent n 0 (h.timedOut n)
    rw [State.holdTimeout_of_passed hrun hwait hpassed, if_pos (by simp [hshift, x]), hevent, State.engAt_timedOut]
    exact ⟨rfl, hwait, rfl, hshift⟩
  case noTimeout => exact (at_runs (decide_eq_true hn)).trans (congrArg _ (State.holdTimeout_of_not hnot))

/-- Settles O37: the event taken is the first latched one in the order of R87. -/
theorem engineEventEntry : Obligations.EngineEventEntry := by
  intro s b n u e hn hrun hout hlatched
  refine ⟨_, at_runs (decide_eq_true hn), ?_⟩
  rw [State.engEntry_takes hrun hout (Engine.takeEvent_isSome hlatched)]
  exact ⟨rfl, rfl, rfl, rfl, rfl, rfl, rfl, rfl, rfl, rfl, rfl, rfl, rfl⟩

/-- Settles O36: each output is what its instruction leaves after its last cycle; HALT and an illegal word idle the engine. -/
theorem engineOutputs : Obligations.EngineOutputs := by
  intro s b n pins w u e beat v x hn
  refine ⟨fun h => ?out, fun h => ?evt, fun h => ?stp, fun h => ?halt, fun hrun hshift hword hillegal hparity => ?illegal⟩
  case out =>
    refine ⟨_, run_ok (decide_eq_true hn), ?_⟩
    rw [State.doOut, State.engDo_begun _ h]
    refine ⟨State.o_setO _ _ _ _, ?_⟩
    rw [State.engAt_setO, State.engAt_engEnd_next, State.engAt_begun]
    rfl
  case evt => exact (run_ok (decide_eq_true hn)).trans (congrArg _ (State.engDo_begun _ h))
  case stp =>
    refine ⟨_, run_ok (decide_eq_true hn), ?_⟩
    rw [State.doStp, State.engDo_begun _ h]
    refine ⟨?_, State.o_setProg _ _ _⟩
    rw [State.engAt_setProg, State.engAt_engEnd_next, State.engAt_begun]
    rfl
  case halt =>
    refine ⟨_, run_ok (decide_eq_true hn), ?_⟩
    rw [State.doHalt, State.engDo_begun _ h]
    obtain ⟨stale, hidle⟩ := State.engAt_engIdle n .halted
      ((u.begun n (max b (s.engAt n).doneAt)).engEnd n 1 none id)
    rw [State.engAt_engEnd_next, State.engAt_begun] at hidle
    rw [hidle]
    cases hswap : e.swapPending <;> simp [hswap, Engine.swap, u, e] 
  case illegal =>
    refine ⟨(run_ok (decide_eq_true hn)).trans (congrArg _ ?_), State.engIdle_run n .faulted u⟩
    have hrun : (u.engAt n).run = .running := hrun
    have hshift : (u.engAt n).shifting = none := hshift
    have hillegal : wIllegal w (u.engAt n).inHandler = true := hillegal
    simp [State.doIllegal, u, e, hrun, hshift, hword, hillegal, hparity, State.engFault]
end

section
/-! The frames of an engine: LOAD, SHIFT, FRAME (R73, R78, R81–R83). -/

namespace Sys2Proof.Machine

open Sys2Proof

/-! ## What a frame's operations leave of the rest -/

theorem State.balls_eq (n : Nat) (l : List Out) (z : State) : ∃ sent, z.balls n l = { z with sent := sent } := by
  unfold State.balls
  split
  · exact ⟨_, each_emit l z⟩
  · exact ⟨_, rfl⟩

theorem State.o_balls (n idx el : Nat) (l : List Out) (z : State) : (z.balls n l).o idx el = z.o idx el := by
  obtain ⟨_, hballs⟩ := State.balls_eq n l z
  rw [hballs]; rfl

/-- Without a suspended SHIFT there is nothing to abort. -/
theorem State.engAbort_of_none {n : Nat} {s : State} (h : (s.engAt n).susp = none) : s.engAbort n = s := by
  simp [State.engAbort, h]

theorem State.engAt_drawIf (c : Prop) [Decidable c] (m : Nat) (s : State) :
    (if c then s.draw else (0, s)).2.engAt m = s.engAt m := by
  split <;> rfl

theorem State.o_drawIf (c : Prop) [Decidable c] (idx el : Nat) (s : State) :
    (if c then s.draw else (0, s)).2.o idx el = s.o idx el := by
  split <;> rfl

theorem State.engAt_bumpIf (c : Prop) [Decidable c] (idx el k m : Nat) (s : State) :
    (if c then s.bump idx el k else s).engAt m = s.engAt m := by
  split
  · exact State.engAt_bump _ _ _ _ _
  · rfl

/-! ## The bits of a SHIFT -/

theorem shiftBit_engine (dout free din : Bool) (e : Engine) :
    ∃ ov q, shiftBit dout free din e = { e with
      cap := if e.cp < 128 && din then e.cap ||| BitVec.twoPow 128 e.cp else e.cap, cp := min 128 (e.cp + 1),
      overshot := ov, rc := e.rc - 1, dout := q } := by
  unfold shiftBit
  dsimp only
  split <;> exact ⟨_, _, rfl⟩

theorem shiftBit_cap (din : Bool) (e : Engine) (p : Nat) (hp : p < 128) :
    (if e.cp < 128 && din then e.cap ||| BitVec.twoPow 128 e.cp else e.cap).getLsbD p
      = (e.cap.getLsbD p || (decide (p = e.cp) && din)) := by
  cases din with
  | false => simp
  | true =>
    by_cases hcp : e.cp < 128
    · simp [hcp, eq_comm]
    · simp [hcp, show p ≠ e.cp by omega]

/-- What `m` bits of a SHIFT make of the engine: they stand at CP and on, as far as the 128 positions go. -/
theorem shiftBits_engine (n step : Nat) (dout free : Bool) (din : BitVec 128) (m i first : Nat) (e : Engine)
    (h : 0 < m ∨ e.cp ≤ 128) :
    ∃ cap ov q, (shiftBits n step dout free din m i first e).1 =
        { e with cap := cap, cp := min 128 (e.cp + m), overshot := ov, rc := e.rc - m, dout := q }
      ∧ ∀ p, p < 128 → cap.getLsbD p =
          (e.cap.getLsbD p || (decide (e.cp ≤ p ∧ p < e.cp + m) && din.getLsbD (i + (p - e.cp)))) := by
  induction m generalizing i first e with
  | zero =>
    have hcp : e.cp ≤ 128 := h.resolve_left (Nat.lt_irrefl 0)
    refine ⟨e.cap, e.overshot, e.dout, by simp [shiftBits, hcp], fun p _ => ?_⟩
    simp
  | succ m ih =>
    obtain ⟨ov, q, hbit⟩ := shiftBit_engine dout free (din.getLsbD i) e
    obtain ⟨cap, ov', q', hrest, hcap⟩ := ih (i + 1) (first + step) (shiftBit dout free (din.getLsbD i) e)
      (.inr (by rw [hbit]; exact Nat.min_le_left _ _))
    rw [hbit] at hrest hcap
    refine ⟨cap, ov', q', ?_, fun p hp => ?_⟩
    · unfold shiftBits
      dsimp only
      rw [hbit, hrest]
      have hpos : min 128 (min 128 (e.cp + 1) + m) = min 128 (e.cp + (m + 1)) := by omega
      have hcount : e.rc - 1 - m = e.rc - (m + 1) := by omega
      simp only [hpos, hcount]
    · rw [hcap p hp, shiftBit_cap _ _ _ hp, Bool.or_assoc]
      congr 1
      by_cases hat : p = e.cp
      · subst hat
        simp [show ¬ (min 128 (e.cp + 1) ≤ e.cp) by omega]
      · by_cases hin : e.cp ≤ p ∧ p < e.cp + (m + 1)
        · have hin' : min 128 (e.cp + 1) ≤ p ∧ p < min 128 (e.cp + 1) + m := by omega
          have hbitAt : i + 1 + (p - min 128 (e.cp + 1)) = i + (p - e.cp) := by omega
          simp [hat, hin, hin', hbitAt]
        · have hin' : ¬ (min 128 (e.cp + 1) ≤ p ∧ p < min 128 (e.cp + 1) + m) := by omega
          simp only [hat, hin, hin', decide_false, Bool.false_and, Bool.or_false]

/-- As many bits as RC counts leave it 0. -/
theorem shiftBits_rc (n step : Nat) (dout free : Bool) (din : BitVec 128) (first : Nat) (e : Engine) (h : 0 < e.rc) :
    (shiftBits n step dout free din e.rc 0 first e).1.rc = 0 := by
  obtain ⟨_, _, _, hbits, -⟩ := shiftBits_engine n step dout free din e.rc 0 first e (.inl h)
  rw [hbits]
  exact Nat.sub_self _

/-- A SHIFT whose bits are all shifted ends: the engine holds them, and PC moves on. -/
theorem State.engAt_shiftOn_all {n : Nat} {z : State} (dout : Bool) (din : BitVec 128) (first k : Nat)
    (hk : (z.engAt n).rc ≤ k) (hpos : 0 < (z.engAt n).rc) :
    ∃ step free pre bad d, (z.shiftOn n dout din first k none).engAt n =
      { (shiftBits n step dout free din (z.engAt n).rc 0 first (z.engAt n)).1 with
        shifting := none, resume := false, waitHold := false, pc := ((z.engAt n).pc + 1) % 256, fetched := some pre,
        fetchedBad := bad, doneAt := d } := by
  have hm : min (min k (z.engAt n).rc) ((none : Option Nat).getD (z.engAt n).rc) = (z.engAt n).rc := by
    simp [hk]
  unfold State.shiftOn
  dsimp only
  rw [hm]
  simp only [State.engAt_upTo]
  rw [if_pos (shiftBits_rc _ _ _ _ _ _ _ hpos), State.engAt_setEng]
  exact ⟨_, _, _, _, _, rfl⟩

/-! ## SHIFT and FRAME as a whole -/

/-- The engine whose next SHIFT begins a frame of its own where none was opened (R81). -/
def State.framed (u : State) (n : Nat) (e : Engine) : Engine :=
  if e.frame then e else { e with
    frame := true, aborted := false, overshot := false, cp := 0, cap := 0, frameLen := u.o 0x4000 n, frameDiv := u.o 0x4001 n }

theorem State.framed_cases (u : State) (n : Nat) (e : Engine) : (u.framed n e).frame = true
    ∧ (u.framed n e).cp = (if e.frame then e.cp else 0) ∧ (u.framed n e).cap = (if e.frame then e.cap else 0)
    ∧ (u.framed n e).pc = e.pc ∧ (u.framed n e).pub = e.pub := by
  unfold State.framed
  cases hframe : e.frame <;> simp [hframe]

/-- What a SHIFT of RC bits that ends leaves of the engine. -/
theorem State.shiftOn_leaves {n : Nat} {z : State} {x : Engine} (dout : Bool) (din : BitVec 128) (first k : Nat)
    (hx : z.engAt n = x) (hk : x.rc ≤ k) (hpos : 0 < x.rc) :
    ∃ y, (z.shiftOn n dout din first k none).engAt n = y ∧ y.rc = 0 ∧ y.frame = x.frame ∧ y.cp = min 128 (x.cp + x.rc)
      ∧ y.pc = (x.pc + 1) % 256 ∧ y.pub = x.pub
      ∧ ∀ i, i < x.rc → x.cp + x.rc ≤ 128 → y.cap.getLsbD (x.cp + i) = (x.cap.getLsbD (x.cp + i) || din.getLsbD i) := by
  subst hx
  obtain ⟨step, free, pre, bad, d, hend⟩ := State.engAt_shiftOn_all dout din first k hk hpos
  obtain ⟨cap, ov, q, hbits, hcap⟩ := shiftBits_engine n step dout free din (z.engAt n).rc 0 first (z.engAt n) (.inl hpos)
  rw [hbits] at hend
  refine ⟨_, hend, Nat.sub_self _, rfl, rfl, rfl, rfl, fun i hi hfits => ?_⟩
  show cap.getLsbD _ = _
  rw [hcap _ (by omega)]
  simp [hi]

/-- A SHIFT of `wLow w` bits, none withheld, shifts them into the frame at hand. -/
theorem State.doShift_shifts {s u : State} {n b k : Nat} {w : Dw} {din : BitVec 128}
    (hu : u = s.upTo (max b (s.engAt n).doneAt)) (h : u.executes n 2 w) (hsusp : (u.engAt n).susp = none) :
    ∃ (first : Nat) (z : State) (x : Engine), s.doShift n b din k none = z.shiftOn n (wH w) din first k none
      ∧ z.engAt n = x ∧ x.rc = wLow w ∧ x.frame = true ∧ x.cp = (if (u.engAt n).frame then (u.engAt n).cp else 0)
      ∧ x.cap = (if (u.engAt n).frame then (u.engAt n).cap else 0) ∧ x.pc = (u.engAt n).pc ∧ x.pub = (u.engAt n).pub := by
  subst hu
  have hshift : (s.engAt n).shifting = none := by
    rw [← State.engAt_upTo (max b (s.engAt n).doneAt) n s]
    exact h.2.1
  obtain ⟨hframe, hcp, hcap, hpc, hpub⟩ := State.framed_cases (s.upTo (max b (s.engAt n).doneAt)) n
    { (s.upTo (max b (s.engAt n).doneAt)).engAt n with atFrame := false, doneAt := max b (s.engAt n).doneAt }
  unfold State.doShift
  rw [hshift]
  dsimp only
  rw [State.engDo_begun _ h]
  rw [State.engAbort_of_none (by rw [State.engAt_begun]; exact hsusp), State.engAt_begun]
  exact ⟨_, _, _, rfl, (State.engAt_balls _ _ _ _).trans (State.engAt_setEng _ _ _), rfl, hframe, hcp, hcap, hpc, hpub⟩

theorem wLow_pos_of_shift {w : Dw} {inHandler : Bool} (hop : wOp w = 2) (hlegal : wIllegal w inHandler = false) :
    0 < wLow w := by
  refine Nat.pos_of_ne_zero fun hzero => ?_
  simp [wIllegal, hop, hzero] at hlegal

/-- Publication turns the published bits; its edges leave the engine alone. -/
theorem State.engAt_publish (n : Nat) (bits : BitVec 128) (s : State) :
    (s.publish n bits).engAt n = { s.engAt n with pub := bits, stale := false } := by
  have hedges : Still (s.setEng n { s.engAt n with pub := bits, stale := false }) (s.publish n bits) :=
    each_still _ _ _ (fun k z hz => .ite (State.arrive_still _ _ _ _ _ _ hz) hz) (.refl _)
  unfold State.engAt
  rw [hedges.eng]
  exact State.engAt_setEng n _ s

/-- FRAME at the end of its cycle, where no swap is made: a whole frame is published, any other is discarded. -/
theorem State.engAt_frameEnd {n : Nat} {z : State} (habort : (z.engAt n).aborted = false)
    (hswap : (z.engAt n).swapPending = false) :
    ∃ y, (z.frameEnd n).engAt n = y ∧ y.frame = false ∧ y.cp = 0 ∧ y.cap = 0 ∧ y.pc = (z.engAt n).pc
      ∧ (if (z.engAt n).frame = true ∧ (z.engAt n).frameLen ≤ (z.engAt n).cp
          then y.pub = ((z.engAt n).cap &&& BitVec.ofNat 128 (2 ^ (z.engAt n).frameLen - 1)) ∧ y.stale = false
          else y.pub = (z.engAt n).pub ∧ y.stale = true) := by
  unfold State.frameEnd
  dsimp only
  rw [habort, if_neg Bool.false_ne_true, State.engAt_setEng]
  cases hframe : (z.engAt n).frame with
  | false =>
    simp only [Bool.false_and, Bool.false_eq_true, if_false, false_and, State.engAt_goStale, hswap]
    exact ⟨_, rfl, rfl, rfl, rfl, rfl, rfl, rfl⟩
  | true =>
    by_cases hlen : (z.engAt n).frameLen ≤ (z.engAt n).cp
    · simp only [hlen, decide_true, Bool.true_and, and_self, if_true, State.engAt_bump, State.engAt_publish, hswap,
        Bool.false_and, Bool.false_eq_true, if_false]
      exact ⟨_, rfl, rfl, rfl, rfl, rfl, rfl, rfl⟩
    · simp only [hlen, decide_false, Bool.true_and, and_false, if_false, State.engAt_goStale, hswap,
        Bool.false_and, Bool.false_eq_true, if_true]
      exact ⟨_, rfl, rfl, rfl, rfl, rfl, rfl, rfl⟩

end Sys2Proof.Machine

open Sys2Proof Sys2Proof.Machine

/-- Settles O35: LOAD opens the frame, SHIFT fills it, FRAME closes it. -/
theorem engineFrames : Obligations.EngineFrames := by
  intro s b n k w din u e cp cap hn hsusp
  refine ⟨fun h => ?load, fun h hk => ?shift, fun h habort hswap => ?frame⟩
  case load =>
    refine ⟨_, run_ok (decide_eq_true hn), ?_⟩
    rw [State.doLoad, State.engDo_begun _ h]
    dsimp only
    rw [State.engAbort_of_none (by rw [State.engAt_begun]; exact hsusp), State.o_balls, State.o_balls,
      State.engAt_engEnd_next, State.engAt_balls, State.engAt_begun]
    exact ⟨rfl, rfl, rfl, rfl, rfl, rfl, rfl, rfl⟩
  case shift =>
    refine ⟨_, run_ok (decide_eq_true hn), ?_⟩
    have hpos : 0 < wLow w := wLow_pos_of_shift h.2.2.2.1 h.2.2.2.2.1
    obtain ⟨first, z, x, hshift, hz, hrc, hframe, hcp, hcap, hpc, hpub⟩ :=
      State.doShift_shifts (k := k) (din := din) rfl h hsusp
    obtain ⟨y, hy, yrc, yframe, ycp, ypc, ypub, ycap⟩ :=
      State.shiftOn_leaves (wH w) din first k hz (hrc ▸ hk) (hrc ▸ hpos)
    rw [hrc, hcp] at ycp
    rw [hrc, hcp, hcap] at ycap
    rw [hpc] at ypc
    rw [hshift, hy]
    exact ⟨yrc, yframe.trans hframe, ycp, ypc, ypub.trans hpub, ycap⟩
  case frame =>
    refine ⟨_, run_ok (decide_eq_true hn), ?_⟩
    rw [State.doFrame, State.engDo_begun _ h]
    rw [State.engAbort_of_none (by rw [State.engAt_begun]; exact hsusp)]
    have hat := State.engAt_engEnd_next n 1 id (u.begun n (max b (s.engAt n).doneAt))
    rw [State.engAt_begun] at hat
    obtain ⟨y, hy, yframe, ycp, ycap, ypc, ypub⟩ :=
      State.engAt_frameEnd (n := n) (z := (u.begun n (max b (s.engAt n).doneAt)).engEnd n 1 none id)
        (by rw [hat]; exact habort) (by rw [hat]; exact hswap)
    rw [hat] at ypc ypub
    rw [hy]
    exact ⟨yframe, ycp, ycap, ypc, ypub⟩
end

section
/-! What a dictionary row that is taken answers, and the engine commands (R84, R86, R90–R93). -/

namespace Sys2Proof.Machine

open Sys2Proof

/-! ## Dictionary rows -/

theorem dict_fits {pr idx el v : Nat} (hpr : pr < 32) (hel : el < 65536) (hv : v < 256 ^ typeSize (typeOf idx)) :
    (decide (pr < 32) && decide (el < 65536) && decide (v < 256 ^ typeSize (typeOf idx))) = true := by
  rw [decide_eq_true hpr, decide_eq_true hel, decide_eq_true hv]; rfl

/-- A row of areas 0x1000 to 0x1FFF that the dictionary takes answers its object's status. -/
theorem dict_next_low {s t : State} {b pr idx el v e st : Nat} {mm : Bool} (hpr : pr < 32) (hel : el < 65536)
    (hv : v < 256 ^ typeSize (typeOf idx)) (h : (s.atReq b).takes pr idx el v e) (hlow : idx < 0x2000)
    (hact : (s.atReq b).actLow idx e v mm = (st, t)) : dict_ b pr idx el v mm s = .next (t.answer st) := by
  rw [dict_takes (dict_fits hpr hel hv) h, if_pos hlow, hact]

/-- A row of areas 0x2000 to 0xFFFF that the dictionary takes answers its object's status. -/
theorem dict_next_high {s t : State} {b pr idx el v e st : Nat} {mm : Bool} (hpr : pr < 32) (hel : el < 65536)
    (hv : v < 256 ^ typeSize (typeOf idx)) (h : (s.atReq b).takes pr idx el v e) (hhigh : ¬ idx < 0x2000)
    (hact : (s.atReq b).actHigh pr idx e v mm = (st, t)) : dict_ b pr idx el v mm s = .next (t.answer st) := by
  rw [dict_takes (dict_fits hpr hel hv) h, if_neg hhigh, hact]

/-! ## Starting, stopping, swapping -/

theorem State.engStart_idle {n : Nat} {u : State} (hrun : (u.engAt n).run ≠ .running) (hchain : u.o 0x4000 n ≠ 0) :
    u.engStart n = u.setEng n ((u.engAt n).start u.now) := by
  simp [State.engStart, State.engRunning, hrun, hchain]

theorem State.engStop_running {n : Nat} {u : State} (hrun : (u.engAt n).run = .running) :
    u.engStop n = u.engIdle n .stopped := by
  simp [State.engStop, State.engRunning, hrun]

theorem State.engIdle_bank (n : Nat) (how : EngRun) (u : State) :
    ((u.engIdle n how).engAt n).bank = ((u.engAt n).bank != (u.engAt n).swapPending)
      ∧ ((u.engIdle n how).engAt n).frame = false := by
  obtain ⟨_, hidle⟩ := State.engAt_engIdle n how u
  rw [hidle]
  cases hswap : (u.engAt n).swapPending <;> simp [hswap, Engine.swap]

theorem State.engSwapReq_eq (n : Nat) (u : State) : u.engSwapReq n = u.setEng n (if (u.engAt n).run = .running
    then { u.engAt n with swapPending := true } else (u.engAt n).swap) := by
  by_cases hrun : (u.engAt n).run = .running <;> simp [State.engSwapReq, hrun]

/-- The engine after a swap by force: its banks swapped, no frame, no handler; a running one starts anew. -/
theorem State.engAt_engSwapForce (n : Nat) (u : State) :
    ∃ y, (u.engSwapForce n).engAt n = y ∧ y.bank = !(u.engAt n).bank ∧ y.swapPending = false ∧ y.inHandler = false
      ∧ y.frame = false ∧ ((u.engAt n).run = .running → y.pc = 0) := by
  obtain ⟨_, hframe⟩ := State.engAt_discardFrame n u
  unfold State.engSwapForce State.engRunning
  dsimp only
  rw [State.engAt_setEng, hframe]
  split
  · exact ⟨_, rfl, rfl, rfl, rfl, rfl, fun _ => rfl⟩
  · rename_i hrun
    exact ⟨_, rfl, rfl, rfl, rfl, rfl, fun h => absurd (by rw [h]; rfl) hrun⟩

theorem State.engAt_engBell (n : Nat) (v : Dw) (u : State) : ((u.engBell n v).engAt n).dbarg = v := by
  obtain ⟨_, _, _, hevent⟩ := State.engAt_engEvent n 2 (u.setEng n { u.engAt n with dbarg := v })
  unfold State.engBell
  rw [hevent, State.engAt_setEng]

theorem State.progSet_stored {el : Nat} {u : State} (v : Dw) (hbank : (u.engAt (el / 512)).bank ≠ Decidable.decide (256 ≤ el % 512))
    (hswap : (u.engAt (el / 512)).swapPending = false) :
    u.progSet el v.toNat
      = (0, { u.setO 0x4100 el v.toNat with badParity := u.badParity.filter (· != el) }) := by
  simp [State.progSet, State.setProg, hswap, Ne.symm hbank]

theorem State.progSet_running {el : Nat} {u : State} (v : Nat)
    (hbank : (u.engAt (el / 512)).bank = Decidable.decide (256 ≤ el % 512)) : u.progSet el v = (9, u) := by
  simp [State.progSet, hbank]

end Sys2Proof.Machine

open Sys2Proof Sys2Proof.Machine

/-- Settles O38: each command is its object's action, taken by the dictionary. -/
theorem engineCommands : Obligations.EngineCommands := by
  intro s b n v q e g hn
  refine ⟨fun h hrun hchain => ?start, fun h hrun => ?stop, fun h => ?cancel, fun h => ?request, fun h => ?force,
    fun h => ?bell, fun h hbank hswap => ?store, fun h hbank => ?refused⟩
  case start =>
    refine ⟨_, dict_next_high (by decide) hn (by decide) h (by decide) rfl, ?_⟩
    rw [if_pos rfl, State.engAt_answer, State.engStart_idle hrun hchain, State.engAt_setEng]
    exact ⟨rfl, rfl, rfl, rfl⟩
  case stop =>
    refine ⟨_, dict_next_high (by decide) hn (by decide) h (by decide) rfl, ?_⟩
    rw [if_neg (by decide), State.engAt_answer, State.engStop_running hrun]
    obtain ⟨hbank, hframe⟩ := State.engIdle_bank n .stopped (s.atReq b)
    exact ⟨State.engIdle_run n .stopped _, hframe, hbank⟩
  case cancel => exact dict_next_high (by decide) hn (by decide) h (by decide) rfl
  case request =>
    refine dict_next_high (by decide) hn (by decide) h (by decide) ?_
    exact congrArg (Prod.mk 0) (State.engSwapReq_eq n _)
  case force =>
    refine ⟨_, dict_next_high (by decide) hn (by decide) h (by decide) rfl, ?_⟩
    obtain ⟨y, hy, hrest⟩ := State.engAt_engSwapForce n (s.atReq b)
    rw [if_neg (by decide), if_neg (by decide), State.engAt_answer, hy]
    exact hrest
  case bell =>
    refine ⟨_, dict_next_high (by decide) hn v.isLt h (by decide) rfl, ?_⟩
    rw [State.engAt_answer, State.engAt_engBell]
    exact BitVec.ofNat_toNat 32 v
  case store => exact dict_next_high (by decide) hn v.isLt h (by decide) (State.progSet_stored v hbank hswap)
  case refused => exact dict_next_high (by decide) hn v.isLt h (by decide) (State.progSet_running _ hbank)

end

section
/-! The beat counter, the whole seconds, the 1PPS input, the balance and the steering periods (R159–R186). -/

namespace Sys2Proof.Machine

open Sys2Proof

/-! ## Loads and whole seconds (R159, R161) -/

/-- A load: the TIME record, then the seconds and the periods counted from a value that turns the counter back. -/
theorem State.loadCounter_eq (kind : Nat) (v : Beat) (u : State) :
    u.loadCounter kind v =
      (let r := u.chrPut 9 none (leBytes 8 u.cnt.toNat ++ leBytes 1 kind)
       { r with time := { r.time with
          load := some v
          nextSecond := if v.toNat < r.cnt.toNat then (v.toNat / Config.wholeSecond + 1) * Config.wholeSecond
            else r.time.nextSecond
          nextPeriod := if v.toNat < r.cnt.toNat
            then if v.toNat / r.o 0x6001 0 = r.cnt.toNat / r.o 0x6001 0 then r.time.nextPeriod else v.toNat
            else r.time.nextPeriod } }) := by
  unfold State.loadCounter
  dsimp only
  split <;> rfl

theorem State.secondReached_reached {u : State} (hwatched : u.time.watched = true) (hback : u.goesBack = false)
    (hreached : u.time.nextSecond ≤ u.cnt.toNat) :
    u.secondReached = ({ u with time := { u.time with
        nextSecond := (u.cnt.toNat / Config.wholeSecond + 1) * Config.wholeSecond,
        ppsOutUntil := if u.time.mode = .quiet then u.time.ppsOutUntil
          else some (max (u.now + u.o 0x1205 0) (u.time.ppsOutUntil.getD 0)) } } : State).raiseInt 4 := by
  simp [State.secondReached, hwatched, hback, hreached]

theorem State.pulseEnd_due {u : State} {w : Nat} (huntil : u.time.ppsOutUntil = some w) (hdue : w ≤ u.now) :
    u.pulseEnd = { u with time := { u.time with ppsOutUntil := none } } := by
  simp [State.pulseEnd, huntil, hdue]

/-! ## The 1PPS input (R163–R168) -/

theorem State.ppsEdge_early {u : State} {l : Nat} (hmode : u.o 0x1202 0 = 1) (hbeat : u.time.mode = .perBeat)
    (hfirst : u.time.ppsFirst = false) (hlast : u.time.ppsLast = some l) (hsoon : u.now < l + 720000000) :
    u.ppsEdge = u.bump 0x120B 0 1 := by
  simp [State.ppsEdge, hmode, hbeat, hfirst, hlast, hsoon]

theorem State.ppsEdge_accepted {u : State} (hmode : u.o 0x1202 0 = 1) (hbeat : u.time.mode = .perBeat)
    (hlast : ∀ l, u.time.ppsLast = some l → l + 720000000 ≤ u.now) :
    u.ppsEdge = ({ u with time := { u.time with ppsLast := some u.now, ppsFirst := false } } : State).ppsCorrect
      ((u.cnt.toNat : Int) - 3 - toI32 (u.o 0x1203 0)
        - nearestSecond ((u.cnt.toNat : Int) - 3 - toI32 (u.o 0x1203 0))) := by
  have htaken : (u.time.ppsFirst || u.time.ppsLast.isNone || Decidable.decide (u.time.ppsLast.getD 0 + 720000000 ≤ u.now)) = true := by
    cases hl : u.time.ppsLast with
    | none => simp
    | some l => simp [hlast l hl]
  simp only [State.ppsEdge, hmode, hbeat]
  rw [if_neg (by decide)]
  exact if_pos htaken

/-- A write of another object of element 0 leaves the object. -/
theorem State.o_setO_idx {i j : Nat} (e v : Nat) (s : State) (h : i ≠ j) : (s.setO j e v).o i e = s.o i e :=
  State.o_setO_ne _ _ _ _ (by unfold pkey; omega)

theorem State.o_ppsBit (k : Nat) (v : Bool) {i : Nat} (s : State) (h : i ≠ 0x1206) : (s.ppsBit k v).o i 0 = s.o i 0 :=
  State.o_setO_idx 0 _ s h

theorem State.ppsLoss_lost {u : State} {l : Nat} (hsignal : bitOf (u.o 0x1206 0) 2 = true) (hquiet : u.time.mode ≠ .quiet)
    (hlast : u.time.ppsLast = some l) (hdue : l + 800800000 ≤ u.now) :
    u.ppsLoss =
      (let lost : State := { (u.ppsBit 2 false).ppsBit 0 false with time := { u.time with ppsGood := 0 } }
       if u.o 0x1202 0 = 1 then ((lost.ppsBit 1 true).setO 0x1208 0 (lost.o 0x1209 0)).dial 15 0 else lost) := by
  have hmode : ({ (u.ppsBit 2 false).ppsBit 0 false with time := { u.time with ppsGood := 0 } } : State).o 0x1202 0
      = u.o 0x1202 0 :=
    (State.o_ppsBit 0 false _ (by decide)).trans (State.o_ppsBit 2 false u (by decide))
  refine (if_pos ?_).trans ?_
  · simp [hsignal, hquiet, hlast, hdue]
  · dsimp only
    rw [hmode]

/-- An edge whose error is within the step limit, none of a wake: the state before the bits of PPS_STATUS are settled. -/
def State.disciplined (u : State) (e : Int) : State :=
  let f := clampI 200000 (toI32 (u.o 0x1209 0) - roundDiv (5 * e) 32)
  (({ u.setO 0x1207 0 (ofI32 e) with
      time := { u.time with ppsGood := if e.natAbs ≤ 8 then min 4 (u.time.ppsGood + 1) else 0 } } : State).setO 0x1209 0
    (ofI32 f)).setO 0x1208 0 (ofI32 (clampI 200000 (f - roundDiv (5 * e) 8)))

/-- Such an edge settles bit 0 of PPS_STATUS one way or the other, then clears HOLDOVER and sets SIGNAL. -/
theorem State.ppsCorrect_disciplined {u : State} {e : Int} (hlimit : u.o 0x1204 0 = 0 ∨ e.natAbs ≤ u.o 0x1204 0)
    (hwake : u.time.ppsWake = false) :
    ∃ w, u.ppsCorrect e = (w.ppsBit 1 false).ppsBit 2 true
      ∧ (w = u.disciplined e ∨ ∃ v, w = (u.disciplined e).ppsBit 0 v) := by
  have hstep : ¬ (u.o 0x1204 0 != 0 && Decidable.decide (u.o 0x1204 0 < e.natAbs)) = true := by
    rcases hlimit with hzero | hle
    · simp [hzero]
    · simp [Nat.not_lt.mpr hle]
  have hfreq : ((u.setO 0x1207 0 (ofI32 e)).o 0x1209 0) = u.o 0x1209 0 := State.o_setO_idx 0 _ u (by decide)
  have hleft : ¬ (u.setO 0x1207 0 (ofI32 e)).time.ppsWake = true := by simp [hwake]
  refine ⟨if 80 < e.natAbs then (u.disciplined e).ppsBit 0 false
    else if (if e.natAbs ≤ 8 then min 4 (u.time.ppsGood + 1) else 0) = 4 then (u.disciplined e).ppsBit 0 true
    else u.disciplined e, ?_, ?_⟩
  · unfold State.ppsCorrect
    dsimp only
    rw [if_neg hleft, if_neg hstep]
    simp only [State.disciplined, State.setO_time, ← hfreq]
    rfl
  · generalize (if e.natAbs ≤ 8 then min 4 (u.time.ppsGood + 1) else 0) = good
    split
    · exact .inr ⟨false, rfl⟩
    · split
      · exact .inr ⟨true, rfl⟩
      · exact .inl rfl

theorem State.o_ppsBit_status (k : Nat) (v : Bool) (s : State) :
    (s.ppsBit k v).o 0x1206 0 = if bitOf (s.o 0x1206 0) k then (if v then s.o 0x1206 0 else s.o 0x1206 0 - 2 ^ k)
      else if v then s.o 0x1206 0 + 2 ^ k else s.o 0x1206 0 :=
  State.o_setO _ _ _ _

/-- HOLDOVER cleared and then SIGNAL set (PPS_STATUS, Table 07-3). -/
theorem State.ppsBit_signal (w : State) : bitOf (((w.ppsBit 1 false).ppsBit 2 true).o 0x1206 0) 2 = true
    ∧ bitOf (((w.ppsBit 1 false).ppsBit 2 true).o 0x1206 0) 1 = false := by
  simp only [State.o_ppsBit_status, bitOf, Nat.testBit_eq_decide_div_mod_eq]
  grind

theorem State.ppsBit_src (k : Nat) (v : Bool) (s : State) : (s.ppsBit k v).src = s.src := rfl
theorem State.ppsBit_time (k : Nat) (v : Bool) (s : State) : (s.ppsBit k v).time = s.time := rfl

/-! ## The balance (R169–R171) -/

/-- The counter's part of a balance tick in Quiet mode (R171). -/
def State.balTicked (u : State) : Time :=
  { u.time with
    counter := u.time.load.getD u.time.counter + BitVec.ofNat 64 ((u.time.balFrac + u.o 0x120C 0) / 65536), load := none
    balFrac := (u.time.balFrac + u.o 0x120C 0) % 65536 }

theorem State.balanceTick_quiet {u : State} (hquiet : u.time.mode = .quiet) :
    u.balanceTick = loop State.alarmFire 0 16 { u with time :=
      if u.time.resumeAtTick then { u.balTicked with
        mode := .perBeat, resumeAtTick := false, balFrac := 0, ppsFirst := true, ppsWake := true }
      else u.balTicked } := by
  simp [State.balanceTick, State.balTicked, hquiet]

theorem State.balanceTick_opens {u : State} (hbeat : u.time.mode = .perBeat) (hwatched : u.time.watched = true)
    (hadv : u.time.spanAdv = none) : u.balanceTick = { u with time := { u.time with spanAdv := some 0, spanTicks := 0 } } := by
  simp [State.balanceTick, hbeat, hwatched, hadv]

theorem State.balanceTick_counts {u : State} {adv : Nat} (hbeat : u.time.mode = .perBeat)
    (hwatched : u.time.watched = true) (hadv : u.time.spanAdv = some adv) (hticks : u.time.spanTicks < 32767) :
    u.balanceTick = { u with time := { u.time with spanTicks := u.time.spanTicks + 1 } } := by
  simp [State.balanceTick, hbeat, hwatched, hadv, hticks]

theorem State.balanceTick_closes {u : State} {adv : Nat} (hbeat : u.time.mode = .perBeat)
    (hwatched : u.time.watched = true) (hadv : u.time.spanAdv = some adv) (hticks : 32767 ≤ u.time.spanTicks) :
    u.balanceTick = { u with time := { u.time with spanAdv := some 0, spanTicks := 0, spanFull := some adv } } := by
  simp [State.balanceTick, hbeat, hwatched, hadv, hticks]

/-! ## Steering periods (R175–R186) -/

theorem State.periodBoundary_reached {u : State} (hback : u.goesBack = false) (hreached : u.time.nextPeriod ≤ u.cnt.toNat) :
    u.periodBoundary =
      (let v := if u.time.toUpdate && u.steering then u.bump 0x6008 0 1 else u
       let w := each State.closePeriod (ascending (v.tgt.map (·.1) ++ (v.elems 0x7068 (fun _ => true)).map (· / 4))) v
       { w with time := { w.time with
          nextPeriod := (w.cnt.toNat / u.o 0x6001 0 + 1) * u.o 0x6001 0, toUpdate := w.steering } }) := by
  simp [State.periodBoundary, hback, hreached]

theorem State.regUpdate_closed {u : State} (b : Nat) (mm : Bool) (hupdate : u.time.toUpdate = true)
    (hsteering : u.steering = true) (hopen : u.cnt.toNat < u.time.nextPeriod) :
    u.regUpdate b mm =
      (let avg := each State.foldAvg (ascending ((u.elems 0x7068 (fun _ => true)).map (· / 4))) u
       let wgt := each State.weigh (avg.elems 0x3401 (· == 2)) avg
       let qua := each (State.regQuarantine b mm) (u.tgt.map (·.1)) wgt
       let rel := each State.regRelease (ascending (u.elems 0x6012 (· == 2))) qua
       { rel.setO 0x6007 0 rel.cnt.toNat with time := { rel.time with toUpdate := false } }) := by
  simp [State.regUpdate, hupdate, hsteering, hopen]

end Sys2Proof.Machine

open Sys2Proof Sys2Proof.Machine

/-- Settles O11: the edge too soon, the accepted one, the loss of SIGNAL. -/
theorem ppsInput : Obligations.PpsInput := by
  intro s b u x lost
  refine ⟨fun l hmode hbeat hfirst hlast hsoon => ?early, fun hmode hbeat hlast => ?accepted,
    fun l hsignal hquiet hlast hdue => ?lost⟩
  case early => exact (at_runs rfl).trans (congrArg _ (State.ppsEdge_early hmode hbeat hfirst hlast hsoon))
  case accepted => exact (at_runs rfl).trans (congrArg _ (State.ppsEdge_accepted hmode hbeat hlast))
  case lost => exact (at_runs rfl).trans (congrArg _ (State.ppsLoss_lost hsignal hquiet hlast hdue))

/-- Settles O12: the objects of the correction stand before the bits of PPS_STATUS, and those leave them. -/
theorem ppsCorrection : Obligations.PpsCorrection := by
  intro u e hlimit hwake f t
  obtain ⟨w, hw, hbit⟩ := State.ppsCorrect_disciplined hlimit hwake
  obtain ⟨hsignal, hholdover⟩ := State.ppsBit_signal w
  have ht : t = (w.ppsBit 1 false).ppsBit 2 true := hw
  have hobj : ∀ i, i ≠ 0x1206 → t.o i 0 = (u.disciplined e).o i 0 := by
    intro i hi
    rw [ht, State.o_ppsBit 2 true _ hi, State.o_ppsBit 1 false _ hi]
    rcases hbit with rfl | ⟨v, rfl⟩
    · rfl
    · exact State.o_ppsBit 0 v _ hi
  have hrest : t.src = (u.disciplined e).src ∧ t.time = (u.disciplined e).time := by
    rw [ht]
    rcases hbit with rfl | ⟨v, rfl⟩ <;> exact ⟨rfl, rfl⟩
  obtain ⟨hsrc, htime⟩ := hrest
  refine ⟨?phase, ?freq, ?rate, ht ▸ hsignal, ht ▸ hholdover, hsrc, (congrArg Time.counter htime :),
    (congrArg Time.load htime :)⟩
  case phase =>
    rw [hobj _ (by decide)]
    exact (State.o_setO_idx 0 _ _ (by decide)).trans
      ((State.o_setO_idx 0 _ _ (by decide)).trans (State.o_setO _ _ _ _))
  case freq =>
    rw [hobj _ (by decide)]
    exact (State.o_setO_idx 0 _ _ (by decide)).trans (State.o_setO _ _ _ _)
  case rate =>
    rw [hobj _ (by decide)]
    exact State.o_setO _ _ _ _

/-- Settles O10: the load goes through the dictionary, the second and the pulse through the beat. -/
theorem counterAndSeconds : Obligations.CounterAndSeconds := by
  refine ⟨?load, fun s b => ⟨fun hwatched hback hreached => ?second, fun w huntil hdue => ?pulse⟩⟩
  case load =>
    intro s b v e q r h
    have hvalue : BitVec.ofNat 64 v.toNat = v := by simp
    have hact : q.actLow 0x1201 e v.toNat false = (0, q.loadCounter 1 (BitVec.ofNat 64 v.toNat)) := rfl
    rw [hvalue, State.loadCounter_eq] at hact
    exact ⟨_, dict_next_low (by decide) (by decide) v.isLt h (by decide) hact, rfl, rfl, rfl, rfl, rfl, rfl, rfl, rfl⟩
  case second => exact (at_runs rfl).trans (congrArg _ (State.secondReached_reached hwatched hback hreached))
  case pulse => exact (at_runs rfl).trans (congrArg _ (State.pulseEnd_due huntil hdue))

/-- Settles O13: the tick asleep and awake, and the span's end. -/
theorem balance : Obligations.Balance := by
  intro s b u t ticked
  have hrun : exec (.balanceTick b) s = .next u.balanceTick := at_runs rfl
  have hspan : exec (.balSpanEnd b) s = .next u.spanEnd := at_runs rfl
  refine ⟨fun hquiet hresume => ?asleep, fun hquiet hresume => ?resumes, fun hbeat hwatched => ?awake,
    fun adv hfull => ?closed, fun hnone => ?open_⟩
  case asleep =>
    have hstays : ¬ (s.upTo b).time.resumeAtTick = true := by simpa using hresume
    rw [hrun, State.balanceTick_quiet hquiet, if_neg hstays]
    rfl
  case resumes => rw [hrun, State.balanceTick_quiet hquiet, if_pos hresume]; rfl
  case awake =>
    exact ⟨fun hadv => hrun.trans (congrArg _ (State.balanceTick_opens hbeat hwatched hadv)),
      fun adv hadv hticks => hrun.trans (congrArg _ (State.balanceTick_counts hbeat hwatched hadv hticks)),
      fun adv hadv hticks => hrun.trans (congrArg _ (State.balanceTick_closes hbeat hwatched hadv hticks))⟩
  case closed => rw [hspan, State.spanEnd, hfull]
  case open_ => rw [hspan, State.spanEnd, hnone]

/-- Settles O14: the boundary reached and the update of a closed period. -/
theorem steeringPeriods : Obligations.SteeringPeriods := by
  intro s b mm u
  refine ⟨fun hback hreached => ?boundary, fun hupdate hsteering hopen => ?update⟩
  case boundary => exact ⟨_, (at_runs rfl).trans (congrArg _ (State.periodBoundary_reached hback hreached)), rfl⟩
  case update =>
    refine ⟨_, (at_runs rfl).trans (congrArg _ (State.regUpdate_closed b mm hupdate hsteering hopen)), ?_, rfl, rfl, rfl, rfl⟩
    exact State.o_setO _ _ _ _

end

section
/-! What an arrival may change; glitch filters and bank supplies (R19–R29, R70). -/

namespace Sys2Proof.Machine

open Sys2Proof

/-! ## What arrivals and changes of a source leave (Table 05-4) -/

/-- `t` differs from `s` in what an arrival may change: objects, sources, buffers, latched Dial events, the chronograph's
queue, the mirror's marks, a wake and what it sends. -/
def Arrived (s t : State) : Prop :=
  t = { s with
    obj := t.obj, src := t.src, buf := t.buf, poolNext := t.poolNext, poolBack := t.poolBack, func := t.func, chr := t.chr
    tdm := t.tdm, quiet := t.quiet, wakeLow := t.wakeLow, txWait := t.txWait, sent := t.sent }

theorem Arrived.refl (s : State) : Arrived s s := rfl

theorem Arrived.trans {s t u : State} (h : Arrived s t) (k : Arrived t u) : Arrived s u :=
  Eq.trans k (congrArg (fun z : State => { z with
    obj := u.obj, src := u.src, buf := u.buf, poolNext := u.poolNext, poolBack := u.poolBack, func := u.func, chr := u.chr
    tdm := u.tdm, quiet := u.quiet, wakeLow := u.wakeLow, txWait := u.txWait, sent := u.sent }) h)

theorem Arrived.now {s t : State} (h : Arrived s t) : t.now = s.now :=
  (congrArg State.now h :)
theorem Arrived.time {s t : State} (h : Arrived s t) : t.time = s.time :=
  (congrArg State.time h :)
theorem Arrived.filtered {s t : State} (h : Arrived s t) : t.filtered = s.filtered :=
  (congrArg State.filtered h :)
theorem Arrived.eng {s t : State} (h : Arrived s t) : t.eng = s.eng :=
  (congrArg State.eng h :)
theorem Arrived.bankA {s t : State} (h : Arrived s t) : t.bankA = s.bankA :=
  (congrArg State.bankA h :)
theorem Arrived.bankB {s t : State} (h : Arrived s t) : t.bankB = s.bankB :=
  (congrArg State.bankB h :)
theorem Arrived.dlv {s t : State} (h : Arrived s t) : t.dlv = s.dlv :=
  (congrArg State.dlv h :)
theorem Arrived.tgt {s t : State} (h : Arrived s t) : t.tgt = s.tgt :=
  (congrArg State.tgt h :)
theorem Arrived.esc {s t : State} (h : Arrived s t) : t.esc = s.esc :=
  (congrArg State.esc h :)

theorem State.setSrc_arrived (n : Nat) (x : Source) (s : State) : Arrived s (s.setSrc n x) := rfl
theorem State.setBuf_arrived (n : Nat) (x : Buf) (s : State) : Arrived s (s.setBuf n x) := rfl
theorem State.setO_arrived (i e v : Nat) (s : State) : Arrived s (s.setO i e v) := rfl
theorem State.bump_arrived (i e k : Nat) (s : State) : Arrived s (s.bump i e k) := rfl
theorem State.post_arrived (x : Out) (s : State) : Arrived s (s.post x) := by
  have h := State.post_eq x s
  rw [h]; rfl
theorem State.dial_arrived (k n : Nat) (s : State) : Arrived s (s.dial k n) := by
  have h := State.dial_eq k n s
  rw [h]; rfl
theorem State.chrPut_arrived (kind : Nat) (ten : Option Nat) (body : List Byte) (s : State) :
    Arrived s (s.chrPut kind ten body) := by
  have h := State.chrPut_eq kind ten body s
  rw [h]; rfl
theorem State.note_arrived (ev : Ev) (n : Nat) (old : Source) (s : State) : Arrived s (s.note ev n old) := by
  have h := State.note_eq ev n old s
  rw [h]; rfl
theorem State.select_arrived (n : Nat) (s : State) : Arrived s (s.select n) := by
  have h := State.select_eq n s
  rw [h]; rfl

theorem State.toPending_arrived (n : Nat) (stamp : Beat) (lvl : Bool) (info : Arrival) (s : State) :
    Arrived s (s.toPending n stamp lvl info) :=
  (State.setSrc_arrived n _ s).trans (State.select_arrived n _)

theorem State.allocBuf_arrived (ten : Nat) (bytes : List Byte) (s : State) : Arrived s (s.allocBuf ten bytes).2 := by
  unfold State.allocBuf
  dsimp only
  split
  · rfl
  · split
    · rfl
    · split <;> rfl

theorem State.discardBuf_arrived (n : Nat) (b : Option Nat) (s : State) : Arrived s (s.discardBuf n b) := by
  cases b with
  | none => rfl
  | some i =>
    obtain ⟨x, y, h⟩ := State.returnBuf_eq i false s
    have hreturn : Arrived s (s.returnBuf i false) := by rw [h]; rfl
    exact hreturn.trans (State.bump_arrived _ _ _ _)

theorem State.chrQuar_arrived (isTgt release : Bool) (by_ num ten : Nat) (s : State) :
    Arrived s (s.chrQuar isTgt release by_ num ten) := State.chrPut_arrived _ _ _ s

theorem State.quarantine_arrived (n by_ : Nat) (s : State) : Arrived s (s.quarantine n by_) := by
  have hrec (z : State) : Arrived z ((z.note { code := 11 } n (s.srcAt n)).chrQuar false false by_ n (z.srcTen n)) :=
    (State.note_arrived _ _ _ z).trans (State.chrQuar_arrived _ _ _ _ _ _)
  unfold State.quarantine
  dsimp only
  split
  · exact (State.setSrc_arrived _ _ s).trans (hrec _)
  · exact (State.setSrc_arrived _ _ s).trans (hrec _)
  · exact ((State.discardBuf_arrived _ _ s).trans (State.setSrc_arrived _ _ _)).trans (hrec _)
  · split
    · rfl
    · exact ((State.discardBuf_arrived _ _ s).trans (State.setSrc_arrived _ _ _)).trans (hrec _)
  · split
    · rfl
    · exact ((State.discardBuf_arrived _ _ s).trans (State.setSrc_arrived _ _ _)).trans (hrec _)
  · rfl

theorem State.stormCount_arrived (n : Nat) (s : State) : Arrived s (s.stormCount n) := by
  have hcounted (x : Source) (k : Nat) : Arrived s (if s.o 0x2007 n < k
      then ((s.setSrc n x).quarantine n 0).dial 3 ((s.setSrc n x).srcTen n) else s.setSrc n x) := by
    split
    · exact ((State.setSrc_arrived _ _ s).trans (State.quarantine_arrived n 0 _)).trans (State.dial_arrived _ _ _)
    · exact State.setSrc_arrived _ _ s
  unfold State.stormCount
  dsimp only
  split
  · rfl
  · split
    · exact hcounted _ _
    · exact hcounted _ _

theorem State.stage_arrived (n : Nat) (a : Arrival) (pay : Option (List Byte)) (s : State) :
    Arrived s (s.stage n a pay).2 := by
  unfold State.stage
  split
  · rfl
  · rename_i bytes
    have halloc := State.allocBuf_arrived (s.srcTen n) bytes s
    split
    next i t h => rw [h] at halloc; exact halloc
    next t h =>
      rw [h] at halloc
      exact (halloc.trans (State.bump_arrived _ _ _ _)).trans (State.dial_arrived _ _ _)

theorem State.mergeArrival_arrived (n : Nat) (old a : Arrival) (pay : Option (List Byte)) (s : State) :
    Arrived s (s.mergeArrival n old a pay).2 := by
  unfold State.mergeArrival
  cases pay with
  | none => rfl
  | some bytes =>
    dsimp only
    split
    · exact State.stage_arrived _ _ _ s
    · split
      · exact State.bump_arrived _ _ _ s
      · split
        · exact (State.bump_arrived _ _ _ s).trans (State.setBuf_arrived _ _ _)
        · exact (State.bump_arrived _ _ _ s).trans (State.stage_arrived _ _ _ _)

theorem State.dropPay_arrived (n : Nat) (pay : Option (List Byte)) (s : State) : Arrived s (s.dropPay n pay) := by
  unfold State.dropPay; split <;> rfl

theorem State.wake_arrived (cause n : Nat) (s : State) : Arrived s (s.wake cause n) := by
  unfold State.wake
  dsimp only
  generalize 2 ^ cause + (if cause = 0 then n * 65536 else 0) = bits
  split
  · split
    · refine Arrived.trans ?_ (State.post_arrived .pme _)
      rfl
    · rfl
  · split
    · split <;> rfl
    · split <;> rfl

theorem State.arrive_arrived (n : Nat) (stamp : Beat) (hw : Bool) (a : Arrival) (pay : Option (List Byte)) (s : State) :
    Arrived s (s.arrive n stamp hw a pay) := by
  have htrunc : Arrived s (if a.trunc then s.bump 0x7030 (s.srcTen n) 1 else s) := by split <;> rfl
  unfold State.arrive
  dsimp only
  generalize (if a.trunc then s.bump 0x7030 (s.srcTen n) 1 else s) = z at htrunc
  generalize (if hw = true then { s.srcAt n with hwAt := some z.now, hwStamp := stamp } else s.srcAt n) = x
  split
  · rfl
  · split
    · split
      · refine Arrived.trans ?_ (State.wake_arrived _ _ _)
        rfl
      · rfl
    · have hstart {x : Source} {t : State} (h : Arrived (z.setSrc n x) t) : Arrived s t :=
        htrunc.trans ((State.setSrc_arrived n x z).trans h)
      split
      · exact hstart (State.bump_arrived _ _ _ _)
      · split
        · exact hstart (((State.stage_arrived _ _ _ _).trans (State.toPending_arrived _ _ _ _ _)).trans
            ((State.note_arrived _ _ _ _).trans (State.stormCount_arrived _ _)))
        · exact hstart (((State.mergeArrival_arrived _ _ _ _ _).trans (State.setSrc_arrived _ _ _)).trans
            ((State.bump_arrived _ _ _ _).trans ((State.note_arrived _ _ _ _).trans (State.stormCount_arrived _ _))))
        · split
          · exact hstart (((State.mergeArrival_arrived _ _ _ _ _).trans (State.setSrc_arrived _ _ _)).trans
              ((State.bump_arrived _ _ _ _).trans (State.stormCount_arrived _ _)))
          · exact hstart (((State.stage_arrived _ _ _ _).trans (State.setSrc_arrived _ _ _)).trans
              ((State.note_arrived _ _ _ _).trans (State.stormCount_arrived _ _)))
        · split
          · exact hstart (((State.mergeArrival_arrived _ _ _ _ _).trans (State.setSrc_arrived _ _ _)).trans
              ((State.bump_arrived _ _ _ _).trans (State.stormCount_arrived _ _)))
          · exact hstart (((State.stage_arrived _ _ _ _).trans (State.setSrc_arrived _ _ _)).trans
              ((State.note_arrived _ _ _ _).trans (State.stormCount_arrived _ _)))
        · exact hstart ((State.bump_arrived _ _ _ _).trans (State.dropPay_arrived _ _ _))
        · exact hstart (((State.bump_arrived _ _ _ _).trans (State.dropPay_arrived _ _ _)).trans
            ((State.setSrc_arrived _ _ _).trans (State.note_arrived _ _ _ _)))

/-- Row 2 is emptied by arrivals. -/
theorem State.hwRow_arrived (s : State) : Arrived { s with row2 := [] } s.hwRow :=
  each_keep (Arrived { s with row2 := [] }) _ (fun _ z h => h.trans (State.arrive_arrived _ _ _ _ _ z)) s.row2 _ rfl

/-! ## Glitch filters (R22–R24) -/

@[simp] theorem State.filtAt_setFilt (n : Nat) (x : Filt) (s : State) : (s.setFilt n x).filtAt n = x :=
  smGet_set_same _ _ _ _

theorem State.filtAt_setFilt_ne {n m : Nat} (x : Filt) (s : State) (h : m ≠ n) : (s.setFilt n x).filtAt m = s.filtAt m :=
  smGet_set_other _ _ _ h

theorem State.sampled_same {n : Nat} {level : Bool} {u : State} (since : Nat)
    (h : (u.filtAt n).sample = level ∨ level = true ∧ u.bankOf n = false) : u.sampled n level since = u := by
  refine if_pos ?_
  rcases h with hsame | ⟨hlevel, hbank⟩
  · simp [hsame]
  · simp [hlevel, hbank]

theorem State.sampled_turns {n : Nat} {level : Bool} {u : State} (since : Nat) (hsample : (u.filtAt n).sample = !level)
    (hbank : level = true → u.bankOf n = true) :
    u.sampled n level since
      = u.setFilt n { value := (u.filtAt n).value, sample := level, since := max since (u.filtAt n).since } := by
  refine if_neg ?_
  cases level <;> simp_all

theorem State.filtTurn_settled {n : Nat} {u : State} (h : (u.filtAt n).value = (u.filtAt n).sample) : u.filtTurn n = u := by
  simp [State.filtTurn, State.filtDue, h]

theorem State.filtTurn_counting {n : Nat} {u : State}
    (h : u.now < (u.filtAt n).since + u.o 0x2005 (32 + n)) : u.filtTurn n = u := by
  by_cases hsettled : (u.filtAt n).value = (u.filtAt n).sample
  · exact State.filtTurn_settled hsettled
  · simp only [State.filtTurn, State.filtDue, if_neg hsettled, if_neg (Nat.not_le.mpr h)]

theorem State.filtTurn_full {n : Nat} {u : State} (hdiffers : (u.filtAt n).value ≠ (u.filtAt n).sample)
    (hfull : (u.filtAt n).since + u.o 0x2005 (32 + n) ≤ u.now) :
    u.filtTurn n =
      (let turned := u.setFilt n { u.filtAt n with value := (u.filtAt n).sample }
       if u.sensing && edgeSensed (u.sense (32 + n)) (u.filtAt n).sample
       then { turned with row2 := turned.row2 ++ [(32 + n, u.cnt)] } else turned) := by
  simp only [State.filtTurn, State.filtDue, if_neg hdiffers, if_pos hfull]
  rfl

/-! ## Loops over elements -/

theorem loop_keep {σ : Type} (P : σ → Prop) (f : Nat → σ → σ) (hf : ∀ i s, P s → P (f i s)) (k : Nat) :
    ∀ lo s, P s → P (loop f lo k s) := by
  induction k with
  | zero => intro lo s h; exact h
  | succ k ih => intro lo s h; exact ih (lo + 1) _ (hf lo s h)

/-- A loop whose turn `i` acts on element `i` alone: an element outside its range is as it was. -/
theorem loop_other {σ α : Type} (get : σ → Nat → α) (f : Nat → σ → σ)
    (hother : ∀ i j s, j ≠ i → get (f i s) j = get s j) {n : Nat} (k : Nat) :
    ∀ lo s, n < lo ∨ lo + k ≤ n → get (loop f lo k s) n = get s n := by
  induction k with
  | zero => intro lo s _; rfl
  | succ k ih =>
    intro lo s hout
    exact (ih (lo + 1) _ (by omega)).trans (hother lo n s (by omega))

/-- An element in the range of such a loop has its own turn, and that alone. -/
theorem loop_at {σ α : Type} (get : σ → Nat → α) (P : σ → Prop) (R : α → α → Prop) (f : Nat → σ → σ)
    (hother : ∀ i j s, j ≠ i → get (f i s) j = get s j) (hf : ∀ i s, P s → P (f i s))
    (hturn : ∀ i s, P s → R (get s i) (get (f i s) i)) {n : Nat} (k : Nat) :
    ∀ lo s, P s → lo ≤ n → n < lo + k → R (get s n) (get (loop f lo k s) n) := by
  induction k with
  | zero => intro lo s _ hlo hhi; omega
  | succ k ih =>
    intro lo s h hlo hhi
    by_cases hn : n = lo
    · subst hn
      have hleft := loop_other get f hother k (n + 1) (f n s) (.inl (Nat.lt_succ_self n))
      exact hleft ▸ hturn n s h
    · have hback : get (f lo s) n = get s n := hother lo n s hn
      exact hback ▸ ih (lo + 1) (f lo s) (hf lo s h) (by omega) (by omega)

/-! ## Bank supplies (R22, R70) -/

/-- The bank's presence and the expander outputs of its four ports, as a loss or a return leaves them. -/
def State.bankPorts (u : State) (viob v : Bool) : State :=
  loop (fun n s => s.setEng n { s.engAt n with dout := false }) (if viob then 4 else 0) 4
    (if viob then { u with bankB := v } else { u with bankA := v })

/-- One input of a lost bank is sampled 0. -/
def State.inputLost (n : Nat) (s : State) : State := (s.sampled n false s.now).filtTurn n

theorem State.bankSet_loss (u : State) (viob : Bool) :
    u.bankSet viob false = (loop State.inputLost (if viob then 48 else 0) 48 (u.bankPorts viob false)).hwRow := rfl

theorem State.bankSet_return (u : State) (viob : Bool) : u.bankSet viob true = u.bankPorts viob true := rfl

theorem State.bankPorts_eq (u : State) (viob v : Bool) : u.bankPorts viob v = { u with
    bankA := if viob then u.bankA else v, bankB := if viob then v else u.bankB, eng := (u.bankPorts viob v).eng } := by
  refine loop_keep (fun z : State => z = { u with
    bankA := if viob then u.bankA else v, bankB := if viob then v else u.bankB, eng := z.eng }) _ ?_ 4 _ _ ?_
  · intro i z h
    exact congrArg (fun w : State => { w with eng := (z.setEng i { z.engAt i with dout := false }).eng }) h
  · cases viob <;> rfl

theorem State.engAt_bankPorts (u : State) (viob v : Bool) {n : Nat} (hn : n < 8) :
    (u.bankPorts viob v).engAt n = { u.engAt n with dout := (u.engAt n).dout && (Decidable.decide (4 ≤ n) != viob) } := by
  have hother : ∀ i j (z : State), j ≠ i → (z.setEng i { z.engAt i with dout := false }).engAt j = z.engAt j :=
    fun i j z h => State.engAt_setEng_ne _ _ h
  by_cases hin : (if viob then 4 else 0) ≤ n ∧ n < (if viob then 4 else 0) + 4
  · have hbank : (Decidable.decide (4 ≤ n) != viob) = false := by cases viob <;> simp_all
    rw [hbank, Bool.and_false]
    exact (loop_at State.engAt (fun _ => True) (fun x y => y = { x with dout := false }) _ hother (fun _ _ _ => trivial)
      (fun i z _ => State.engAt_setEng _ _ _) 4 _ _ trivial hin.1 hin.2).trans (by cases viob <;> rfl)
  · have hbank : (Decidable.decide (4 ≤ n) != viob) = true := by cases viob <;> simp_all
    rw [hbank, Bool.and_true]
    exact (loop_other State.engAt _ hother 4 _ _ (by omega)).trans (by cases viob <;> rfl)

theorem State.filtAt_filtTurn_ne {n m : Nat} (s : State) (h : m ≠ n) : (s.filtTurn n).filtAt m = s.filtAt m := by
  unfold State.filtTurn
  split
  · rfl
  · split
    · dsimp only
      split <;> exact State.filtAt_setFilt_ne _ s h
    · rfl

/-- A turn of the filtered value leaves the sampled level and its beat. -/
theorem State.filtAt_filtTurn (n : Nat) (s : State) :
    ((s.filtTurn n).filtAt n).sample = (s.filtAt n).sample ∧ ((s.filtTurn n).filtAt n).since = (s.filtAt n).since := by
  have hset : ∀ z : State, z.filtered = (s.setFilt n { s.filtAt n with value := (s.filtAt n).sample }).filtered →
      (z.filtAt n).sample = (s.filtAt n).sample ∧ (z.filtAt n).since = (s.filtAt n).since := by
    intro z hz
    have hfilt : z.filtAt n = { s.filtAt n with value := (s.filtAt n).sample } :=
      (congrArg (fun m => smGet (fun _ => Filt.init) m n) hz).trans (State.filtAt_setFilt _ _ _)
    rw [hfilt]; exact ⟨rfl, rfl⟩
  unfold State.filtTurn
  split
  · exact ⟨rfl, rfl⟩
  · split
    · dsimp only
      split <;> exact hset _ rfl
    · exact ⟨rfl, rfl⟩

theorem State.filtTurn_eq (n : Nat) (s : State) :
    s.filtTurn n = { s with filtered := (s.filtTurn n).filtered, row2 := (s.filtTurn n).row2 } := by
  unfold State.filtTurn
  split
  · rfl
  · split
    · dsimp only
      split <;> rfl
    · rfl

theorem State.inputLost_eq (n : Nat) (s : State) :
    s.inputLost n = { s with filtered := (s.inputLost n).filtered, row2 := (s.inputLost n).row2 } := by
  have hsampled : s.sampled n false s.now = { s with filtered := (s.sampled n false s.now).filtered } := by
    unfold State.sampled
    dsimp only
    split <;> rfl
  exact (State.filtTurn_eq n _).trans (congrArg (fun z : State =>
    { z with filtered := (s.inputLost n).filtered, row2 := (s.inputLost n).row2 }) hsampled)

theorem State.filtAt_inputLost_ne {n m : Nat} (s : State) (h : m ≠ n) : (s.inputLost n).filtAt m = s.filtAt m := by
  refine (State.filtAt_filtTurn_ne _ h).trans ?_
  unfold State.sampled
  dsimp only
  split
  · rfl
  · exact State.filtAt_setFilt_ne _ s h

/-- A lost input: its sample is 0, and one that was 1 counts from this beat. -/
theorem State.filtAt_inputLost (n : Nat) (s : State) : ((s.inputLost n).filtAt n).sample = false
    ∧ ((s.filtAt n).sample = true → ((s.inputLost n).filtAt n).since = max s.now (s.filtAt n).since) := by
  obtain ⟨hsample, hsince⟩ := State.filtAt_filtTurn n (s.sampled n false s.now)
  have hturned : s.inputLost n = (s.sampled n false s.now).filtTurn n := rfl
  rw [hturned, hsample, hsince]
  cases hx : (s.filtAt n).sample with
  | false => rw [State.sampled_same _ (.inl hx)]; exact ⟨hx, fun h => Bool.noConfusion h⟩
  | true => rw [State.sampled_turns (level := false) _ hx (fun h => Bool.noConfusion h), State.filtAt_setFilt]; exact ⟨rfl, fun _ => rfl⟩

theorem State.engAt_of_eng {s t : State} (h : t.eng = s.eng) (n : Nat) : t.engAt n = s.engAt n := by
  unfold State.engAt; rw [h]

theorem State.filtAt_of_filtered {s t : State} (h : t.filtered = s.filtered) (n : Nat) : t.filtAt n = s.filtAt n := by
  unfold State.filtAt; rw [h]

theorem State.inputsLost_eq (lo : Nat) (d : State) : loop State.inputLost lo 48 d
    = { d with filtered := (loop State.inputLost lo 48 d).filtered, row2 := (loop State.inputLost lo 48 d).row2 } :=
  loop_keep (fun z : State => z = { d with filtered := z.filtered, row2 := z.row2 }) _ (fun i z h =>
    (State.inputLost_eq i z).trans (congrArg (fun w : State =>
      { w with filtered := (z.inputLost i).filtered, row2 := (z.inputLost i).row2 }) h)) 48 lo d rfl

/-- What follows the loss at the inputs: the arrivals of row 2 leave the banks, the engines and the filters. -/
theorem State.inputsLost_hwRow (lo : Nat) (d : State) :
    (loop State.inputLost lo 48 d).hwRow.bankA = d.bankA ∧ (loop State.inputLost lo 48 d).hwRow.bankB = d.bankB
      ∧ (loop State.inputLost lo 48 d).hwRow.eng = d.eng
      ∧ (loop State.inputLost lo 48 d).hwRow.filtered = (loop State.inputLost lo 48 d).filtered := by
  have hloop := State.inputsLost_eq lo d
  generalize loop State.inputLost lo 48 d = e at hloop
  have hrow := State.hwRow_arrived e
  have hbankA : e.bankA = d.bankA := (congrArg State.bankA hloop :)
  have hbankB : e.bankB = d.bankB := (congrArg State.bankB hloop :)
  have heng : e.eng = d.eng := (congrArg State.eng hloop :)
  exact ⟨hrow.bankA.trans hbankA, hrow.bankB.trans hbankB, hrow.eng.trans heng, hrow.filtered⟩

theorem State.bankA_bankPorts (u : State) (viob v : Bool) : (u.bankPorts viob v).bankA = if viob then u.bankA else v := by
  rw [State.bankPorts_eq]

theorem State.bankB_bankPorts (u : State) (viob v : Bool) : (u.bankPorts viob v).bankB = if viob then v else u.bankB := by
  rw [State.bankPorts_eq]

theorem State.filtered_bankPorts (u : State) (viob v : Bool) : (u.bankPorts viob v).filtered = u.filtered := by
  rw [State.bankPorts_eq]

theorem State.now_bankPorts (u : State) (viob v : Bool) : (u.bankPorts viob v).now = u.now := by
  rw [State.bankPorts_eq]

/-- A port of the bank is powered as the bank is. -/
theorem State.xpPowered_of_bank {z u : State} {viob v : Bool} {n : Nat} (hA : z.bankA = if viob then u.bankA else v)
    (hB : z.bankB = if viob then v else u.bankB) (hport : (Decidable.decide (4 ≤ n) != viob) = false) :
    z.xpPowered n = v := by
  unfold State.xpPowered
  rw [hA, hB]
  cases viob <;> simp_all

/-- A lost bank's inputs, and the other bank's. -/
theorem State.filtAt_inputsLost (d : State) (viob : Bool) {n : Nat} (hn : n < 96) :
    let e := loop State.inputLost (if viob then 48 else 0) 48 d
    ((Decidable.decide (48 ≤ n) != viob) = true → e.filtAt n = d.filtAt n)
      ∧ ((Decidable.decide (48 ≤ n) != viob) = false → (e.filtAt n).sample = false
        ∧ ((d.filtAt n).sample = true → (e.filtAt n).since = max d.now (d.filtAt n).since)) := by
  have hother : ∀ i j (z : State), j ≠ i → (z.inputLost i).filtAt j = z.filtAt j :=
    fun i j z h => State.filtAt_inputLost_ne z h
  refine ⟨fun hkept => loop_other State.filtAt _ hother 48 _ _ ?_, fun hlost => ?_⟩
  · cases viob <;> simp_all
  · have hin : (if viob then 48 else 0) ≤ n ∧ n < (if viob then 48 else 0) + 48 := by
      cases viob <;> simp_all
    exact loop_at State.filtAt (fun z : State => z.now = d.now)
      (fun x y => y.sample = false ∧ (x.sample = true → y.since = max d.now x.since)) State.inputLost hother
      (fun i z h => by rw [State.inputLost_eq]; exact h)
      (fun i z h => by have hz := State.filtAt_inputLost i z; rw [h] at hz; exact hz) 48 _ d rfl hin.1 hin.2

end Sys2Proof.Machine

open Sys2Proof Sys2Proof.Machine

/-- Settles O8: the sample that is no change, the one that starts a count, the count that is full. -/
theorem glitchFilterOutput : Obligations.GlitchFilterOutput := by
  intro s b n level since u x c full counts turned hn
  have hrun : exec (.glitchFilterChange b n level since) s = .next (u.filterChange n level since) :=
    at_runs (decide_eq_true hn)
  refine ⟨fun hsettled hsame => ?same, fun hsample hbank => ?turns⟩
  case same =>
    have hnone : (u.sampled n level (min since u.now)).filtTurn n = u := by
      rw [State.sampled_same _ hsame, State.filtTurn_settled hsettled]
    exact hrun.trans (congrArg (fun z : State => Host.Outcome.next z.hwRow) hnone)
  case turns =>
    have hcount : u.sampled n level (min since u.now) = counts x.value := State.sampled_turns _ hsample hbank
    have hfilt (v : Bool) : (counts v).filtAt n = { value := v, sample := level, since := c } := State.filtAt_setFilt _ _ _
    have hturn {z : State} (h : (counts x.value).filtTurn n = z) :
        exec (.glitchFilterChange b n level since) s = .next z.hwRow :=
      hrun.trans (congrArg (fun w : State => Host.Outcome.next w.hwRow) ((congrArg (State.filtTurn n) hcount).trans h))
    refine ⟨fun hvalue => hturn ?_, fun hvalue hcounting => hturn ?_, fun hvalue hfull => ?full⟩
    · rw [hvalue]
      exact State.filtTurn_settled (by rw [hfilt])
    · rw [hvalue]
      exact State.filtTurn_counting (by rw [hfilt]; exact hcounting)
    case full =>
      have hdiffers : ((counts (!level)).filtAt n).value ≠ ((counts (!level)).filtAt n).sample := by
        rw [hfilt]; exact Bool.not_ne_self level
      have hout := State.filtTurn_full hdiffers (by rw [hfilt]; exact hfull)
      rw [hfilt] at hout
      refine (hturn ((congrArg (fun v => (counts v).filtTurn n) hvalue).trans hout)).trans ?_
      simp only [Bool.and_eq_true]
      rfl

/-- Settles O7: the bank, its ports' outputs and its inputs, each by its own loop. -/
theorem bankSupplies : Obligations.BankSupplies := by
  intro s b viob u other
  have hloss : exec (.bankSupplyLoss b viob) s = .next (u.bankSet viob false) := at_runs rfl
  have hreturn : exec (.bankSupplyReturn b viob) s = .next (u.bankSet viob true) := at_runs rfl
  refine ⟨⟨_, hloss, ?loss⟩, ⟨_, hreturn, ?return_⟩⟩ <;> clear hloss hreturn <;> clear_value u
  case loss =>
    rw [State.bankSet_loss]
    obtain ⟨hbankA, hbankB, heng, hfiltered⟩ := State.inputsLost_hwRow (if viob then 48 else 0) (u.bankPorts viob false)
    rw [State.bankA_bankPorts] at hbankA
    rw [State.bankB_bankPorts] at hbankB
    have hports (n : Nat) : (u.bankPorts viob false).filtAt n = u.filtAt n :=
      State.filtAt_of_filtered (State.filtered_bankPorts u viob false) n
    refine ⟨hbankA.trans (by cases viob <;> simp), hbankB.trans (by cases viob <;> simp), fun n hn => ⟨?_, fun hlost => ?_⟩,
      fun n hn => ?inputs⟩
    · exact (State.engAt_of_eng heng n).trans (State.engAt_bankPorts u viob false hn)
    · exact if_neg (by rw [State.xpPowered_of_bank hbankA hbankB hlost]; exact Bool.false_ne_true)
    case inputs =>
      obtain ⟨hkept, hlost⟩ := State.filtAt_inputsLost (u.bankPorts viob false) viob hn
      rw [State.now_bankPorts] at hlost
      rw [hports] at hkept hlost
      rw [State.filtAt_of_filtered hfiltered n]
      cases hbank : other 48 n with
      | true => exact ⟨(congrArg Filt.sample (hkept hbank)).trans (Bool.and_true _).symm, fun _ h => Bool.noConfusion h,
          fun _ => hkept hbank⟩
      | false =>
        obtain ⟨hsample, hsince⟩ := hlost hbank
        exact ⟨hsample.trans (Bool.and_false _).symm, fun h _ => hsince h, fun h => Bool.noConfusion h⟩
  case return_ =>
    rw [State.bankSet_return]
    have hframe := State.bankPorts_eq u viob true
    refine ⟨State.filtered_bankPorts u viob true, (congrArg State.obj hframe :), (congrArg State.src hframe :),
      (State.bankA_bankPorts u viob true).trans (by cases viob <;> simp),
      (State.bankB_bankPorts u viob true).trans (by cases viob <;> simp), fun n hn => ⟨?_, fun hback => ?_⟩⟩
    · exact State.engAt_bankPorts u viob true hn
    · refine (if_pos (State.xpPowered_of_bank (State.bankA_bankPorts u viob true) (State.bankB_bankPorts u viob true) hback)).trans ?_
      rw [State.engAt_bankPorts u viob true hn, show (decide (4 ≤ n) != viob) = false from hback]
      simp

end

section
/-! Software requests of sources and the arrays that make them (R38–R40, R110, R124). -/

namespace Sys2Proof.Machine

open Sys2Proof

/-- A change noted in the journal and without a storm limit. -/
theorem State.note_stormCount {z : State} {n : Nat} (ev : Ev) (old : Source) (h : z.o 0x2007 n = 0) (hn : n < 65536) :
    (z.note ev n old).stormCount n = z.note ev n old :=
  State.stormCount_off n _ ((State.o_note ev n old z (by unfold pkey; omega)).trans h)

theorem pkey_ne {i j e f : Nat} (h : i ≠ j) (he : e < 65536) (hf : f < 65536) : pkey i e ≠ pkey j f := by
  unfold pkey; omega

/-! ## A set-pending that is applied, by the state it meets (R38, Table 05-4) -/

section
variable {u : State} {n : Nat} (hn : n < 65536) (hsensing : u.sensing = true) (hawake : u.asleep = false)
  (hreset : u.resetting (u.srcTen n) = false) (hhw : (u.srcAt n).hwAt ≠ some u.now) (hstorm : u.o 0x2007 n = 0)
include hn hsensing hawake hreset hhw hstorm

theorem State.setPending_idle (hst : (u.srcAt n).st = .idle) :
    ((u.setPending n).srcAt n).st = .pending ∧ ((u.setPending n).srcAt n).stamp = u.cnt := by
  have hout : u.setPending n = (((u.setSrc n (u.srcAt n)).toPending n u.cnt false .none).note
      { code := 1, sw := true } n (u.srcAt n)).stormCount n := by
    simp [State.setPending, State.arrive, hsensing, hawake, hreset, hhw, hst, State.stage, Arrival.none]
  have hlimit : ((u.setSrc n (u.srcAt n)).toPending n u.cnt false .none).o 0x2007 n = 0 := by
    rw [State.o_toPending _ _ _ _ _ (by unfold pkey; omega)]; exact hstorm
  obtain ⟨hpend, hstamp, -⟩ := State.srcAt_toPending n u.cnt false .none (u.setSrc n (u.srcAt n))
  rw [hout, State.note_stormCount _ _ hlimit hn, State.srcAt_note]
  exact ⟨hpend, hstamp⟩

theorem State.setPending_pending (hst : (u.srcAt n).st = .pending) :
    ((u.setPending n).srcAt n).st = .pending ∧ ((u.setPending n).srcAt n).stamp = (u.srcAt n).stamp
      ∧ ((u.setPending n).srcAt n).lvl = false ∧ (u.setPending n).o 0x7010 n = satAdd 32 (u.o 0x7010 n) 1 := by
  obtain ⟨i, hout⟩ : ∃ i, u.setPending n = ((((u.setSrc n (u.srcAt n)).setSrc n
      { u.srcAt n with lvl := false, info := i }).bump 0x7010 n 1).note { code := 1, sw := true } n (u.srcAt n)).stormCount n :=
    ⟨_, by simp [State.setPending, State.arrive, hsensing, hawake, hreset, hhw, hst, State.mergeArrival, Arrival.none]; rfl⟩
  have hlimit (y : Source) : (((u.setSrc n (u.srcAt n)).setSrc n y).bump 0x7010 n 1).o 0x2007 n = 0 :=
    (State.o_bump_ne _ _ _ _ (pkey_ne (by decide) hn hn)).trans hstorm
  rw [hout, State.note_stormCount _ _ (hlimit _) hn, State.srcAt_note, State.o_note _ _ _ _ (pkey_ne (by decide) hn (by decide))]
  simp [hst]

theorem State.setPending_delivered (hst : (u.srcAt n).st = .inFlight ∨ (u.srcAt n).st = .active) :
    ((u.setPending n).srcAt n).st = (u.srcAt n).st ∧ ((u.setPending n).srcAt n).repend = true
      ∧ (if (u.srcAt n).repend then (u.setPending n).o 0x7010 n = satAdd 32 (u.o 0x7010 n) 1
         else ((u.setPending n).srcAt n).rependStamp = u.cnt) := by
  cases hrep : (u.srcAt n).repend with
  | true =>
    obtain ⟨i, hout⟩ : ∃ i, u.setPending n = (((u.setSrc n (u.srcAt n)).setSrc n
        { u.srcAt n with rep := i }).bump 0x7010 n 1).stormCount n := by
      rcases hst with hst | hst <;>
        exact ⟨_, by simp [State.setPending, State.arrive, hsensing, hawake, hreset, hhw, hst, hrep, State.mergeArrival, Arrival.none]; rfl⟩
    have hlimit (y : Source) : (((u.setSrc n (u.srcAt n)).setSrc n y).bump 0x7010 n 1).o 0x2007 n = 0 :=
      (State.o_bump_ne _ _ _ _ (pkey_ne (by decide) hn hn)).trans hstorm
    rw [hout, State.stormCount_off _ _ (hlimit _)]
    simp [hrep]
  | false =>
    obtain ⟨i, hout⟩ : ∃ i, u.setPending n = ((((u.setSrc n (u.srcAt n)).setSrc n
        { u.srcAt n with repend := true, rependStamp := u.cnt, rep := i })).note { code := 1, sw := true } n (u.srcAt n)).stormCount n := by
      rcases hst with hst | hst <;>
        exact ⟨_, by simp [State.setPending, State.arrive, hsensing, hawake, hreset, hhw, hst, hrep, State.stage, Arrival.none]; rfl⟩
    have hlimit (y : Source) : ((u.setSrc n (u.srcAt n)).setSrc n y).o 0x2007 n = 0 := hstorm
    rw [hout, State.note_stormCount _ _ (hlimit _) hn, State.srcAt_note]
    simp

omit hn hstorm in
theorem State.setPending_completed (hst : (u.srcAt n).st = .completed) :
    ((u.setPending n).srcAt n).st = .completed ∧ (u.setPending n).o 0x7011 n = satAdd 32 (u.o 0x7011 n) 1 := by
  have hout : u.setPending n = (u.setSrc n (u.srcAt n)).bump 0x7011 n 1 := by
    simp [State.setPending, State.arrive, hsensing, hawake, hreset, hhw, hst, State.dropPay, Arrival.none]
  rw [hout]
  simp [hst]

omit hstorm in
theorem State.setPending_quarantined (hst : (u.srcAt n).st = .quarantined) :
    ((u.setPending n).srcAt n).st = .quarantined ∧ ((u.setPending n).srcAt n).qpend = true
      ∧ (u.setPending n).o 0x7011 n = satAdd 32 (u.o 0x7011 n) 1 := by
  have hout : u.setPending n = ((((u.setSrc n (u.srcAt n)).bump 0x7011 n 1)).setSrc n
      { u.srcAt n with qpend := true }).note { code := 1, sw := true } n (u.srcAt n) := by
    simp [State.setPending, State.arrive, hsensing, hawake, hreset, hhw, hst, State.dropPay, Arrival.none]
  rw [hout, State.srcAt_note, State.o_note _ _ _ _ (pkey_ne (by decide) hn (by decide))]
  simp [hst]

end

/-! ## A clear-pending, by the state it meets (R39) -/

theorem State.clearPending_dlv (n : Nat) (u : State) : (u.clearPending n).dlv = u.dlv := by
  unfold State.clearPending
  dsimp only
  split <;> simp [State.discardBuf_same]

theorem State.clearPending_waits {u : State} {n : Nat}
    (hst : (u.srcAt n).st = .pending ∨ (u.srcAt n).st = .completed ∨ (u.srcAt n).st = .idle) :
    ((u.clearPending n).srcAt n).st = .idle := by
  rcases hst with hst | hst | hst <;> simp [State.clearPending, hst, Source.toIdle]

theorem State.clearPending_delivered {u : State} {n : Nat} (hst : (u.srcAt n).st = .inFlight ∨ (u.srcAt n).st = .active) :
    ((u.clearPending n).srcAt n).st = (u.srcAt n).st ∧ ((u.clearPending n).srcAt n).repend = false
      ∧ ((u.clearPending n).srcAt n).target = (u.srcAt n).target := by
  rcases hst with hst | hst <;> simp [State.clearPending, hst]

theorem State.clearPending_quarantined {u : State} {n : Nat} (hst : (u.srcAt n).st = .quarantined) :
    ((u.clearPending n).srcAt n).st = .quarantined ∧ ((u.clearPending n).srcAt n).qpend = false := by
  simp [State.clearPending, hst]

/-! ## Enabling (R110, R124) -/

theorem State.setEnable_same {u : State} {n : Nat} {on : Bool} (h : (u.o 0x2006 n == 1) = on) : u.setEnable n on = u :=
  if_pos (beq_iff_eq.mpr h)

theorem State.setEnable_changes {u : State} {n : Nat} {on : Bool} (h : (u.o 0x2006 n == 1) ≠ on) :
    u.setEnable n on = if (u.srcAt n).st == .pending || (u.srcAt n).bcast then (u.setO 0x2006 n (b2n on)).rerank n
      else u.setO 0x2006 n (b2n on) :=
  if_neg (by simpa using h)

theorem State.o_rerank (n i e : Nat) (s : State) : (s.rerank n).o i e = s.o i e := rfl

theorem State.srcAt_rerank (n : Nat) (s : State) : (s.rerank n).srcAt n = { s.srcAt n with
    rankedAt := s.now + 24, members := (s.srcAt n).members.map (fun m => { m with rankedAt := s.now + 24 }) } :=
  State.srcAt_setSrc _ _ _

end Sys2Proof.Machine

open Sys2Proof Sys2Proof.Machine

/-- Settles O17, state by state. -/
theorem setPending : Obligations.SetPending := by
  intro s b pr el e q x he hwf h hsensing hreset hhw hstorm
  obtain ⟨hpr, hel⟩ : pr < 32 ∧ el < 65536 := by
    have hwf' : (decide (pr < 32) && decide (el < 65536) && decide (1 < 256 ^ typeSize (typeOf 0xF008))) = true := hwf
    simp at hwf'
    exact hwf'.1
  have hn : e < 65536 := by omega
  have hawake : q.asleep = false := h.2.1
  refine ⟨_, dict_next_high hpr hel (by decide) h (by decide) rfl, rfl, ?_⟩
  exact ⟨State.setPending_idle hn hsensing hawake hreset hhw hstorm, State.setPending_pending hn hsensing hawake hreset hhw hstorm,
    State.setPending_delivered hn hsensing hawake hreset hhw hstorm,
    State.setPending_completed hsensing hawake hreset hhw,
    State.setPending_quarantined hn hsensing hawake hreset hhw⟩

/-- Settles O18, state by state. -/
theorem clearPending : Obligations.ClearPending := by
  intro s b pr el e q x hwf h
  obtain ⟨hpr, hel⟩ : pr < 32 ∧ el < 65536 := by
    have hwf' : (decide (pr < 32) && decide (el < 65536) && decide (1 < 256 ^ typeSize (typeOf 0xF009))) = true := hwf
    simp at hwf'
    exact hwf'.1
  refine ⟨_, dict_next_high hpr hel (by decide) h (by decide) rfl, rfl, State.clearPending_dlv e q, ?_⟩
  exact ⟨State.clearPending_waits, State.clearPending_delivered, State.clearPending_quarantined⟩

/-- Settles O16: the enable, then the new ranking of a source that waits. -/
theorem enableKeepsSource : Obligations.EnableKeepsSource := by
  intro u n on
  by_cases hsame : (u.o 0x2006 n == 1) = on
  · rw [State.setEnable_same hsame, if_pos hsame]
    exact ⟨rfl, rfl, rfl, rfl, fun _ _ => rfl, fun _ h => absurd hsame h⟩
  · rw [State.setEnable_changes hsame, if_neg hsame]
    split
    · rw [State.srcAt_rerank, State.o_rerank, State.o_setO]
      exact ⟨rfl, rfl, rfl, rfl, fun m hm => State.srcAt_setSrc_ne _ _ hm, fun _ _ => rfl⟩
    next hrest =>
      rw [State.o_setO]
      exact ⟨rfl, rfl, rfl, rfl, fun _ _ => rfl, fun hst _ => absurd (by rw [hst]; rfl) hrest⟩

/-- Settles O15: each array acts through its own request. -/
theorem sourceArrays : Obligations.SourceArrays := by
  intro s b fn k mask q onBits hk hfn h
  have hfits : (decide (k < 128) && decide (fn < 32)) = true := by rw [decide_eq_true hk, decide_eq_true hfn]; rfl
  exact ⟨req_takes hfits rfl rfl h, req_takes hfits rfl rfl h, req_takes hfits rfl rfl h, req_takes hfits rfl rfl h⟩

end

section
/-! Doorbell writes and their arrival (R43, R45); reads of the payload window (R56). -/

namespace Sys2Proof.Machine

open Sys2Proof

/-! ## Doorbell writes (R43) -/

/-- The form of an accepted doorbell: byte 0 of its slot, 8 to 72 enabled bytes without a gap. -/
def bellFormed (w : MemWrite) : Prop :=
  w.off % 128 = 0 ∧ 2 ≤ w.data.length ∧ w.beFirst = 0xF
    ∧ (w.beLast = 1 ∨ w.beLast = 3 ∨ w.beLast = 7 ∨ w.beLast = 0xF) ∧ 8 ≤ (writeBytes w).length ∧ (writeBytes w).length ≤ 72

theorem bellFormed_iff (w : MemWrite) :
    (w.off % 128 == 0 && Decidable.decide (2 ≤ w.data.length) && w.beFirst == 0xF
      && (w.beLast == 1 || w.beLast == 3 || w.beLast == 7 || w.beLast == 0xF)
      && Decidable.decide (8 ≤ (writeBytes w).length) && Decidable.decide ((writeBytes w).length ≤ 72)) = true ↔ bellFormed w := by
  simp [bellFormed, and_assoc, or_assoc]

theorem State.doorbell_accepted {u : State} {fn n : Nat} {w : MemWrite} (hclean : w.poisoned = false)
    (hslot : u.slotSource fn ((w.off - 0x100000) / 128) = some n) (hgood : bellFormed w) :
    u.doorbell fn w = { u with doorbells := u.doorbells ++
      [⟨n, BitVec.ofNat 16 (field (w.data.getD 0 0).toNat 0 16), field (w.data.getD 0 0).toNat 16 8,
        bitOf (w.data.getD 0 0).toNat 24, (writeBytes w).drop 8⟩] } := by
  have hform := (bellFormed_iff w).mpr hgood
  simp only [State.doorbell, hclean, Bool.not_false, Bool.true_and, hform, Bool.false_eq_true, if_false, if_true, hslot]

theorem State.doorbell_dropped {u : State} {fn : Nat} {w : MemWrite} (hclean : w.poisoned = false)
    (hbad : u.slotSource fn ((w.off - 0x100000) / 128) = none ∨ ¬ bellFormed w) : u.doorbell fn w = u.accessFault fn := by
  unfold State.doorbell
  dsimp only
  rw [if_neg (by simp [hclean])]
  split
  next n hslot =>
    have hform : ¬ bellFormed w := hbad.resolve_left (by rw [hslot]; simp)
    refine if_neg (fun hok => hform ((bellFormed_iff w).mp ?_))
    simpa [hclean] using hok
  next => rfl

theorem State.doorbell_poisoned {u : State} {fn : Nat} {w : MemWrite} (hpoisoned : w.poisoned = true) :
    u.doorbell fn w = (u.aerLog fn true).accessFault fn := by
  unfold State.doorbell
  dsimp only
  rw [if_pos hpoisoned]
  split
  · exact if_neg (by simp [hpoisoned])
  · rfl

theorem State.doorbellArrive_oldest {u : State} {d : Doorbell} {rest : List Doorbell} (hfirst : u.doorbells = d :: rest)
    (hawake : u.asleep = false) :
    u.doorbellArrive = ({ u with doorbells := rest } : State).ringSource d.src d.tag d.len d.keepFirst d.bytes := by
  simp [State.doorbellArrive, hfirst, hawake]

theorem State.doorbellArrive_none {u : State} (h : u.doorbells = [] ∨ u.asleep = true) : u.doorbellArrive = u := by
  unfold State.doorbellArrive
  split
  · rfl
  next d rest hfirst => exact if_pos (h.resolve_left (by rw [hfirst]; simp))

/-! ## Reads of the payload window (R56) -/

/-- The buffer is one the function may read: owned, by a target of its tenant where it is not the physical function. -/
def State.readable (u : State) (fn i : Nat) : Prop :=
  (u.bufAt i).st = .owned ∧ (fn = 0 ∨ ∃ t ∈ (u.bufAt i).holders, u.tgtTen t = fn)

theorem State.readable_iff (u : State) (fn i : Nat) :
    ((u.bufAt i).st == .owned && (fn == 0 || (u.bufAt i).holders.any (fun t => u.tgtTen t == fn))) = true
      ↔ u.readable fn i := by
  simp [State.readable]

section
variable {u : State} {fn : Nat} {r : MemRead} (hlong : ¬ (r.dws = 1 ∧ r.beFirst = 0))
include hlong

theorem emptyRead_eq_false : ¬ emptyRead r = true := by simpa [emptyRead] using hlong

theorem State.payloadRd_bytes (hin : (r.off - 0x200000) % 64 + 4 * r.dws ≤ 64)
    (hmine : u.readable fn ((r.off - 0x200000) / 64)) (hgood : (u.bufAt ((r.off - 0x200000) / 64)).bad = false) :
    u.payloadRd fn r = u.post (.cpl fn false ((List.range (4 * r.dws)).map
      (fun i => (u.bufAt ((r.off - 0x200000) / 64)).bytes.getD ((r.off - 0x200000) % 64 + i) 0))) := by
  unfold State.payloadRd
  dsimp only
  rw [if_neg (emptyRead_eq_false hlong), if_neg (Nat.not_lt.mpr hin), if_pos ((State.readable_iff u fn _).mpr hmine), hgood]
  rfl

theorem State.payloadRd_foreign (hin : (r.off - 0x200000) % 64 + 4 * r.dws ≤ 64)
    (hmine : ¬ u.readable fn ((r.off - 0x200000) / 64)) :
    u.payloadRd fn r = (u.post (.cpl fn false (List.replicate (4 * r.dws) 0))).bump 0x7036 fn 1 := by
  unfold State.payloadRd
  dsimp only
  rw [if_neg (emptyRead_eq_false hlong), if_neg (Nat.not_lt.mpr hin),
    if_neg (fun h => hmine ((State.readable_iff u fn _).mp h))]
  rfl

theorem State.payloadRd_crosses (hout : 64 < (r.off - 0x200000) % 64 + 4 * r.dws) :
    u.payloadRd fn r = ((u.post (.cpl fn true [])).aerLog fn false).accessFault fn := by
  unfold State.payloadRd
  dsimp only
  rw [if_neg (emptyRead_eq_false hlong), if_pos hout]

end

theorem exec_payloadRead_next {s : State} {b fn : Nat} {r : MemRead} (hwf : (Instr.payloadRead b fn r).wf = true)
    (h : (s.atMem b).takesMem fn) (hregion : regionOf r.off = .payload) :
    exec (.payloadRead b fn r) s = .next ((s.atMem b).payloadRd fn r) := by
  have hrun : exec (.payloadRead b fn r) s = .next ((s.atMem b).memRead b fn r) := req_takes (rd := true) hwf rfl rfl h
  rw [hrun, State.memRead, hregion]

end Sys2Proof.Machine

open Sys2Proof Sys2Proof.Machine

/-- Settles O19: a doorbell accepted, dropped, poisoned; then the arrival of the oldest. -/
theorem doorbells : Obligations.Doorbells := by
  intro s b fn n w q u good
  have hrun (hwf : (Instr.doorbellWrite b fn w).wf = true) (h : q.takesMem fn) :
      exec (.doorbellWrite b fn w) s = .next (q.doorbell fn w) := req_rings (rd := false) hwf rfl rfl h
  have harrive : exec (.doorbellArrival b) s = .next u.doorbellArrive := at_runs rfl
  refine ⟨fun hwf h hclean hslot hgood => ?accepted, fun hwf h hclean hbad => ?dropped, fun hwf h hpoisoned => ?poisoned,
    fun d rest hfirst hawake => ?arrives, fun hnone => ?nothing⟩
  case accepted => rw [hrun hwf h, State.doorbell_accepted hclean hslot hgood]
  case dropped => rw [hrun hwf h, State.doorbell_dropped hclean hbad]
  case poisoned => rw [hrun hwf h, State.doorbell_poisoned hpoisoned]
  case arrives => rw [harrive, State.doorbellArrive_oldest hfirst hawake]
  case nothing => rw [harrive, State.doorbellArrive_none hnone]

/-- Settles O21: within one buffer, readable or not; across a boundary. -/
theorem payloadRead : Obligations.PayloadRead := by
  intro s b fn r q a x mine hwf h hregion hlong
  rw [exec_payloadRead_next hwf h hregion]
  refine ⟨fun hin hmine hgood => ?bytes, fun hin hmine => ?foreign, fun hout => ?crosses⟩
  case bytes => exact congrArg _ (State.payloadRd_bytes hlong hin hmine hgood)
  case foreign => exact congrArg _ (State.payloadRd_foreign hlong hin hmine)
  case crosses => exact congrArg _ (State.payloadRd_crosses hlong hout)

end

section
/-! Claims, COMPLETE and THRESHOLD through a mailbox page (R113–R118, R140, R153, R267). -/

namespace Sys2Proof.Machine

open Sys2Proof

/-! ## Commands of a page -/

section
variable {s : State} {b fn page t : Nat} (hpage : page < 1024) (hfn : fn < 32) (htakes : (s.atMem b).takesMem fn)
include hpage hfn htakes

/-- A read or write of a page, taken. -/
theorem exec_page_next {i : Instr} {read : Bool} {f : State → State} (hi : ringsOnly i = false)
    (hm : memOp i = some (fn, read, f)) : req_ b fn (decide (page < 1024)) i s = .next (f (s.atMem b)) :=
  req_takes (by simp [hpage, hfn]) hi hm htakes

variable (hview : (s.atMem b).fromView 0x3000 fn page = some t) (hbarred : (s.atMem b).pageBarred fn t = false)
include hview hbarred

/-- A write of a page of the view acts on the page's target. -/
theorem exec_pageWrite_next {i : Instr} (f : Nat → State → State) (hi : ringsOnly i = false)
    (hm : memOp i = some (fn, false, State.pageWrite fn page f)) :
    req_ b fn (decide (page < 1024)) i s = .next (f t (s.atMem b)) :=
  (exec_page_next hpage hfn htakes hi hm).trans (congrArg _ (State.pageWrite_of_view f hview hbarred))

end

/-! ## Claims (R113, R140, R153) -/

/-- The claim command of either width, naming `p`. -/
@[reducible] def claimInstr (b fn p : Nat) : Bool → Bool → Instr
  | true, mm => .claim64 b fn p mm
  | false, mm => .claim b fn p mm

theorem State.mustWait_claimInstr (u : State) (b fn t : Nat) (wide mm : Bool) :
    u.mustWait (claimInstr b fn t wide mm) = u.mustWait (claimInstr b fn t wide false) := by cases wide <;> rfl

theorem State.pageClaim_view {u : State} {b fn page t : Nat} {wide mm : Bool} (hview : u.fromView 0x3000 fn page = some t)
    (hbarred : u.pageBarred fn t = false) (hfeat : wide = true → u.hasFeat (u.tgtTen t) 3 = true) :
    u.pageClaim b fn page wide mm =
      if u.row8.mustWait (claimInstr b fn t wide mm)
      then { u.row8 with heldOps := u.row8.heldOps ++ [claimInstr b fn t wide mm] }
      else u.row8.claimDecision fn t wide mm (claimInstr b fn t wide false) := by
  have hserved : ¬ (u.pageBarred fn t || wide && !u.hasFeat (u.tgtTen t) 3) = true := by
    cases wide <;> simp_all
  simp only [State.pageClaim, hview, if_neg hserved]
  cases wide <;> rfl

theorem State.pageClaim_noFeature {u : State} {b fn page t : Nat} (hview : u.fromView 0x3000 fn page = some t)
    (hfeat : u.hasFeat (u.tgtTen t) 3 = false) :
    u.pageClaim b fn page true false = (u.cplZeros fn 8).pageFault fn t := by
  simp [State.pageClaim, hview, hfeat]

theorem State.compares_setEsc {u : State} {e : Nat} {x : Esc} (hfailed : x.failed = (u.escAt e).failed) :
    (u.setEsc e x).compares e = u.compares e := by
  unfold State.compares
  rw [State.escAt_setEsc, hfailed, State.o_setEsc]

/-- With one result, or two that agree, the claim is decided. -/
theorem State.claimDecision_decides (u : State) (fn t : Nat) (wide : Bool) (i : Instr) :
    u.claimDecision fn t wide false i
      = (u.setEsc (u.servEsc t) { u.escAt (u.servEsc t) with claimAt := some u.now }).claimCore fn t wide := rfl

theorem State.claimDecision_differs {u : State} {fn t : Nat} {wide : Bool} {i : Instr}
    (hcompares : u.compares (u.servEsc t) = true) :
    u.claimDecision fn t wide true i
      = (u.setEsc (u.servEsc t) { u.escAt (u.servEsc t) with claimAt := some u.now }).mismatch (u.servEsc t) i := by
  have hafter := (State.compares_setEsc (x := { u.escAt (u.servEsc t) with claimAt := some u.now }) rfl).trans hcompares
  unfold State.claimDecision
  exact if_pos (by rw [hafter]; rfl)

/-- A claim with no candidate completes with zeros. -/
theorem State.claimCore_none {u : State} {fn t : Nat} (hpend : bestRank ((u.countClaim t).pendCands t 0 false) = none)
    (hnotify : (u.countClaim t).dlv.filter (fun d => d.tgt == some t && !d.active) = []) :
    u.claimCore fn t false = (u.countClaim t).post (.cpl fn false [0, 0, 0, 0]) := by
  unfold State.claimCore
  dsimp only
  rw [hpend, hnotify]
  rfl

/-! ## COMPLETE (R115, R116, R118) -/

theorem State.completeCore_hit {u : State} {t n : Nat} {v : Dw} {d : Delivery}
    (hview : u.fromView 0x2000 (u.tgtTen t) (field v.toNat 10 12) = some n)
    (hhit : u.dlv.find? (fun d => d.src == n && d.tgt == some t && d.active && d.tag == field v.toNat 0 10) = some d) :
    u.completeCore t v = (u.sample d t).ended d := by
  simp only [State.completeCore, hview, hhit]

theorem State.completeCore_stray {u : State} {t : Nat} {v : Dw}
    (hmiss : ∀ n, u.fromView 0x2000 (u.tgtTen t) (field v.toNat 10 12) = some n →
      u.dlv.find? (fun d => d.src == n && d.tgt == some t && d.active && d.tag == field v.toNat 0 10) = none) :
    u.completeCore t v = (u.bump 0x7014 t 1).bump 0x7015 (u.tgtTen t) 1 := by
  unfold State.completeCore
  dsimp only
  cases hview : u.fromView 0x2000 (u.tgtTen t) (field v.toNat 10 12) with
  | none => rfl
  | some n => dsimp only; rw [hmiss n hview]

theorem State.tgtComplete_goes {u : State} {b fn t : Nat} {v : Dw} (h : u.mustWait (.complete b fn t v) = false) :
    u.tgtComplete b fn v t = u.completeCore t v := if_neg (by rw [h]; exact Bool.false_ne_true)

theorem State.tgtComplete_waits {u : State} {b fn t : Nat} {v : Dw} (h : u.mustWait (.complete b fn t v) = true) :
    u.tgtComplete b fn v t = { u with heldOps := u.heldOps ++ [.complete b fn t v] } := if_pos h

/-! ## THRESHOLD (R110, R114) -/

/-- The THRESHOLD field written, with the sources it admits ranked anew. -/
def State.thresholdSet (u : State) (t : Nat) (v : BitVec 8) : State :=
  (u.setTgt t { u.tgtAt t with threshold := v }).admitBelow t (u.thr t) v.toNat

theorem State.tgtThreshold_decides {u : State} {b fn t : Nat} (v : BitVec 8) (hfeat : u.hasFeat (u.tgtTen t) 10 = true) :
    u.tgtThreshold b fn v false t = (u.row8.thresholdSet t v).thresholdCore t := by
  unfold State.tgtThreshold
  rw [if_pos hfeat]
  exact if_neg (by simp)

theorem State.tgtThreshold_differs {u : State} {b fn t : Nat} {v : BitVec 8} (hfeat : u.hasFeat (u.tgtTen t) 10 = true)
    (hhits : (u.row8.thresholdSet t v).thresholdHits t = true)
    (hcompares : (u.row8.thresholdSet t v).compares ((u.row8.thresholdSet t v).servEsc t) = true) :
    u.tgtThreshold b fn v true t = (u.row8.thresholdSet t v).mismatch ((u.row8.thresholdSet t v).servEsc t)
      (.thresholdWrite b fn t v false) := by
  unfold State.tgtThreshold
  rw [if_pos hfeat]
  refine if_pos ?_
  unfold State.thresholdSet at hhits hcompares
  rw [hhits, hcompares]
  rfl

theorem State.tgtThreshold_noFeature {u : State} {b fn t : Nat} {v : BitVec 8} {mm : Bool}
    (hfeat : u.hasFeat (u.tgtTen t) 10 = false) : u.tgtThreshold b fn v mm t = u :=
  if_neg (by rw [hfeat]; exact Bool.false_ne_true)

end Sys2Proof.Machine

open Sys2Proof Sys2Proof.Machine

/-- Settles O23: the decision, its wait and its mismatch for either width. -/
theorem claims : Obligations.Claims := by
  intro s b fn page t q c e d k0 k hpage hfn htakes hview hbarred
  have hrun (wide mm : Bool) (hfeat : wide = true → q.hasFeat (q.tgtTen t) 3 = true) :
      exec (claimInstr b fn page wide mm) s = .next (if c.mustWait (claimInstr b fn t wide mm)
        then { c with heldOps := c.heldOps ++ [claimInstr b fn t wide mm] }
        else c.claimDecision fn t wide mm (claimInstr b fn t wide false)) := by
    rw [← State.pageClaim_view hview hbarred hfeat]
    cases wide <;> exact exec_page_next (read := true) hpage hfn htakes rfl rfl
  have hdecides (wide mm : Bool) (hfeat : wide = true → q.hasFeat (q.tgtTen t) 3 = true)
      (hgoes : c.mustWait (claimInstr b fn t wide false) = false) :
      exec (claimInstr b fn page wide mm) s = .next (c.claimDecision fn t wide mm (claimInstr b fn t wide false)) := by
    rw [hrun wide mm hfeat, State.mustWait_claimInstr, hgoes]
    rfl
  refine ⟨fun hgoes => ⟨?_, fun hcompares => ?_, fun hpend hnotify => ?_⟩, fun hwaits => ?_,
    fun hfeat hgoes => ⟨?_, fun hcompares => ?_⟩, fun hfeat => ?_⟩
  · exact (hdecides false false nofun hgoes).trans (congrArg _ (State.claimDecision_decides c fn t false _))
  · exact (hdecides false true nofun hgoes).trans (congrArg _ (State.claimDecision_differs hcompares))
  · exact (hdecides false false nofun hgoes).trans (congrArg _ ((State.claimDecision_decides c fn t false _).trans
      (State.claimCore_none hpend hnotify)))
  · exact (hrun false false nofun).trans (congrArg _ (if_pos hwaits))
  · exact (hdecides true false (fun _ => hfeat) hgoes).trans (congrArg _ (State.claimDecision_decides c fn t true _))
  · exact (hdecides true true (fun _ => hfeat) hgoes).trans (congrArg _ (State.claimDecision_differs hcompares))
  · exact (exec_page_next (i := .claim64 b fn page false) (read := true) hpage hfn htakes rfl rfl).trans
      (congrArg _ (State.pageClaim_noFeature hview hfeat))

/-- Settles O25: COMPLETE, the pair and THRESHOLD, each on the page's target. -/
theorem completeAndThreshold : Obligations.CompleteAndThreshold := by
  intro s b fn page t v h th q named c low hpage hfn htakes hview hbarred
  have hcomplete : exec (.complete b fn page v) s = .next (q.tgtComplete b fn v t) :=
    exec_pageWrite_next hpage hfn htakes hview hbarred _ rfl rfl
  have hpair : exec (.completeFreePair b fn page v h) s = .next (q.tgtPair b fn v h t) :=
    exec_pageWrite_next hpage hfn htakes hview hbarred _ rfl rfl
  have hthreshold (mm : Bool) : exec (.thresholdWrite b fn page th mm) s = .next (q.tgtThreshold b fn th mm t) :=
    exec_pageWrite_next hpage hfn htakes hview hbarred _ rfl rfl
  refine ⟨fun hgoes => ⟨fun n d hsrc hhit => ?_, fun hmiss => ?_, ?_⟩, fun hwaits => ?_,
    fun hfeat => ⟨?_, fun hhits hcompares => ?_⟩, fun hfeat => ?_⟩
  · rw [hcomplete, State.tgtComplete_goes hgoes, State.completeCore_hit hsrc hhit]
  · rw [hcomplete, State.tgtComplete_goes hgoes, State.completeCore_stray hmiss]
  · rw [hpair, State.tgtPair, State.tgtComplete_goes hgoes]
  · rw [hcomplete, State.tgtComplete_waits hwaits]
  · exact (hthreshold false).trans (congrArg _ (State.tgtThreshold_decides th hfeat))
  · exact (hthreshold true).trans (congrArg _ (State.tgtThreshold_differs hfeat hhits hcompares))
  · exact (hthreshold false).trans (congrArg _ (State.tgtThreshold_noFeature hfeat))

/-- Refutes O24: it bounds neither the target's number nor those of the sources. A source of number 0x505A0007, waiting at
target 7, has its SRC_ENABLE at the key of that target's CLAIMS: counting the claim enables it, and the claim takes it. -/
theorem not_claimInFlight : ¬ Obligations.ClaimInFlight := by
  intro h
  let d : Delivery :=
    { grp := 0, esc := 0, slot := 0, tgt := some 7, src := 5, tag := 1, prio := 1, active := false, arrival := 0, start := 0
      accept := 0, issuedAt := 0, expire := none, info := .none, bcast := false, lseq := none }
  let u : State := { (((State.reset.setSrc 5 { Source.init with st := .inFlight, target := some 7 }).setSrc 0x505A0007
      { Source.init with st := .pending, target := some 7, prio := 9 }).setO 0x3005 7 1) with dlv := [d] }
  obtain ⟨-, hactive, -⟩ := h u 0 7 d (by decide) (by decide)
  exact absurd hactive (by decide)

end

section
/-! The escapements' decisions: issues, retries, migrations, synchronized releases and timeouts (R129, R137–R141, R147,
R153–R154). -/

namespace Sys2Proof.Machine

open Sys2Proof

theorem State.escAt_of_esc {s t : State} (h : t.esc = s.esc) (n : Nat) : t.escAt n = s.escAt n := by
  unfold State.escAt; rw [h]

/-! ## A new delivery (R139) -/

/-- The delivery that `give` makes of source `n` for target `t`. -/
theorem State.give_fst (n t grp prio : Nat) (info : Arrival) (start : Beat) (bcast claimed : Bool) (slot : Option Nat)
    (s : State) : (s.give n t grp prio info start bcast claimed slot).1 =
      { grp := grp, esc := s.servEsc t, slot := slot.getD (s.freeSlot (s.servEsc t)), tgt := some t, src := n
        tag := nextTag 1023 (s.tgtAt t).tagNext ((s.dlv.filter (fun d => d.tgt == some t)).map (·.tag))
        prio := prio, active := claimed || s.isPush t, arrival := (s.srcAt n).stamp, start := start, accept := s.cnt
        issuedAt := s.now
        expire := if claimed || s.isPush t || s.o 0x3006 t == 0 then none else some (s.now + s.o 0x3006 t)
        info := info, bcast := bcast, lseq := none } := rfl

/-- The tag taken, the delivery added, ISSUED counted. -/
def State.added (s : State) (t : Nat) (d : Delivery) : State :=
  ({ (s.newTag t).2 with dlv := s.dlv ++ [d] } : State).bump 0x7020 t 1

theorem State.give_snd (n t grp prio : Nat) (info : Arrival) (start : Beat) (bcast claimed : Bool) (slot : Option Nat)
    (s : State) : ∃ buf, (s.give n t grp prio info start bcast claimed slot).2 =
      { s.added t (s.give n t grp prio info start bcast claimed slot).1 with buf := buf } := by
  have hheld (z : State) : ∃ buf, (match info.buf with
      | none => z
      | some i => if (z.bufAt i).st == .owned then z else z.bufSt (some i) .inTransit) = { z with buf := buf } := by
    split
    · exact ⟨_, rfl⟩
    · split
      · exact ⟨_, rfl⟩
      · exact ⟨_, State.bufSt_eq _ _ _⟩
  have hout : (s.give n t grp prio info start bcast claimed slot).2 =
      if (claimed || s.isPush t) = true
      then (s.added t (s.give n t grp prio info start bcast claimed slot).1).ownBuf info.buf t
      else match info.buf with
        | none => s.added t (s.give n t grp prio info start bcast claimed slot).1
        | some i => if ((s.added t (s.give n t grp prio info start bcast claimed slot).1).bufAt i).st == .owned
          then s.added t (s.give n t grp prio info start bcast claimed slot).1
          else (s.added t (s.give n t grp prio info start bcast claimed slot).1).bufSt (some i) .inTransit := rfl
  rw [hout]
  generalize s.added t (s.give n t grp prio info start bcast claimed slot).1 = z
  split
  · exact ⟨_, State.ownBuf_eq _ _ _⟩
  · exact hheld z

/-- Taking a PENDING winner: the new delivery, ISSUED counted, the source's own change and its journal record. -/
theorem State.takePending_snd (n t : Nat) (claimed : Bool) (slot : Option Nat) (s : State) : ∃ buf x ev,
    (s.takePending n t claimed slot).2 = (({ s.added t (s.takePending n t claimed slot).1 with buf := buf } : State).setSrc n x).note
      ev n (s.srcAt n) := by
  obtain ⟨buf, h⟩ := State.give_snd n t (s.srcAt n).grp (s.srcAt n).prio (s.srcAt n).info (s.srcAt n).stamp
    (s.srcAt n).bcast claimed slot s
  unfold State.takePending
  dsimp only
  rw [h]
  exact ⟨buf, _, _, rfl⟩

theorem State.issue_eq (n t : Nat) (s : State) :
    s.issue n t = (s.takePending n t false none).2.deliveryWrite (s.takePending n t false none).1 t := rfl

theorem State.takePending_fst (n t : Nat) (claimed : Bool) (slot : Option Nat) (s : State) :
    (s.takePending n t claimed slot).1 = (s.give n t (s.srcAt n).grp (s.srcAt n).prio (s.srcAt n).info (s.srcAt n).stamp
      (s.srcAt n).bcast claimed slot).1 := rfl

/-- The delivery of an issue. -/
theorem State.issue_delivery (n t : Nat) (s : State) : ∃ d, (s.takePending n t false none).1 = d ∧ d.src = n ∧ d.tgt = some t
    ∧ d.esc = s.servEsc t ∧ d.active = s.isPush t ∧ d.prio = (s.srcAt n).prio ∧ d.accept = s.cnt ∧ d.issuedAt = s.now
    ∧ d.tag = nextTag 1023 (s.tgtAt t).tagNext ((s.dlv.filter (fun x => x.tgt == some t)).map (·.tag))
    ∧ d.info = (s.srcAt n).info := by
  rw [State.takePending_fst, State.give_fst]
  exact ⟨_, rfl, rfl, rfl, rfl, rfl, rfl, rfl, rfl, rfl, rfl⟩

/-- An issue of source `n` to target `t`: what it adds, and what it leaves. -/
theorem State.issue_leaves (n t : Nat) (s : State) :
    (s.issue n t).dlv = s.dlv ++ [(s.takePending n t false none).1] ∧ (s.issue n t).esc = s.esc
      ∧ (s.issue n t).o 0x7020 t = satAdd 32 (s.o 0x7020 t) 1 ∧ ∀ m, m ≠ n → (s.issue n t).srcAt m = s.srcAt m := by
  obtain ⟨buf, x, ev, h⟩ := State.takePending_snd n t false none s
  rw [State.issue_eq, State.deliveryWrite_eq]
  generalize (s.takePending n t false none).1 = d at h ⊢
  rw [h]
  refine ⟨by rw [State.note_dlv]; rfl, by rw [State.note_esc]; rfl, ?_, fun m hm => ?_⟩
  · exact (State.o_note _ _ _ _ (by unfold pkey; omega)).trans (State.o_bump _ _ _ _)
  · exact (State.srcAt_note _ _ _ m _).trans (State.srcAt_setSrc_ne _ _ hm)

/-! ## The issue decision of a beat (R140, R153) -/

theorem State.escIssue_again {u : State} {e : Nat} (mm : Bool) (h : (u.row8.escAt e).issueAt = some u.row8.now) :
    u.escIssue e mm = u.row8 := if_pos (by rw [h]; exact beq_self_eq_true _)

theorem State.escIssue_turn {u : State} {e t : Nat} (mm : Bool) (h : (u.row8.escAt e).issueAt ≠ some u.row8.now)
    (hturn : u.row8.issueTurn e = some t) :
    u.escIssue e mm = u.row8.issueDecision e mm (.escapementIssue t e false) (State.issueTo e e t) := by
  unfold State.escIssue
  dsimp only
  rw [if_neg (by simpa using h), hturn]

theorem State.issueDecision_decides (e : Nat) (i : Instr) (f : State → State) (u : State) :
    u.issueDecision e false i f = f u := rfl

theorem State.issueDecision_differs {e : Nat} {u : State} (i : Instr) (f : State → State) (h : u.compares e = true) :
    u.issueDecision e true i f = (u.setEsc e { u.escAt e with issueAt := some u.now }).mismatch e i :=
  if_pos (by rw [h]; rfl)

theorem State.issueTo_ready {u : State} (from_ e : Nat) {t n : Nat} (ht : t < 1024) (hready : u.issueReady t = some n) :
    u.issueTo from_ e t = (u.setEsc e { u.escAt e with lastTgt := t, issueAt := some u.now }).issue n t := by
  unfold State.issueTo
  rw [if_neg (by omega), hready]

/-- A mismatch counts and puts the decision off; deliveries and sources stay. -/
theorem State.mismatch_leaves (e : Nat) (i : Instr) (u : State) :
    (u.mismatch e i).dlv = u.dlv ∧ (u.mismatch e i).src = u.src
      ∧ (u.mismatch e i).o 0x7040 (e / 2 * 2) = satAdd 32 (u.o 0x7040 (e / 2 * 2)) 1
      ∧ ((u.mismatch e i).escAt (e / 2 * 2)).retry = (u.escAt (e / 2 * 2)).retry ++ [(u.now + 8, i)] := by
  have hesc : ((u.bump 0x7040 (e / 2 * 2) 1).dial 14 0).escAt (e / 2 * 2) = u.escAt (e / 2 * 2) := by
    unfold State.escAt; rw [State.dial_esc]; rfl
  refine ⟨?_, ?_, ?_, ?_⟩
  · unfold State.mismatch; simp
  · unfold State.mismatch; simp
  · unfold State.mismatch; simp
  · unfold State.mismatch
    dsimp only
    rw [State.escAt_setEsc, hesc]
    simp

/-- A field of an escapement that a change of another keeps. -/
theorem State.escAt_setEsc_retry (u : State) (e p : Nat) (x : Esc) (h : x.retry = (u.escAt e).retry) :
    ((u.setEsc e x).escAt p).retry = (u.escAt p).retry := by
  by_cases hp : p = e
  · subst hp; rw [State.escAt_setEsc, h]
  · rw [State.escAt_setEsc_ne _ _ hp]

/-! ## Retries of a coupled pair (R153) -/

theorem State.retryCore_due {u : State} {e due : Nat} {i : Instr} {rest : List (Nat × Instr)} (mm : Bool)
    (hawake : u.asleep = false) (hretry : (u.escAt (e / 2 * 2)).retry = (due, i) :: rest) (hdue : due ≤ u.now)
    (hmigrating : (u.escAt (e / 2 * 2)).migrating = none) :
    u.retryCore e mm =
      (let z := u.setEsc (e / 2 * 2) { u.escAt (e / 2 * 2) with retry := rest }
       if mm then ((z.bump 0x7040 (e / 2 * 2) 1).dial 14 0).failPair (e / 2 * 2) i
       else ((z.bump 0x7041 (e / 2 * 2) 1).decide i).letGo) := by
  have hgoes : (Decidable.decide (u.now < due) || (u.escAt (e / 2 * 2)).migrating.isSome || u.asleep) = false := by
    simp [hmigrating, hawake, Nat.not_lt.mpr hdue]
  simp only [State.retryCore, hretry, hgoes]
  rfl

/-! ## The end of a migration (R154) -/

/-- Every target of a list is served by the spare. -/
def State.migrateTgts (ts : List Nat) (sp : Nat) (s : State) : State :=
  each (fun t s => s.setTgt t { s.tgtAt t with migratedTo := some sp }) ts s

/-- Every delivery of a list takes a slot of the spare. -/
def State.migrateDlvs (ds : List Delivery) (sp : Nat) (s : State) : State :=
  each (fun d s => { s with dlv := s.dlv.map (fun e => if e = d then { d with esc := sp, slot := s.freeSlot sp } else e) }) ds s

theorem State.migrateTgts_served {ts : List Nat} {t : Nat} (sp : Nat) (ht : t ∈ ts) :
    ∀ s : State, ((s.migrateTgts ts sp).tgtAt t).migratedTo = some sp := by
  induction ts with
  | nil => exact absurd ht List.not_mem_nil
  | cons a ts ih =>
    intro s
    by_cases hin : t ∈ ts
    · exact ih hin _
    · have ha : t = a := (List.mem_cons.mp ht).resolve_right hin
      subst ha
      refine each_keep (fun z : State => (z.tgtAt t).migratedTo = some sp) _ ?_ ts _ (by rw [State.tgtAt_setTgt])
      intro m z hz
      by_cases hm : t = m
      · subst hm; rw [State.tgtAt_setTgt]
      · rw [State.tgtAt_setTgt_ne _ _ hm]; exact hz

theorem State.migrateTgts_eq (ts : List Nat) (sp : Nat) (s : State) :
    s.migrateTgts ts sp = { s with tgt := (s.migrateTgts ts sp).tgt } :=
  each_keep (fun z : State => z = { s with tgt := z.tgt }) _ (fun t z hz =>
    congrArg (fun w : State => { w with tgt := (z.setTgt t { z.tgtAt t with migratedTo := some sp }).tgt }) hz) ts s rfl

theorem State.migrateDlvs_eq (ds : List Delivery) (sp : Nat) (s : State) :
    s.migrateDlvs ds sp = { s with dlv := (s.migrateDlvs ds sp).dlv }
      ∧ (s.migrateDlvs ds sp).dlv.length = s.dlv.length :=
  each_keep (fun z : State => z = { s with dlv := z.dlv } ∧ z.dlv.length = s.dlv.length) _ (fun d z hz =>
    ⟨congrArg (fun w : State =>
      { w with dlv := z.dlv.map (fun e => if e = d then { d with esc := sp, slot := z.freeSlot sp } else e) }) hz.1,
      (List.length_map _).trans hz.2⟩) ds s ⟨rfl, rfl⟩

/-- The targets `ts` of pair `p` and its deliveries move to the spare. -/
def State.moved (u : State) (ts : List Nat) (p sp : Nat) : State :=
  (u.migrateTgts ts sp).migrateDlvs ((u.migrateTgts ts sp).dlv.filter (fun d => d.esc == p)) sp

/-- The pair's escapements at the end of a migration: the spare engaged, the pair's migration over. -/
def State.migrated (w : State) (p sp : Nat) : State :=
  (w.setEsc sp { w.escAt sp with engagedFor := some p }).setEsc p
    { (w.setEsc sp { w.escAt sp with engagedFor := some p }).escAt p with migrating := none, retry := [] }

theorem State.migrated_heldOps (w : State) (p sp : Nat) : (w.migrated p sp).heldOps = w.heldOps := rfl

theorem State.moved_leaves (u : State) (ts : List Nat) (p sp : Nat) :
    (u.moved ts p sp).heldOps = u.heldOps ∧ (u.moved ts p sp).src = u.src
      ∧ (u.moved ts p sp).dlv.length = u.dlv.length
      ∧ ∀ t ∈ ts, ((u.moved ts p sp).tgtAt t).migratedTo = some sp := by
  have htgts := State.migrateTgts_eq ts sp u
  have hserved (t : Nat) (ht : t ∈ ts) := State.migrateTgts_served sp ht u
  unfold State.moved
  generalize u.migrateTgts ts sp = v at htgts hserved
  obtain ⟨hframe, hlength⟩ := State.migrateDlvs_eq (v.dlv.filter (fun d => d.esc == p)) sp v
  generalize v.migrateDlvs (v.dlv.filter (fun d => d.esc == p)) sp = w at hframe hlength
  refine ⟨by rw [hframe, htgts], by rw [hframe, htgts], by rw [hlength, htgts], fun t ht => ?_⟩
  rw [hframe]
  exact hserved t ht

theorem State.letGo_none {z : State} (h : z.heldOps = []) : z.letGo = z := by
  unfold State.letGo
  split
  · rfl
  · rw [h]
    exact congrArg (fun l => { z with heldOps := l }) h.symm

theorem State.migrateEnd_quiet {u : State} {p sp : Nat} (hawake : u.asleep = false)
    (hmigrating : (u.escAt p).migrating = some sp) (hretry : (u.escAt p).retry = []) (hheld : u.heldOps = []) :
    u.migrateEnd p = (u.moved (u.servedBy p) p sp).migrated p sp := by
  have hleft : ((u.moved (u.servedBy p) p sp).migrated p sp).heldOps = [] :=
    (State.migrated_heldOps _ p sp).trans ((State.moved_leaves u (u.servedBy p) p sp).1.trans hheld)
  have hout : u.migrateEnd p = ((u.moved (u.servedBy p) p sp).migrated p sp).letGo := by
    unfold State.migrateEnd
    dsimp only
    rw [hmigrating]
    dsimp only
    rw [if_neg (by rw [hawake]; exact Bool.false_ne_true), hretry]
    generalize u.servedBy p = ts
    rfl
  rw [hout, State.letGo_none hleft]

/-! ## Synchronized releases (R137) -/

theorem State.syncRelease_due {u : State} {e : Nat} (mm : Bool) (hfirst : (u.row8.escAt e).issueAt ≠ some u.row8.now)
    (hawake : u.row8.asleep = false) (hdue : u.row8.dueMembers e (u.row8.undecidedRelease e) u.row8.now ≠ []) :
    u.syncRelease e mm = u.row8.issueDecision e mm (.syncRelease u.row8.now e false)
      (State.syncCore e (u.row8.undecidedRelease e) u.row8.now false) := by
  unfold State.syncRelease
  dsimp only
  refine if_neg ?_
  simp [hfirst, hawake, hdue]

/-- The release of one member that is due: issued outside the ranking, or late. -/
theorem State.syncCore_one {c : State} {e lo hi t n r : Nat} (hdue : c.dueMembers e lo hi = [(t, n)])
    (hranked : ((c.srcAt n).members.find? (fun y => y.tgt == t)).map (·.rankedAt) = some r) :
    c.syncCore e lo hi false =
      (let z := c.setEsc e { c.escAt e with issueAt := some c.now }
       if z.candidate n t r && z.room t && z.issueOpen t then (z.setEsc e { z.escAt e with lastTgt := t }).issue n t
       else (z.bump 0x7050 (c.srcAt n).grp 1).setSrc n { c.srcAt n with
          members := (c.srcAt n).members.map (fun y => if y.tgt = t then { y with due := false } else y) }) := by
  have hdue' : (c.setEsc e { c.escAt e with issueAt := some c.now }).dueMembers e lo hi = [(t, n)] := hdue
  have hsrc : (c.setEsc e { c.escAt e with issueAt := some c.now }).srcAt n = c.srcAt n := rfl
  unfold State.syncCore
  dsimp only
  rw [hdue']
  generalize c.setEsc e { c.escAt e with issueAt := some c.now } = z at hsrc
  dsimp only [each]
  rw [hsrc, hranked, Option.getD_some]
  by_cases htest : (z.candidate n t r && z.room t && z.issueOpen t) = true
  · rw [if_pos htest, if_pos htest, if_neg (by rw [htest]; exact Bool.false_ne_true)]
  · rw [if_neg htest, if_neg htest, if_pos (by simpa [or_assoc, Decidable.imp_iff_not_or] using htest)]
    exact congrArg (fun x : Source => (z.bump 0x7050 (c.srcAt n).grp 1).setSrc n { x with
      members := (c.srcAt n).members.map (fun y => if y.tgt = t then { y with due := false } else y) }) hsrc

/-! ## Claim timeouts (R147) -/

theorem State.claimTimeout_decides {u : State} {b t tag : Nat} {d : Delivery} (hawake : u.row8.asleep = false)
    (hexpired : u.row8.expired t tag = some d) :
    u.claimTimeout b t tag false = ((u.row8.bump 0x7021 t 1).setTgt t
      { u.row8.tgtAt t with pTimeouts := (u.row8.tgtAt t).pTimeouts + 1 }).revoke d := by
  simp [State.claimTimeout, State.timeoutCore, hawake, hexpired]

theorem State.claimTimeout_differs {u : State} {b t tag : Nat} {d : Delivery} (hawake : u.row8.asleep = false)
    (hexpired : u.row8.expired t tag = some d) (hcompares : u.row8.compares (u.row8.servEsc t) = true) :
    u.claimTimeout b t tag true = u.row8.mismatch (u.row8.servEsc t) (.claimTimeout b t tag false) := by
  simp [State.claimTimeout, hawake, hexpired, hcompares]

theorem State.claimTimeout_none {u : State} {b t tag : Nat} (h : u.row8.asleep = true ∨ u.row8.expired t tag = none) :
    u.claimTimeout b t tag false = u.row8 := by
  unfold State.claimTimeout
  exact if_pos (by rcases h with h | h <;> simp [h])

end Sys2Proof.Machine

open Sys2Proof Sys2Proof.Machine

/-- Settles O27: the second decision of a beat, the one released, the one put off. -/
theorem escapementIssue : Obligations.EscapementIssue := by
  intro s b e t n mm c p he
  have hrun (mm : Bool) : exec (.escapementIssue b e mm) s = .next ((s.upTo b).escIssue e mm) := at_runs (decide_eq_true he)
  refine ⟨fun hagain => ?again, fun hfirst ht hn hturn hready => ⟨?released, fun hcompares => ?differs⟩⟩
  case again => rw [hrun, State.escIssue_again mm hagain]
  case released =>
    have hout : (s.upTo b).escIssue e false
        = (c.setEsc e { c.escAt e with lastTgt := t, issueAt := some c.now }).issue n t :=
      (State.escIssue_turn false hfirst hturn).trans (State.issueTo_ready e e ht hready)
    have hexec := (hrun false).trans (congrArg _ hout)
    clear hrun hout
    clear_value c
    obtain ⟨d, hd, hfields⟩ := State.issue_delivery n t (c.setEsc e { c.escAt e with lastTgt := t, issueAt := some c.now })
    obtain ⟨hdlv, hesc, hcount, hsrc⟩ := State.issue_leaves n t (c.setEsc e { c.escAt e with lastTgt := t, issueAt := some c.now })
    rw [hd] at hdlv
    obtain ⟨h1, h2, h3, h4, h5, h6, h7, h8, h9⟩ := hfields
    have hescAt := (State.escAt_of_esc hesc e).trans (State.escAt_setEsc _ _ _)
    exact ⟨_, d, hexec, hdlv, h1, h2, h3, h4, h5, h6, h7, h8, h9, hcount, congrArg Esc.issueAt hescAt,
      congrArg Esc.lastTgt hescAt, hsrc⟩
  case differs =>
    have hout : (s.upTo b).escIssue e true = (c.setEsc e { c.escAt e with issueAt := some c.now }).mismatch e (.escapementIssue t e false) :=
      (State.escIssue_turn true hfirst hturn).trans (State.issueDecision_differs _ _ hcompares)
    have hexec := (hrun true).trans (congrArg _ hout)
    clear hrun hout
    clear_value c
    obtain ⟨hdlv, hsrc, hcount, hretry⟩ := State.mismatch_leaves e (.escapementIssue t e false)
      (c.setEsc e { c.escAt e with issueAt := some c.now })
    refine ⟨_, hexec, hdlv, hsrc, hcount, hretry.trans ?_⟩
    rw [State.escAt_setEsc_retry _ _ _ _ (by rfl)]
    rfl

/-- Settles O28: the retry that agrees and the one that differs; the migration's end. -/
theorem pairRetryAndMigration : Obligations.PairRetryAndMigration := by
  intro s b e u p he hawake
  refine ⟨fun due i rest hretry hdue hmigrating => ⟨?agrees, ?differs⟩, fun sp hmigrating hretry hheld => ?ends⟩
  case agrees =>
    exact (at_runs (decide_eq_true he)).trans (congrArg _ (State.retryCore_due false hawake hretry hdue hmigrating))
  case differs =>
    exact (at_runs (decide_eq_true he)).trans (congrArg _ (State.retryCore_due true hawake hretry hdue hmigrating))
  case ends =>
    have hexec : exec (.migrationEnd b e) s = .next ((u.moved (u.servedBy p) p sp).migrated p sp) :=
      (at_runs (decide_eq_true he)).trans (congrArg _ (State.migrateEnd_quiet hawake hmigrating hretry hheld))
    obtain ⟨-, hsrc, hlength, hserved⟩ := State.moved_leaves u (u.servedBy p) p sp
    refine ⟨_, hexec, ?_⟩
    clear hexec
    generalize u.moved (u.servedBy p) p sp = w at hsrc hlength hserved
    refine ⟨congrArg Esc.migrating (State.escAt_setEsc _ _ _), ?engaged, hserved, hlength, hsrc⟩
    unfold State.migrated
    by_cases hsp : sp = p
    · subst hsp; rw [State.escAt_setEsc, State.escAt_setEsc]
    · rw [State.escAt_setEsc_ne _ _ hsp, State.escAt_setEsc]

/-- Settles O29: the release of one member, and the timeout. -/
theorem syncReleaseAndTimeout : Obligations.SyncReleaseAndTimeout := by
  intro s b e t n r g tag c x z able
  refine ⟨fun he hfirst hawake hdue hranked => ?release, fun hg htag => ?timeout⟩
  case release =>
    have hrun (mm : Bool) : exec (.syncRelease b e mm) s = .next ((s.upTo b).syncRelease e mm) := at_runs (decide_eq_true he)
    have hdecision (mm : Bool) := State.syncRelease_due mm hfirst hawake (by rw [hdue]; exact List.cons_ne_nil _ _)
    have hone := (hdecision false).trans (State.syncCore_one hdue hranked)
    refine ⟨fun hable => ?able, fun hable => ?late, fun hcompares => ?differs⟩
    case able =>
      have htest : (z.candidate n t r && z.room t && z.issueOpen t) = true := by simp [hable.1, hable.2.1, hable.2.2]
      exact (hrun false).trans (congrArg _ (hone.trans (if_pos htest)))
    case late =>
      have htest : ¬ (z.candidate n t r && z.room t && z.issueOpen t) = true := by
        simpa only [Bool.and_eq_true, and_assoc] using hable
      exact (hrun false).trans (congrArg _ (hone.trans (if_neg htest)))
    case differs =>
      exact (hrun true).trans (congrArg _ ((hdecision true).trans (State.issueDecision_differs _ _ hcompares)))
  case timeout =>
    have hrun (mm : Bool) : exec (.claimTimeout b g tag mm) s = .next ((s.upTo b).claimTimeout b g tag mm) :=
      at_runs (by simp [hg, htag])
    refine ⟨fun d hawake hexpired => ⟨?_, fun hcompares => ?_⟩, fun hnone => ?_⟩
    · exact (hrun false).trans (congrArg _ (State.claimTimeout_decides hawake hexpired))
    · exact (hrun true).trans (congrArg _ (State.claimTimeout_differs hawake hexpired hcompares))
    · exact (hrun false).trans (congrArg _ (State.claimTimeout_none hnone))

end

section
/-! Feature negotiation, Bus Master Enable and the resets of tenants and functions (R191–R206). -/

namespace Sys2Proof.Machine

open Sys2Proof

/-! ## Writes of FEAT_ACCEPT (R199) -/

/-- The bits that one byte enable covers. -/
theorem getLsbD_byteMask (j k : Nat) (hk : k < 32) (on : Bool) :
    (if on then BitVec.ofNat 32 (255 * 2 ^ (8 * j)) else (0 : Dw)).getLsbD k = (on && Decidable.decide (k / 8 = j)) := by
  cases on with
  | false => simp
  | true =>
    have hbyte : (255 : Nat) = 2 ^ 8 - 1 := rfl
    rw [if_pos rfl, BitVec.getLsbD_ofNat, Nat.testBit_mul_two_pow, hbyte, Nat.testBit_two_pow_sub_one]
    simp only [hk, decide_true, Bool.true_and, ← Bool.decide_and]
    congr 1
    simp only [eq_iff_iff]
    omega

theorem getLsbD_mergeBytes (be : BitVec 4) (old v : Dw) (k : Nat) (hk : k < 32) :
    (mergeBytes be old v).getLsbD k = if be.getLsbD (k / 8) then v.getLsbD k else old.getLsbD k := by
  have hmask : ((if be.getLsbD 0 then BitVec.ofNat 32 (255 * 2 ^ (8 * 0)) else (0 : Dw))
      ||| (if be.getLsbD 1 then BitVec.ofNat 32 (255 * 2 ^ (8 * 1)) else (0 : Dw))
      ||| (if be.getLsbD 2 then BitVec.ofNat 32 (255 * 2 ^ (8 * 2)) else (0 : Dw))
      ||| (if be.getLsbD 3 then BitVec.ofNat 32 (255 * 2 ^ (8 * 3)) else (0 : Dw))).getLsbD k = be.getLsbD (k / 8) := by
    simp only [BitVec.getLsbD_or, getLsbD_byteMask _ k hk]
    have hlow : k / 8 < 4 := by omega
    generalize k / 8 = j at hlow
    interval_cases j <;> simp
  unfold mergeBytes
  dsimp only
  rw [BitVec.getLsbD_or, BitVec.getLsbD_and, BitVec.getLsbD_and, BitVec.getLsbD_not, hmask]
  cases be.getLsbD (k / 8) <;> simp [hk]

/-- A half of a 64-bit value replaced byte by byte. -/
theorem getLsbD_acceptHalf (be : BitVec 4) (hi : Bool) (x : BitVec 64) (d : Dw) (k : Nat) (hk : k < 64) :
    (if hi then mergeBytes be ((x >>> 32).setWidth 32) d ++ x.setWidth 32
      else (x >>> 32).setWidth 32 ++ mergeBytes be (x.setWidth 32) d : BitVec 64).getLsbD k
      = if Decidable.decide (32 ≤ k) = hi ∧ be.getLsbD (k % 32 / 8) = true then d.getLsbD (k % 32) else x.getLsbD k := by
  by_cases hhigh : 32 ≤ k
  · have hmod : k % 32 = k - 32 := by omega
    have hlt : ¬ k < 32 := by omega
    have hback : 32 + (k - 32) = k := by omega
    cases hi with
    | true =>
      rw [if_pos rfl, BitVec.getLsbD_append, if_neg hlt, getLsbD_mergeBytes _ _ _ _ (by omega)]
      simp [hhigh, hmod, hback, show k - 32 < 32 by omega]
    | false =>
      rw [if_neg (by decide), BitVec.getLsbD_append, if_neg hlt]
      simp [hhigh, hback, show k - 32 < 32 by omega]
  · have hmod : k % 32 = k := by omega
    have hlt : k < 32 := by omega
    cases hi with
    | true =>
      rw [if_pos rfl, BitVec.getLsbD_append, if_pos hlt]
      simp [hhigh, hlt]
    | false =>
      rw [if_neg (by decide), BitVec.getLsbD_append, if_pos hlt, getLsbD_mergeBytes _ _ _ _ hlt]
      simp [hmod, hlt]

/-! ## Requests of FEATURES_OK (R200, Table 08-5) -/

section
variable {u : State} {n : Nat}

theorem State.featAccept_ignored {hi : Bool} {be : BitVec 4} {v : Dw} (h : (u.fn n).ok = true ∨ u.inReset n = true) :
    u.featAccept n hi be v = u := if_pos (by rcases h with h | h <;> simp [h])

theorem State.featOk_ignored (h : (u.fn n).ok = true ∨ u.inReset n = true) : u.featOk n = u :=
  if_pos (by rcases h with h | h <;> simp [h])

variable (hok : (u.fn n).ok = false) (hreset : u.inReset n = false)
include hok hreset

theorem State.featAccept_writes (hi : Bool) (be : BitVec 4) (v : Dw) :
    u.featAccept n hi be v = u.setFn n { u.fn n with
      accept := if hi then mergeBytes be (((u.fn n).accept >>> 32).setWidth 32) v ++ (u.fn n).accept.setWidth 32
        else ((u.fn n).accept >>> 32).setWidth 32 ++ mergeBytes be ((u.fn n).accept.setWidth 32) v } :=
  if_neg (by simp [hok, hreset])

end

/-- Nothing outside the offer, and rows 3 to 5 of Table 08-5 hold. -/
def featuresGranted (offer acc : BitVec 64) : Prop :=
  acc &&& ~~~ offer = 0 ∧ (acc.getLsbD 7 = true → acc.getLsbD 12 = true)
    ∧ (acc.getLsbD 11 = true → acc.getLsbD 0 = true ∨ acc.getLsbD 1 = true)
    ∧ ¬ (acc.getLsbD 2 = true ∧ acc.getLsbD 0 = true ∧ acc.getLsbD 3 = false)

theorem judgeFeatures_eq_none_iff (offer acc : BitVec 64) :
    judgeFeatures offer acc = none ↔ featuresGranted offer acc := by
  have hrow (c : Bool) (a : Nat × Nat) (r : Option (Nat × Nat)) : (if c then some a else r) = none ↔ c = false ∧ r = none := by
    cases c <;> simp
  unfold judgeFeatures featuresGranted
  rw [hrow, hrow, hrow, hrow]
  generalize acc.getLsbD 0 = a0, acc.getLsbD 1 = a1, acc.getLsbD 2 = a2, acc.getLsbD 3 = a3, acc.getLsbD 7 = a7,
    acc.getLsbD 11 = a11, acc.getLsbD 12 = a12
  simp [imp_iff_not_or, or_assoc]

section
variable {u : State} {n : Nat} (hok : (u.fn n).ok = false) (hreset : u.inReset n = false)
include hok hreset

theorem State.featOk_grants (h : featuresGranted (u.offer n) (u.fn n).accept) : u.featOk n = u.setFn n { u.fn n with
    ok := true, accepted := (u.fn n).accept, refused := false, reason := 0, bit := 0 } := by
  unfold State.featOk
  dsimp only
  rw [if_neg (by simp [hok, hreset]), (judgeFeatures_eq_none_iff _ _).mpr h]

theorem State.featOk_refuses (h : ¬ featuresGranted (u.offer n) (u.fn n).accept) :
    ∃ r k, u.featOk n = u.setFn n { u.fn n with refused := true, reason := r, bit := k } := by
  unfold State.featOk
  dsimp only
  rw [if_neg (by simp [hok, hreset])]
  cases hjudge : judgeFeatures (u.offer n) (u.fn n).accept with
  | none => exact absurd ((judgeFeatures_eq_none_iff _ _).mp hjudge) h
  | some r => exact ⟨r.1, r.2, rfl⟩

end

/-! ## The reset beat of a tenant (R203, R204) -/

/-- What the reset beat leaves of the tenant's function, drafts and mark. -/
def State.tenantCleared (n : Nat) (z : State) : Prop :=
  (z.fn n).rst = .resetting ∧ (z.fn n).ok = false ∧ (z.fn n).accept = 0 ∧ (z.fn n).accepted = 0
    ∧ (n ≠ 0 → (∀ e ∈ z.drafts, e.1 / 2 ^ 32 ≠ n) ∧ n ∉ z.marks)

theorem State.tenantCleared.congr {n : Nat} {z w : State} (h : z.tenantCleared n)
    (hfn : (w.fn n).rst = (z.fn n).rst ∧ (w.fn n).ok = (z.fn n).ok ∧ (w.fn n).accept = (z.fn n).accept
      ∧ (w.fn n).accepted = (z.fn n).accepted)
    (hdrafts : w.drafts = z.drafts) (hmarks : w.marks = z.marks) : w.tenantCleared n := by
  obtain ⟨hrst, hok, haccept, haccepted⟩ := hfn
  unfold State.tenantCleared
  rw [hrst, hok, haccept, haccepted, hdrafts, hmarks]
  exact h

theorem State.fn_latchDial (m k n : Nat) (s : State) :
    ((s.latchDial m k).fn n).rst = (s.fn n).rst ∧ ((s.latchDial m k).fn n).ok = (s.fn n).ok
      ∧ ((s.latchDial m k).fn n).accept = (s.fn n).accept ∧ ((s.latchDial m k).fn n).accepted = (s.fn n).accepted := by
  unfold State.latchDial
  by_cases hn : n = m
  · subst hn
    rw [State.fn_setFn]
    unfold Func.latch
    dsimp only
    split <;> exact ⟨rfl, rfl, rfl, rfl⟩
  · rw [State.fn_setFn_ne _ _ hn]
    exact ⟨rfl, rfl, rfl, rfl⟩

theorem State.queueMirror_tenantCleared {n : Nat} {z : State} (e : MirrorEntry) (h : z.tenantCleared n) :
    (z.queueMirror e).tenantCleared n := by
  unfold State.queueMirror
  split
  · exact h
  · split
    · exact State.tenantCleared.congr h (State.fn_latchDial 0 27 n _) rfl rfl
    · exact h

/-- The last items of the reset beat: drafts, mark and winds of the tenant, its function's registers, its unsent writes. -/
def State.tenantRegs (n : Nat) (s : State) : State :=
  let s := if n = 0 then s else { s with
    drafts := s.drafts.filter (fun e => e.1 / 2 ^ 32 != n)
    marks := s.marks.filter (· != n)
    winds := s.winds.take 1 ++ (s.winds.drop 1).filter (fun w => w.scope != n) }
  let s := s.setFn n { (s.fn n).tenantReset n with rst := .resetting }
  { s with txWait := s.txWait.filter (fun o => o.fnOf != some n) }

theorem State.tenantRegs_tenantCleared (n : Nat) (s : State) : (s.tenantRegs n).tenantCleared n := by
  have hset (z : State) : ({ z.setFn n { (z.fn n).tenantReset n with rst := .resetting } with
      txWait := (z.setFn n { (z.fn n).tenantReset n with rst := .resetting }).txWait.filter (fun o => o.fnOf != some n) } : State).fn n
      = { (z.fn n).tenantReset n with rst := .resetting } := State.fn_setFn _ _ _
  unfold State.tenantRegs State.tenantCleared
  dsimp only
  rw [hset]
  refine ⟨rfl, rfl, rfl, rfl, fun hn => ?_⟩
  rw [if_neg hn]
  refine ⟨fun e he => ?_, fun hmark => ?_⟩
  · have hkept := (List.mem_filter.mp he).2
    simpa using hkept
  · have hkept := (List.mem_filter.mp hmark).2
    simp at hkept

theorem State.tenantResetBeat_shape (n : Nat) (s : State) :
    ∃ (v : State) (mir : List Nat), s.tenantResetBeat n = each (fun m z => z.queueMirror ⟨m, 0, false⟩) mir (v.tenantRegs n) := ⟨_, _, rfl⟩

theorem State.tenantResetBeat_tenantCleared (n : Nat) (s : State) : (s.tenantResetBeat n).tenantCleared n := by
  obtain ⟨v, mir, h⟩ := State.tenantResetBeat_shape n s
  rw [h]
  exact each_keep (State.tenantCleared n) _ (fun m z hz => State.queueMirror_tenantCleared _ hz) mir _
    (State.tenantRegs_tenantCleared n v)

/-! ## Requests and ends of a tenant's reset (R201, R202, R205) -/

theorem State.tenantReset_waits {u : State} {n : Nat} (h : (u.fn n).rst = .none) :
    u.tenantReset n false = u.setFn n { u.fn n with rst := .quiescing (u.now + u.o 0x1005 0) } := by
  simp [State.tenantReset, h]

theorem State.tenantReset_isolates {u : State} {n : Nat} (h : (u.fn n).rst ≠ .resetting) :
    u.tenantReset n true = u.tenantResetBeat n := by
  unfold State.tenantReset
  split
  next hrst => exact absurd hrst h
  · rfl
  · rfl

theorem State.tenantWaitEnd_passed {u : State} {n w : Nat} (hrst : (u.fn n).rst = .quiescing w)
    (hpassed : u.tenantDrained n = true ∨ w ≤ u.now ∧ u.asleep = false) : u.tenantWaitEnd n = u.tenantResetBeat n := by
  unfold State.tenantWaitEnd
  rw [hrst]
  exact if_pos (by simpa using hpassed)

theorem State.tenantWaitEnd_waits {u : State} {n w : Nat} (hrst : (u.fn n).rst = .quiescing w)
    (hpassed : ¬ (u.tenantDrained n = true ∨ w ≤ u.now ∧ u.asleep = false)) : u.tenantWaitEnd n = u := by
  unfold State.tenantWaitEnd
  rw [hrst]
  exact if_neg (by simpa using hpassed)

theorem State.tenantResetEnd_ends {u : State} {n : Nat} (h : (u.fn n).rst = .resetting) :
    u.tenantResetEnd n = (((u.setFn n { u.fn n with rst := .none }).bump 0x5010 n 1).dial 7 n).levelsNextBeat n :=
  if_pos (beq_iff_eq.mpr h)

/-! ## Resets of functions (R201) -/

theorem State.functionReset_leaves {u : State} {n : Nat} (h : (u.fn n).rst ≠ .resetting) :
    (u.functionReset n).tenantCleared n ∧ ((u.functionReset n).fn n).bme = false
      ∧ ((u.functionReset n).fn n).msixEn = false := by
  have hclear := State.tenantResetBeat_tenantCleared n u
  unfold State.functionReset
  dsimp only
  rw [State.tenantReset_isolates h]
  generalize u.tenantResetBeat n = w at hclear
  refine ⟨State.tenantCleared.congr hclear ?_ rfl rfl, ?_, ?_⟩
  · rw [State.fn_setFn]; exact ⟨rfl, rfl, rfl, rfl⟩
  · rw [State.fn_setFn]; rfl
  · rw [State.fn_setFn]; rfl

theorem State.flr_virtual {u : State} {n : Nat} (hcfg : u.cfgServed = true) (hpresent : u.present n = true) (hn : n ≠ 0) :
    u.flr n = u.functionReset n := by
  unfold State.flr
  rw [if_pos (by rw [hcfg, hpresent]; rfl)]
  exact if_neg hn

end Sys2Proof.Machine

open Sys2Proof Sys2Proof.Machine

/-- Settles O39: the writes and requests that are ignored, those that are served, and Bus Master Enable. -/
theorem negotiation : Obligations.Negotiation := by
  intro s b fn hi v be d q u f x hfn
  have hfits : (true && decide (fn < 32)) = true := by rw [decide_eq_true hfn]; rfl
  have haccept (h : q.takesMem fn) : exec (.featAcceptWrite b fn hi be d) s = .next (q.featAccept fn hi be d) :=
    req_takes (rd := false) hfits rfl rfl h
  have hrequest (h : q.takesMem fn) : exec (.featuresOkRequest b fn) s = .next (q.featOk fn) :=
    req_takes (rd := false) hfits rfl rfl h
  have hbme : exec (.busMasterEnableChange b fn v) s = .next (u.setBme fn v) := at_runs (decide_eq_true hfn)
  clear_value q u
  refine ⟨fun h hbarred => ?ignored, fun h hok hreset => ⟨?write, ?request⟩, fun hcfg hpresent => ?bme⟩
  case ignored => rw [haccept h, hrequest h, State.featAccept_ignored hbarred, State.featOk_ignored hbarred]; exact ⟨rfl, rfl⟩
  case write =>
    refine ⟨_, (haccept h).trans (congrArg _ (State.featAccept_writes hok hreset hi be d)), fun k hk => ?_⟩
    exact getLsbD_acceptHalf be hi x d k hk
  case request =>
    by_cases hgrant : featuresGranted (q.offer fn) x
    · refine ⟨_, (hrequest h).trans (congrArg _ (State.featOk_grants hok hreset hgrant)),
        fun m hm => State.fn_setFn_ne _ _ hm, rfl, ?_⟩
      rw [State.fn_setFn]
      exact ⟨⟨fun _ => hgrant, fun _ => rfl⟩, rfl, rfl⟩
    · obtain ⟨r, k, hout⟩ := State.featOk_refuses hok hreset hgrant
      refine ⟨_, (hrequest h).trans (congrArg _ hout), fun m hm => State.fn_setFn_ne _ _ hm, rfl, ?_⟩
      rw [State.fn_setFn]
      refine ⟨⟨fun hgranted => ?_, fun hrows => absurd hrows hgrant⟩, ?_⟩
      · exact absurd (hok.symm.trans hgranted) Bool.false_ne_true
      · exact (if_neg (fun hgranted => Bool.false_ne_true (hok.symm.trans hgranted))).mpr ⟨rfl, rfl⟩
  case bme => exact hbme.trans (congrArg _ (if_pos (by rw [hcfg, hpresent]; rfl)))

/-- Settles O40: the request, the wait, the reset beat, the end; a function's own reset, and VF Enable. -/
theorem tenantResets : Obligations.TenantResets := by
  intro s b n w num en q u after vf passed hn
  have hbeat : exec (.tenantResetBeat b n) s = .next (u.tenantWaitEnd n) := at_runs (decide_eq_true hn)
  have hend : exec (.tenantResetEnd b n) s = .next (u.tenantResetEnd n) := at_runs (decide_eq_true hn)
  have hflr : exec (.flr b n) s = .next (u.flr n) := at_runs (decide_eq_true hn)
  refine ⟨fun h hnone => ?quiesce, fun h hrst => ?isolate, fun hrst hpassed => ?passes, fun hrst hwaits => ?waits,
    fun hrst => ?ends, fun hcfg hpresent hvirtual hrst => ?flr, fun hcfg hsriov hnum => ?vf⟩
  case quiesce =>
    exact dict_next_high (by decide) (by omega) (by decide) h (by decide) (congrArg (Prod.mk 0) (State.tenantReset_waits hnone))
  case isolate =>
    exact ⟨_, dict_next_high (by decide) (by omega) (by decide) h (by decide)
      (congrArg (Prod.mk 0) (State.tenantReset_isolates hrst)), State.tenantResetBeat_tenantCleared n q, rfl⟩
  case passes =>
    exact ⟨_, hbeat.trans (congrArg _ (State.tenantWaitEnd_passed hrst hpassed)), State.tenantResetBeat_tenantCleared n u⟩
  case waits => exact hbeat.trans (congrArg _ (State.tenantWaitEnd_waits hrst hwaits))
  case ends => exact hend.trans (congrArg _ (State.tenantResetEnd_ends hrst))
  case flr =>
    exact ⟨_, hflr.trans (congrArg _ (State.flr_virtual hcfg hpresent hvirtual)), State.functionReset_leaves hrst⟩
  case vf => exact (at_runs (decide_eq_true hnum)).trans (congrArg _ (if_pos (by rw [hcfg, hsriov]; rfl)))

end

section
/-! Requests for level resets: pins, supplies, clocks, the dictionary and the watchdog (R280–R284, R312). -/

namespace Sys2Proof.Machine

open Sys2Proof

/-- A started device with no reset requested. -/
def State.resetFree (z : State) : Prop := z.started = true ∧ z.resetReq = none

/-- A level reset requested `delay` beats on. -/
def State.asked (z : State) (l : Level) (cause delay : Nat) : State :=
  { z with resetReq := some ⟨l, cause, false, z.now + delay, false⟩ }

theorem State.requestReset_of_free {z : State} (h : z.resetFree) (l : Level) (c d : Nat) :
    z.requestReset l c d = z.asked l c d := State.requestReset_free l c d h.1 h.2

/-- Of a requested reset a wider one takes the place at once; any other is absorbed. -/
theorem State.requestReset_of_requested {z : State} {r : ResetReq} (h : z.resetReq = some r) (l : Level) (c d : Nat) :
    z.requestReset l c d
      = if l.rank < r.level.rank then { z with resetReq := some ⟨l, c, false, z.now, false⟩ } else z := by
  unfold State.requestReset State.askReset
  rw [h]

theorem State.jtagReset_of_free {u : State} (h : u.resetFree) :
    u.jtagReset = { u.asked .l3 9 16 with
      jtag := { u.jtag with ir := 0x10 }, sent := .tdo 1 0 :: .tdo 8 1 :: u.sent } := by
  have hloaded : (u.jtagIr 0x10).resetFree := h
  unfold State.jtagReset
  rw [State.requestReset_of_free hloaded]
  rfl

theorem State.resetPin_short {low : Nat} (u : State) (h : low < 100) : u.resetPin low = u := if_pos h

theorem State.resetPin_long {u : State} {low : Nat} (h : 100 < low) (hfree : u.resetFree) :
    u.resetPin low = { u.asked (if u.o 0x1001 0 = 1 then .l2w else .l2c) 3 16 with
      start := { u.start with holdRstn := true } } := by
  have hover : ¬ low < 100 := by omega
  have hsure : ¬ low = 100 := by omega
  unfold State.resetPin
  rw [if_neg hover]
  dsimp only
  rw [if_neg hsure]
  dsimp only
  rw [if_pos rfl, State.requestReset_of_free hfree, if_neg (by rw [hfree.2]; exact nofun)]
  rfl

theorem State.powerOn_held {u : State} (h : u.resetFree) :
    u.powerOn true = { u.asked .l1 1 16 with start := { u.start with holdPorst := true } } := by
  unfold State.powerOn
  rw [State.requestReset_of_free h]
  rfl

theorem State.powerOn_supply {u : State} (h : u.resetFree) :
    u.powerOn false = { u.asked .l1 1 16 with
      backup := { u.backup with mainGood := false, supplyLive := 0, feedLive := 0, ibvLive := 0 } } := by
  unfold State.powerOn
  rw [State.requestReset_of_free h]
  rfl

/-! ## The watchdog (R284) -/

theorem State.wdogFire_expires {u : State} {t0 : Nat} (hfrom : u.wdogFrom = some t0)
    (hdue : t0 + u.o 0x1002 0 * 800000 ≤ u.now) (hawake : u.asleep = false) (hfree : u.resetFree) :
    u.wdogFire = { u.asked (if u.o 0x1004 0 = 1 then .l3 else .l2w) 6 16 with wdogFrom := none } := by
  have hstill : ({ u with wdogFrom := none } : State).resetFree := hfree
  unfold State.wdogFire
  rw [hfrom]
  dsimp only
  rw [if_pos (by simp [hdue, hawake]), State.requestReset_of_free hstill]
  rfl

theorem State.wdogFire_waits {u : State} {t0 : Nat}
    (h : u.wdogFrom = none ∨ u.wdogFrom = some t0 ∧ u.now < t0 + u.o 0x1002 0 * 800000 ∨ u.asleep = true) :
    u.wdogFire = u := by
  unfold State.wdogFire
  split
  · rfl
  next t hfrom =>
    refine if_neg ?_
    rcases h with hnone | ⟨hsome, hearly⟩ | hasleep
    · rw [hfrom] at hnone; exact absurd hnone nofun
    · obtain rfl : t = t0 := Option.some.inj (hfrom.symm.trans hsome)
      simp [Nat.not_le.mpr hearly]
    · simp [hasleep]

end Sys2Proof.Machine

open Sys2Proof Sys2Proof.Machine

/-- Settles O51, source by source. -/
theorem resetRequests : Obligations.ResetRequests := by
  intro s b v low t0 r u q asks free noSupply
  have hpin : exec (.resetPin b low) s = .next (u.resetPin low) := at_runs rfl
  have hclock : exec (.clockFail b) s = .next (u.requestReset .l2c 4 16) := at_runs rfl
  have hdog : exec (.watchdog b) s = .next u.wdogFire := at_runs rfl
  refine ⟨fun hfree => ⟨?brownout, ?clock, ?porst, ?supply, ?core, fun hlong => ?pin⟩, fun hshort => ?short, ?porstUp, ?rstnUp,
    ?leaves, fun hfree => ⟨fun h => ?cold, fun h => ?warm, fun h => ?l3⟩, fun hreq => ?wider, fun hv h => ?timeout,
    fun hv h => ?kick, fun hfrom hdue hawake hfree => ?expires, fun hwaits => ?waits⟩
  case brownout => exact (at_runs rfl).trans (congrArg _ (State.requestReset_of_free hfree .l1 2 16))
  case clock => exact hclock.trans (congrArg _ (State.requestReset_of_free hfree .l2c 4 16))
  case porst => exact (at_runs rfl).trans (congrArg _ (State.powerOn_held hfree))
  case supply => exact (at_runs rfl).trans (congrArg _ (State.powerOn_supply hfree))
  case core => exact (at_runs rfl).trans (congrArg _ (State.jtagReset_of_free hfree))
  case pin => exact hpin.trans (congrArg _ (State.resetPin_long hlong hfree))
  case short => exact hpin.trans (congrArg _ (State.resetPin_short u hshort))
  case porstUp => exact at_runs rfl
  case rstnUp => exact at_runs rfl
  case leaves => exact at_runs rfl
  case cold =>
    exact dict_next_low (by decide) (by decide) (by decide) h (by decide)
      (congrArg (Prod.mk 0) (State.requestReset_of_free hfree .l2c 7 8000))
  case warm =>
    exact dict_next_low (by decide) (by decide) (by decide) h (by decide)
      (congrArg (Prod.mk 0) (State.requestReset_of_free hfree .l2w 7 8000))
  case l3 =>
    exact dict_next_low (by decide) (by decide) (by decide) h (by decide)
      (congrArg (Prod.mk 0) (State.requestReset_of_free hfree .l3 7 8000))
  case wider =>
    refine hclock.trans (congrArg _ ((State.requestReset_of_requested hreq .l2c 4 16).trans ?_))
    cases hlevel : r.level <;> simp [Level.rank]
  case timeout => exact dict_next_low (by decide) (by decide) hv h (by decide) rfl
  case kick => exact dict_next_low (by decide) (by decide) hv h (by decide) rfl
  case expires => exact hdog.trans (congrArg _ (State.wdogFire_expires hfrom hdue hawake hfree))
  case waits => exact hdog.trans (congrArg _ (State.wdogFire_waits hwaits))

end

section
/-! What a level reset leaves (R285–R291, Table 12-4). -/

namespace Sys2Proof.Machine

open Sys2Proof

/-! ## Parts that every level shares -/

/-- The update of boot-record copy `k` that a reset of this cause cuts short (R326). -/
def State.cutsBoot (u : State) (cause k : Nat) : Prop := cause ≠ 0x0B ∧ ∃ e, u.fw.bootWrite = some (k, e) ∧ u.now < e

theorem State.cutBoot_eq (u : State) : u.cutBoot = { u with flash := u.cutBoot.flash } := by
  unfold State.cutBoot
  split
  · rfl
  · split <;> rfl

/-- The reset's first act on the flash. -/
def State.flashCut (u : State) (cause : Nat) : State := if cause = 0x0B then u else u.cutBoot

theorem State.flashCut_eq (u : State) (cause : Nat) : u.flashCut cause = { u with flash := (u.flashCut cause).flash } := by
  unfold State.flashCut
  split
  · rfl
  · exact State.cutBoot_eq u

theorem State.flashCut_kept {u : State} {cause : Nat} (h : ∀ k, ¬ u.cutsBoot cause k) :
    (u.flashCut cause).flash = u.flash := by
  unfold State.flashCut
  split
  · rfl
  next hcause =>
    unfold State.cutBoot
    split
    · rfl
    next k e hwrite => rw [if_neg (fun hnow => h k ⟨hcause, e, hwrite, hnow⟩)]

theorem State.flashCut_cut {u : State} {cause k : Nat} (h : u.cutsBoot cause k) (a : Nat) :
    memGet 0xFF (u.flashCut cause).flash a
      = if 0x8000 * k ≤ a ∧ a < 0x8000 * k + 0x8000 then 0xFF else memGet 0xFF u.flash a := by
  obtain ⟨hcause, e, hwrite, hnow⟩ := h
  have hflash : (u.flashCut cause).flash
      = u.flash.filter (fun c => Decidable.decide (c.1 < 0x8000 * k) || Decidable.decide (0x8000 * k + 0x8000 ≤ c.1)) := by
    unfold State.flashCut State.cutBoot
    rw [if_neg hcause, hwrite]
    dsimp only
    rw [if_pos hnow]
    rfl
  rw [hflash]
  split
  next hin =>
    refine memGet_erased _ _ _ (fun c hc => ?_)
    subst hc
    simp only [Bool.or_eq_false_iff, decide_eq_false_iff_not]
    omega
  next hout =>
    refine memGet_filter _ _ _ _ (fun c _ hc => ?_)
    subst hc
    simp only [Bool.or_eq_true, decide_eq_true_eq]
    omega

theorem State.advertise_eq (phy : Nat) (r4 r9 : BitVec 16) (u : State) :
    u.advertise phy r4 r9 = { u with sent := (u.advertise phy r4 r9).sent } := rfl

theorem State.phyBack_eq (u : State) : ∃ sent quiet, u.phyBack = { u with sent := sent, quiet := quiet } := by
  unfold State.phyBack
  split
  · exact ⟨u.sent, u.quiet, rfl⟩
  · rw [State.advertise_eq]
    exact ⟨_, _, rfl⟩

/-- What of the backup domain a counted reset shows. -/
def Backup.counted (k b : Backup) : Prop :=
  b.supplyLive = k.supplyLive ∧ b.mainGood = k.mainGood
    ∧ (k.present = true → b.resetCount = k.resetCount + 1 ∧ b.fresh = false)

/-- The count of a reset changes the backup domain alone. -/
theorem State.countReset_counted (lvl : Level) (cause : Nat) (esc : Bool) (u : State) :
    ∃ b, (u.countReset lvl cause esc).2 = { u with backup := b } ∧ Backup.counted u.backup b := by
  unfold State.countReset State.bk
  dsimp only
  split
  · exact ⟨_, rfl, rfl, rfl, fun _ => ⟨rfl, rfl⟩⟩
  next habsent => exact ⟨u.backup, rfl, rfl, rfl, fun h => absurd h habsent⟩

/-- Drafts, marks and winds dropped under a reset of level `l`, with its count; time, flash and the supply's copies as `u` has them. -/
def State.dropped (u t : State) (l : Level) : Prop :=
  t.drafts = [] ∧ t.marks = [] ∧ t.winds = [] ∧ t.start.level = l ∧ t.now = u.now ∧ t.flash = u.flash
    ∧ Backup.counted u.backup t.backup

/-! ## The data plane of an L1 or L2 reset (R287) -/

/-- A value of a map all of whose entries and whose default have a property. -/
theorem smGet_of_forall {α : Type} (P : α → Prop) (d : Nat → α) (hd : ∀ k, P (d k)) (m : SMap α) (h : ∀ e ∈ m, P e.2) (k : Nat) :
    P (smGet d m k) := by
  induction m with
  | nil => exact hd k
  | cons e m ih =>
    unfold smGet
    split
    · exact h e List.mem_cons_self
    · exact ih (fun x hx => h x (List.mem_cons_of_mem _ hx))

/-- The filters of the state after the reset: at 0, their counts anew. -/
def filtersAnew (now : Nat) (m : SMap Filt) : SMap Filt :=
  smMap (fun _ => Filt.init) (fun _ x => { x with value := false, since := now }) m

theorem mem_filtersAnew {now : Nat} {m : SMap Filt} {e : Nat × Filt} (h : e ∈ filtersAnew now m) :
    e.2.value = false ∧ e.2.since = now := by
  obtain ⟨x, -, hx⟩ := List.mem_filterMap.mp h
  dsimp only at hx
  split at hx
  · exact absurd hx nofun
  · obtain rfl := Option.some.inj hx
    exact ⟨rfl, rfl⟩

/-- The data plane as an L1 or L2 reset leaves it. -/
def State.planeReset (u t : State) : Prop :=
  t.src = [] ∧ t.dlv = [] ∧ t.tgt = [] ∧ t.eng = [] ∧ t.sensing = false ∧ t.linkL0 = false
    ∧ t.resetReq = none ∧ t.gasp.sending = false ∧ t.filtered = filtersAnew u.now u.filtered ∧ t.start.step = 0 ∧ t.dram = u.dram

theorem State.planeReset.filters {u t : State} (h : t.filtered = filtersAnew u.now u.filtered) :
    (∀ n, (t.filtAt n).value = false) ∧ ∀ e ∈ t.filtered, e.2.since = u.now := by
  refine ⟨fun n => ?_, fun e he => ?_⟩
  · unfold State.filtAt
    rw [h]
    exact smGet_of_forall (fun x : Filt => x.value = false) _ (fun _ => rfl) _ (fun e he => (mem_filtersAnew he).1) n
  · rw [h] at he
    exact (mem_filtersAnew he).2

/-! ## The levels -/

/-- The payload pool, the counter and the fault slots of a cold start. -/
def State.coldTables (t : State) : Prop :=
  t.buf = [] ∧ t.first = none ∧ t.worst = none ∧ t.multi = false ∧ t.cnt = 0

/-- The state as an L1 or L2 reset is counted: the PHY's advertisement is back. -/
theorem State.counted_eq (lvl : Level) (cause : Nat) (esc : Bool) (u : State) :
    ∃ sent quiet b, (u.phyBack.countReset lvl cause esc).2 = { u with sent := sent, quiet := quiet, backup := b }
      ∧ Backup.counted u.backup b := by
  obtain ⟨sent, quiet, hphy⟩ := State.phyBack_eq u
  obtain ⟨b, hcount, hcounted⟩ := State.countReset_counted lvl cause esc u.phyBack
  rw [hphy] at hcount hcounted ⊢
  exact ⟨sent, quiet, b, hcount, hcounted⟩

/-- An L1 or L2 cold reset. -/
theorem State.coldReset_leaves (lvl : Level) (cause : Nat) (esc : Bool) (u : State) :
    (u.coldReset lvl cause esc).coldTables ∧ u.planeReset (u.coldReset lvl cause esc)
      ∧ u.dropped (u.coldReset lvl cause esc) lvl := by
  obtain ⟨sent, quiet, b, hcount, hcounted⟩ := State.counted_eq lvl cause esc u
  unfold State.coldReset
  dsimp only
  generalize u.phyBack.countReset lvl cause esc = r at hcount
  obtain ⟨e, z⟩ := r
  dsimp only at hcount ⊢
  subst hcount
  split
  · exact ⟨⟨rfl, rfl, rfl, rfl, rfl⟩, ⟨rfl, rfl, rfl, rfl, rfl, rfl, rfl, rfl, rfl, rfl, rfl⟩,
      ⟨rfl, rfl, rfl, rfl, rfl, rfl, hcounted⟩⟩
  · exact ⟨⟨rfl, rfl, rfl, rfl, rfl⟩, ⟨rfl, rfl, rfl, rfl, rfl, rfl, rfl, rfl, rfl, rfl, rfl⟩,
      ⟨rfl, rfl, rfl, rfl, rfl, rfl, hcounted⟩⟩

/-- R288: the buffers of a warm reset. -/
theorem State.warmBuffers_eq (u : State) : ∃ buf back, u.warmBuffers = { u with buf := buf, poolBack := back } := by
  have hloop : ∃ buf back, each (fun (e : Nat × Buf) (s : State) => s.returnBuf e.1 false) u.buf u
      = { u with buf := buf, poolBack := back } :=
    each_keep (fun z : State => ∃ buf back, z = { u with buf := buf, poolBack := back }) _ (fun e z hz => by
      obtain ⟨buf, back, hz⟩ := hz
      obtain ⟨x, y, hreturn⟩ := State.returnBuf_eq e.1 false z
      exact ⟨x, y, by rw [hreturn, hz]⟩) u.buf u ⟨u.buf, u.poolBack, rfl⟩
  obtain ⟨buf, back, hloop⟩ := hloop
  unfold State.warmBuffers
  dsimp only
  rw [hloop]
  exact ⟨_, _, rfl⟩

/-- What an L2 warm reset keeps. -/
def State.warmKept (u t : State) : Prop :=
  t.first = u.first ∧ t.worst = u.worst ∧ t.cnt = u.cnt ∧ t.chr.nextSeq = u.chr.nextSeq

/-- An L2 warm reset. -/
theorem State.warmReset_leaves (cause : Nat) (esc : Bool) (u : State) :
    u.warmKept (u.warmReset cause esc) ∧ u.planeReset (u.warmReset cause esc) ∧ u.dropped (u.warmReset cause esc) .l2w := by
  obtain ⟨sent, quiet, b, hcount, hcounted⟩ := State.counted_eq .l2w cause esc u
  unfold State.warmReset
  dsimp only
  generalize u.phyBack.countReset .l2w cause esc = r at hcount
  obtain ⟨e, z⟩ := r
  dsimp only at hcount ⊢
  subst hcount
  obtain ⟨buf, back, hwarm⟩ := State.warmBuffers_eq
    (((({ u with sent := sent, quiet := quiet, backup := b } : State).restore 3).dropWork).resetPlane)
  rw [hwarm]
  exact ⟨⟨rfl, rfl, rfl, rfl⟩, ⟨rfl, rfl, rfl, rfl, rfl, rfl, rfl, rfl, rfl, rfl, rfl⟩,
    ⟨rfl, rfl, rfl, rfl, rfl, rfl, hcounted⟩⟩

/-- What an L3 reset keeps. -/
def State.coreKept (u t : State) : Prop :=
  t.start.stateCode = u.start.stateCode ∧ t.start.minimal = u.start.minimal ∧ t.sensing = u.sensing ∧ t.src = u.src
    ∧ t.dlv = u.dlv ∧ t.buf = u.buf ∧ t.eng = u.eng ∧ t.esc = u.esc ∧ t.first = u.first ∧ t.cnt = u.cnt
    ∧ t.filtered = u.filtered ∧ t.gasp.sending = false

/-- The end of an L3 reset: the Regulator's start, the escapements that return, and the RESET record. -/
def State.coreEnd (w : State) (escs : List Nat) (body : State → List Byte) : State :=
  let s := w.regGo (if w.bare then 3 else 0)
  let s := each State.escReturn escs s
  let s := s.chrPut 3 none (body s)
  if s.bare then { s with start := { s.start with step := 9 } } else s

theorem State.regGo_eq (k : Nat) (w : State) : ∃ fw due func port,
    w.regGo k = { w with fw := fw, time := { w.time with toUpdate := due }, func := func, port := port } := by
  unfold State.regGo
  dsimp only
  split
  · exact ⟨_, _, w.func, w.port, rfl⟩
  · exact ⟨_, _, _, _, rfl⟩

theorem State.coreEnd_eq (w : State) (body : State → List Byte) : ∃ fw due func port obj chr step,
    w.coreEnd [] body = { w with
      fw := fw, time := { w.time with toUpdate := due }, func := func, port := port, obj := obj, chr := chr
      start := { w.start with step := step } } := by
  obtain ⟨fw, due, func, port, hgo⟩ := State.regGo_eq (if w.bare then 3 else 0) w
  unfold State.coreEnd
  dsimp only [each]
  rw [hgo]
  generalize body _ = bytes
  rw [State.chrPut_eq]
  split
  · exact ⟨_, _, _, _, _, _, _, rfl⟩
  · exact ⟨_, _, _, _, _, _, w.start.step, rfl⟩

theorem State.endQuiet_awake {u : State} (h : u.quiet.code = 0) : u.endQuiet = u := if_pos h

/-- The state of an L3 reset before its Regulator starts, `z` being the state as the reset is counted. -/
def State.coreStart (z : State) : State :=
  let s := (z.restore 4).dropWork
  let s := { s with
    quiet := { s.quiet with beginAt := none, d3Waits := false }
    gasp := { s.gasp with sending := false, rounds := 3 }
    tgt := smMap (fun _ => Target.init) (fun _ x => x.stats) s.tgt
    time := { s.time with toUpdate := false }
    chr := { s.chr with rings := 0 }
    start := { Start.init with
      step := 8, level := .l3, stateCode := s.start.stateCode, minimal := s.start.minimal, bringup := s.start.bringup
      boundFrom := some s.now, holdPorst := s.start.holdPorst, holdRstn := s.start.holdRstn
      dictBarUntil := s.now + 1600, optionsDone := s.start.optionsDone } }
  { s with fw := { Firmware.init with bootFrom := s.now, lastBeatOfHeart := s.now } }

/-- The L3 reset in its two parts; `body` is the RESET record's. -/
theorem State.coreReset_parts {u z : State} {e : Dw} {cause : Nat} {esc : Bool} (hcount : u.countReset .l3 cause esc = (e, z)) :
    u.coreReset cause esc = z.endQuiet.coreStart.coreEnd
      ((z.blk.map (·.1)).filter (fun el => el < 8 && !(z.escAt el).failed)) (fun s => resetBody e s.backup.resetCount 0) := by
  unfold State.coreReset
  rw [hcount]
  rfl

/-- With no block reset under way no escapement returns. -/
theorem State.coreReset_eq {u z : State} {e : Dw} {cause : Nat} {esc : Bool} (hcount : u.countReset .l3 cause esc = (e, z))
    (hawake : z.quiet.code = 0) (hblk : z.blk = []) :
    u.coreReset cause esc = z.coreStart.coreEnd [] (fun s => resetBody e s.backup.resetCount 0) := by
  have hend : z.endQuiet = z := State.endQuiet_awake hawake
  rw [State.coreReset_parts hcount, hblk, hend, List.map_nil, List.filter_nil]

/-- An L3 reset outside Quiet mode with no block reset under way. -/
theorem State.coreReset_leaves {u : State} (cause : Nat) (esc : Bool) (hawake : u.quiet.code = 0) (hblk : u.blk = []) :
    u.coreKept (u.coreReset cause esc) ∧ u.dropped (u.coreReset cause esc) .l3 := by
  obtain ⟨b, hcount, hcounted⟩ := State.countReset_counted .l3 cause esc u
  generalize hr : u.countReset .l3 cause esc = r at hcount
  obtain ⟨e, z⟩ := r
  dsimp only at hcount
  subst hcount
  have hout := State.coreReset_eq hr hawake hblk
  generalize (fun s : State => resetBody e s.backup.resetCount 0) = body at hout
  obtain ⟨fw, due, func, port, obj, chr, step, hend⟩ := State.coreEnd_eq ({ u with backup := b } : State).coreStart body
  rw [hout, hend]
  exact ⟨⟨rfl, rfl, rfl, rfl, rfl, rfl, rfl, rfl, rfl, rfl, rfl, rfl⟩, ⟨rfl, rfl, rfl, rfl, rfl, rfl, hcounted⟩⟩

/-! ## The command -/

theorem State.resetStart_early {u : State} {r : ResetReq} (hreq : u.resetReq = some r)
    (h : u.now < r.due ∨ r.level ≠ .l1 ∧ u.gasping = true ∧ u.now < r.due + 1760000) : u.resetStart = u := by
  unfold State.resetStart
  rw [hreq]
  refine if_neg (fun hgo => ?_)
  simp only [Bool.and_eq_true, Bool.or_eq_true, decide_eq_true_eq, beq_iff_eq, Bool.not_eq_true'] at hgo
  obtain ⟨hdue, hwhen⟩ := hgo
  rcases h with h | ⟨hlevel, hgasp, hnow⟩
  · omega
  · rcases hwhen with (h1 | h1) | h1
    · exact hlevel h1
    · exact absurd (hgasp.symm.trans h1) (by decide)
    · omega

theorem State.resetStart_goes {u : State} {r : ResetReq} (hreq : u.resetReq = some r) (hdue : r.due ≤ u.now)
    (hwhen : r.level = .l1 ∨ u.gasping = false ∨ r.due + 1760000 ≤ u.now) :
    u.resetStart = u.levelReset r.level r.cause r.escalated := by
  unfold State.resetStart
  rw [hreq]
  refine if_pos ?_
  simp only [Bool.and_eq_true, Bool.or_eq_true, decide_eq_true_eq, beq_iff_eq, Bool.not_eq_true']
  exact ⟨hdue, by tauto⟩

/-- What a reset of level `l` requested for `cause` leaves in `t`, the flash included. -/
def State.levelKept (u t : State) (cause : Nat) (l : Level) : Prop :=
  t.drafts = [] ∧ t.marks = [] ∧ t.winds = [] ∧ t.start.level = l
    ∧ t.now = u.now ∧ t.backup.supplyLive = u.backup.supplyLive ∧ t.backup.mainGood = u.backup.mainGood
    ∧ ((∀ k, ¬ u.cutsBoot cause k) → t.flash = u.flash)
    ∧ (∀ k a, u.cutsBoot cause k → memGet 0xFF t.flash a
        = if 0x8000 * k ≤ a ∧ a < 0x8000 * k + 0x8000 then 0xFF else memGet 0xFF u.flash a)

theorem State.dropped.levelKept {u t : State} {cause : Nat} {l : Level} (h : (u.flashCut cause).dropped t l) :
    u.levelKept t cause l ∧ (u.backup.present = true → t.backup.resetCount = u.backup.resetCount + 1 ∧ t.backup.fresh = false) := by
  obtain ⟨hdrafts, hmarks, hwinds, hlevel, hnow, hflash, hlive, hgood, hcount⟩ := h
  rw [State.flashCut_eq] at hnow hlive hgood hcount
  refine ⟨⟨hdrafts, hmarks, hwinds, hlevel, hnow, hlive, hgood, fun hk => ?_, fun k a hk => ?_⟩, hcount⟩
  · rw [hflash, State.flashCut_kept hk]
  · rw [hflash, State.flashCut_cut hk a]

theorem State.planeReset_of_flashCut {u t : State} {cause : Nat} (h : (u.flashCut cause).planeReset t) : u.planeReset t := by
  unfold State.planeReset at h ⊢
  rw [State.flashCut_eq] at h
  exact h

/-- An L1 or L2 cold reset with its cut of the flash. -/
theorem State.coldReset_cold {u : State} (lvl : Level) (cause : Nat) (esc : Bool) {t : State}
    (ht : t = (u.flashCut cause).coldReset lvl cause esc) :
    u.levelKept t cause lvl
      ∧ (u.backup.present = true → t.backup.resetCount = u.backup.resetCount + 1 ∧ t.backup.fresh = false)
      ∧ u.planeReset t ∧ t.coldTables := by
  obtain ⟨htables, hplane, hdropped⟩ := State.coldReset_leaves lvl cause esc (u.flashCut cause)
  rw [← ht] at htables hplane hdropped
  obtain ⟨hkept, hcounted⟩ := hdropped.levelKept
  exact ⟨hkept, hcounted, State.planeReset_of_flashCut hplane, htables⟩

theorem State.levelReset_warm {u : State} (cause : Nat) (esc : Bool) (hbare : u.bare = false) :
    u.levelReset .l2w cause esc = (u.flashCut cause).warmReset cause esc := by
  have hb : (u.flashCut cause).bare = false := by rw [State.flashCut_eq]; exact hbare
  refine (if_neg ?_ : _ = (u.flashCut cause).warmReset cause esc)
  exact fun h => absurd (h.symm.trans hb) (by decide)

theorem State.levelReset_bare {u : State} (cause : Nat) (esc : Bool) (hbare : u.bare = true) :
    u.levelReset .l2w cause esc = (u.flashCut cause).coldReset .l2c cause true := by
  have hb : (u.flashCut cause).bare = true := by rw [State.flashCut_eq]; exact hbare
  exact (if_pos hb : _ = (u.flashCut cause).coldReset .l2c cause true)

/-- An L2 warm reset with its cut of the flash. -/
theorem State.levelReset_warm_leaves {u : State} (cause : Nat) (esc : Bool) (hbare : u.bare = false) {t : State}
    (ht : t = u.levelReset .l2w cause esc) :
    u.levelKept t cause .l2w
      ∧ (u.backup.present = true → t.backup.resetCount = u.backup.resetCount + 1 ∧ t.backup.fresh = false)
      ∧ u.planeReset t ∧ u.warmKept t := by
  rw [State.levelReset_warm cause esc hbare] at ht
  obtain ⟨hwarm, hplane, hdropped⟩ := State.warmReset_leaves cause esc (u.flashCut cause)
  rw [← ht] at hwarm hplane hdropped
  obtain ⟨hkept, hcounted⟩ := hdropped.levelKept
  refine ⟨hkept, hcounted, State.planeReset_of_flashCut hplane, ?_⟩
  unfold State.warmKept at hwarm ⊢
  rw [State.flashCut_eq] at hwarm
  exact hwarm

/-- An L3 reset with its cut of the flash. -/
theorem State.levelReset_core_leaves {u : State} (cause : Nat) (esc : Bool) (hawake : u.quiet.code = 0) (hblk : u.blk = []) {t : State}
    (ht : t = u.levelReset .l3 cause esc) : u.levelKept t cause .l3 ∧ u.coreKept t := by
  have hcut := State.flashCut_eq u cause
  have hawake' : (u.flashCut cause).quiet.code = 0 := by rw [hcut]; exact hawake
  have hblk' : (u.flashCut cause).blk = [] := by rw [hcut]; exact hblk
  obtain ⟨hcore, hdropped⟩ := State.coreReset_leaves (u := u.flashCut cause) cause esc hawake' hblk'
  have ht' : t = (u.flashCut cause).coreReset cause esc := ht
  rw [← ht'] at hcore hdropped
  refine ⟨hdropped.levelKept.1, ?_⟩
  unfold State.coreKept at hcore ⊢
  rw [hcut] at hcore
  exact hcore

end Sys2Proof.Machine

open Sys2Proof Sys2Proof.Machine

/-- Settles O52: each level drops the drafts and winds, and keeps of the rest what Table 12-4 gives it. -/
theorem levelResets : Obligations.LevelResets := by
  intro s b r u cuts every counted plane cold goes
  have hexec : exec (.levelResetStart b) s = .next u.resetStart := (at_runs rfl).trans rfl
  rw [hexec]
  clear hexec
  clear_value u
  have hcold : ∀ {t : State} {l : Level}, u.levelKept t r.cause l →
      (u.backup.present = true → t.backup.resetCount = u.backup.resetCount + 1 ∧ t.backup.fresh = false) →
      u.planeReset t → t.coldTables → cold t l := by
    intro t l hkept hcounted hplane htables
    obtain ⟨hsrc, hdlv, htgt, heng, hsensing, hlink, hreq, hgasp, hfilt, hstep, hdram⟩ := hplane
    obtain ⟨hbuf, hfirst, hworst, hmulti, hcnt⟩ := htables
    obtain ⟨hvalue, hsince⟩ := State.planeReset.filters hfilt
    exact ⟨hkept, hcounted, ⟨hsrc, hdlv, htgt, heng, hsensing, hlink, hreq, hgasp, hvalue, hsince⟩, hbuf, hfirst, hworst, hmulti,
      hcnt, hstep, hdram⟩
  refine ⟨fun hnone => ?_, fun hreq hnow => ?_, fun hreq hlevel hgasp hnow => ?_, ?_, ?_, ?_, ?_⟩
  · unfold State.resetStart
    rw [hnone]
  · rw [State.resetStart_early hreq (Or.inl hnow)]
  · rw [State.resetStart_early hreq (Or.inr ⟨hlevel, hgasp, hnow⟩)]
  · rintro ⟨hreq, hdue, hwhen⟩ hlevel
    rw [State.resetStart_goes hreq hdue hwhen]
    refine ⟨_, rfl, ?_⟩
    rcases hlevel with hl | hl
    · rw [hl]
      obtain ⟨hkept, hcounted, hplane, htables⟩ := State.coldReset_cold (u := u) .l1 r.cause r.escalated rfl
      exact hcold hkept hcounted hplane htables
    · rw [hl]
      obtain ⟨hkept, hcounted, hplane, htables⟩ := State.coldReset_cold (u := u) .l2c r.cause r.escalated rfl
      exact hcold hkept hcounted hplane htables
  · rintro ⟨hreq, hdue, hwhen⟩ hl hbare
    rw [State.resetStart_goes hreq hdue hwhen, hl, State.levelReset_bare r.cause r.escalated hbare]
    obtain ⟨hkept, hcounted, hplane, htables⟩ := State.coldReset_cold (u := u) .l2c r.cause true rfl
    exact ⟨_, rfl, hcold hkept hcounted hplane htables⟩
  · rintro ⟨hreq, hdue, hwhen⟩ hl hbare
    rw [State.resetStart_goes hreq hdue hwhen, hl]
    obtain ⟨hkept, hcounted, ⟨hsrc, hdlv, htgt, heng, hsensing, hlink, hnone, hgasp, hfilt, hstep, hdram⟩, hfirst, hworst, hcnt, hseq⟩ :=
      State.levelReset_warm_leaves r.cause r.escalated hbare rfl
    obtain ⟨hvalue, hsince⟩ := State.planeReset.filters hfilt
    exact ⟨_, rfl, hkept, hcounted, ⟨hsrc, hdlv, htgt, heng, hsensing, hlink, hnone, hgasp, hvalue, hsince⟩, hfirst, hworst, hcnt,
      hstep, hseq, hdram⟩
  · rintro ⟨hreq, hdue, hwhen⟩ hl hawake hblk
    rw [State.resetStart_goes hreq hdue hwhen, hl]
    obtain ⟨hkept, hcore⟩ := State.levelReset_core_leaves r.cause r.escalated hawake hblk rfl
    exact ⟨_, rfl, hkept, hcore⟩
end

section
/-! The state after reset. -/

open Sys2Proof Sys2Proof.Machine

/-- Settles O4: the tables of State.reset are empty, so that each lookup gives its default. -/
theorem resetSound : Obligations.ResetSound := by
  have hsound : State.reset.sound := ⟨rfl, rfl, rfl, rfl⟩
  have hentry : ∀ n, (State.reset.srcAt n).st = .idle ∧ (State.reset.srcAt n).repend = false
      ∧ (State.reset.bufAt n).st = .free ∧ (State.reset.bufAt n).gen = 0 ∧ (State.reset.tgtAt n).tagNext = 1
      ∧ (State.reset.fn n).bme = false ∧ (State.reset.fn n).ok = false ∧ (State.reset.fn n).dialPend = 0 :=
    fun n => ⟨rfl, rfl, rfl, rfl, rfl, rfl, rfl, rfl⟩
  exact ⟨hsound, fun _ _ => rfl, rfl, hentry, rfl, rfl, rfl, rfl, rfl, rfl, rfl, rfl, rfl, rfl, rfl, rfl, rfl⟩
end

section
/-! Block resets: the reset phase of the tandem link (Table 12-5, R393). -/

namespace Sys2Proof.Machine

open Sys2Proof

/-- The reset phase of the link also drops what the pair holds, the back-off among it. -/
theorem State.blkPhase_link_backoff (mm : Bool) (z : State) : (z.blkPhase 0x22 mm).tdm.backoff = none := rfl

/-- The state after reset with a back-off that runs on the pair. -/
def State.backingOff : State := { State.reset with tdm := { State.reset.tdm with backoff := some 128000 } }

/-- With the lanes DOWN already, a lane loss changes nothing. -/
theorem State.lanesDown_backingOff (mm : Bool) : State.backingOff.lanesDown mm = State.backingOff := rfl

end Sys2Proof.Machine

open Sys2Proof Sys2Proof.Machine

/-- Refutes O54: the reset phase of the tandem link, taken while the pair backs off with its lanes DOWN, is not the lane loss alone,
since it also ends the back-off and drops the frames that wait for the pair (State.linkSilent, R393). -/
theorem not_blockResets : ¬ Obligations.BlockResets := by
  intro h
  obtain ⟨-, -, -, -, hphase, -⟩ := h State.reset 0 0 0 0 0 false rfl
  obtain ⟨-, -, -, -, -, -, -, hlink⟩ := hphase State.backingOff (by decide)
  have hbackoff : none = some 128000 := calc
    none = (State.backingOff.blkPhase 0x22 false).tdm.backoff := (State.blkPhase_link_backoff false State.backingOff).symm
    _ = ((State.backingOff.lanesDown false).setBlk 0x22 (some .resetting)).tdm.backoff := congrArg (fun z : State => z.tdm.backoff) hlink
    _ = some 128000 := by rw [State.lanesDown_backingOff]; rfl
  exact absurd hbackoff (by decide)
end

section
/-! The steps of a start (Table 12-6) and its failures (R301–R303). -/

namespace Sys2Proof.Machine

open Sys2Proof

/-! ## Operations that leave the start's record alone -/

theorem each_start {α : Type} (f : α → State → State) (hf : ∀ a z, (f a z).start = z.start) (l : List α) (s : State) :
    (each f l s).start = s.start :=
  each_keep (fun z => z.start = s.start) f (fun a z h => (hf a z).trans h) l s rfl

theorem loop_start (f : Nat → State → State) (hf : ∀ k z, (f k z).start = z.start) (lo n : Nat) (s : State) :
    (loop f lo n s).start = s.start :=
  loop_keep (fun z => z.start = s.start) f (fun k z h => (hf k z).trans h) n lo s rfl

theorem ite_start {c : Prop} [Decidable c] {a b s : State} (ha : a.start = s.start) (hb : b.start = s.start) :
    (if c then a else b).start = s.start := ite_keeps_fn State.start ha hb

@[simp] theorem State.select_start (n : Nat) (s : State) : (s.select n).start = s.start := by rw [State.select_eq]

@[simp] theorem State.checkBuf_start (b : Option Nat) (s : State) : (s.checkBuf b).start = s.start :=
  (State.checkBuf_still b s (Still.refl s)).start

@[simp] theorem State.memberEnded_start (n : Nat) (s : State) : (s.memberEnded n).start = s.start :=
  (State.memberEnded_still n s (Still.refl s)).start

@[simp] theorem State.queueMirror_start (e : MirrorEntry) (s : State) : (s.queueMirror e).start = s.start :=
  (State.queueMirror_still e s (Still.refl s)).start

theorem State.returnBuf_start (i : Nat) (p : Bool) (s : State) : (s.returnBuf i p).start = s.start := by
  obtain ⟨x, y, h⟩ := State.returnBuf_eq i p s
  rw [h]

theorem State.resetSource_start (n : Nat) (s : State) : (s.resetSource n).start = s.start := by
  unfold State.resetSource
  dsimp only
  rw [State.note_start]
  refine ite_start (s := s) ?_ ?_ <;> simp only [State.setO_start]
  all_goals
    refine (each_start _ (fun i z => ?_) _ _).trans rfl
    rw [State.setBuf_start, State.returnBuf_start]

/-! ### The consequences of a wind -/

theorem State.loseMember_start (n t : Nat) (s : State) : (s.loseMember n t).start = s.start := by
  simp only [State.loseMember, State.note_start, State.checkBuf_start, State.memberEnded_start, State.bump_start, State.setSrc_start]

theorem State.regroupSrc_start (g n : Nat) (s : State) : (s.regroupSrc g n).start = s.start := by
  have hlose (ts : List Nat) :
      (each (fun t z => if (z.srcAt n).members.any (fun m => m.tgt == t) then z.loseMember n t else z) ts s).start = s.start :=
    each_start _ (fun t z => ite_start (State.loseMember_start n t z) rfl) ts s
  unfold State.regroupSrc
  dsimp only
  refine ite_start rfl (ite_start (ite_start (State.select_start n s) rfl) (ite_start (hlose _) (ite_start ?_ rfl)))
  split
  · exact ite_start rfl (State.select_start n s)
  · exact ite_start (State.select_start n s) rfl

theorem State.regroup_start (skip : List Nat) (g : Nat) (s : State) : (s.regroup skip g).start = s.start :=
  (each_start _ (fun (e : Nat × Source) z => ite_start rfl (State.regroupSrc_start g e.1 z)) _ _).trans
    (ite_start (s := s) rfl rfl)

theorem State.unmigrate_start (ts : List Nat) (s : State) : (s.unmigrate ts).start = s.start :=
  (each_start _ (fun e z => ite_start (by simp) rfl) _ _).trans (each_start _ (fun t z => by simp) ts s)

theorem State.goStale_start (n : Nat) (s : State) : (s.goStale n).start = s.start := by
  unfold State.goStale
  exact ite_start (by simp) (by simp)

theorem State.doutIdle_start (n : Nat) (s : State) : (s.doutIdle n).start = s.start := by
  unfold State.doutIdle State.balls
  exact ite_start (each_start _ State.emit_start _ _) rfl

theorem State.disablePort_start (n : Nat) (s : State) : (s.disablePort n).start = s.start := by
  have hdiscard : (s.discardFrame n).start = s.start := by
    unfold State.discardFrame
    rw [State.setEng_start]
    exact ite_start (State.goStale_start n s) rfl
  have hidle : ((s.discardFrame n).doutIdle n).start = s.start :=
    (State.doutIdle_start n _).trans hdiscard
  simp only [State.disablePort, State.engIdle, State.setEng_start, hidle]

theorem State.newRing_start (reason : Nat) (s : State) : (s.newRing reason).start = s.start :=
  ite_start (by simp) rfl

theorem State.ringAnew_start (reason : Nat) (s : State) : (s.ringAnew reason).start = s.start := by
  refine ite_start (State.newRing_start reason s) ?_
  rw [State.dial_start, State.bump_start]
  exact State.newRing_start reason s

theorem State.supplyWound_start (chg : List Nat) (s : State) : (s.supplyWound chg).start = s.start := by
  have hfeed : s.feedDisabled.start = s.start := ite_start rfl rfl
  exact ite_start (s := s) hfeed rfl

theorem State.forwardsDown_start (mm : Bool) (e : Nat) (s : State) : (s.forwardsDown mm e).start = s.start :=
  ite_start rfl (ite_start (State.mismatch_still _ _ s (Still.refl s)).start
    (each_start _ (fun d z => (State.revokeForward_still d z (Still.refl z)).start) _ _))

theorem State.linkSilent_start (mm : Bool) (s : State) : (s.linkSilent mm).start = s.start := by
  have htandem (z : State) : ((z.chrTandem 2 0).dial 24 0).tandemChanged.start = z.start := by
    obtain ⟨l, h⟩ := State.raiseLate_eq 14 ((z.chrTandem 2 0).dial 24 0)
    unfold State.tandemChanged
    rw [h]
    simp [State.chrTandem]
  have hlanes : (s.lanesDown mm).start = s.start := by
    unfold State.lanesDown
    dsimp only
    refine ite_start rfl (ite_start ?_ rfl)
    rw [htandem]
    exact each_start _ (State.forwardsDown_start mm) _ _
  exact hlanes

theorem State.mirrorWound_start (n : Nat) (s : State) : (s.mirrorWound n).start = s.start := ite_start (by simp) rfl

theorem State.probe_start (idx : Nat) (s : State) : (s.probe idx).start = s.start := ite_start (by simp) rfl

theorem State.senseWound_start (n : Nat) (s : State) : (s.senseWound n).start = s.start := ite_start rfl rfl

theorem State.ppsWound_start (s : State) : s.ppsWound.start = s.start := ite_start (by simp) rfl

theorem State.windApply_start (chg : List (Nat × Nat)) (s : State) : (s.windApply chg).start = s.start := by
  unfold State.windApply
  extract_lets ks els moved gone s1 s2 s3 rs gs s4 s5 s6 s7 s8 s9 s10 s11 s12 s13 s14 fresh s15 port s16 s17
  have h1 : s1.start = s.start := each_start _ State.resetSource_start _ _
  have h3 : s3.start = s2.start := by
    refine each_start _ (fun n z => ?_) _ _
    exact State.queueMirror_start _ _
  have h4 : s4.start = s3.start := each_start _ (State.regroup_start rs) _ _
  have h5 : s5.start = s4.start := each_start _ (fun n z => ite_start rfl (State.select_start n z)) _ _
  have h6 : s6.start = s5.start := each_start _ (fun n z => ite_start (State.setSrc_start _ _ _) rfl) _ _
  have h7 : s7.start = s6.start := State.unmigrate_start _ _
  have h8 : s8.start = s7.start := each_start _ (fun n z => ite_start (State.disablePort_start _ _) rfl) _ _
  have h9 : s9.start = s8.start := ite_start (State.ringAnew_start 2 s8) rfl
  have h10 : s10.start = s9.start := State.supplyWound_start _ _
  have h11 : s11.start = s10.start := ite_start s10.ppsWound_start rfl
  have h12 : s12.start = s11.start := ite_start rfl rfl
  have h13 : s13.start = s12.start := ite_start (State.linkSilent_start false s12) rfl
  have h14 : s14.start = s13.start := each_start _ State.mirrorWound_start _ _
  have h15 : s15.start = s14.start := each_start _ (fun c z => (rfl : (z.clientWound _ c).start = z.start)) _ _
  have h16 : s16.start = s15.start := ite_start (State.probe_start _ _) rfl
  have h17 : s17.start = s16.start := ite_start rfl rfl
  calc (each State.senseWound _ s17).start = s17.start := each_start _ State.senseWound_start _ _
    _ = s2.start := by rw [h17, h16, h15, h14, h13, h12, h11, h10, h9, h8, h7, h6, h5, h4, h3]
    _ = s.start := h1

theorem State.windRefused_start (scope status key : Nat) (s : State) : (s.windRefused scope status key).start = s.start := by
  have hdelay (idx : Nat) (z : State) : (z.delayFrom idx).start = z.start := by
    unfold State.delayFrom
    split
    · rfl
    · rfl
    · unfold State.rebootFromHere
      split <;> rfl
    · rfl
  have hdone (z : State) : (z.winDone scope).start = z.start := by
    unfold State.winDone
    dsimp only
    split
    · rfl
    · exact ite_start ((State.raiseVec_still _ _ _ (Still.refl _)).start.trans (hdelay _ _)) (hdelay _ _)
  have hwound (k : Nat) (z : State) : (z.winWound scope k).start = z.start := by
    unfold State.winWound
    dsimp only
    split
    · exact ite_start (hdone _) rfl
    · rfl
  unfold State.windRefused
  rw [hwound, State.dial_start, State.bump_start, State.setO_start, State.setO_start]

theorem State.windCount_start (scope d : Nat) (s : State) : (s.windCount scope d).start = s.start := by
  simp [State.windCount]

theorem State.settingsWind_start (dflt : Bool) (rs : List SetRec) (s : State) : (s.settingsWind dflt rs).start = s.start := by
  unfold State.settingsWind
  dsimp only
  split
  · exact State.windRefused_start _ _ _ s
  · rw [State.windCount_start, State.windApply_start]

theorem State.settingsProgs_start (rs : List SetRec) (s : State) : (s.settingsProgs rs).start = s.start :=
  (loop_start _ (fun _ z => State.setEng_start _ _ z) _ _ _).trans
    (each_start _ (fun (_ : Nat × Nat) z => (rfl : (z.setProg _ _).start = z.start)) _ _)

/-! ## The backup domain under a loss of the lanes -/

theorem State.revokeForward_backup (d : Delivery) (s : State) : (s.revokeForward d).backup = s.backup := by
  have hselect (n : Nat) (z : State) : (z.select n).backup = z.backup := by rw [State.select_eq]
  have hpending (n : Nat) (x : Beat) (l : Bool) (a : Arrival) (z : State) : (z.toPending n x l a).backup = z.backup :=
    (hselect _ _).trans rfl
  have hreturn (i : Nat) (p : Bool) (z : State) : (z.returnBuf i p).backup = z.backup := by
    obtain ⟨x, y, h⟩ := State.returnBuf_eq i p z
    rw [h]
  have hmerge (n : Nat) (old new : Arrival) (z : State) : (z.mergeRepend n old new).2.backup = z.backup := by
    unfold State.mergeRepend
    dsimp only
    split
    · split
      · exact hreturn _ _ _
      · exact hreturn _ _ _
    · rfl
    · rfl
  have hback (n : Nat) (a : Arrival) (z : State) : (z.backToPending n a).backup = z.backup := by
    unfold State.backToPending
    dsimp only
    split
    · exact (hpending _ _ _ _ _).trans (hmerge _ _ _ _)
    · exact hpending _ _ _ _ _
  have hrevoke (b : Option Nat) (z : State) : (z.revokeBuf b .staged).backup = z.backup := by
    cases b <;> rfl
  unfold State.revokeForward
  rw [State.note_backup, hback, hrevoke]
  rfl

theorem ite_backup {c : Prop} [Decidable c] {a b s : State} (ha : a.backup = s.backup) (hb : b.backup = s.backup) :
    (if c then a else b).backup = s.backup := ite_keeps_fn State.backup ha hb

theorem State.lanesDown_backup (mm : Bool) (s : State) : (s.lanesDown mm).backup = s.backup := by
  have hforwards (e : Nat) (z : State) : (z.forwardsDown mm e).backup = z.backup := by
    unfold State.forwardsDown
    dsimp only
    split_ifs
    · rfl
    · simp [State.mismatch]
    · exact each_keep (fun w => w.backup = z.backup) _ (fun d w h => (State.revokeForward_backup d w).trans h) _ z rfl
  have htandem (z : State) : ((z.chrTandem 2 0).dial 24 0).tandemChanged.backup = z.backup := by
    obtain ⟨l, h⟩ := State.raiseLate_eq 14 ((z.chrTandem 2 0).dial 24 0)
    unfold State.tandemChanged
    rw [h]
    simp [State.chrTandem]
  have heach (l : List Nat) (z : State) : (each (State.forwardsDown mm) l z).backup = z.backup :=
    each_keep (fun w => w.backup = z.backup) _ (fun e w h => (hforwards e w).trans h) l z rfl
  unfold State.lanesDown
  extract_lets was tdm down
  have hdown : down.backup = s.backup := rfl
  refine ite_backup rfl (ite_backup ?_ hdown)
  rw [htandem, heach, hdown]

/-! ## The step in progress -/

theorem State.nextStep_mem {u : State} {k : Nat} (h : u.nextStep = k) (hk : k ≠ 13) : k ∈ u.start.steps := by
  unfold State.nextStep at h
  cases hfind : u.start.steps.find? (fun j => u.start.step < j) with
  | none => rw [hfind] at h; exact absurd h.symm hk
  | some j =>
    rw [hfind] at h
    obtain rfl : j = k := h
    exact List.mem_of_find?_eq_some hfind

/-- None of steps 1, 5 and 6 stands before step 9. -/
theorem Start.next_not_boot {x : Start} {k : Nat} (hk : k ∈ x.steps) (h : k = 1 ∨ k = 5 ∨ k = 6) :
    (x.steps.find? (fun j => k < j)).getD 13 ≠ 9 := by
  unfold Start.steps at hk ⊢
  revert hk
  generalize x.level = l, x.optionsDone = done
  rcases h with rfl | rfl | rfl <;> cases l <;> cases done <;> decide

theorem State.mayStep_next {u : State} {k : Nat} (h : u.mayStep k = true) : u.nextStep = k ∧ u.start.failedAt = none := by
  unfold State.mayStep at h
  simp only [Bool.and_eq_true, beq_iff_eq, Option.isNone_iff_eq_none] at h
  exact ⟨h.1.1.1, h.1.1.2⟩

/-- The record of a step. -/
def State.stepped (k : Nat) (u : State) : State :=
  ({ u with start := { u.start with step := k } } : State).bk (fun x => { x with lastStep := k })

theorem State.stepDone_eq {u : State} {k : Nat} (h : ¬ (k < 9 ∧ (u.stepped k).nextStep = 9)) : u.stepDone k = u.stepped k := by
  refine if_neg (fun hgo => h ?_)
  have hgo' : (Decidable.decide (k < 9) && (u.stepped k).nextStep == 9) = true := hgo
  simpa using hgo'

theorem State.stepped_start (k : Nat) (u : State) : (u.stepped k).start = { u.start with step := k } := by
  unfold State.stepped
  rw [State.bk_eq]

/-- The end of step 1, 5 or 6. -/
theorem State.stepDone_start {u : State} {k : Nat} (hk : k ∈ u.start.steps) (h : k = 1 ∨ k = 5 ∨ k = 6) :
    (u.stepDone k).start = { u.start with step := k } := by
  rw [State.stepDone_eq, State.stepped_start]
  rintro ⟨-, hnext⟩
  unfold State.nextStep at hnext
  rw [State.stepped_start] at hnext
  exact Start.next_not_boot (x := u.start) hk h hnext

end Sys2Proof.Machine
end

section
/-! The steps of a start one by one, and its failures. -/

namespace Sys2Proof.Machine

open Sys2Proof

/-! ## Step 2 -/

/-- What step 2 leaves: the straps, the mode of the counter, the crown's latches, the bound and the bring-up strap. -/
def State.lockView (s : State) : BitVec 5 × ClockMode × BitVec 16 × Option Nat × Bool :=
  (s.straps, s.time.mode, s.backup.latch, s.start.boundFrom, s.start.bringup)

theorem State.lockView_bk {g : Backup → Backup} (hg : ∀ k, (g k).latch = k.latch) (s : State) : (s.bk g).lockView = s.lockView := by
  rw [State.bk_eq]
  unfold State.lockView
  dsimp only
  split
  · rw [hg]
  · rfl

theorem lockView_step : StepInvariant State.lockView where
  bk _ z := State.lockView_bk (by intro k; rfl) z
  st _ _ := rfl
  fw _ _ _ := rfl
  fn _ _ _ := rfl

theorem State.lockView_becomeCold {s : State} (h : s.time.mode = .perBeat) : s.becomeCold.lockView = s.lockView := by
  have hbk := State.lockView_bk (g := fun k => { k with
    history := ((s.backup.history.getD 0 0 &&& 0xFFFFF8FF) ||| 0xA00) :: k.history.drop 1 }) (fun _ => rfl) s
  unfold State.lockView at hbk ⊢
  simp only [Prod.mk.injEq] at hbk ⊢
  obtain ⟨hstraps, -, hlatch, hbound, hbringup⟩ := hbk
  exact ⟨hstraps, h.symm, hlatch, hbound, hbringup⟩

theorem State.lockView_trims (s : State) : s.trims.lockView = s.lockView :=
  (State.lockView_bk (by intro k; rfl) _).trans (lockView_step.stepDone 4 _)

theorem Time.locked_mode (t : Time) : t.locked.mode = .perBeat := by
  unfold Time.locked
  split <;> rfl

/-- The state with the straps sampled and the counter locked. -/
def State.pllSampled (straps : BitVec 5) (s : State) : State :=
  let s := ({ s with straps := straps, time := s.time.locked } : State).bk (fun k => { k with latch := k.latch &&& 0xFFF7 })
  { s with start := { s.start with boundFrom := some s.now, bringup := field straps.toNat 2 2 == 3 } }

theorem State.pllSampled_mode (straps : BitVec 5) (s : State) : (s.pllSampled straps).time.mode = .perBeat := by
  unfold State.pllSampled
  rw [State.bk_eq]
  exact Time.locked_mode _

theorem State.pllSampled_leaves (straps : BitVec 5) (s : State) : (s.pllSampled straps).straps = straps
    ∧ (s.pllSampled straps).start.boundFrom = some s.now
    ∧ (s.pllSampled straps).start.bringup = (field straps.toNat 2 2 == 3) := by
  unfold State.pllSampled
  rw [State.bk_eq]
  exact ⟨rfl, rfl, rfl⟩

/-- The rest of step 2: a changed strap, STRAPS_COLD, and the attempt of step 3 or step 4. -/
def State.lockEnd (straps : BitVec 5) (s : State) : State :=
  let s := if s.start.level = .l2w then (if s.backup.strapsCold = straps then s else s.becomeCold) else s
  let s := if s.start.level = .l2w then s else s.bk (fun k => { k with strapsCold := straps })
  let s := s.stepDone 2
  if s.nextStep = 3 then s.bk (fun k => { k with optAttempts := min 255 (k.optAttempts + 1) }) else s.trims

theorem State.lockEnd_view (straps : BitVec 5) {s : State} (hmode : s.time.mode = .perBeat) :
    (s.lockEnd straps).lockView = s.lockView := by
  unfold State.lockEnd
  extract_lets cold known done
  have hcold : cold.lockView = s.lockView :=
    ite_keeps_fn State.lockView (ite_keeps_fn State.lockView rfl (State.lockView_becomeCold hmode)) rfl
  have hknown : known.lockView = cold.lockView := ite_keeps_fn State.lockView rfl (State.lockView_bk (by intro k; rfl) cold)
  have hdone : done.lockView = s.lockView := (lockView_step.stepDone 2 known).trans (hknown.trans hcold)
  exact (ite_keeps_fn State.lockView (State.lockView_bk (by intro k; rfl) done) (State.lockView_trims done)).trans hdone

theorem State.pllLock_eq {u : State} (straps : BitVec 5) (hstep : u.mayStep 2 = true)
    (hwake : ¬ (u.quiet.code = 3 ∧ u.time.mode = .quiet)) : u.pllLock straps = (u.pllSampled straps).lockEnd straps := by
  unfold State.pllLock
  rw [if_neg hwake, if_pos hstep]
  rfl

/-- L2_REQUEST is cleared where the backup domain has power. -/
theorem State.pllSampled_latch (straps : BitVec 5) (s : State) :
    (s.pllSampled straps).backup.latch.getLsbD 3 = (!s.backup.present && s.backup.latch.getLsbD 3) := by
  unfold State.pllSampled
  rw [State.bk_eq]
  dsimp only
  cases s.backup.present
  · simp
  · simp

/-! ## Step 3 -/

/-- What step 3 leaves: the supply monitor, OPTIONS_DONE and the shadow registers. -/
def State.optionView (s : State) : Supply × Bool × BitVec 256 := (s.supply, s.start.optionsDone, s.shadow)

theorem State.optionView_bk (g : Backup → Backup) (s : State) : (s.bk g).optionView = s.optionView := by
  rw [State.bk_eq]
  rfl

theorem optionView_step : StepInvariant State.optionView where
  bk _ z := State.optionView_bk _ z
  st _ _ := rfl
  fw _ _ _ := rfl
  fn _ _ _ := rfl

theorem State.trims_optionView (s : State) :
    s.trims.optionView = ({ s.supply with running := true }, s.start.optionsDone, s.shadow) :=
  (State.optionView_bk _ _).trans (optionView_step.stepDone 4 _)

/-- The options that Table 12-9 resolves, as source and status bits, in their objects and the shadow registers. -/
def State.optionsTaken (src bits : Nat) (s : State) : State :=
  let st := src + bits + 32 * b2n (copyValid s.fuseA) + 64 * b2n (copyValid s.fuseB)
  let s := { s with shadow := if src = 1 then s.fuseA.setWidth 256 else if src = 2 then s.fuseB.setWidth 256 else safeOptions }
  let s := (s.setO 0x1100 0 st).setO 0x1102 0 (field s.fuseA.toNat 0 8) |>.setO 0x1102 1 (field s.fuseB.toNat 0 8)
  let s := s.bk (fun k => { k with optAttempts := 0, optStatusLast := BitVec.ofNat 32 st })
  if bits % 32 = 8 ∨ bits % 32 = 16 then s.dial 20 0 else s

theorem State.optionLoad_eq {u : State} (hstep : u.mayStep 3 = true) :
    let s := u.optionsTaken (resolveCopies u.fuseA u.fuseB).1 (resolveCopies u.fuseA u.fuseB).2
    u.optionLoad = (({ s with start := { s.start with optionsDone := true } } : State).stepDone 3).trims := by
  unfold State.optionLoad
  rw [if_pos hstep]
  rfl

/-- The shadow registers of the source that Table 12-9 resolves. -/
def shadowOf (a b : BitVec 272) : BitVec 256 :=
  match (resolveCopies a b).1 with
  | 1 => a.setWidth 256
  | 2 => b.setWidth 256
  | _ => safeOptions

theorem State.bk_same (g : Backup → Backup) (s : State) : (s.bk g).supply = s.supply ∧ (s.bk g).shadow = s.shadow := by
  rw [State.bk_eq]
  exact ⟨rfl, rfl⟩

theorem State.optionsTaken_leaves (src bits : Nat) (s : State) :
    (s.optionsTaken src bits).supply = s.supply
      ∧ (s.optionsTaken src bits).shadow
        = if src = 1 then s.fuseA.setWidth 256 else if src = 2 then s.fuseB.setWidth 256 else safeOptions := by
  unfold State.optionsTaken
  extract_lets st s1 s2 s3
  obtain ⟨hsupply, hshadow⟩ : s3.supply = s2.supply ∧ s3.shadow = s2.shadow := State.bk_same _ s2
  have hs2 : s2.supply = s.supply := by simp only [s2, State.setO_supply, s1]
  have hs2' : s2.shadow = if src = 1 then s.fuseA.setWidth 256 else if src = 2 then s.fuseB.setWidth 256 else safeOptions := by
    simp only [s2, State.setO_shadow, s1]
  clear_value s3 s2
  rw [← hs2, ← hs2', ← hsupply, ← hshadow]
  exact ⟨ite_keeps_fn State.supply (State.dial_supply 20 0 s3) rfl, ite_keeps_fn State.shadow (State.dial_shadow 20 0 s3) rfl⟩

theorem State.optionLoad_view {u : State} (hstep : u.mayStep 3 = true) :
    u.optionLoad.supply.running = true ∧ u.optionLoad.start.optionsDone = true ∧ u.optionLoad.shadow = shadowOf u.fuseA u.fuseB := by
  obtain ⟨hsupply, hshadow⟩ := State.optionsTaken_leaves (resolveCopies u.fuseA u.fuseB).1 (resolveCopies u.fuseA u.fuseB).2 u
  have heq := State.optionLoad_eq hstep
  dsimp only at heq
  generalize u.optionsTaken _ _ = w at hsupply hshadow heq
  have hview := State.trims_optionView (({ w with start := { w.start with optionsDone := true } } : State).stepDone 3)
  have hdone := optionView_step.stepDone 3 ({ w with start := { w.start with optionsDone := true } } : State)
  rw [← heq] at hview
  have hsrc : w.shadow = shadowOf u.fuseA u.fuseB := by
    rw [hshadow]
    unfold shadowOf
    generalize (resolveCopies u.fuseA u.fuseB).1 = src
    match src with
    | 0 => rfl
    | 1 => rfl
    | 2 => rfl
    | n + 3 => rfl
  have hview' : u.optionLoad.optionView = ({ w.supply with running := true }, true, w.shadow) := by
    rw [hview]
    unfold State.optionView at hdone
    simp only [Prod.mk.injEq] at hdone ⊢
    obtain ⟨h1, h2, h3⟩ := hdone
    exact ⟨by rw [h1], h2, h3⟩
  unfold State.optionView at hview'
  simp only [Prod.mk.injEq] at hview'
  obtain ⟨h1, h2, h3⟩ := hview'
  exact ⟨by rw [h1], h2, h3.trans hsrc⟩

/-! ## Step 6 -/

/-- What step 6 finds of the DDR4, and the ring's first number. -/
def State.dramView (s : State) : Bool × Nat × Dw := (s.chr.trained, s.chr.dramMib, s.chr.nextSeq)

theorem dramView_step : StepInvariant State.dramView where
  bk _ z := by rw [State.bk_eq]; rfl
  st _ _ := rfl
  fw _ _ _ := rfl
  fn _ _ _ := rfl

theorem dramView_fault : FaultInvariant State.dramView where
  so _ _ := rfl
  bu _ _ := rfl
  fst _ _ _ _ _ := rfl
  qu _ _ := rfl
  put k a b z := by
    obtain ⟨h1, h2, h3⟩ := State.chrPut_chr_same k a b z
    unfold State.dramView
    rw [h1, h2, h3]
  dl k z := by unfold State.dramView; rw [State.dial_chr]
  lt _ _ := rfl

theorem start_fault : FaultInvariant State.start where
  so _ _ := rfl
  bu _ _ := rfl
  fst _ _ _ _ _ := rfl
  qu _ _ := rfl
  put k a b z := State.chrPut_start k a b z
  dl k z := State.dial_start k 0 z
  lt _ _ := rfl

theorem State.ringAnew_dramView (s : State) : (s.ringAnew 0).dramView = (s.chr.trained, s.chr.dramMib, 0) := by
  unfold State.ringAnew
  split
  · rfl
  · dsimp only
    unfold State.dramView
    rw [State.dial_chr]
    rfl

theorem State.ddrTraining_leaves {u : State} (mib : Nat) (hstep : u.mayStep 6 = true) :
    (u.ddrTraining mib).dramView = (true, if mib = 1 then 0 else mib, 0) ∧ (u.ddrTraining mib).start = { u.start with step := 6 } := by
  have hmem := State.nextStep_mem (State.mayStep_next hstep).1 (by decide)
  unfold State.ddrTraining
  rw [if_pos hstep]
  extract_lets chr found judged
  have hjudged : judged.dramView = found.dramView ∧ judged.start = found.start := by
    have hdial (z : State) : (z.dial 16 0).dramView = z.dramView := dramView_fault.dl 16 z
    refine ⟨ite_keeps_fn State.dramView (dramView_fault.fault _ _ _) (ite_keeps_fn State.dramView rfl (hdial found)), ?_⟩
    exact ite_start (start_fault.fault _ _ _) (ite_start rfl (State.dial_start 16 0 found))
  obtain ⟨hview, hstart⟩ := hjudged
  have hring : (judged.ringAnew 0).start = u.start := (State.ringAnew_start 0 judged).trans hstart
  have htrained : (judged.chr.trained, judged.chr.dramMib) = (found.chr.trained, found.chr.dramMib) :=
    congrArg (fun v : Bool × Nat × Dw => (v.1, v.2.1)) hview
  constructor
  · rw [dramView_step.stepDone, State.ringAnew_dramView]
    simp only [Prod.mk.injEq] at htrained ⊢
    exact ⟨htrained.1, htrained.2, trivial⟩
  · rw [State.stepDone_start (by rw [hring]; exact hmem) (by decide), hring]

/-! ## Steps 7, 9, 10 and 12 -/

/-- The tables that step 7 clears. -/
def State.tableView (s : State) : SMap Source × List Delivery × SMap Target × SMap Buf × Nat := (s.src, s.dlv, s.tgt, s.buf, s.poolNext)

theorem tableView_step : StepInvariant State.tableView where
  bk _ z := by rw [State.bk_eq]; rfl
  st _ _ := rfl
  fw _ _ _ := rfl
  fn _ _ _ := rfl

theorem State.tableInit_view {u : State} (hstep : u.mayStep 7 = true) : u.tableInit.tableView = ([], [], [], [], 0) := by
  unfold State.tableInit
  rw [if_pos hstep, tableView_step.stepDone]
  rfl

theorem State.stepDone_late {k : Nat} (hk : ¬ k < 9) (u : State) : u.stepDone k = u.stepped k :=
  State.stepDone_eq (fun h => hk h.1)

theorem State.stepped_eq (k : Nat) (u : State) : ∃ b, u.stepped k = { u with start := { u.start with step := k }, backup := b } := by
  unfold State.stepped
  rw [State.bk_eq]
  exact ⟨_, rfl⟩

theorem State.bk_start (g : Backup → Backup) (s : State) : (s.bk g).start = s.start := by rw [State.bk_eq]

theorem State.stepped_present (k : Nat) (u : State) : (u.stepped k).backup.present = u.backup.present := by
  unfold State.stepped
  rw [State.bk_eq]
  dsimp only
  split <;> rfl

/-- Step 10 begins to sense. -/
def State.sensesAt (u t : State) : Prop :=
  t.sensing = true ∧ t.start.step = 11 ∧ t.time.watched = true
    ∧ (u.bare = true → t.start.stateCode = if u.start.bringup then 3 else 2)

theorem State.startRecord_same (s : State) :
    s.startRecord.start = s.start ∧ s.startRecord.sensing = s.sensing ∧ s.startRecord.time = s.time ∧ s.startRecord.backup = s.backup
      ∧ s.startRecord.fw = s.fw := by
  unfold State.startRecord
  simp

theorem State.settingsLoad_core {u : State} (hstep : u.mayStep 10 = true) (hlevel : u.start.level = .l3) (hbare : u.bare = false) :
    u.settingsLoad = u.stepDone 10 := by
  have hbare' : (u.stepDone 10).bare = false := by
    rw [State.stepDone_late (by decide)]
    unfold State.bare
    rw [State.stepped_start]
    exact hbare
  unfold State.settingsLoad
  rw [if_pos hstep, if_pos hlevel]
  exact if_neg (fun h => absurd (h.symm.trans hbare') (by decide))

/-- Steps 10 and 11 of a start of minimal mode or bring-up end it. -/
def State.bareEnd (s : State) : State :=
  let s := if s.start.bringup then s.dial 19 0 else s
  ({ s with start := { s.start with stateCode := if s.start.bringup then 3 else 2 } } : State).startRecord.crownRequest

theorem State.bareEnd_leaves (s : State) : s.bareEnd.sensing = s.sensing ∧ s.bareEnd.time = s.time
    ∧ s.bareEnd.start = { s.start with stateCode := if s.start.bringup then 3 else 2 } := by
  have hdial : ∃ func, (if s.start.bringup then s.dial 19 0 else s) = { s with func := func } := by
    split
    · exact ⟨_, State.dial_eq 19 0 s⟩
    · exact ⟨s.func, rfl⟩
  obtain ⟨func, hdial⟩ := hdial
  unfold State.bareEnd
  dsimp only
  rw [hdial]
  obtain ⟨r, hcrown⟩ := State.crownRequest_eq (State.startRecord { s with
    func := func, start := { s.start with stateCode := if s.start.bringup then 3 else 2 } })
  obtain ⟨hstart, hsensing, htime, -, -⟩ := State.startRecord_same { s with
    func := func, start := { s.start with stateCode := if s.start.bringup then 3 else 2 } }
  rw [hcrown]
  exact ⟨hsensing, htime, hstart⟩

theorem State.settingsLoad_senses {u : State} (hstep : u.mayStep 10 = true) (hlevel : u.start.level ≠ .l3) :
    u.sensesAt u.settingsLoad := by
  unfold State.settingsLoad
  rw [if_pos hstep, if_neg hlevel]
  extract_lets cold dflt latched fw slotted rs wound senses at10 at11 told start
  have hslotted : slotted.start = u.start := ite_start (State.bk_start _ u) rfl
  have hwound : wound.start = u.start := (ite_start (State.settingsWind_start dflt rs slotted) rfl).trans hslotted
  have hsenses : senses.start = u.start := (State.settingsProgs_start rs wound).trans hwound
  have hon : senses.sensing = true ∧ senses.time.watched = true := ⟨rfl, rfl⟩
  have hat11 : ∃ b, at11 = { senses with start := { u.start with step := 11 }, backup := b } := by
    obtain ⟨b10, h10⟩ := State.stepped_eq 10 senses
    obtain ⟨b11, h11⟩ := State.stepped_eq 11 at10
    have hat10 : at10 = { senses with start := { u.start with step := 10 }, backup := b10 } := by
      rw [← hsenses, ← h10]
      exact State.stepDone_late (by decide) senses
    refine ⟨b11, (State.stepDone_late (by decide) at10).trans ?_⟩
    rw [h11, hat10]
  change u.sensesAt (if at11.bare = true then at11.bareEnd else at11.portStart.newSession)
  clear start told
  clear_value senses at11
  obtain ⟨b, rfl⟩ := hat11
  obtain ⟨hsensing, hwatched⟩ := hon
  split
  · obtain ⟨h1, h2, h3⟩ := State.bareEnd_leaves { senses with start := { u.start with step := 11 }, backup := b }
    unfold State.sensesAt
    rw [h1, h2, h3]
    exact ⟨hsensing, rfl, hwatched, fun _ => rfl⟩
  next hbare => exact ⟨hsensing, rfl, hwatched, fun h => absurd h hbare⟩

/-- Migration leaves the start's record and the backup domain. -/
theorem State.migrate_same (s : State) : s.migrate.start = s.start ∧ s.migrate.backup = s.backup := by
  have hfailed (z : State) : z.saveFailed.start = z.start ∧ z.saveFailed.backup = z.backup := by
    unfold State.saveFailed
    simp
  have hstep (z : State) (k gen : Nat) : (if z.topGen = 0xFFFFFFFF then z.saveFailed
      else { z.flashErase (slotBase k) 0x100000 with fw := { z.fw with save := 4, saveSlot := k, saveGen := gen } }).start = z.start
      ∧ (if z.topGen = 0xFFFFFFFF then z.saveFailed
      else { z.flashErase (slotBase k) 0x100000 with fw := { z.fw with save := 4, saveSlot := k, saveGen := gen } }).backup
        = z.backup :=
    ⟨ite_start (hfailed z).1 rfl, ite_backup (hfailed z).2 rfl⟩
  unfold State.migrate
  split
  · exact ⟨rfl, rfl⟩
  · dsimp only
    split
    · exact ⟨rfl, rfl⟩
    · split
      · exact ⟨rfl, rfl⟩
      · exact hstep _ _ _

theorem State.ready_bare {u : State} (hbare : u.bare = true) : u.ready = u :=
  if_neg (by simp [hbare])

/-- The last events of step 12. -/
def State.readyEnd (s : State) : State :=
  let s := (s.dial 29 0).startRecord.crownRequest
  if s.fw.fwState = 0 then ({ s with fw := { s.fw with migrateDue := true } } : State).migrate else s

theorem State.readyEnd_same (s : State) : s.readyEnd.start = s.start ∧ s.readyEnd.backup = s.backup := by
  have hevents : ∃ r, (s.dial 29 0).startRecord.crownRequest = { (s.dial 29 0).startRecord with resetReq := r } :=
    State.crownRequest_eq _
  obtain ⟨r, hevents⟩ := hevents
  obtain ⟨hstart, -, -, hbackup, -⟩ := State.startRecord_same (s.dial 29 0)
  rw [State.dial_start] at hstart
  rw [State.dial_backup] at hbackup
  unfold State.readyEnd
  dsimp only
  rw [hevents]
  generalize (s.dial 29 0).startRecord = w at hstart hbackup
  have hmigrate := State.migrate_same { w with resetReq := r, fw := { w.fw with migrateDue := true } }
  exact ⟨ite_start (hmigrate.1.trans hstart) hstart, ite_backup (hmigrate.2.trans hbackup) hbackup⟩

theorem State.ready_leaves {u : State} (hstep : u.mayStep 12 = true) (hbare : u.bare = false) :
    u.ready.start.step = 12 ∧ u.ready.start.stateCode = 1
      ∧ (u.backup.present = true → u.ready.backup.warmFails = 0 ∧ u.ready.backup.coldFails = 0
        ∧ u.ready.backup.minimalEntered = false) := by
  unfold State.ready
  rw [if_pos (by simp [hstep, hbare])]
  extract_lets done counted src code started
  obtain ⟨b, hdone⟩ := State.stepped_eq 12 u
  have hcode : code.start = { u.start with step := 12, stateCode := 1 } := by
    have hcounted : counted.start = { u.start with step := 12 } :=
      (State.bk_start _ done).trans ((congrArg State.start (State.stepDone_late (by decide) u)).trans (State.stepped_start 12 u))
    show { counted.start with stateCode := 1 } = _
    rw [hcounted]
  have hbackup : u.backup.present = true →
      code.backup.warmFails = 0 ∧ code.backup.coldFails = 0 ∧ code.backup.minimalEntered = false := by
    intro hpresent
    have hpresent' : done.backup.present = true := by
      rw [show done = u.stepped 12 from State.stepDone_late (by decide) u, State.stepped_present, hpresent]
    show counted.backup.warmFails = 0 ∧ counted.backup.coldFails = 0 ∧ counted.backup.minimalEntered = false
    rw [show counted = _ from State.bk_present _ done hpresent']
    exact ⟨rfl, rfl, rfl⟩
  have hauto (n : Nat) (z : State) : (z.autorun n).start = z.start ∧ (z.autorun n).backup = z.backup := by
    have hengine : (z.engStart n).start = z.start ∧ (z.engStart n).backup = z.backup :=
      ⟨ite_start rfl (State.setEng_start _ _ z), ite_backup rfl (State.setEng_backup _ _ z)⟩
    exact ⟨ite_start hengine.1 rfl, ite_backup hengine.2 rfl⟩
  have hstarted : started.start = code.start ∧ started.backup = code.backup := by
    have hloop := loop_keep (fun z : State => z.start = code.start ∧ z.backup = code.backup) State.autorun
      (fun n z h => ⟨(hauto n z).1.trans h.1, (hauto n z).2.trans h.2⟩) 8 0 code ⟨rfl, rfl⟩
    exact ⟨ite_start rfl hloop.1, ite_backup rfl hloop.2⟩
  obtain ⟨hstart, hback⟩ := State.readyEnd_same started
  change started.readyEnd.start.step = 12 ∧ started.readyEnd.start.stateCode = 1 ∧ (_ → started.readyEnd.backup.warmFails = 0
    ∧ started.readyEnd.backup.coldFails = 0 ∧ started.readyEnd.backup.minimalEntered = false)
  rw [hstart, hback, hstarted.1, hstarted.2, hcode]
  exact ⟨rfl, rfl, hbackup⟩

/-! ## A start that fails (R301, R302) -/

/-- The latches that a step 9 in progress has sampled are cleared. -/
def State.latched (s : State) : State :=
  { s with backup := if s.backup.present then { s.backup with latch := s.backup.latch &&& 0xFFFC } else s.backup }

theorem State.bankTaken_eq (s : State) : s.bankTaken = s.latched := State.bk_eq _ s

/-- The failure noted, with the reset that follows. -/
def State.failsTo (lvl : Level) (esc : Bool) (s : State) : State :=
  { s with start := { s.start with failedAt := some s.now, failNext := (lvl, esc) } }

/-- The counts of failed starts. -/
def State.failCounts (n m : Nat) (s : State) : State := { s with backup := { s.backup with warmFails := n, coldFails := m } }

/-- The state whose start fails, as the crown's latches were sampled. -/
def State.atFailure (z : State) : State := if z.nextStep = 9 then z.latched else z

theorem State.atFailure_eq (z : State) : ∃ l, z.atFailure = { z with backup := { z.backup with latch := l } } := by
  unfold State.atFailure State.latched
  split
  · split
    · exact ⟨_, rfl⟩
    · exact ⟨z.backup.latch, rfl⟩
  · exact ⟨z.backup.latch, rfl⟩

theorem State.startFails_unfold (z : State) : z.startFails
    = if z.start.level = .l2w ∨ z.start.level = .l3 then
        if 3 ≤ z.backup.warmFails + 1 then (z.atFailure.bk (fun k => { k with warmFails := 0 })).failsTo .l2c true
        else (z.atFailure.bk (fun k => { k with warmFails := k.warmFails + 1 })).failsTo .l2w false
      else if 3 ≤ z.backup.coldFails + 1 then
        if z.bankIsTrial then ((z.atFailure.bk (fun k => { k with coldFails := 0 })).rollBack 4).failsTo .l2c false
        else (z.atFailure.bk (fun k => { k with coldFails := 0 })).enterMinimal
      else (z.atFailure.bk (fun k => { k with coldFails := k.coldFails + 1 })).failsTo .l2c false := by
  have htaken : (if z.nextStep = 9 then z.bankTaken else z) = z.atFailure := by
    unfold State.atFailure
    rw [State.bankTaken_eq]
  have hsame : z.atFailure.start = z.start ∧ z.atFailure.backup.warmFails = z.backup.warmFails
      ∧ z.atFailure.backup.coldFails = z.backup.coldFails := by
    obtain ⟨l, h⟩ := z.atFailure_eq
    rw [h]
    exact ⟨rfl, rfl, rfl⟩
  obtain ⟨hstart, hwarm, hcold⟩ := hsame
  rw [← hstart, ← hwarm, ← hcold]
  unfold State.startFails
  rw [htaken]
  rfl

/-- What minimal mode shows. -/
def State.minimalView (s : State) : Bool × Option Nat × Bool × Nat :=
  (s.start.minimal, s.start.failedAt, s.backup.minimalEntered, s.backup.coldFails)

theorem minimalView_step : StepInvariant State.minimalView where
  bk j z := by
    rw [State.bk_eq]
    unfold State.minimalView
    dsimp only
    split <;> rfl
  st _ _ := rfl
  fw _ _ _ := rfl
  fn _ _ _ := rfl

/-- The device enters minimal mode (R303). -/
theorem State.enterMinimal_leaves {z : State} (hpresent : z.backup.present = true) :
    z.enterMinimal.start.minimal = true ∧ z.enterMinimal.start.failedAt = none ∧ z.enterMinimal.backup.minimalEntered = true
      ∧ z.enterMinimal.backup.coldFails = z.backup.coldFails := by
  unfold State.enterMinimal
  extract_lets down port start entered told stopped at9
  have hpresent' : down.backup = z.backup := State.lanesDown_backup false z
  have hentered : entered.minimalView = (true, none, true, z.backup.coldFails) := by
    have heq : entered = _ := State.bk_present _ _ ((congrArg Backup.present hpresent').trans hpresent)
    rw [heq, ← hpresent']
    rfl
  have htold : told.minimalView = entered.minimalView := by
    unfold State.minimalView
    rw [State.dial_start, State.dial_backup]
  have hend : (if told.nextStep = 5 then told.stepDone 5 else if 9 ≤ told.nextStep then
      ({ told.regGo 3 with start := { (told.regGo 3).start with step := 9 } } : State) else told).minimalView = told.minimalView := by
    have hregulator : (told.regGo 3).minimalView = told.minimalView :=
      State.regGo_keeps_fn State.minimalView 3 told minimalView_step.fw minimalView_step.fn
    exact ite_keeps_fn State.minimalView (minimalView_step.stepDone 5 told)
      (ite_keeps_fn State.minimalView ((minimalView_step.st _ 9).trans hregulator) rfl)
  have hview := hend.trans (htold.trans hentered)
  unfold State.minimalView at hview
  simp only [Prod.mk.injEq] at hview
  exact hview

theorem State.atFailure_counts (z : State) : z.atFailure.backup.present = z.backup.present
    ∧ z.atFailure.backup.warmFails = z.backup.warmFails ∧ z.atFailure.backup.coldFails = z.backup.coldFails := by
  obtain ⟨l, h⟩ := z.atFailure_eq
  rw [h]
  exact ⟨rfl, rfl, rfl⟩

section
variable {z : State} (hpresent : z.backup.present = true)
include hpresent

theorem State.atFailure_warm (n : Nat) :
    z.atFailure.bk (fun k => { k with warmFails := n }) = z.atFailure.failCounts n z.backup.coldFails := by
  obtain ⟨hp, -, hcold⟩ := State.atFailure_counts z
  rw [State.bk_present _ _ (hp.trans hpresent), ← hcold]
  rfl

theorem State.atFailure_cold (m : Nat) :
    z.atFailure.bk (fun k => { k with coldFails := m }) = z.atFailure.failCounts z.backup.warmFails m := by
  obtain ⟨hp, hwarm, -⟩ := State.atFailure_counts z
  rw [State.bk_present _ _ (hp.trans hpresent), ← hwarm]
  rfl

theorem State.startFails_warm (hwarm : z.start.level = .l2w ∨ z.start.level = .l3) :
    z.startFails = if 2 ≤ z.backup.warmFails then (z.atFailure.failCounts 0 z.backup.coldFails).failsTo .l2c true
      else (z.atFailure.failCounts (z.backup.warmFails + 1) z.backup.coldFails).failsTo .l2w false := by
  have hcount : z.atFailure.bk (fun k => { k with warmFails := k.warmFails + 1 })
      = z.atFailure.failCounts (z.backup.warmFails + 1) z.backup.coldFails := by
    rw [← State.atFailure_warm hpresent, State.bk_eq, State.bk_eq, (State.atFailure_counts z).2.1]
  rw [State.startFails_unfold, if_pos hwarm, State.atFailure_warm hpresent, hcount]
  simp only [Nat.succ_le_succ_iff]

theorem State.startFails_cold (hwarm : ¬ (z.start.level = .l2w ∨ z.start.level = .l3)) (hcount : z.backup.coldFails < 2) :
    z.startFails = (z.atFailure.failCounts z.backup.warmFails (z.backup.coldFails + 1)).failsTo .l2c false := by
  have hnext : z.atFailure.bk (fun k => { k with coldFails := k.coldFails + 1 })
      = z.atFailure.failCounts z.backup.warmFails (z.backup.coldFails + 1) := by
    rw [← State.atFailure_cold hpresent, State.bk_eq, State.bk_eq, (State.atFailure_counts z).2.2]
  have hfew : ¬ 3 ≤ z.backup.coldFails + 1 := by omega
  rw [State.startFails_unfold, if_neg hwarm, if_neg hfew, hnext]

theorem State.startFails_trial (hwarm : ¬ (z.start.level = .l2w ∨ z.start.level = .l3)) (hcount : 2 ≤ z.backup.coldFails)
    (htrial : z.bankIsTrial = true) :
    z.startFails = ((z.atFailure.failCounts z.backup.warmFails 0).rollBack 4).failsTo .l2c false := by
  have hmany : 3 ≤ z.backup.coldFails + 1 := by omega
  rw [State.startFails_unfold, if_neg hwarm, if_pos hmany, if_pos htrial, State.atFailure_cold hpresent]

theorem State.startFails_minimal (hwarm : ¬ (z.start.level = .l2w ∨ z.start.level = .l3)) (hcount : 2 ≤ z.backup.coldFails)
    (htrial : z.bankIsTrial = false) :
    z.startFails = (z.atFailure.failCounts z.backup.warmFails 0).enterMinimal := by
  have hmany : 3 ≤ z.backup.coldFails + 1 := by omega
  rw [State.startFails_unfold, if_neg hwarm, if_pos hmany, if_neg (by simp [htrial]), State.atFailure_cold hpresent]

end

/-! ## The boot of step 9 and the commands of a failure -/

theorem State.regBoot_idle {u : State} (hstep : u.mayStep 9 = false) (hreg : u.fw.regState ≠ 2) (flash : Bool) : u.regBoot flash = u := by
  unfold State.regBoot
  rw [if_neg (by simp [hstep]), if_neg (by simp [hreg])]

theorem State.regBoot_noFlash {u : State} (hstep : u.mayStep 9 = true) : u.regBoot false = u.startFails := if_pos hstep

section
variable {u w : State} (hstep : u.mayStep 9 = true)
include hstep

theorem State.regBoot_noImage (h : u.boot true = (.noImage, w)) : u.regBoot true = w.startFails := by
  have hboot : u.bootFrom true true = (.noImage, w) := h
  unfold State.regBoot
  rw [if_pos hstep, hboot]

theorem State.regBoot_running (h : u.boot true = (.running, w)) : u.regBoot true = w.latched.stepDone 9 := by
  have hboot : u.bootFrom true true = (.running, w) := h
  unfold State.regBoot
  rw [if_pos hstep, hboot, ← State.bankTaken_eq]

theorem State.regBoot_again (h : u.boot true = (.again, w)) :
    u.regBoot true = { w.latched with fw := { w.fw with bootFrom := w.now } } := by
  have hboot : u.bootFrom true true = (.again, w) := h
  unfold State.regBoot
  rw [if_pos hstep, hboot, ← State.bankTaken_eq]

end

theorem State.startTimeout_bound {u : State} {f : Nat} (hbound : u.start.boundFrom = some f) (hstep : u.start.step < 12)
    (hbare : u.bare = false) (hfailed : u.start.failedAt = none) :
    u.startTimeout = if f + 1600000000 ≤ u.now then u.startFails else u := by
  unfold State.startTimeout
  rw [hbound]
  simp [hstep, hbare, hfailed]

theorem State.failedReset_idle {u : State} (h : u.start.failedAt = none ∨ u.resetReq.isSome = true) : u.failedReset = u := by
  unfold State.failedReset
  rcases h with h | h
  · rw [h]
  · split
    · rfl
    · exact if_pos (by simp [h])

theorem State.failedReset_early {u : State} {f : Nat} (h : u.start.failedAt = some f) (hnow : u.now < f + 8000000) :
    u.failedReset = u := by
  unfold State.failedReset
  rw [h]
  exact if_pos (by simp [hnow])

theorem State.failedReset_asks {u : State} {f : Nat} (h : u.start.failedAt = some f) (hnow : f + 8000000 ≤ u.now)
    (hreq : u.resetReq = none) : u.failedReset = { u with
      resetReq := some ⟨u.start.failNext.1, 0x0B, u.start.failNext.2, u.now + 16, false⟩ } := by
  unfold State.failedReset
  rw [h]
  refine if_neg ?_
  simp only [hreq, Option.isSome_none, Bool.or_false, decide_eq_true_eq]
  omega

end Sys2Proof.Machine

open Sys2Proof Sys2Proof.Machine

/-- Settles O53: each step by the rule of its own, and the four ways in which a start fails. -/
theorem startSteps : Obligations.StartSteps := by
  intro s b mib f straps ok flash w u k mibOk waking freed failed
  have hdo : exec (.supplyGood b) s = .next u.supplyGood ∧ exec (.pllLock b straps) s = .next (u.pllLock straps)
      ∧ exec (.optionLoad b) s = .next u.optionLoad ∧ (∀ ok, exec (.sramBist b ok) s = .next (u.sramBist ok))
      ∧ (mibOk → exec (.ddrTraining b mib) s = .next (u.ddrTraining mib)) ∧ exec (.stateTableInit b) s = .next u.tableInit
      ∧ exec (.tailRecovery b) s = .next u.tailStep ∧ (∀ flash, exec (.regulatorBoot b flash) s = .next (u.regBoot flash))
      ∧ exec (.settingsLoad b) s = .next u.settingsLoad ∧ exec (.ready b) s = .next u.ready
      ∧ exec (.startTimeout b) s = .next u.startTimeout ∧ exec (.startFailedReset b) s = .next u.failedReset :=
    ⟨at_runs rfl, at_runs rfl, at_runs rfl, fun _ => at_runs rfl,
      fun hmib => at_runs (by rcases hmib with h | h | h | h <;> rw [h] <;> rfl), at_runs rfl, at_runs rfl, fun _ => at_runs rfl,
      at_runs rfl, at_runs rfl, at_runs rfl, at_runs rfl⟩
  obtain ⟨hgood, hlock, hoption, hbist, hddr, htable, htail, hboot, hsettings, hready, htimeout, hfailed⟩ := hdo
  clear_value u
  have hidle {c : Bool} {x y : State} (h : c = false) : (if c = true then x else y) = y := if_neg (by simp [h])
  refine ⟨⟨fun h => ?_, fun h hw => ?_, fun h => ?_, fun h => ?_, fun hm h => ?_, fun h => ?_, fun h => ?_, fun h hr => ?_,
    fun h => ?_, fun h => ?_⟩, fun h => ?_, fun h => ?_, fun h hw => ?_, fun h => ?_, fun h => ⟨?_, ?_⟩, fun hm h => ?_, fun h => ?_,
    fun h => ?_, fun h => ⟨?_, fun hw => ?_, fun hw => ?_, fun hw => ?_⟩, fun h hl hb => ?_, fun h hl => ?_, fun h hb => ?_,
    fun h hb => ?_, fun h1 h2 h3 h4 => ?_, fun z hz => ⟨fun hw => ?_, fun hw hn => ?_, fun hw hn ht => ?_, fun hw hn ht => ?_⟩,
    fun h => ?_, fun h hn => ?_, fun h hn hr => ?_⟩
  · rw [hgood]; exact congrArg _ (hidle h)
  · rw [hlock]; exact congrArg _ ((if_neg hw).trans (hidle h))
  · rw [hoption]; exact congrArg _ (hidle h)
  · rw [hbist]; exact congrArg _ (hidle h)
  · rw [hddr hm]; exact congrArg _ (hidle h)
  · rw [htable]; exact congrArg _ (hidle h)
  · rw [htail]; exact congrArg _ (hidle h)
  · rw [hboot, State.regBoot_idle h hr]
  · rw [hsettings]; exact congrArg _ (hidle h)
  · rw [hready]; exact congrArg _ (hidle (by rw [h]; rfl))
  · have hmem := State.nextStep_mem (State.mayStep_next h).1 (by decide)
    refine ⟨_, hgood, ?_⟩
    rw [show u.supplyGood = u.stepDone 1 from if_pos h, State.stepDone_start hmem (by decide)]
  · rw [hlock]; exact congrArg _ (if_pos h)
  · have hview := (congrArg State.lockView (State.pllLock_eq straps h hw)).trans (State.lockEnd_view straps (State.pllSampled_mode straps u))
    have hlatch := State.pllSampled_latch straps u
    unfold State.lockView at hview
    simp only [Prod.mk.injEq] at hview
    obtain ⟨h1, h2, h3, h4, h5⟩ := hview
    refine ⟨_, hlock, ?_⟩
    obtain ⟨hstraps, hbound, hbringup⟩ := State.pllSampled_leaves straps u
    rw [h1, h2, h3, h4, h5, hlatch]
    exact ⟨hstraps, State.pllSampled_mode straps u, rfl, hbound, hbringup⟩
  · obtain ⟨h1, h2, h3⟩ := State.optionLoad_view h
    exact ⟨_, hoption, h1, h2, h3⟩
  · rw [hbist]; exact congrArg _ (if_pos h)
  · have hmem := State.nextStep_mem (State.mayStep_next h).1 (by decide)
    refine ⟨_, hbist true, ?_⟩
    rw [show u.sramBist true = u.stepDone 5 from if_pos h, State.stepDone_start hmem (by decide)]
  · obtain ⟨hview, hstart⟩ := State.ddrTraining_leaves mib h
    unfold State.dramView at hview
    simp only [Prod.mk.injEq] at hview
    exact ⟨_, hddr hm, hview.1, hview.2.1, hview.2.2, hstart⟩
  · have hview := State.tableInit_view h
    unfold State.tableView at hview
    simp only [Prod.mk.injEq] at hview
    exact ⟨_, htable, hview⟩
  · rw [htail]; exact congrArg _ (if_pos h)
  · rw [hboot, State.regBoot_noFlash h]
  · rw [hboot, State.regBoot_noImage h hw]
  · rw [hboot, State.regBoot_running h hw]; rfl
  · rw [hboot, State.regBoot_again h hw]; rfl
  · rw [hsettings, State.settingsLoad_core h hl hb]
  · exact ⟨_, hsettings, State.settingsLoad_senses h hl⟩
  · rw [hready, State.ready_bare hb]
  · obtain ⟨h1, h2, h3⟩ := State.ready_leaves h hb
    exact ⟨_, hready, h1, h2, h3⟩
  · rw [htimeout, State.startTimeout_bound h1 h2 h3 h4]
  · exact State.startFails_warm hz hw
  · exact State.startFails_cold hz hw hn
  · exact State.startFails_trial hz hw hn ht
  · rw [State.startFails_minimal hz hw hn ht]
    have hcounts := State.atFailure_counts z
    exact State.enterMinimal_leaves (z := z.atFailure.failCounts z.backup.warmFails 0) (hcounts.1.trans hz)
  · rw [hfailed, State.failedReset_idle h]
  · rw [hfailed, State.failedReset_early h hn]
  · rw [hfailed, State.failedReset_asks h hn hr]
end

section
/-! The crown port (R313–R320) and the IEEE 1149.1 port (R305). -/

namespace Sys2Proof.Machine

open Sys2Proof

/-! ## What a frame earns -/

/-- The frame's CRC holds. -/
def crownCrc (op : Nat) (f : CrownFrame) : Prop := crc8 ([BitVec.ofNat 8 op, f.addr] ++ beBytes 2 f.data.toNat) = f.crc

/-- The fields of the frame, and for a latch opcode the unlock, are those of Table 13-4. -/
def State.crownFormed (u : State) (op : Nat) (f : CrownFrame) : Prop :=
  (op = 0x01 ∧ f.addr = 0 ∧ f.data.toNat = 0)
    ∨ (op = 0x02 ∧ (u.crownItem f.addr.toNat).isSome = true ∧ f.data.toNat = 0)
    ∨ (op = 0x10 ∧ f.addr = 0 ∧ f.data.toNat = 0xB5A4) ∨ (op = 0x11 ∧ f.addr = 0 ∧ f.data.toNat = 0x4A5B)
    ∨ (op = 0x20 ∧ f.addr = 0x40 ∧ u.crown.unlock = 2 ∧ f.data.toNat < 16 ∧ f.data.toNat % 4 ≠ 3)
    ∨ (op = 0x21 ∧ f.addr = 0x40 ∧ u.crown.unlock = 2 ∧ f.data.toNat < 16)

/-- The codes of the frame at the state's unlock. -/
def State.crownCodes (u : State) (op : Nat) (f : CrownFrame) : List Nat := u.crownJudge op f (u.crown.unlock == 2)

theorem ite_nil_eq_nil {c : Prop} [Decidable c] {k : Nat} : (if c then ([] : List Nat) else [k]) = [] ↔ c := by
  split <;> simp [*]

theorem State.crownCodes_eq_nil_iff (u : State) (op : Nat) (f : CrownFrame) : u.crownCodes op f = [] ↔ u.crownFormed op f := by
  unfold State.crownCodes State.crownJudge State.crownFormed
  split
  case h_7 => simp_all
  all_goals simp [Option.isSome_iff_ne_none]

theorem State.crownCodes_pos (u : State) (op : Nat) (f : CrownFrame) : ∀ c ∈ u.crownCodes op f, 1 ≤ c ∧ c ≤ 7 := by
  intro c hc
  unfold State.crownCodes State.crownJudge at hc
  have hcodes : c = 3 ∨ c = 4 ∨ c = 5 ∨ c = 7 := by
    split at hc <;> simp only [List.mem_append, List.mem_ite_nil_left, List.mem_singleton] at hc <;> tauto
  omega

theorem foldl_min_bounds {c : Nat} {t : List Nat} (hc : 1 ≤ c ∧ c ≤ 7) (ht : ∀ x ∈ t, 1 ≤ x ∧ x ≤ 7) :
    1 ≤ t.foldl min c ∧ t.foldl min c ≤ 7 := by
  induction t generalizing c with
  | nil => exact hc
  | cons x t ih =>
    have hx := ht x List.mem_cons_self
    exact ih (by omega) (fun y hy => ht y (List.mem_cons_of_mem _ hy))

theorem foldl_min_one {t : List Nat} (ht : ∀ x ∈ t, 1 ≤ x ∧ x ≤ 7) : t.foldl min 1 = 1 := by
  induction t with
  | nil => rfl
  | cons x t ih =>
    have hx := ht x List.mem_cons_self
    rw [List.foldl_cons, min_eq_left hx.1]
    exact ih (fun y hy => ht y (List.mem_cons_of_mem _ hy))

theorem crownResult_bad {codes : List Nat} {ok extra : Bool} (hcodes : ∀ c ∈ codes, 1 ≤ c ∧ c ≤ 7) (h : ok = false ∨ codes ≠ []) :
    1 ≤ crownResult codes ok extra ∧ crownResult codes ok extra ≤ 7 ∧ (ok = false → crownResult codes ok extra = 1) := by
  cases ok with
  | false =>
    have hone : crownResult codes false extra = 1 := foldl_min_one hcodes
    rw [hone]
    exact ⟨by decide, by decide, fun _ => rfl⟩
  | true =>
    cases codes with
    | nil => exact absurd rfl (h.resolve_left (by decide))
    | cons c t =>
      obtain ⟨h1, h2⟩ := foldl_min_bounds (hcodes c List.mem_cons_self) (fun x hx => hcodes x (List.mem_cons_of_mem _ hx))
      exact ⟨h1, h2, fun hk => absurd hk (by decide)⟩

/-! ## Frames -/

/-- What the port shifts out during the frame that begins. -/
def State.crownShift (u : State) : BitVec 40 := crownOut u.crown.result u.crown.addr u.crownCapture.1

/-- The bits of `n` edges. -/
def State.crownBits (u : State) (n : Nat) : Out := .crown ((List.range n).map (fun i => u.crownShift.getLsbD (39 - i)))

theorem State.crownBegin_eq (n : Nat) (u : State) : u.crownBegin n = { u with
    crown := { u.crown with caps := u.crownCapture.2, sdo := u.crownShift }, sent := u.crownBits n :: u.sent } := rfl

theorem State.crownEnd_eq (res : Nat) (addr : Byte) (reading : Option Nat) (unlock : Nat) (s : State) :
    s.crownEnd res addr reading unlock = { s with
      crown := { s.crown with result := BitVec.ofNat 8 res, addr := addr, reading := reading, unlock := unlock }
      backup := if res ≠ 0 ∧ s.backup.present = true then { s.backup with frameErrors := min 65535 (s.backup.frameErrors + 1) }
        else s.backup } := by
  unfold State.crownEnd
  dsimp only
  by_cases hres : res = 0
  · rw [if_pos hres, if_neg (fun h => h.1 hres)]
  · rw [if_neg hres, State.bk_eq]
    simp only [ne_eq, hres, not_false_eq_true, true_and]

section
variable {u : State} {op : Nat} {f : CrownFrame}

theorem State.crownFrame_absent (h : u.backup.present = false) : u.crownFrame op f = u := if_pos (by simp [h])

theorem State.crownFrame_good (hpresent : u.backup.present = true) (hcrc : crownCrc op f) (hformed : u.crownFormed op f) :
    u.crownFrame op f = ((u.crownBegin 40).crownAct op f).crownEnd (if f.extra then 6 else 0) f.addr
      (if op = 0x02 then some f.addr.toNat else none) (if op = 0x10 then 1 else if op = 0x11 ∧ u.crown.unlock = 1 then 2 else 0) := by
  have hcodes : (u.crownBegin 40).crownJudge op f ((u.crownBegin 40).crown.unlock == 2) = [] :=
    (State.crownCodes_eq_nil_iff u op f).mpr hformed
  have hcrc' : (crc8 (crownBytes (BitVec.ofNat 8 op) f.addr f.data) == f.crc) = true := beq_iff_eq.mpr hcrc
  have hunlock : (u.crownBegin 40).crown.unlock = u.crown.unlock := rfl
  unfold State.crownFrame
  rw [if_neg (by simp [hpresent])]
  dsimp only
  rw [hcodes, hcrc', hunlock]
  simp [crownResult]

theorem State.crownFrame_bad (hpresent : u.backup.present = true) (h : ¬ crownCrc op f ∨ ¬ u.crownFormed op f) :
    ∃ res, u.crownFrame op f = (u.crownBegin 40).crownEnd res f.addr none 0 ∧ 1 ≤ res ∧ res ≤ 7 ∧ (¬ crownCrc op f → res = 1) := by
  have hcodes : (u.crownBegin 40).crownJudge op f ((u.crownBegin 40).crown.unlock == 2) = u.crownCodes op f := rfl
  have hcrc : (crc8 (crownBytes (BitVec.ofNat 8 op) f.addr f.data) == f.crc) = true ↔ crownCrc op f := beq_iff_eq
  have hbad := crownResult_bad (extra := f.extra) (State.crownCodes_pos u op f) (ok := crc8 (crownBytes (BitVec.ofNat 8 op) f.addr f.data) == f.crc)
    (by
      rcases h with h | h
      · exact Or.inl (Bool.eq_false_iff.mpr (fun hk => h (hcrc.mp hk)))
      · exact Or.inr (fun hk => h ((State.crownCodes_eq_nil_iff u op f).mp hk)))
  have hgood : ((crc8 (crownBytes (BitVec.ofNat 8 op) f.addr f.data) == f.crc) && (u.crownCodes op f).isEmpty) = false := by
    rw [Bool.eq_false_iff]
    intro hk
    simp only [Bool.and_eq_true, List.isEmpty_iff] at hk
    rcases h with h | h
    · exact h (hcrc.mp hk.1)
    · exact h ((State.crownCodes_eq_nil_iff u op f).mp hk.2)
  refine ⟨crownResult (u.crownCodes op f) (crc8 (crownBytes (BitVec.ofNat 8 op) f.addr f.data) == f.crc) f.extra, ?_, hbad.1, hbad.2.1,
    fun hk => hbad.2.2 (Bool.eq_false_iff.mpr (fun ht => hk (hcrc.mp ht)))⟩
  unfold State.crownFrame
  rw [if_neg (by simp [hpresent])]
  dsimp only
  rw [hcodes, hgood]
  simp

end

/-- The latches after a frame whose action stands. -/
def crownLatch (op : Nat) (f : CrownFrame) (latch : BitVec 16) : BitVec 16 :=
  if op = 0x20 then latchSet f.data latch else if op = 0x21 then latch &&& ~~~ f.data else latch

theorem State.crownAct_eq {w : State} (op : Nat) (f : CrownFrame) (hpresent : w.backup.present = true) :
    ∃ r, w.crownAct op f = { w with backup := { w.backup with latch := crownLatch op f w.backup.latch }, resetReq := r } := by
  unfold State.crownAct crownLatch
  split
  · rw [State.bk_present _ _ hpresent]
    exact State.crownRequest_eq _
  · rw [State.bk_present _ _ hpresent]
    exact ⟨w.resetReq, rfl⟩
  next h20 h21 =>
    rw [if_neg (fun h => h20 h), if_neg (fun h => h21 h)]
    exact ⟨w.resetReq, rfl⟩

/-- The rows of the opcodes. -/
theorem execCrownRow {s : State} {b op : Nat} {f : CrownFrame} {i : Instr}
    (hrow : (op = 0x01 ∧ i = .nop b f) ∨ (op = 0x02 ∧ i = .read b f) ∨ (op = 0x10 ∧ i = .unlockA b f)
      ∨ (op = 0x11 ∧ i = .unlockB b f) ∨ (op = 0x20 ∧ i = .latchSet b f) ∨ (op = 0x21 ∧ i = .latchClr b f)
      ∨ (op < 256 ∧ crownOpcode (BitVec.ofNat 8 op) = false ∧ i = .crownUndefinedOpcode b (BitVec.ofNat 8 op) f)) :
    exec i s = .next ((s.upTo b).crownFrame op f) := by
  rcases hrow with ⟨rfl, rfl⟩ | ⟨rfl, rfl⟩ | ⟨rfl, rfl⟩ | ⟨rfl, rfl⟩ | ⟨rfl, rfl⟩ | ⟨rfl, rfl⟩ | ⟨hop, hcode, rfl⟩
  case inr.inr.inr.inr.inr.inr =>
    have hnum : (BitVec.ofNat 8 op).toNat = op := by rw [BitVec.toNat_ofNat]; exact Nat.mod_eq_of_lt hop
    have hrun : exec (.crownUndefinedOpcode b (BitVec.ofNat 8 op) f) s = .next ((s.upTo b).crownFrame (BitVec.ofNat 8 op).toNat f) :=
      at_runs (by rw [hcode]; rfl)
    rw [hrun, hnum]
  all_goals exact at_runs rfl

/-- What a frame whose action stands leaves. -/
theorem State.crownFrame_acts {u : State} {op : Nat} {f : CrownFrame} (hpresent : u.backup.present = true) (hcrc : crownCrc op f)
    (hformed : u.crownFormed op f) : ∃ caps r, u.crownFrame op f = { u with
      sent := u.crownBits 40 :: u.sent, resetReq := r
      crown := { u.crown with
        caps := caps, sdo := u.crownShift, result := BitVec.ofNat 8 (if f.extra then 6 else 0), addr := f.addr
        reading := if op = 0x02 then some f.addr.toNat else none
        unlock := if op = 0x10 then 1 else if op = 0x11 ∧ u.crown.unlock = 1 then 2 else 0 }
      backup := { u.backup with
        latch := crownLatch op f u.backup.latch
        frameErrors := if f.extra then min 65535 (u.backup.frameErrors + 1) else u.backup.frameErrors } } := by
  obtain ⟨r, hact⟩ := State.crownAct_eq (w := u.crownBegin 40) op f hpresent
  refine ⟨u.crownCapture.2, r, ?_⟩
  rw [State.crownFrame_good hpresent hcrc hformed, hact, State.crownEnd_eq, State.crownBegin_eq]
  cases f.extra <;> simp [hpresent]

/-- What a frame that acts in nothing leaves. -/
theorem State.crownFrame_fails {u : State} {op : Nat} {f : CrownFrame} (hpresent : u.backup.present = true)
    (h : ¬ crownCrc op f ∨ ¬ u.crownFormed op f) : ∃ caps res, u.crownFrame op f = { u with
        sent := u.crownBits 40 :: u.sent
        crown := { u.crown with
          caps := caps, sdo := u.crownShift, result := BitVec.ofNat 8 res, addr := f.addr, reading := none, unlock := 0 }
        backup := { u.backup with frameErrors := min 65535 (u.backup.frameErrors + 1) } }
      ∧ BitVec.ofNat 8 res ≠ 0 ∧ (¬ crownCrc op f → res = 1) := by
  obtain ⟨res, hframe, hlow, hhigh, hone⟩ := State.crownFrame_bad hpresent h
  have hres : res ≠ 0 := by omega
  refine ⟨u.crownCapture.2, res, ?_, fun hzero => ?_, hone⟩
  · rw [hframe, State.crownEnd_eq, State.crownBegin_eq]
    simp [hpresent, hres]
  · have hnat := congrArg BitVec.toNat hzero
    rw [BitVec.toNat_ofNat, Nat.mod_eq_of_lt (by omega)] at hnat
    exact hres hnat

/-! ## The backup domain's supply, and short frames -/

theorem State.crownShort_absent {u : State} (edges : Nat) (bits : BitVec 40) (h : u.backup.present = false) :
    u.crownShort edges bits = u := if_pos (by simp [h])

/-- A short frame, with the address that is reported. -/
theorem State.crownShort_eq {u : State} (edges : Nat) (bits : BitVec 40) (h : u.backup.present = true) : ∃ crown addr free,
    u.crownShort edges bits = ({ u with
        crown := crown, free := free, sent := if edges = 0 then u.sent else u.crownBits edges :: u.sent } : State).crownEnd 2 addr none 0
      ∧ (16 ≤ edges → addr = bits.extractLsb' 24 8) := by
  have hbegun : ∃ crown, (if edges = 0 then u else u.crownBegin edges)
      = { u with crown := crown, sent := if edges = 0 then u.sent else u.crownBits edges :: u.sent } := by
    split
    · exact ⟨u.crown, rfl⟩
    · exact ⟨_, State.crownBegin_eq edges u⟩
  obtain ⟨crown, hbegun⟩ := hbegun
  unfold State.crownShort
  rw [if_neg (by simp [h])]
  dsimp only
  rw [hbegun]
  split
  · exact ⟨crown, _, u.free, rfl, fun _ => rfl⟩
  next hfew => exact ⟨crown, _, _, rfl, fun hk => absurd hk hfew⟩

/-! ## JTAG scans -/

/-- An instruction loaded, with what its data register shifts out. -/
def State.scanned (code : Byte) (out : List Out) (u : State) : State :=
  { u with jtag := { u.jtag with ir := code }, sent := out ++ .tdo 8 1 :: u.sent }

theorem idcode_eq : idcode = 2 ^ 28 + 0x4096 * 2 ^ 12 + 2 * Config.jedecId.toNat + 1 := by
  unfold idcode
  omega

theorem State.captureDr_bypass {u : State} (h : 2 < u.jtag.ir.toNat) (hcode : u.jtag.ir.toNat ≠ 0x20) : u.captureDr = some (1, 0) := by
  unfold State.captureDr
  split
  case h_5 => rfl
  all_goals omega

/-- The SPI command that a raised chip select ends touches the flash and the write enable alone. -/
theorem State.spiCommand_eq (bytes : List Byte) (s : State) :
    ∃ flash wel, s.spiCommand bytes = { s with flash := flash, jtag := { s.jtag with wel := wel } } := by
  have hprogram (l : List (Byte × Nat)) (a : Nat) (z : State) : ∃ flash,
      each (fun (e : Byte × Nat) (w : State) => w.flashProgram (a / 256 * 256 + (a + e.2) % 256) [e.1]) l z = { z with flash := flash } :=
    each_keep (fun w => ∃ flash, w = { z with flash := flash }) _ (fun e w ⟨flash, h⟩ => ⟨_, by rw [h]; rfl⟩) l z ⟨z.flash, rfl⟩
  have hsame : ∃ flash wel, s = { s with flash := flash, jtag := { s.jtag with wel := wel } } := ⟨s.flash, s.jtag.wel, rfl⟩
  unfold State.spiCommand
  dsimp only
  split
  · exact ⟨s.flash, true, rfl⟩
  · split
    · obtain ⟨flash, h⟩ := hprogram (bytes.reverse.drop 5).zipIdx (beVal ((bytes.reverse.drop 1).take 4)) s
      exact ⟨flash, false, by rw [h]⟩
    · exact hsame
  · split
    · exact ⟨_, false, rfl⟩
    · exact hsame
  · split
    · exact ⟨_, false, rfl⟩
    · exact hsame
  · exact ⟨s.flash, false, rfl⟩
  · exact hsame

/-- The flash's scan, and its data register's value. -/
theorem State.jtagScan_flash (u : State) : u.jtagScan 0x20
    = u.scanned 0x20 [if u.start.stateCode = 3 then .tdo 16 (u.jtag.rx.toNat + 256 * b2n u.jtag.xferDone) else .tdo 1 0] := by
  have hcapture : (u.jtagIr 0x20).captureDr
      = if u.start.stateCode = 3 then some (16, u.jtag.rx.toNat + 256 * b2n u.jtag.xferDone) else some (1, 0) := rfl
  unfold State.jtagScan State.scanDr
  rw [hcapture]
  by_cases h : u.start.stateCode = 3
  · rw [if_pos h, if_pos h]
    rfl
  · rw [if_neg h, if_neg h]
    rfl

theorem State.jtagScan_bypass {code : Byte} (h : 2 < code.toNat) (hcode : code ≠ 0x20) (u : State) :
    u.jtagScan code = u.scanned code [.tdo 1 0] := by
  have hcapture : (u.jtagIr code).captureDr = some (1, 0) :=
    State.captureDr_bypass h (fun hk => hcode (BitVec.eq_of_toNat_eq hk))
  unfold State.jtagScan State.scanDr
  rw [hcapture]
  rfl

theorem State.flashSpi_bypass {u : State} (h : u.start.stateCode ≠ 3) (xfer : BitVec 16) (miso : Byte) :
    u.flashSpi xfer miso = u.scanned 0x20 [.tdo 1 0] := by
  unfold State.flashSpi
  rw [State.jtagScan_flash, if_neg h]
  exact if_neg h

/-- The byte on the flash interface. -/
def State.spiByte (xfer : BitVec 16) (miso : Byte) (s : State) : State :=
  { s.emit (.spi (xfer.setWidth 8)) with jtag := { s.jtag with
      csLow := xfer.getLsbD 15, rx := miso, xferDone := true
      spi := if xfer.getLsbD 15 then xfer.setWidth 8 :: s.jtag.spi else [] } }

theorem State.flashSpi_moves {u : State} (h : u.start.stateCode = 3) (xfer : BitVec 16) (miso : Byte) :
    u.flashSpi xfer miso
      = let z := (u.scanned 0x20 [.tdo 16 (u.jtag.rx.toNat + 256 * b2n u.jtag.xferDone)]).spiByte xfer miso
        if xfer.getLsbD 15 then z else z.spiCommand (xfer.setWidth 8 :: u.jtag.spi) := by
  unfold State.flashSpi
  rw [State.jtagScan_flash, if_pos h]
  exact if_pos h

end Sys2Proof.Machine

open Sys2Proof Sys2Proof.Machine

/-- Settles O55: a frame acts exactly where its codes and CRC leave none to report. -/
theorem crownAndJtag : Obligations.CrownAndJtag := by
  intro s b op edges f i xfer miso code bits u k c d row crc formed o shifts errors ir
  have hrow (h : row) : exec i s = .next (u.crownFrame op f) := execCrownRow h
  have hshort (h : edges < 40) : exec (.crownShortFrame b edges bits) s = .next (u.crownShort edges bits) :=
    at_runs (decide_eq_true h)
  have hloss : exec (.vbakLoss b) s = .next u.vbakLoss := at_runs rfl
  have hrestore : exec (.vbakRestore b) s = .next u.vbakRestore := at_runs rfl
  have hscan : exec (.extest b) s = .next (u.jtagScan 0x00) ∧ exec (.samplePreload b) s = .next (u.jtagScan 0x01)
      ∧ exec (.idcode b) s = .next (u.jtagScan 0x02) ∧ exec (.clamp b) s = .next (u.jtagScan 0x03)
      ∧ exec (.highz b) s = .next (u.jtagScan 0x04) := ⟨at_runs rfl, at_runs rfl, at_runs rfl, at_runs rfl, at_runs rfl⟩
  have hbypass (h : jtagCode code = false) : exec (.bypass b code) s = .next (u.jtagScan code) := at_runs (by rw [h]; rfl)
  have hspi : exec (.flashSpi b xfer miso) s = .next (u.flashSpi xfer miso) := at_runs rfl
  clear_value u
  refine ⟨fun hr hp => ?_, fun hr hp hcrc hformed => ?_, fun hr hp hbad => ?_, fun he hp => ?_, fun he hp => ?_, hloss, fun hp => ?_,
    fun hp => ?_, ?_, fun h1 h2 h3 => ?_, fun h => ?_, fun h => ⟨_, hspi, ?_⟩⟩
  · rw [hrow hr, State.crownFrame_absent hp]
  · obtain ⟨caps, r, hframe⟩ := State.crownFrame_acts hp hcrc hformed
    have hresult : BitVec.ofNat 8 (if f.extra then 6 else 0) = if f.extra then 6 else 0 := by cases f.extra <;> rfl
    rw [hrow hr, hframe]
    exact ⟨_, rfl, rfl, rfl, rfl, hresult, rfl, rfl, rfl, rfl⟩
  · obtain ⟨caps, res, hframe, hres, hone⟩ := State.crownFrame_fails hp hbad
    rw [hrow hr, hframe]
    exact ⟨_, rfl, rfl, rfl, hres, fun hc => congrArg (BitVec.ofNat 8) (hone hc), rfl, rfl, rfl, rfl, rfl⟩
  · rw [hshort he, State.crownShort_absent edges bits hp]
  · obtain ⟨crown, addr, free, hframe, haddr⟩ := State.crownShort_eq edges bits hp
    rw [hshort he, hframe, State.crownEnd_eq]
    have hcount : (2 ≠ 0 ∧ u.backup.present = true) := ⟨by decide, hp⟩
    dsimp only
    rw [if_pos hcount]
    exact ⟨_, rfl, rfl, rfl, rfl, rfl, rfl, haddr, rfl⟩
  · rw [hrestore]
    exact congrArg _ (if_pos hp)
  · rw [hrestore]
    exact ⟨_, congrArg _ (if_neg (by rw [hp]; decide)), rfl, rfl, rfl, rfl, rfl⟩
  · obtain ⟨h0, h1, h2, h3, h4⟩ := hscan
    have hid : u.jtagScan 0x02 = ir 0x02 [.tdo 32 (2 ^ 28 + 0x4096 * 2 ^ 12 + 2 * Config.jedecId.toNat + 1)] := by
      rw [← idcode_eq]
      rfl
    exact ⟨h0, h1, h2.trans (congrArg _ hid), h3, h4⟩
  · have hcode : jtagCode code = false := by
      unfold jtagCode
      simp only [Bool.or_eq_false_iff, decide_eq_false_iff_not, beq_eq_false_iff_ne]
      exact ⟨⟨by omega, h2⟩, h3⟩
    rw [hbypass hcode, State.jtagScan_bypass (by omega) h3]
    rfl
  · rw [hspi, State.flashSpi_bypass h]
    rfl
  · have hmoves := State.flashSpi_moves h xfer miso
    dsimp only at hmoves
    cases hkeep : xfer.getLsbD 15 with
    | true =>
      rw [hkeep, if_pos rfl] at hmoves
      rw [hmoves]
      unfold State.spiByte
      rw [hkeep]
      exact ⟨rfl, rfl, rfl, rfl, rfl, fun _ => ⟨rfl, rfl⟩, nofun⟩
    | false =>
      obtain ⟨flash, wel, hcommand⟩ := State.spiCommand_eq (xfer.setWidth 8 :: u.jtag.spi)
        ((u.scanned 0x20 [.tdo 16 (u.jtag.rx.toNat + 256 * b2n u.jtag.xferDone)]).spiByte xfer miso)
      rw [hkeep, if_neg (by decide), hcommand] at hmoves
      rw [hmoves]
      unfold State.spiByte
      rw [hkeep]
      exact ⟨rfl, rfl, rfl, rfl, rfl, nofun, fun _ => rfl⟩
end

section
/-! Firmware banks, trials, staging, activation and saves (14). -/

namespace Sys2Proof.Machine

open Sys2Proof

/-- The image is not CONFIRMED, or a save or a migration is in progress. -/
def State.fwBusy (z : State) : Prop := z.fw.fwState ≠ 0 ∨ z.fw.save = 1 ∨ z.fw.save = 4

theorem State.fwBusy_iff (z : State) : (z.fw.fwState != 0 || z.saving) = true ↔ z.fwBusy := by
  simp [State.fwBusy, State.saving]

theorem State.not_fwBusy_iff (z : State) : (z.fw.fwState != 0 || z.saving) = false ↔ ¬ z.fwBusy := by
  rw [← State.fwBusy_iff, Bool.not_eq_true]

/-! ## Confirmation and rejection -/

theorem State.migrate_fw (z : State) : z.migrate.fw.fwState = z.fw.fwState ∧ z.migrate.fw.trialEnd = z.fw.trialEnd := by
  have hfailed (w : State) : w.saveFailed.fw.fwState = w.fw.fwState ∧ w.saveFailed.fw.trialEnd = w.fw.trialEnd := by
    unfold State.saveFailed
    rw [State.dial_fw]
    exact ⟨rfl, rfl⟩
  have hfailed' (w : State) (c : Prop) [Decidable c] (t : State) (ht : t.fw.fwState = w.fw.fwState ∧ t.fw.trialEnd = w.fw.trialEnd) :
      (if c then w.saveFailed else t).fw.fwState = w.fw.fwState ∧ (if c then w.saveFailed else t).fw.trialEnd = w.fw.trialEnd := by
    split
    · exact hfailed w
    · exact ht
  unfold State.migrate
  split
  · exact ⟨rfl, rfl⟩
  · dsimp only
    split
    · exact ⟨rfl, rfl⟩
    · split
      · exact ⟨rfl, rfl⟩
      · exact hfailed' _ _ _ ⟨rfl, rfl⟩

theorem State.confirm_confirmed {z : State} (h : z.fw.fwState = 0) : z.confirm = z := if_pos (Or.inl h)

theorem State.confirm_leaves {z : State} (h : z.fw.fwState ≠ 0) (hroll : z.fw.rolledBack = false) :
    z.confirm.fw.fwState = 0 ∧ z.confirm.fw.trialEnd = none := by
  unfold State.confirm
  rw [if_neg (by simp [h, hroll])]
  exact State.migrate_fw _

/-! ## The flash -/

theorem memGet_flashErase (z : State) (a n x : Nat) :
    memGet 0xFF (z.flashErase a n).flash x = if a ≤ x ∧ x < a + n then 0xFF else memGet 0xFF z.flash x := by
  unfold State.flashErase
  split
  next hin =>
    refine memGet_erased _ _ _ (fun c hc => ?_)
    subst hc
    simp only [Bool.or_eq_false_iff, decide_eq_false_iff_not]
    omega
  next hout =>
    refine memGet_filter _ _ _ _ (fun c _ hc => ?_)
    subst hc
    simp only [Bool.or_eq_true, decide_eq_true_eq]
    omega

theorem memGet_flashSet_out (z : State) {a x : Nat} {bs : List Byte} (h : x < a ∨ a + bs.length ≤ x) :
    memGet 0xFF (z.flashSet a bs).flash x = memGet 0xFF z.flash x := memGet_set_out 0xFF z.flash a bs x h

theorem State.flashAt_length (z : State) (a n : Nat) : (z.flashAt a n).length = n := by
  simp [State.flashAt, memGetAll]

/-- Programming clears the bits that are 0 in what is programmed. -/
theorem memGet_flashProgram (z : State) (a x : Nat) (bs : List Byte) : memGet 0xFF (z.flashProgram a bs).flash x
    = if a ≤ x ∧ x < a + bs.length then memGet 0xFF z.flash x &&& bs.getD (x - a) 0 else memGet 0xFF z.flash x := by
  have hlen : (((z.flashAt a bs.length).zip bs).map (fun p => p.1 &&& p.2)).length = bs.length := by
    simp [State.flashAt_length]
  unfold State.flashProgram
  split
  next hin =>
    obtain ⟨i, rfl⟩ : ∃ i, x = a + i := ⟨x - a, by omega⟩
    have hi : i < bs.length := by omega
    unfold State.flashSet
    rw [memGet_set_in 0xFF z.flash a _ i (by rw [hlen]; exact hi)]
    simp [State.flashAt, memGetAll, hi]
  next hout => exact memGet_flashSet_out z (by rw [hlen]; omega)

/-! ## Staging -/

section
variable {z : State}

theorem State.stageSet_busy (v : Nat) (h : z.fwBusy) : z.stageSet v = (8, z) := if_pos ((State.fwBusy_iff z).mpr h)

theorem State.stageSet_opens (h : ¬ z.fwBusy) : z.stageSet 1 = (0, { z.flashErase (bankBase (1 - z.bootRec.confirmed)) 0x400000 with
    fw := { z.fw with stage := 1, stageBank := 1 - z.bootRec.confirmed, chunks := [] } }) := by
  unfold State.stageSet
  rw [(State.not_fwBusy_iff z).mpr h]
  rfl

theorem State.stageSet_closes (h : ¬ z.fwBusy) :
    z.stageSet 2 = if z.fw.stage = 2 then (0, { z with fw := { z.fw with stage := 3 } }) else (8, z) := by
  unfold State.stageSet
  rw [(State.not_fwBusy_iff z).mpr h]
  by_cases hstage : z.fw.stage = 2 <;> simp [hstage]

theorem State.stageSet_aborts (h : ¬ z.fwBusy) :
    ∃ w : State, z.stageSet 0 = (0, w.migrate) ∧ w.fw = { z.fw with stage := 0, chunks := [] } := by
  unfold State.stageSet
  rw [(State.not_fwBusy_iff z).mpr h]
  refine ⟨_, rfl, ?_⟩
  dsimp only
  split <;> rfl

theorem State.stageData_refused (n : Nat) (bs : List Byte) (bad : Bool) (h : z.fwBusy ∨ z.fw.stage ≠ 2 ∨ n ∈ z.fw.chunks) :
    z.stageData n bs bad = (8, z) := by
  refine if_pos ?_
  rcases h with h | h | h
  · rw [(State.fwBusy_iff z).mpr h]
    rfl
  · simp [h]
  · simp [h]

variable {n : Nat} (h : ¬ z.fwBusy) (hstage : z.fw.stage = 2) (hchunk : n ∉ z.fw.chunks)
include h hstage hchunk

theorem State.stageData_open : (z.fw.fwState != 0 || z.saving || z.fw.stage != 2 || z.fw.chunks.contains n) = false := by
  rw [(State.not_fwBusy_iff z).mpr h]
  simp [hstage, hchunk]

theorem State.stageData_programs (bs : List Byte) : z.stageData n bs false
    = (0, { z.flashProgram (bankBase z.fw.stageBank + 256 * n) bs with fw := { z.fw with chunks := n :: z.fw.chunks } }) := by
  unfold State.stageData
  rw [State.stageData_open h hstage hchunk]
  rfl

theorem State.stageData_fails (bs : List Byte) : ∃ w : State, z.stageData n bs true = (0, w.migrate)
    ∧ w.fw = { z.fw with stage := 6, chunks := n :: z.fw.chunks }
    ∧ ∀ a, a < bankBase z.fw.stageBank + 256 * n ∨ bankBase z.fw.stageBank + 256 * n + 256 ≤ a →
        memGet 0xFF w.flash a = memGet 0xFF z.flash a := by
  unfold State.stageData
  rw [State.stageData_open h hstage hchunk]
  refine ⟨_, rfl, rfl, fun a ha => ?_⟩
  exact memGet_flashSet_out z.draw.2 (by simpa using ha)

end

/-! ## Activation -/

/-- The state whose boot record names the staged bank as the trial. -/
def State.trialWritten (z : State) : State := (z.setBootRec { z.bootRec with trial := z.fw.stageBank }).bootWritten

section
variable {z : State}

theorem State.activate_refused (v : Nat) (h : z.fw.stage ≠ 4) : z.activate v = (7, z) := if_pos (by simp [h])

theorem State.trialWritten_same : z.trialWritten.blk = z.blk ∧ z.trialWritten.start = z.start ∧ z.trialWritten.resetReq = z.resetReq
    ∧ z.trialWritten.now = z.now := by
  unfold State.trialWritten State.bootWritten State.setBootRec
  exact ⟨rfl, rfl, rfl, rfl⟩

/-- What FW_ACTIVATE asks for once the boot record is written. -/
def State.activateReset (v : Nat) (w : State) : Nat × State :=
  if v = 1 then
    if (w.blkAt 0x20).isSome then (0, w)
    else
      let w := w.setBlk 0x20 (some (.waiting (w.now + 8000 + w.o 0x1005 0)))
      (0, { w with fw := { w.fw with rebootAt := some (w.now + 8000) } })
  else (0, w.askReset .l2c 7 16 true)

theorem State.activate_eq (v : Nat) (h : z.fw.stage = 4) : z.activate v = z.trialWritten.activateReset v := by
  have hgo : ¬ (z.fw.stage != 4) = true := by simp [h]
  exact if_neg hgo

theorem State.activate_waiting (h : z.fw.stage = 4) (hblk : z.blkAt 0x20 ≠ none) : z.activate 1 = (0, z.trialWritten) := by
  have hblk' : (z.trialWritten.blkAt 0x20).isSome = true := by
    unfold State.blkAt at hblk ⊢
    rw [State.trialWritten_same.1]
    exact Option.isSome_iff_ne_none.mpr hblk
  rw [State.activate_eq 1 h]
  generalize z.trialWritten = w at hblk'
  unfold State.activateReset
  rw [if_pos rfl, if_pos hblk']

theorem State.activate_reboots (h : z.fw.stage = 4) (hblk : z.blkAt 0x20 = none) : z.activate 1
    = (0, { z.trialWritten.setBlk 0x20 (some (.waiting (z.trialWritten.now + 8000 + z.trialWritten.o 0x1005 0))) with
        fw := { z.trialWritten.fw with rebootAt := some (z.trialWritten.now + 8000) } }) := by
  have hblk' : ¬ (z.trialWritten.blkAt 0x20).isSome = true := by
    unfold State.blkAt at hblk ⊢
    rw [State.trialWritten_same.1, hblk]
    decide
  rw [State.activate_eq 1 h]
  generalize z.trialWritten = w at hblk'
  unfold State.activateReset
  rw [if_pos rfl, if_neg hblk']
  rfl

theorem State.activate_defaults (h : z.fw.stage = 4) (hstarted : z.started = true) (hreq : z.resetReq = none) :
    ∃ w : State, z.activate 2 = (0, { w with resetReq := some ⟨.l2c, 7, false, z.now + 16, true⟩ }) := by
  obtain ⟨-, hstart, hreset, hnow⟩ := State.trialWritten_same (z := z)
  have hreq' : z.trialWritten.resetReq = none := hreset.trans hreq
  have hstarted' : z.trialWritten.started = true := by
    unfold State.started State.bare at hstarted ⊢
    rw [hstart]
    exact hstarted
  refine ⟨z.trialWritten, ?_⟩
  rw [State.activate_eq 2 h, ← hnow]
  generalize z.trialWritten = w at hreq' hstarted'
  refine congrArg (Prod.mk 0) ?_
  unfold State.askReset
  rw [hreq']
  exact if_pos hstarted'

/-! ## Ends of an erase, a verification, a trial's window -/

theorem State.eraseDone_eq (ok : Bool) : z.eraseDone ok
    = if z.fw.stage = 1 then ({ z with fw := { z.fw with stage := if ok then 2 else 6 } } : State).migrate else z := by
  unfold State.eraseDone
  by_cases h : z.fw.stage = 1 <;> simp [h]

theorem State.verifyDone_eq : z.verifyDone
    = if z.fw.stage = 3 then ({ z with fw := { z.fw with stage := if z.imageOk z.fw.stageBank then 4 else 5 } } : State).migrate
      else z := by
  unfold State.verifyDone
  by_cases h : z.fw.stage = 3 <;> simp [h]

theorem State.trialEnds_idle {t0 : Nat} (h : z.fw.trialEnd = none ∨ z.fw.trialEnd = some t0 ∧ z.now < t0) : z.trialEnds = z := by
  unfold State.trialEnds
  rcases h with h | ⟨h, hnow⟩
  · rw [h]
  · rw [h]
    have hearly : ¬ t0 ≤ z.now := by omega
    exact if_neg (by simp [hearly])

theorem State.trialEnds_judges {t0 : Nat} (h : z.fw.trialEnd = some t0) (hnow : t0 ≤ z.now) (hreg : z.fw.regState = 1) :
    z.trialEnds = if z.o 0x1504 0 = 1 then z.confirm else (z.rollBack 1).blkRequest 0x20 false false := by
  unfold State.trialEnds
  rw [h]
  exact if_pos (by simp [hnow, hreg])

theorem State.trialStuck_eq : z.trialStuck
    = if z.started = true ∧ z.fw.regState = 2 ∧ z.blkAt 0x20 = none ∧ z.forcedBank false = none ∧ z.bootRec.trial ≠ 255
        ∧ z.fw.bootFrom + 1600000000 ≤ z.now then (z.rollBack 6).blkRequest 0x20 true false else z := by
  unfold State.trialStuck
  dsimp only
  refine if_congr ?_ rfl rfl
  simp only [Bool.and_eq_true, beq_iff_eq, Option.isNone_iff_eq_none, bne_iff_ne, decide_eq_true_eq, and_assoc]

/-! ## Saves and migrations -/

theorem State.saveSettings_refused (h : z.fwBusy ∨ z.staging = true ∨ z.topGen = 0xFFFFFFFF) : z.saveSettings = (8, z) := by
  refine if_pos ?_
  rcases h with h | h | h
  · rw [(State.fwBusy_iff z).mpr h]
    rfl
  · simp [h]
  · simp [h]

/-- The slot that a save takes. -/
def State.saveTarget (z : State) : Nat :=
  if z.fw.slot = 1 then 1 else if z.fw.slot = 2 then 0
  else if (z.slotInfo 1).elim 0 (·.gen) < (z.slotInfo 0).elim 0 (·.gen) then 1 else 0

theorem State.saveTarget_ne (z : State) : z.saveTarget + 1 ≠ z.fw.slot := by
  unfold State.saveTarget
  split_ifs <;> omega

theorem State.saveSettings_begins (h : ¬ z.fwBusy) (hstaging : z.staging = false) (hgen : z.topGen ≠ 0xFFFFFFFF) :
    z.saveSettings = (0, { z.flashErase (slotBase z.saveTarget) 0x100000 with
      fw := { z.fw with save := 1, saveSlot := z.saveTarget, saveGen := z.topGen + 1, saveSnap := z.snapshot } }) := by
  have hbusy : (z.fw.fwState != 0 || z.saving || z.staging || z.topGen == 0xFFFFFFFF) = false := by
    rw [(State.not_fwBusy_iff z).mpr h, hstaging]
    simpa using hgen
  unfold State.saveSettings
  rw [hbusy]
  rfl

theorem State.saveDone_idle (ok : Bool) (h : z.fw.save ≠ 1) : z.saveDone ok = z := if_pos (by simp [h])

theorem State.saveDone_fails (h : z.fw.save = 1) : z.saveDone false = z.saveFailed.migrate := by
  unfold State.saveDone
  simp [h]

theorem State.saveDone_ends (h : z.fw.save = 1) :
    ∃ w : State, z.saveDone true = w.migrate ∧ w.fw = { z.fw with save := 2, slot := z.fw.saveSlot + 1, saveSnap := [] } := by
  have hgo : ¬ (z.fw.save != 1) = true := by simp [h]
  exact ⟨_, if_neg hgo, rfl⟩

theorem State.migrationDone_idle (ok : Bool) (h : z.fw.save ≠ 4) : z.migrationDone ok = z := if_pos (by simp [h])

theorem State.migrationDone_fails (h : z.fw.save = 4) : z.migrationDone false = z.saveFailed := by
  have hgo : ¬ (z.fw.save != 4) = true := by simp [h]
  exact if_neg hgo

theorem State.migrationDone_ends {x : SlotInfo} (h : z.fw.save = 4) (hslot : z.slotOf z.fw.slot = some x) :
    ∃ t, z.migrationDone true = t
      ∧ t.fw = { z.fw with save := 2, slot := z.fw.saveSlot + 1, setFlags := z.fw.setFlags ||| 512 } := by
  have hgo : ¬ (z.fw.save != 4) = true := by simp [h]
  unfold State.migrationDone
  rw [if_neg hgo, hslot]
  exact ⟨_, rfl, rfl⟩

end

/-! ## The dictionary's rows -/

theorem execFwStageData_next {s : State} {b n : Nat} {bs : List Byte} {o : Obj} {st : Nat} {t : State} (bad : Bool)
    (hopen : (s.atReq b).dictOpen = true) (hawake : (s.atReq b).asleep = false)
    (hgate : (s.atReq b).gate 0 0x1508 n .set = .ok (n, o)) (hacc : o.acc ≠ .rwd) (hn : n < 16384) (hlen : bs.length = 256)
    (hvalue : (s.atReq b).valueOk 0 0x1508 n (blobEnc bs) = true) (hfits : lengthOk 0x1508 o.ty 256 = true)
    (heng : (s.atReq b).engRefused 0x1508 n = false) (hact : (s.atReq b).stageData n bs bad = (st, t)) :
    exec (.fwStageData b n bs bad) s = .next (t.answer st) := by
  have hblob : blobDec 256 (blobEnc bs) = bs := blobDec_blobEnc bs 256 (by omega)
  have hlow : (s.atReq b).actLow 0x1508 n (blobEnc bs) bad = (st, t) := by
    rw [← hact]
    show (s.atReq b).stageData n (blobDec 256 (blobEnc bs)) bad = _
    rw [hblob]
  have hacc' : (o.acc == Acc.rwd) = false := by simpa using hacc
  have hn' : n < 65536 := by omega
  have hrun : exec (.fwStageData b n bs bad) s = run (Decidable.decide (n < 65536)) ((s.atReq b).dictRow 0 0x1508 n bs.length (blobEnc bs) bad) := rfl
  rw [hrun, run_ok (decide_eq_true hn'), hlen]
  generalize s.atReq b = q at *
  simp only [State.dictRow, hopen, hawake, State.access, hgate, DOp.reads, State.writeAns, hfits, hvalue, heng, hacc']
  rw [show (if 0x1508 < 0x2000 then q.actLow 0x1508 n (blobEnc bs) bad else q.actHigh 0 0x1508 n (blobEnc bs) bad) = (st, t) from hlow]
  rfl

end Sys2Proof.Machine

open Sys2Proof Sys2Proof.Machine

/-- Settles O56: each row by its object's rule, each end by the state of what ends. -/
theorem firmwareAndSaves : Obligations.FirmwareAndSaves := by
  intro s b v n t0 bs ok u q busy bank chunk fwOf
  have hends : exec (.stageEraseDone b ok) s = .next (u.eraseDone ok) ∧ exec (.stageVerifyDone b) s = .next u.verifyDone
      ∧ exec (.trialWindowEnd b) s = .next u.trialEnds ∧ exec (.trialNotRunning b) s = .next u.trialStuck
      ∧ (∀ ok, exec (.saveDone b ok) s = .next (u.saveDone ok))
      ∧ ∀ ok, exec (.settingsMigrationDone b ok) s = .next (u.migrationDone ok) :=
    ⟨at_runs rfl, at_runs rfl, at_runs rfl, at_runs rfl, fun _ => at_runs rfl, fun _ => at_runs rfl⟩
  have hlow {idx w st : Nat} {t : State} (h : q.takes 0 idx 0 w 0) (hidx : idx < 0x2000) (hw : w < 256 ^ typeSize (typeOf idx))
      (hact : q.actLow idx 0 w false = (st, t)) : dict_ b 0 idx 0 w false s = .next (t.answer st) :=
    dict_next_low (by decide) (by decide) hw h hidx hact
  have hhigh {st : Nat} {t : State} (hv : v < 256) (h : q.takes 0 0xF003 0 v 0) (hact : q.saveSettings = (st, t)) :
      exec (.saveSettings b v) s = .next (t.answer st) :=
    dict_next_high (by decide) (by decide) hv h (by decide) hact
  have hdata {o : Obj} {st : Nat} {t : State} (bad : Bool) := @execFwStageData_next s b n bs o st t bad
  obtain ⟨herase, hverify, hwindow, hstuck, hsave, hmigration⟩ := hends
  clear_value u
  refine ⟨fun hv h => ⟨?_, fun hst hr => ?_⟩, fun hv h => ?_, fun h => ⟨fun hb => ?_, fun hb => ?_⟩, fun h => ?_,
    fun h => ⟨fun hb => ?_, fun hb => ?_⟩, fun o h1 h2 h3 h4 h5 h6 h7 h8 h9 h10 => ⟨fun hb => ?_, fun hb hst hc => ⟨?_, ?_⟩⟩,
    fun h => ⟨fun hst => ?_, fun hst hblk => ?_, fun hst hblk => ?_⟩, fun h hst hs hr => ?_, fun h hst => ?_, ⟨?_, ?_⟩,
    ⟨fun h => ?_, fun h hn hr => ?_⟩, ?_, fun hv h => ⟨fun hb => ?_, fun hb hst hg => ?_⟩, fun h => ?_, fun h => ⟨?_, ?_⟩, fun h => ?_,
    fun h => ⟨?_, fun x hx => ?_⟩⟩
  · by_cases hr : q.fw.rolledBack = true
    · rw [if_pos hr]
      exact hlow h (by decide) hv (if_pos hr)
    · have hconfirm : (if q.fw.fwState = 0 then q else q.confirm) = q.confirm := by
        split
        next hst => exact (State.confirm_confirmed hst).symm
        · rfl
      rw [if_neg hr, hconfirm]
      exact hlow h (by decide) hv (if_neg hr)
  · exact State.confirm_leaves hst hr
  · by_cases hr : q.fw.fwState = 1 ∧ q.fw.rolledBack = false
    · rw [if_pos hr]
      exact hlow h (by decide) hv (if_pos (by simp [State.onTrial, hr]))
    · rw [if_neg hr]
      refine hlow h (by decide) hv (if_neg (fun ht => hr ?_))
      simpa [State.onTrial] using ht
  · exact hlow h (by decide) (by decide) (State.stageSet_busy 1 hb)
  · refine ⟨_, hlow h (by decide) (by decide) (State.stageSet_opens hb), rfl, rfl, ?_⟩
    exact memGet_flashErase q (bankBase bank) 0x400000
  · by_cases hb : q.fwBusy
    · rw [if_neg (fun hk => ?_)]
      · exact hlow h (by decide) (by decide) (State.stageSet_busy 2 hb)
      · obtain ⟨h0, h1, h4, -⟩ := hk
        rcases hb with hb | hb | hb
        · exact hb h0
        · exact h1 hb
        · exact h4 hb
    · have hfree : q.fw.fwState = 0 ∧ q.fw.save ≠ 1 ∧ q.fw.save ≠ 4 := by
        unfold State.fwBusy at hb
        tauto
      by_cases hst : q.fw.stage = 2
      · rw [if_pos ⟨hfree.1, hfree.2.1, hfree.2.2, hst⟩]
        exact hlow h (by decide) (by decide) ((State.stageSet_closes hb).trans (if_pos hst))
      · rw [if_neg (fun hk => hst hk.2.2.2)]
        exact hlow h (by decide) (by decide) ((State.stageSet_closes hb).trans (if_neg hst))
  · exact hlow h (by decide) (by decide) (State.stageSet_busy 0 hb)
  · obtain ⟨w, hw, hfw⟩ := State.stageSet_aborts hb
    exact ⟨w, hlow h (by decide) (by decide) hw, hfw⟩
  · exact hdata ok h1 h2 h3 h5 h6 h7 h8 h9 h10 (State.stageData_refused n bs ok hb)
  · refine ⟨_, hdata false h1 h2 h3 h5 h6 h7 h8 h9 h10 (State.stageData_programs hb hst hc bs), rfl, rfl, fun a => ?_⟩
    have hprogram := memGet_flashProgram q chunk a bs
    rw [h7] at hprogram
    exact hprogram
  · obtain ⟨w, hw, hfw, hflash⟩ := State.stageData_fails hb hst hc bs
    exact ⟨w, hdata true h1 h2 h3 h5 h6 h7 h8 h9 h10 hw, hfw, hflash⟩
  · exact hlow h (by decide) (by decide) (State.activate_refused 1 hst)
  · exact hlow h (by decide) (by decide) (State.activate_waiting hst hblk)
  · exact hlow h (by decide) (by decide) (State.activate_reboots hst hblk)
  · obtain ⟨w, hw⟩ := State.activate_defaults hst hs hr
    exact ⟨_, hlow h (by decide) (by decide) hw, rfl, rfl⟩
  · exact hlow h (by decide) (by decide) (State.activate_refused 2 hst)
  · rw [herase, State.eraseDone_eq]
  · rw [hverify, State.verifyDone_eq]
  · rw [hwindow, State.trialEnds_idle h]
  · rw [hwindow, State.trialEnds_judges h hn hr]
  · rw [hstuck, State.trialStuck_eq]
  · exact hhigh hv h (State.saveSettings_refused hb)
  · exact ⟨_, hhigh hv h (State.saveSettings_begins hb hst hg), rfl, rfl, rfl, rfl, State.saveTarget_ne q, rfl⟩
  · rw [hsave, State.saveDone_idle ok h]
  · rw [hsave, State.saveDone_fails h]
  · obtain ⟨w, hw, hfw⟩ := State.saveDone_ends h
    exact ⟨w, (hsave true).trans (congrArg _ hw), hfw⟩
  · rw [hmigration, State.migrationDone_idle ok h]
  · rw [hmigration, State.migrationDone_fails h]
  · obtain ⟨w, hw, hfw⟩ := State.migrationDone_ends h hx
    exact ⟨w, (hmigration true).trans (congrArg _ hw), hfw⟩
end

section
/-! The drain's end and the steps of an entry into Quiet mode (Table 15-4). -/

namespace Sys2Proof.Machine

open Sys2Proof

/-! ## Withdrawals leave the escapements' decisions -/

theorem State.bufSt_arrived (b : Option Nat) (x : BufState) (s : State) : Arrived s (s.bufSt b x) := by
  rw [State.bufSt_eq]
  rfl

theorem State.mergeRepend_arrived (n : Nat) (old new : Arrival) (s : State) : Arrived s (s.mergeRepend n old new).2 := by
  have hreturn (i : Nat) : Arrived s (s.returnBuf i false) := by
    obtain ⟨x, y, h⟩ := State.returnBuf_eq i false s
    rw [h]
    rfl
  unfold State.mergeRepend
  dsimp only
  split
  · split
    · show Arrived s (s.discardBuf n (some _))
      exact State.discardBuf_arrived _ _ s
    · exact (hreturn _).trans (State.bump_arrived _ _ _ _)
  · rfl
  · rfl

theorem State.backToPending_arrived (n : Nat) (info : Arrival) (s : State) : Arrived s (s.backToPending n info) := by
  have hpending (x : Source) (stamp : Beat) (a : Arrival) (z : State) : Arrived z ((z.setSrc n x).toPending n stamp false a) :=
    (State.setSrc_arrived _ _ z).trans (State.toPending_arrived _ _ _ _ _)
  unfold State.backToPending
  dsimp only
  split
  · exact ((State.mergeRepend_arrived _ _ _ s).trans (State.bump_arrived _ _ _ _)).trans (hpending _ _ _ _)
  · exact hpending _ _ _ s

theorem State.bcastState_arrived (n : Nat) (s : State) : Arrived s (s.bcastState n) := by
  have hagain (z : State) : Arrived z (z.bcastAgain n) := by
    unfold State.bcastAgain
    dsimp only
    split
    · exact State.setSrc_arrived _ _ z
    · exact State.select_arrived n z
  unfold State.bcastState
  dsimp only
  split
  · rfl
  · split
    · exact State.setSrc_arrived _ _ s
    · split
      · exact (State.bufSt_arrived _ _ s).trans ((State.mergeRepend_arrived _ _ _ _).trans
          ((State.setSrc_arrived _ _ _).trans ((State.bump_arrived _ _ _ _).trans (hagain _))))
      · exact (State.bufSt_arrived _ _ s).trans ((State.setSrc_arrived _ _ _).trans (hagain _))

theorem State.withdraw_esc (code : Nat) (d : Delivery) (s : State) : (s.withdraw code d).esc = s.esc := by
  have hbcast (x : Source) (z : State) : ((z.setSrc d.src x).bcastState d.src).esc = z.esc :=
    ((State.setSrc_arrived _ _ z).trans (State.bcastState_arrived _ _)).esc
  have hback (z : State) : ((z.bufSt d.info.buf .staged).backToPending d.src d.info).esc = z.esc :=
    ((State.bufSt_arrived _ _ z).trans (State.backToPending_arrived _ _ _)).esc
  unfold State.withdraw
  dsimp only
  rw [State.note_esc]
  split
  · exact hbcast _ _
  · exact hback _

theorem State.drainWithdraw_esc (e : Nat) (s : State) : (s.drainWithdraw e).esc = s.esc :=
  each_keep (fun z => z.esc = s.esc) _ (fun d z h => ((State.bump_esc _ _ _ _).trans (State.withdraw_esc 8 d z)).trans h) _ s rfl

/-- Outside a mismatch a drain's end decides at once. -/
theorem State.drainEsc_esc (e : Nat) (s : State) : (s.drainEsc false e).esc = s.esc := by
  unfold State.drainEsc
  split
  · rfl
  · exact State.drainWithdraw_esc e s

theorem State.undecidedDrain_of_esc {s t : State} (h : t.esc = s.esc) (e : Nat) : t.undecidedDrain e = s.undecidedDrain e := by
  unfold State.undecidedDrain
  rw [State.escAt_of_esc h]

/-- A drain whose withdrawals are all decided goes on to the steps of the entry. -/
theorem State.quietDrained_steps {u : State} (r4 r9 : BitVec 16) (h : u.quiet.code = 1 ∧ (u.dlv = [] ∨ u.quiet.drainUntil ≤ u.now))
    (hdecided : ∀ e, e < 8 → u.row8.undecidedDrain e = false) :
    u.quietDrained false r4 r9 = (each (State.drainEsc false) (List.range 8) u.row8).quietSteps r4 r9 := by
  have hesc : (each (State.drainEsc false) (List.range 8) u.row8).esc = u.row8.esc :=
    each_keep (fun z => z.esc = u.row8.esc) _ (fun e z hz => (State.drainEsc_esc e z).trans hz) _ _ rfl
  have hnone : ((List.range 8).any (each (State.drainEsc false) (List.range 8) u.row8).undecidedDrain) = false := by
    rw [List.any_eq_false]
    intro e he
    rw [State.undecidedDrain_of_esc hesc, hdecided e (List.mem_range.mp he)]
    decide
  have hgo : (u.quiet.code == 1 && (u.dlv.isEmpty || Decidable.decide (u.quiet.drainUntil ≤ u.now))) = true := by
    obtain ⟨hcode, hdrain⟩ := h
    simpa [hcode] using hdrain
  unfold State.quietDrained
  rw [if_pos hgo]
  exact if_neg (by rw [hnone]; decide)

theorem State.quietDrained_idle {u : State} (mm : Bool) (r4 r9 : BitVec 16)
    (h : ¬ (u.quiet.code = 1 ∧ (u.dlv = [] ∨ u.quiet.drainUntil ≤ u.now))) : u.quietDrained mm r4 r9 = u := by
  refine if_neg (fun hgo => h ?_)
  simpa using hgo

/-! ## The steps 3 to 8 -/

theorem State.raiseInt_fw (n : Nat) (s : State) : (s.raiseInt n).fw = s.fw :=
  ite_keeps_fn State.fw rfl (State.arrive_still n s.cnt true .none none s (Still.refl s)).fw

theorem State.chrLost_fw (s : State) : s.chrLost.fw = s.fw := by rw [State.chrLost_eq]

theorem State.chrWrite_fw (s : State) : s.chrWrite.fw = s.fw := by
  unfold State.chrWrite
  split
  · rfl
  · split
    · rfl
    · extract_lets n c before lap slot s1 s2 s3 lapped s4 t s5 stale
      have h3 : s3.fw = s.fw := State.bump_fw _ _ _ _
      have hdial : ((s3.bump 0x1722 0 1).dial 17 0).fw = s3.fw := by rw [State.dial_fw, State.bump_fw]
      have h4 : s4.fw = s3.fw := ite_keeps_fn State.fw (ite_keeps_fn State.fw hdial (State.bump_fw _ _ _ _)) rfl
      have h5 : s5.fw = s4.fw := ite_keeps_fn State.fw (State.raiseInt_fw 13 s4) rfl
      have hstale : (loop stale 0 32 s5.chrLost).fw = s5.chrLost.fw :=
        loop_keep (fun z => z.fw = s5.chrLost.fw) stale (fun scope z h => ((ite_keeps_fn State.fw rfl rfl : (stale scope z).fw = z.fw)).trans h) 32 0 _ rfl
      rw [hstale, State.chrLost_fw, h5, h4, h3]

theorem State.times_chrWrite_fw (n : Nat) (s : State) : (times State.chrWrite n s).fw = s.fw := by
  induction n generalizing s with
  | zero => rfl
  | succ n ih => exact (ih s.chrWrite).trans (State.chrWrite_fw s)

theorem State.engStop_fw (n : Nat) (s : State) : (s.engStop n).fw = s.fw := by
  have hstale : (s.goStale n).fw = s.fw := ite_keeps_fn State.fw rfl (State.dial_fw _ _ _)
  have hdiscard : (s.discardFrame n).fw = s.fw :=
    (ite_keeps_fn State.fw hstale rfl : (if (s.engAt n).frame && !(s.engAt n).aborted then s.goStale n else s).fw = s.fw)
  have hout (z : State) : (z.doutIdle n).fw = z.fw :=
    ite_keeps_fn State.fw (each_keep (fun w : State => w.fw = z.fw) State.emit (fun o w h => (State.emit_fw o w).trans h) _ _ rfl) rfl
  exact ite_keeps_fn State.fw ((hout _).trans hdiscard) rfl

theorem State.tandemChanged_same (s : State) : s.tandemChanged.fw = s.fw ∧ s.tandemChanged.tdm = s.tdm := by
  obtain ⟨l, h⟩ := State.raiseLate_eq 14 s
  unfold State.tandemChanged
  rw [h]
  exact ⟨rfl, rfl⟩

theorem State.note_lanes (ev : Ev) (n : Nat) (old : Source) (s : State) : (s.note ev n old).tdm.lanes = s.tdm.lanes := by
  have hput (k : Nat) (ten : Option Nat) (body : List Byte) : (s.chrPut k ten body).tdm = s.tdm := State.chrPut_tdm k ten body s
  unfold State.note
  extract_lets x a c tgt told
  have htold : told.tdm = s.tdm := ite_keeps_fn State.tdm (hput _ _ _) rfl
  have hlanes : told.tdm.lanes = s.tdm.lanes := by rw [htold]
  clear_value told
  split
  · exact hlanes
  · exact hlanes

/-- A delivery returned to PENDING changes its source, objects and the payload pool. -/
theorem State.backToPending_eq (n : Nat) (info : Arrival) (s : State) : ∃ src obj buf back,
    s.backToPending n info = { s with src := src, obj := obj, buf := buf, poolBack := back } := by
  have hmerge (old new : Arrival) : ∃ obj buf back, (s.mergeRepend n old new).2 = { s with obj := obj, buf := buf, poolBack := back } := by
    have hreturn (i k : Nat) (el : Nat) : ∃ obj buf back,
        (s.returnBuf i false).bump k el 1 = { s with obj := obj, buf := buf, poolBack := back } := by
      obtain ⟨x, y, h⟩ := State.returnBuf_eq i false s
      rw [h]
      exact ⟨_, _, _, rfl⟩
    unfold State.mergeRepend
    dsimp only
    split
    · split
      · exact hreturn _ _ _
      · exact hreturn _ _ _
    · exact ⟨s.obj, s.buf, s.poolBack, rfl⟩
    · exact ⟨s.obj, s.buf, s.poolBack, rfl⟩
  have hpending (x : Source) (stamp : Beat) (a : Arrival) (z : State) :
      ∃ src obj, (z.setSrc n x).toPending n stamp false a = { z with src := src, obj := obj } := by
    unfold State.toPending
    rw [State.select_eq]
    exact ⟨_, _, rfl⟩
  unfold State.backToPending
  dsimp only
  split
  · obtain ⟨obj, buf, back, h⟩ := hmerge info (s.srcAt n).rep
    rw [h]
    obtain ⟨src, obj', h'⟩ := hpending { (s.srcAt n).toIdle with keptLseq := (s.srcAt n).keptLseq } (s.srcAt n).stamp
      (s.mergeRepend n info (s.srcAt n).rep).1 (({ s with obj := obj, buf := buf, poolBack := back } : State).bump 0x7010 n 1)
    rw [h']
    exact ⟨_, _, _, _, rfl⟩
  · obtain ⟨src, obj, h⟩ := hpending { (s.srcAt n).toIdle with keptLseq := (s.srcAt n).keptLseq } (s.srcAt n).stamp info s
    rw [h]
    exact ⟨_, _, _, _, rfl⟩

/-- A loss of the lanes leaves them DOWN, and the firmware's record alone. -/
theorem State.lanesDown_leaves (s : State) : (s.lanesDown false).fw = s.fw ∧ (s.lanesDown false).tdm.lanes = 0 := by
  have hback (n : Nat) (a : Arrival) (z : State) : (z.backToPending n a).tdm.lanes = z.tdm.lanes := by
    obtain ⟨_, _, _, _, h⟩ := State.backToPending_eq n a z
    rw [h]
  have hforward (d : Delivery) (z : State) : (z.revokeForward d).fw = z.fw ∧ (z.revokeForward d).tdm.lanes = z.tdm.lanes := by
    refine ⟨(State.revokeForward_still d z (Still.refl z)).fw, ?_⟩
    have hrevoke (w : State) : (w.revokeBuf d.info.buf .staged).tdm = w.tdm := by
      unfold State.revokeBuf
      split <;> rfl
    unfold State.revokeForward
    rw [State.note_lanes, hback, hrevoke]
    rfl
  have hforwards (e : Nat) (z : State) : (z.forwardsDown false e).fw = z.fw ∧ (z.forwardsDown false e).tdm.lanes = z.tdm.lanes := by
    have heach (l : List Delivery) : (each State.revokeForward l z).fw = z.fw ∧ (each State.revokeForward l z).tdm.lanes = z.tdm.lanes :=
      each_keep (fun w => w.fw = z.fw ∧ w.tdm.lanes = z.tdm.lanes) _
        (fun d w h => ⟨(hforward d w).1.trans h.1, (hforward d w).2.trans h.2⟩) l z ⟨rfl, rfl⟩
    unfold State.forwardsDown
    dsimp only
    split
    · exact ⟨rfl, rfl⟩
    · exact heach _
  have hall (l : List Nat) (z : State) :
      (each (State.forwardsDown false) l z).fw = z.fw ∧ (each (State.forwardsDown false) l z).tdm.lanes = z.tdm.lanes :=
    each_keep (fun w => w.fw = z.fw ∧ w.tdm.lanes = z.tdm.lanes) _
      (fun e w h => ⟨(hforwards e w).1.trans h.1, (hforwards e w).2.trans h.2⟩) l z ⟨rfl, rfl⟩
  have htold (z : State) : ((z.chrTandem 2 0).dial 24 0).tandemChanged.fw = z.fw
      ∧ ((z.chrTandem 2 0).dial 24 0).tandemChanged.tdm.lanes = z.tdm.lanes := by
    obtain ⟨hfw, htdm⟩ := State.tandemChanged_same ((z.chrTandem 2 0).dial 24 0)
    rw [hfw, htdm, State.dial_fw, State.dial_tdm]
    unfold State.chrTandem
    rw [State.chrPut_fw, State.chrPut_tdm]
    exact ⟨rfl, rfl⟩
  unfold State.lanesDown
  extract_lets was tdm down
  have hdown : down.fw = s.fw ∧ down.tdm.lanes = 0 := ⟨rfl, rfl⟩
  clear_value down
  by_cases hwas : was = 0
  · rw [if_pos hwas]
    exact ⟨rfl, hwas⟩
  · rw [if_neg hwas]
    split
    · exact ⟨by rw [(htold _).1, (hall _ _).1, hdown.1], by rw [(htold _).2, (hall _ _).2, hdown.2]⟩
    · exact hdown

/-- What the steps of an entry leave. -/
def State.fellQuiet (t : State) : Prop :=
  t.quiet.code = 2 ∧ t.quiet.stepsDone = true ∧ t.quiet.ddrAsleep = true ∧ t.chr.selfRefresh = true
    ∧ t.chr.flushing = false ∧ t.time.mode = .quiet ∧ t.time.ppsOutUntil = none ∧ t.fw.regState = 4 ∧ t.tdm.lanes = 0
    ∧ (t.pfD3 = true ∨ (t.fn 0).aspm = true → t.linkL0 = false) ∧ (t.phyNamed = true → t.quiet.adv ≠ none)

/-- The end of steps 3 to 8: the state is quiet. -/
def State.goQuiet (phy : Nat) (r4 r9 : BitVec 16) (stop : List Nat) (s : State) : State :=
  ({ s with
    chr := { s.chr with selfRefresh := true, flushing := false }
    linkL0 := s.linkL0 && !s.pfD3 && !(s.fn 0).aspm
    time := { s.time with mode := .quiet, spanAdv := none, spanTicks := 0, ppsOutUntil := none, resumeAtTick := false, balFrac := 0 }
    quiet := { s.quiet with code := 2, stepsDone := true, ddrAsleep := true, sleptAt := s.now
                            adv := if s.phyNamed && s.quiet.adv.isNone then some (phy, r4, r9) else s.quiet.adv
                            engStopped := ascending (s.quiet.engStopped ++ stop) } } : State).bump 0x1408 0 1

theorem State.goQuiet_leaves {s : State} (phy : Nat) (r4 r9 : BitVec 16) (stop : List Nat) (hreg : s.fw.regState = 4)
    (hlanes : s.tdm.lanes = 0) : (s.goQuiet phy r4 r9 stop).fellQuiet := by
  have hphy : (s.goQuiet phy r4 r9 stop).phyNamed = s.phyNamed := by
    have h (e : Nat) (he : e = 0x1405 ∨ e = 0x1800) : (s.goQuiet phy r4 r9 stop).o e 0 = s.o e 0 := by
      unfold State.goQuiet
      refine (State.o_bump_ne _ _ _ _ ?_).trans rfl
      rcases he with rfl | rfl <;> decide
    unfold State.phyNamed
    rw [h _ (Or.inl rfl), h _ (Or.inr rfl)]
  refine ⟨rfl, rfl, rfl, rfl, rfl, rfl, rfl, hreg, hlanes, fun h => ?_, fun h => ?_⟩
  · have hlink : (s.goQuiet phy r4 r9 stop).linkL0 = (s.linkL0 && !s.pfD3 && !(s.fn 0).aspm) := rfl
    have hd3 : (s.goQuiet phy r4 r9 stop).pfD3 = s.pfD3 := rfl
    have hfn : (s.goQuiet phy r4 r9 stop).fn 0 = s.fn 0 := rfl
    rw [hd3, hfn] at h
    rw [hlink]
    rcases h with h | h <;> simp [h]
  · rw [hphy] at h
    have hadv : (s.goQuiet phy r4 r9 stop).quiet.adv
        = if s.phyNamed && s.quiet.adv.isNone then some (phy, r4, r9) else s.quiet.adv := rfl
    rw [hadv, h]
    cases s.quiet.adv <;> simp

theorem State.quietSteps_leaves (r4 r9 : BitVec 16) (s : State) : (s.quietSteps r4 r9).fellQuiet := by
  unfold State.quietSteps
  extract_lets fw z1 z2 z3 stop z4 z5 phy z6
  have hfw : z5.fw.regState = 4 := by
    rw [show z5.fw = z4.fw from (State.lanesDown_leaves z4).1,
      show z4.fw = z3.fw from each_keep (fun w : State => w.fw = z3.fw) State.engStop
        (fun n w h => (State.engStop_fw n w).trans h) stop z3 rfl,
      show z3.fw = z2.fw from State.times_chrWrite_fw _ z2]
    rfl
  have hlanes : z5.tdm.lanes = 0 := (State.lanesDown_leaves z4).2
  have hphy : z6.fw.regState = 4 ∧ z6.tdm.lanes = 0 := by
    clear_value z5
    by_cases hnamed : z5.phyNamed = true
    · rw [show z6 = z5.advertise phy 0x0041 0 from if_pos hnamed]
      exact ⟨hfw, hlanes⟩
    · rw [show z6 = z5 from if_neg hnamed]
      exact ⟨hfw, hlanes⟩
  clear_value z6 stop phy
  exact State.goQuiet_leaves phy r4 r9 stop hphy.1 hphy.2

end Sys2Proof.Machine
end

section
/-! Supply monitoring, the last gasp and Quiet mode (15). -/

namespace Sys2Proof.Machine

open Sys2Proof

variable {u : State}

/-! ## Sense inputs -/

theorem State.adc_idle (code : Nat) (h : u.supply.running = false) : u.adc code = u := if_neg (by simp [h])

theorem State.adc_runs (code : Nat) (h : u.supply.running = true) : u.adc code
    = let x := u.supply
      let slot := x.adcSlot
      let next := (slot + 1) % 16
      if slot % 2 = 0 then { u.setO 0x1309 0 code with supply :=
        { x with adcSlot := next, dipMin := if x.gaspState = 1 then min x.dipMin code else x.dipMin } }
      else if slot = 1 then { u.setO 0x130A 0 code with supply := { x with adcSlot := next } }
      else { u.setO 0x130B (slot / 2 - 1) (Config.railMillivolts (slot / 2 - 1) code % 65536) with
        supply := { x with adcSlot := next } } := by
  unfold State.adc
  rw [if_pos h]
  dsimp only
  split
  · by_cases hgasp : u.supply.gaspState = 1
    · rw [if_pos hgasp]
      exact if_pos hgasp
    · rw [if_neg hgasp]
      exact if_neg hgasp
  · split <;> rfl

/-- An alarm condition is established or cleared. -/
def State.alarmChanges (u : State) (k : Nat) (on : Bool) (level since : Nat) : Prop :=
  u.supply.running = true ∧ (if k = 0 then u.supply.feedHigh else if k = 1 then u.supply.ibvLow else u.supply.ibvHigh) ≠ on
    ∧ u.alarmSide k on level = true ∧ u.snsHeld (if k = 0 then 0 else 1) since = true

theorem State.alarmSide_iff (k : Nat) (on : Bool) (level : Nat) : u.alarmSide k on level = true
    ↔ if on = true then u.o (0x1302 + k) 0 ≠ 0 ∧ (if k = 1 then level < u.o (0x1302 + k) 0 else u.o (0x1302 + k) 0 < level)
      else if k = 1 then u.o (0x1302 + k) 0 + (if k = 0 then u.o 0x1301 0 else 16) < level
      else level + (if k = 0 then u.o 0x1301 0 else 16) < u.o (0x1302 + k) 0 := by
  unfold State.alarmSide
  dsimp only
  cases on
  · simp only [Bool.false_eq_true, if_false]
    split <;> exact decide_eq_true_iff
  · simp only [if_true, Bool.and_eq_true, bne_iff_ne]
    refine and_congr_right (fun _ => ?_)
    split <;> exact decide_eq_true_iff

theorem State.snsHeld_iff (el since : Nat) : u.snsHeld el since = true ↔ since + (u.o 0x1305 el + 7) / 8 * 8 ≤ u.now := decide_eq_true_iff

theorem State.supplyAlarm_iff (k : Nat) (on : Bool) (level since : Nat) :
    (u.supply.running && (if k = 0 then u.supply.feedHigh else if k = 1 then u.supply.ibvLow else u.supply.ibvHigh) != on
      && u.alarmSide k on level && u.snsHeld (if k = 0 then 0 else 1) since) = true ↔ u.alarmChanges k on level since := by
  unfold State.alarmChanges
  simp only [Bool.and_eq_true, bne_iff_ne, and_assoc]

theorem State.supplyAlarm_kept {k : Nat} {on : Bool} {level since : Nat} (h : ¬ u.alarmChanges k on level since) :
    u.supplyAlarm k on level since = u := if_neg (fun hgo => h ((State.supplyAlarm_iff k on level since).mp hgo))

theorem State.supplyAlarm_turns {k : Nat} {on : Bool} {level since : Nat} (h : u.alarmChanges k on level since) :
    u.supplyAlarm k on level since
      = let t : State := { u with supply := if k = 0 then { u.supply with feedHigh := on } else if k = 1 then { u.supply with ibvLow := on }
          else { u.supply with ibvHigh := on } }
        if on then (t.bump 0x1315 0 1).dial 23 0 else t := if_pos ((State.supplyAlarm_iff k on level since).mpr h)

/-! ## Warnings and recoveries -/

/-- A warning is established. -/
def State.feedWarns (u : State) (level since : Nat) : Prop :=
  u.supply.running = true ∧ u.o 0x1300 0 ≠ 0 ∧ level < u.o 0x1300 0 ∧ u.snsHeld 0 since = true

theorem State.feedWarns_iff (level since : Nat) :
    (u.supply.running && u.o 0x1300 0 != 0 && level < u.o 0x1300 0 && u.snsHeld 0 since) = true ↔ u.feedWarns level since := by
  unfold State.feedWarns
  simp only [Bool.and_eq_true, bne_iff_ne, decide_eq_true_eq, and_assoc]

theorem State.feedWarning_kept {level since : Nat} (h : ¬ u.feedWarns level since) : u.feedWarning level since = u :=
  if_neg (fun hgo => h ((State.feedWarns_iff level since).mp hgo))

theorem State.feedWarning_later {level since : Nat} (h : u.feedWarns level since) (hstate : u.supply.gaspState ≠ 0) :
    u.feedWarning level since = { u with supply := { u.supply with
      feedLow := true, warnAt := if u.supply.gaspState = 2 then u.now else u.supply.warnAt } } := by
  unfold State.feedWarning
  rw [if_pos ((State.feedWarns_iff level since).mpr h)]
  dsimp only
  rw [if_neg hstate]
  split <;> rfl

/-- The hold-off begins. -/
def State.heldOff (u : State) : State := { u with
  supply := { u.supply with feedLow := true, gaspState := 1, warnAt := u.now, holdLen := u.o 0x1306 0, holdEnd := u.now + u.o 0x1306 0,
                            dipMin := u.o 0x1300 0 }
  gasp := { u.gasp with prepared := true } }

theorem State.feedWarning_first {level since : Nat} (h : u.feedWarns level since) (hstate : u.supply.gaspState = 0) :
    u.feedWarning level since = let z := ((u.heldOff.raiseInt 2).chrSupply 1 0).chrFlush
      if z.quiet.code = 0 then z else z.wake 4 0 := by
  unfold State.feedWarning
  rw [if_pos ((State.feedWarns_iff level since).mpr h)]
  have hwake (z : State) : (if (z.quiet.code != 0) = true then z.wake 4 0 else z) = if z.quiet.code = 0 then z else z.wake 4 0 := by
    by_cases hz : z.quiet.code = 0 <;> simp [hz]
  exact (if_pos hstate).trans (hwake ((u.heldOff.raiseInt 2).chrSupply 1 0).chrFlush)

/-- A recovery is established. -/
def State.feedRecovers (u : State) (level since : Nat) : Prop :=
  u.supply.running = true ∧ u.o 0x1300 0 + u.o 0x1301 0 < level ∧ u.snsHeld 0 since = true

theorem State.feedRecovers_iff (level since : Nat) :
    (!(u.supply.running && u.feedBack < level && u.snsHeld 0 since)) = true ↔ ¬ u.feedRecovers level since := by
  unfold State.feedRecovers State.feedBack
  simp only [Bool.not_eq_true', Bool.eq_false_iff, ne_eq, Bool.and_eq_true, decide_eq_true_eq, and_assoc]

theorem State.bk_leaves (f : Backup → Backup) (z : State) : (z.bk f).obj = z.obj ∧ (z.bk f).src = z.src
    ∧ (z.bk f).backup = if z.backup.present then f z.backup else z.backup := by
  rw [State.bk_eq]
  exact ⟨rfl, rfl, rfl⟩

theorem State.feedRecovery_kept {level since : Nat} (h : ¬ u.feedRecovers level since) : u.feedRecovery level since = u :=
  if_pos ((State.feedRecovers_iff level since).mpr h)

section
variable {level since : Nat} (h : u.feedRecovers level since)
include h

theorem State.feedRecovery_clears (hstate : u.supply.gaspState ≠ 1 ∨ u.supply.holdEnd ≤ u.now) :
    u.feedRecovery level since = { u with supply := { u.supply with feedLow := false } } := by
  have hgo : ¬ (!(u.supply.running && u.feedBack < level && u.snsHeld 0 since)) = true :=
    fun hk => (State.feedRecovers_iff level since).mp hk h
  refine (if_neg hgo).trans (if_neg (fun hk => ?_))
  simp only [Bool.and_eq_true, decide_eq_true_eq] at hk
  obtain ⟨hone, hnow⟩ := hk
  rcases hstate with hstate | hstate
  · exact hstate hone
  · exact absurd hnow (Nat.not_lt.mpr hstate)

theorem State.feedRecovery_dip (hstate : u.supply.gaspState = 1) (hnow : u.now < u.supply.holdEnd) :
    u.feedRecovery level since
      = let us := min 65535 ((u.now - u.supply.warnAt) / 800)
        let z := ((({ u with supply := { u.supply with feedLow := false } } : State).raiseInt 3).chrSupply 2 us).bk (fun k => { k with
          dipCount := k.dipCount + 1, dipDepth := u.supply.dipMin, dipTime := us, dipReset := field k.resetCount.toNat 0 16 })
        { z with supply := { z.supply with gaspState := 0 }, gasp := { z.gasp with prepared := false } } := by
  have hgo : ¬ (!(u.supply.running && u.feedBack < level && u.snsHeld 0 since)) = true :=
    fun hk => (State.feedRecovers_iff level since).mp hk h
  have hdip : (Decidable.decide (u.supply.gaspState = 1) && Decidable.decide (u.now < u.supply.holdEnd)) = true := by
    simp [hstate, hnow]
  exact (if_neg hgo).trans (if_pos hdip)

end

/-! ## The last gasp -/

theorem State.gaspCommit_early (h : u.supply.gaspState ≠ 1 ∨ u.now < u.supply.holdEnd) : u.gaspCommit = u := by
  refine if_neg (fun hk => ?_)
  simp only [Bool.and_eq_true, decide_eq_true_eq] at hk
  obtain ⟨hone, hnow⟩ := hk
  rcases h with h | h
  · exact h hone
  · exact absurd hnow (Nat.not_le.mpr h)

/-- The report number that a client's copies carry. -/
def State.gaspNumber (s : State) (c : Nat) : Nat := ((smGet (fun _ => Client.init) s.port.clients c).reportNo + 1) % 2 ^ 32

/-- A client's report number is taken. -/
def State.takeReport (c : Nat) (s : State) : State :=
  let y := smGet (fun _ => Client.init) s.port.clients c
  let cl := smSet (fun _ => Client.init) s.port.clients c { y with reportNo := (y.reportNo + 1) % 2 ^ 32 }
  { s with port := { s.port with clients := cl } }

theorem each_takeReport_eq (cs : List Nat) (s : State) : ∃ port, each State.takeReport cs s = { s with port := port } :=
  each_keep (fun z => ∃ port, z = { s with port := port }) _ (fun c z ⟨port, h⟩ => ⟨_, by rw [h]; rfl⟩) cs s ⟨s.port, rfl⟩

/-- The gasp that is committed. -/
def State.gaspTaken (s : State) : State :=
  let dests := s.gaspClients.map (fun c => (c, s.gaspNumber c))
  { s with
    supply := { s.supply with gaspState := 2 }
    gasp := { prepared := false, commitAt := s.now, commitBeat := s.cnt, feedCode := s.o 0x1309 0, holdUs := s.supply.holdLen / 800,
              dests := dests, rounds := 0, sending := !dests.isEmpty, pairLeft := 3 } }

/-- The gasp committed, its report numbers taken and GASP_COUNT counted. -/
def State.gaspCounted (s : State) : State :=
  (each State.takeReport s.gaspClients s.gaspTaken).bk (fun k => { k with gaspCount := k.gaspCount + 1 })

theorem State.gaspCommit_commits (hstate : u.supply.gaspState = 1) (hnow : u.supply.holdEnd ≤ u.now) :
    u.gaspCommit = let w := (u.gaspCounted.raiseInt 1).chrSupply 3 (u.supply.holdLen / 800)
      if w.tdm.lanes = 2 then
        ({ w with tdm := { w.tdm with queue := w.tdm.queue ++ [.gasp w.backup.resetCount (u.supply.holdLen / 800)] } } : State).pump
      else w := by
  have hgo : (Decidable.decide (u.supply.gaspState = 1) && Decidable.decide (u.supply.holdEnd ≤ u.now)) = true := by simp [hstate, hnow]
  exact if_pos hgo

/-- What the committed gasp shows. -/
theorem State.gaspCounted_leaves (u : State) : u.gaspCounted.supply = { u.supply with gaspState := 2 }
    ∧ u.gaspCounted.gasp.commitAt = u.now ∧ u.gaspCounted.gasp.holdUs = u.supply.holdLen / 800 ∧ u.gaspCounted.gasp.pairLeft = 3
    ∧ u.gaspCounted.gasp.dests.map Prod.fst = u.gaspClients ∧ (u.gaspCounted.gasp.sending = true ↔ u.gaspClients ≠ [])
    ∧ u.gaspCounted.backup.gaspCount = (if u.backup.present then u.backup.gaspCount + 1 else u.backup.gaspCount)
    ∧ u.gaspCounted.src = u.src ∧ u.gaspCounted.obj = u.obj ∧ u.gaspCounted.quiet = u.quiet := by
  have hdests (cs : List Nat) (f : Nat → Nat × Nat) (hf : ∀ c, (f c).1 = c) : (cs.map f).map Prod.fst = cs := by
    rw [List.map_map]
    exact (List.map_congr_left (fun c _ => hf c)).trans (List.map_id cs)
  obtain ⟨port, h⟩ := each_takeReport_eq u.gaspClients u.gaspTaken
  unfold State.gaspCounted
  rw [h, State.bk_eq]
  refine ⟨rfl, rfl, rfl, rfl, hdests _ _ (fun c => rfl), ?_, ?_, rfl, rfl, rfl⟩
  · show (!(u.gaspClients.map _).isEmpty) = true ↔ _
    cases u.gaspClients <;> simp
  · show (if u.backup.present = true then _ else _ : Backup).gaspCount = _
    split <;> rfl

theorem State.gaspRearm_eq (level since : Nat) : u.gaspRearm level since
    = if u.supply.gaspState = 2 ∧ u.o 0x1300 0 + u.o 0x1301 0 < level ∧ u.supply.warnAt ≤ since ∧ since + 800000000 ≤ u.now
      then { u with supply := { u.supply with gaspState := 0, feedLow := false } } else u := by
  unfold State.gaspRearm State.feedBack
  refine if_congr ?_ rfl rfl
  simp only [Bool.and_eq_true, decide_eq_true_eq, and_assoc]

theorem State.gaspDiscard_eq (u : State) : u.gaspDiscard = if u.gasp.sending = true ∧ u.gasp.commitAt + 1600000 ≤ u.now then
    { u with gasp := { u.gasp with sending := false, rounds := 3 } } else u := by
  unfold State.gaspDiscard
  refine if_congr ?_ rfl rfl
  simp only [Bool.and_eq_true, decide_eq_true_eq]

/-! ## Entry into Quiet mode -/

/-- Something in progress refuses an entry (R354). -/
def State.entryBusy (q : State) : Prop :=
  q.supply.gaspState = 1 ∨ q.gasp.sending = true ∨ q.supply.feedLow = true ∨ q.winds ≠ [] ∨ q.blk ≠ []
    ∨ (∃ f ∈ q.func, f.2.rst ≠ .none) ∨ q.fw.save = 1 ∨ q.fw.save = 4 ∨ q.fw.migrateDue = true ∨ q.fw.stage = 1
    ∨ q.fw.stage = 2 ∨ q.fw.stage = 3

theorem State.quietBlocked_iff (q : State) : q.quietBlocked = true ↔ q.entryBusy := by
  unfold State.quietBlocked State.gasping State.entryBusy
  simp only [Bool.or_eq_true, beq_iff_eq, Bool.not_eq_true', List.isEmpty_eq_false_iff, List.any_eq_true, bne_iff_ne, or_assoc]

theorem State.quietBegin_waits {t0 : Nat} (h : u.quiet.beginAt = none
    ∨ u.quiet.beginAt = some t0 ∧ (u.now < t0 ∨ u.delayHeld 0x1400 = true)) : u.quietBegin = u := by
  unfold State.quietBegin
  rcases h with h | ⟨h, hwait⟩
  · rw [h]
  · rw [h]
    refine if_neg (fun hk => ?_)
    simp only [Bool.and_eq_true, decide_eq_true_eq, Bool.not_eq_true'] at hk
    rcases hwait with hwait | hwait
    · exact absurd hk.1.1.1 (Nat.not_le.mpr hwait)
    · exact absurd (hwait.symm.trans hk.1.2) (by decide)

theorem State.quietBegin_begins {t0 : Nat} (h : u.quiet.beginAt = some t0) (hnow : t0 ≤ u.now) (hcode : u.quiet.code = 0)
    (hdelay : u.delayHeld 0x1400 = false) (hd3 : u.quiet.d3Waits = false ∨ u.quietBlocked = false) :
    u.quietBegin = { u with quiet := { u.quiet with
      code := 1, beginAt := none, d3Waits := false, issueStop := true, drainUntil := u.now + u.o 0x1403 0 } } := by
  unfold State.quietBegin
  rw [h]
  refine if_pos ?_
  rcases hd3 with hd3 | hd3 <;> simp [hnow, hcode, hdelay, hd3]

/-! ## Wakes -/

/-- The bits of a wake cause (Table 15-6). -/
def wakeBits (cause src : Nat) : Nat := 2 ^ cause + (if cause = 0 then src * 65536 else 0)

theorem State.wake_awake (cause src : Nat) (h : u.quiet.code ≠ 1 ∧ u.quiet.code ≠ 2 ∧ u.quiet.code ≠ 3) : u.wake cause src = u := by
  unfold State.wake
  dsimp only
  rw [if_neg h.2.1, if_neg h.2.2, if_neg h.1]

/-- WAKE_CAUSE and WAKE_BEAT of a first cause. -/
def State.wakeNoted (bits : Nat) (s : State) : State := (s.setO 0x1406 0 bits).setO 0x1407 0 s.cnt.toNat

theorem State.wakeNoted_o (bits : Nat) (s : State) :
    (s.wakeNoted bits).o 0x1406 0 = bits ∧ (s.wakeNoted bits).o 0x1407 0 = s.cnt.toNat := by
  unfold State.wakeNoted
  exact ⟨(State.o_setO_ne _ _ _ _ (by decide)).trans (State.o_setO _ _ _ _), State.o_setO _ _ _ _⟩

theorem State.o_of_obj {s t : State} (h : t.obj = s.obj) (i e : Nat) : t.o i e = s.o i e := by
  unfold State.o
  rw [h]

/-- A quiet device with its first cause noted. -/
def State.wakingUp (bits : Nat) (s : State) : State :=
  { s.wakeNoted bits with quiet := { s.quiet with code := 3, d3Bar := s.pfD3 }, wakeLow := s.perst }

theorem State.wake_first (cause src : Nat) (h : u.quiet.code = 2) : (u.wake cause src).o 0x1406 0 = wakeBits cause src
    ∧ (u.wake cause src).o 0x1407 0 = u.cnt.toNat ∧ (u.wake cause src).quiet = { u.quiet with code := 3, d3Bar := u.pfD3 }
    ∧ (u.wake cause src).wakeLow = u.perst := by
  have hwake : u.wake cause src = if (u.pfD3 && cause != 3 && u.pmeEn) = true then (u.wakingUp (wakeBits cause src)).post .pme
      else u.wakingUp (wakeBits cause src) := if_pos h
  obtain ⟨hobj, hquiet, hlow⟩ := State.post_pme_same (u.wakingUp (wakeBits cause src)) (u.pfD3 && cause != 3 && u.pmeEn)
  obtain ⟨hcause, hbeat⟩ := State.wakeNoted_o (wakeBits cause src) u
  have hnoted : (u.wakingUp (wakeBits cause src)).obj = (u.wakeNoted (wakeBits cause src)).obj := rfl
  rw [← hwake] at hobj hquiet hlow
  exact ⟨(State.o_of_obj (hobj.trans hnoted) _ _).trans hcause, (State.o_of_obj (hobj.trans hnoted) _ _).trans hbeat, hquiet, hlow⟩

theorem State.wake_later (cause src : Nat) (h : u.quiet.code = 3) : u.wake cause src
    = if bitOf (u.o 0x1406 0) cause = true then u else u.setO 0x1406 0 (u.o 0x1406 0 + wakeBits cause src) := by
  have hsecond : ¬ u.quiet.code = 2 := by omega
  exact (if_neg hsecond).trans (if_pos h)

theorem State.wake_entering (cause src : Nat) (h : u.quiet.code = 1) : u.wake cause src
    = { u.wakeNoted (wakeBits cause src + 32) with quiet := { u.quiet with code := 0, issueStop := false }, wakeLow := u.perst } := by
  have hsecond : ¬ u.quiet.code = 2 := by omega
  have hthird : ¬ u.quiet.code = 3 := by omega
  exact (if_neg hsecond).trans ((if_neg hthird).trans (if_pos h))

/-- A cause that wakes: a source only where it does, and is latched or asserted. -/
def State.causeWakes (u : State) (cause src : Nat) : Prop :=
  cause = 0 → u.wakes src = true ∧ ((∃ l ∈ u.quiet.latch, l.src = src) ∨ u.asserted src = true)

theorem State.quietWake_wakes {cause src : Nat} (h : u.causeWakes cause src) : u.quietWake cause src = u.wake cause src := by
  by_cases hcause : cause = 0
  · subst hcause
    obtain ⟨hwakes, hseen⟩ := h rfl
    refine (if_pos rfl).trans (if_pos ?_)
    simp only [hwakes, Bool.true_and, Bool.or_eq_true, List.any_eq_true, beq_iff_eq]
    exact hseen
  · refine (if_neg hcause).trans ?_
    unfold State.wake
    simp only [if_neg hcause]

theorem State.quietWake_kept {cause src : Nat} (h : ¬ u.causeWakes cause src) : u.quietWake cause src = u := by
  have hcause : cause = 0 := by
    by_contra hne
    exact h (fun h0 => absurd h0 hne)
  refine (if_pos hcause).trans (if_neg (fun hgo => h (fun _ => ?_)))
  simp only [Bool.and_eq_true, Bool.or_eq_true, List.any_eq_true, beq_iff_eq] at hgo
  exact hgo

/-! ## The resume -/

theorem State.wakeResume_idle (h : u.quiet.code ≠ 3) : u.wakeResume = u := if_neg h

theorem State.wakeResume_resumes (h : u.quiet.code = 3) : u.wakeResume
    = each (fun i z => (z.upToReq z.now).request i) u.quiet.held ({ u with quiet := { u.quiet with held := [] } } : State).resume :=
  if_pos h

theorem State.ddrExit_eq (u : State) : u.ddrExit = if u.quiet.ddrAsleep = true ∧ u.quiet.code = 0 then
    { u with chr := { u.chr with selfRefresh := false }, quiet := { u.quiet with ddrAsleep := false } } else u := by
  unfold State.ddrExit
  refine if_congr ?_ rfl rfl
  simp only [Bool.and_eq_true, beq_iff_eq]

theorem State.regResume_idle (h : u.quiet.code ≠ 0 ∨ u.fw.regState ≠ 4 ∨ u.fw.regBackTo = 4) : u.regResume = u := by
  refine if_neg (fun hgo => ?_)
  simp only [Bool.and_eq_true, beq_iff_eq, bne_iff_ne] at hgo
  obtain ⟨⟨hcode, hreg⟩, hback⟩ := hgo
  rcases h with h | h | h
  · exact h hcode
  · exact h hreg
  · exact hback h

theorem State.regResume_resumes (hcode : u.quiet.code = 0) (hreg : u.fw.regState = 4) (hback : u.fw.regBackTo ≠ 4) :
    u.regResume.quiet.engStopped = [] ∧ u.regResume.quiet.adv = none ∧ u.regResume.fw.regState = u.fw.regBackTo
      ∧ u.regResume.fw.regBackTo = 4 := by
  have hgo : (u.quiet.code == 0 && u.fw.regState == 4 && u.fw.regBackTo != 4) = true := by simp [hcode, hreg, hback]
  have hstart (l : List Nat) (z : State) : (each State.engStart l z).fw = z.fw :=
    each_keep (fun w : State => w.fw = z.fw) State.engStart
      (fun n w h => (ite_keeps_fn State.fw rfl (State.setEng_fw _ _ w) : (w.engStart n).fw = w.fw).trans h) l z rfl
  have hphy (z : State) : z.phyBack.fw = z.fw ∧ z.phyBack.quiet.adv = none := by
    unfold State.phyBack
    split
    next h => exact ⟨rfl, h⟩
    · exact ⟨rfl, rfl⟩
  have hgone (k : Nat) : (u.regGo k).fw.regState = k ∧ True := by
    unfold State.regGo
    dsimp only
    split <;> exact ⟨rfl, trivial⟩
  unfold State.regResume
  rw [if_pos hgo]
  extract_lets s1 fw s2 s3 s4
  have hfw : s4.fw = s2.fw := (hphy s3).1.trans (hstart _ s2)
  have hs2 : s2.fw.regState = u.fw.regBackTo ∧ s2.fw.regBackTo = 4 := ⟨(hgone u.fw.regBackTo).1, rfl⟩
  have hadv : s4.quiet.adv = none := (hphy s3).2
  rw [← hfw] at hs2
  clear_value s4
  exact ⟨rfl, hadv, hs2⟩

end Sys2Proof.Machine

open Sys2Proof Sys2Proof.Machine

/-- Settles O57: each command by the lemma of its case. -/
theorem supplyAndQuiet : Obligations.SupplyAndQuiet := by
  intro s b v k cause src t0 level since on mm r4 r9 u q x slot sup qui next held was ref back side changes alarm warns above
    recovers hold warned us busy commits drained wakes bits
  have hsupply : (v < 4096 → exec (.adcConversion b v) s = .next (u.adc v))
      ∧ (k < 3 → exec (.supplyAlarm b k on level since) s = .next (u.supplyAlarm k on level since))
      ∧ exec (.feedWarning b level since) s = .next (u.feedWarning level since)
      ∧ exec (.feedRecovery b level since) s = .next (u.feedRecovery level since) :=
    ⟨fun hv => at_runs (decide_eq_true hv), fun hk => at_runs (decide_eq_true hk), at_runs rfl, at_runs rfl⟩
  have hgasp : exec (.gaspCommit b) s = .next u.gaspCommit
      ∧ exec (.gaspRearm b level since) s = .next (u.gaspRearm level since)
      ∧ exec (.gaspCopyDiscard b) s = .next u.gaspDiscard := ⟨at_runs rfl, at_runs rfl, at_runs rfl⟩
  have hentry : exec (.quietEntryBegin b) s = .next u.quietBegin
      ∧ ∀ mm, exec (.quietDrainEnd b mm r4 r9) s = .next (u.quietDrained mm r4 r9) := ⟨at_runs rfl, fun _ => at_runs rfl⟩
  have hwakes : (cause < 5 → src < 4096 → exec (.quietWake b cause src) s = .next (u.quietWake cause src))
      ∧ exec (.wakeResume b) s = .next u.wakeResume ∧ exec (.selfRefreshExit b) s = .next u.ddrExit
      ∧ exec (.regulatorResume b) s = .next u.regResume :=
    ⟨fun hc hs => at_runs (by simp [hc, hs]), at_runs rfl, at_runs rfl, at_runs rfl⟩
  have henter {w st : Nat} {t : State} (h : q.takes 0 0x1400 0 w 0) (hw : w < 256 ^ typeSize (typeOf 0x1400))
      (hact : q.actLow 0x1400 0 w false = (st, t)) : exec (.quietEnter b w) s = .next (t.answer st) :=
    dict_next_low (by decide) (by decide) hw h (by decide) hact
  obtain ⟨hadc, halarm, hwarning, hrecovery⟩ := hsupply
  obtain ⟨hcommit, hrearm, hdiscard⟩ := hgasp
  obtain ⟨hbegin, hdrain⟩ := hentry
  obtain ⟨hwake, hresume, hddr, hregulator⟩ := hwakes
  clear_value u q
  have hheld (el : Nat) : u.snsHeld el since = true ↔ held el := State.snsHeld_iff el since
  have hwarns : u.feedWarns level since ↔ warns := by
    unfold State.feedWarns
    rw [hheld]
  have hrecovers : u.feedRecovers level since ↔ recovers := by
    unfold State.feedRecovers
    rw [hheld]
  have hchanges : u.alarmChanges k on level since ↔ changes := by
    unfold State.alarmChanges
    rw [hheld, State.alarmSide_iff]
  refine ⟨fun hv => ⟨fun hr => ?_, fun hr => ?_⟩, fun hk => ⟨fun hc => ?_, fun hc => ?_⟩, fun h => ?_, fun h hg => ?_, fun h hg => ?_,
    fun h => ?_, fun h hg => ?_, fun h hg hn => ?_, fun h => ?_, fun hg hn => ?_, ?_, ?_, fun hv h => ⟨fun hb => ?_, fun hb hc hn => ?_⟩,
    fun h => ?_, fun h hn hc hd h3 => ?_, fun h => ?_, fun h he => ?_, fun hc hs h => ?_, fun h hc => ?_, fun h hc => ?_, fun h hc => ?_,
    fun h => ?_, fun h => ?_, ?_, fun h => ?_, fun hc hr hb => ?_⟩
  · rw [hadc hv, State.adc_idle v hr]
  · rw [hadc hv, State.adc_runs v hr]
  · rw [halarm hk, State.supplyAlarm_turns (hchanges.mpr hc)]
  · rw [halarm hk, State.supplyAlarm_kept (fun hk => hc (hchanges.mp hk))]
  · rw [hwarning, State.feedWarning_kept (fun hk => h (hwarns.mp hk))]
  · rw [hwarning, State.feedWarning_later (hwarns.mpr h) hg]
  · exact ⟨_, rfl, rfl, hwarning.trans (congrArg _ (State.feedWarning_first (hwarns.mpr h) hg))⟩
  · rw [hrecovery, State.feedRecovery_kept (fun hk => h (hrecovers.mp hk))]
  · rw [hrecovery, State.feedRecovery_clears (hrecovers.mpr h) hg]
  · refine ⟨_, _, rfl, hrecovery.trans (congrArg _ (State.feedRecovery_dip (hrecovers.mpr h) hg hn)), rfl, rfl, ?_⟩
    exact State.bk_leaves _ _
  · rw [hcommit, State.gaspCommit_early h]
  · obtain ⟨h1, h2, h3, h4, h5, h6, h7, h8, h9, h10⟩ := State.gaspCounted_leaves u
    exact ⟨u.gaspCounted, h1, h2, h3, h4, h5, h6, h7, h8, h9, h10, hcommit.trans (congrArg _ (State.gaspCommit_commits hg hn))⟩
  · rw [hrearm, State.gaspRearm_eq]
  · rw [hdiscard, State.gaspDiscard_eq]
  · subst hv
    exact henter h (by decide) (if_pos ((State.quietBlocked_iff q).mpr hb))
  · subst hv
    have hschedule : q.quietSchedule false = qui q { q.quiet with beginAt := some (q.now + 8000), d3Waits := false } :=
      if_pos (by simp [hc, hn])
    rw [← hschedule]
    exact henter h (by decide) (if_neg (fun hk => hb ((State.quietBlocked_iff q).mp hk)))
  · rw [hbegin, State.quietBegin_waits h]
  · rw [hbegin, State.quietBegin_begins h hn hc hd h3]
  · rw [hdrain, State.quietDrained_idle mm r4 r9 h]
  · exact ⟨_, (hdrain false).trans (congrArg _ (State.quietDrained_steps r4 r9 h he)), State.quietSteps_leaves r4 r9 _⟩
  · rw [hwake hc hs]
    by_cases hcause : u.causeWakes cause src
    · rw [State.quietWake_wakes hcause]
      rcases h with h | h
      · exact absurd ⟨hc, hs, hcause⟩ h
      · rw [State.wake_awake cause src h]
    · rw [State.quietWake_kept hcause]
  · obtain ⟨hcause, hsrc, h⟩ := h
    exact ⟨_, (hwake hcause hsrc).trans (congrArg _ (State.quietWake_wakes h)), State.wake_first cause src hc⟩
  · obtain ⟨hcause, hsrc, h⟩ := h
    exact (hwake hcause hsrc).trans (congrArg _ ((State.quietWake_wakes h).trans (State.wake_later cause src hc)))
  · obtain ⟨hcause, hsrc, h⟩ := h
    obtain ⟨ho, hbeat⟩ := State.wakeNoted_o (wakeBits cause src + 32) u
    refine ⟨_, (hwake hcause hsrc).trans (congrArg _ ((State.quietWake_wakes h).trans (State.wake_entering cause src hc))), ?_, ?_, rfl, rfl⟩
    · exact (State.o_of_obj rfl _ _).trans ho
    · exact (State.o_of_obj rfl _ _).trans hbeat
  · rw [hresume, State.wakeResume_idle h]
  · rw [hresume, State.wakeResume_resumes h]
  · rw [hddr, State.ddrExit_eq]
  · rw [hregulator, State.regResume_idle h]
  · exact ⟨_, hregulator, State.regResume_resumes hc hr hb⟩
end

section
/-! Faults, their numbers and slots, and the chronograph's writer and windows (17). -/

namespace Sys2Proof.Machine

open Sys2Proof

/-! ## A fault's slots (R399) -/

theorem placeFault_ne_nil (f : Nat × Nat) (l : List (Nat × Nat)) : placeFault f l ≠ [] := by
  cases l with
  | nil => exact List.cons_ne_nil _ _
  | cons a t =>
    unfold placeFault
    split
    · exact List.cons_ne_nil _ _
    · exact List.cons_ne_nil _ _

/-- Two faults of one beat stand in the order of their codes, then of their INFO. -/
theorem placeFault_pair {c i d j : Nat} (h : c < d ∨ c = d ∧ i < j) :
    placeFault (c, i) [(d, j)] = [(c, i), (d, j)] ∧ placeFault (d, j) [(c, i)] = [(c, i), (d, j)] := by
  have hlater : (decide (d < c) || (d == c && decide (j < i))) = false := by
    simp only [Bool.or_eq_false_iff, decide_eq_false_iff_not, Bool.and_eq_false_iff, beq_eq_false_iff_ne]
    omega
  have hsooner : (decide (c < d) || (c == d && decide (i < j))) = true := by
    simpa only [Bool.or_eq_true, decide_eq_true_eq, Bool.and_eq_true, beq_iff_eq] using h
  exact ⟨if_pos hsooner, if_neg (by rw [hlater]; decide)⟩

theorem faultEvents_keeps {α : Type} {f : State → α} (hdial : ∀ k (z : State), f (z.dial k 0) = f z)
    (hlate : ∀ (z : State) l, f { z with late := l } = f z) (code cls : Nat) (s : State) : f (faultEvents code cls s) = f s := by
  have hmaybe (c : Prop) [Decidable c] (k : Nat) (z : State) : f (if c then z.dial k 0 else z) = f z := by
    split
    · exact hdial k z
    · rfl
  have hraise (c : Prop) [Decidable c] (k : Nat) (z : State) : f (if c then z.raiseLate k else z) = f z := by
    split
    · obtain ⟨l, h⟩ := State.raiseLate_eq k z
      rw [h, hlate]
    · rfl
  unfold faultEvents
  rw [hraise, hmaybe, hmaybe, hdial]

/-- What a fault leaves in the slots, the numbers and the counters. -/
structure State.FaultLeft (code info : Nat) (s t : State) : Prop where
  faultB : t.faultB = { s.faultBase with list := placeFault (code, info) s.faultBase.list }
  first : t.first = (faultRun s.cnt t.faultB.list t.faultB).1.first
  multi : t.multi = (faultRun s.cnt t.faultB.list t.faultB).1.multi
  worst : t.worst = (faultRun s.cnt t.faultB.list t.faultB).1.worst
  seq : t.o 0x1602 0 = (faultRun s.cnt t.faultB.list t.faultB).1.seq
  count : t.o 0x1603 (faultClass code - 1) = satAdd 32 (s.o 0x1603 (faultClass code - 1)) 1
  cnt : t.cnt = s.cnt

theorem faultClass_lt (code : Nat) : faultClass code < 5 := by
  unfold faultClass
  split
  · decide
  · split
    · decide
    · split <;> decide

theorem State.fault_left (code info : Nat) (s : State) : s.FaultLeft code info (s.fault code info) := by
  obtain ⟨b, hb⟩ : ∃ b : FaultBeat, b = { s.faultBase with list := placeFault (code, info) s.faultBase.list } := ⟨_, rfl⟩
  obtain ⟨run, hrun⟩ : ∃ run, run = faultRun s.cnt b.list b := ⟨_, rfl⟩
  obtain ⟨body, q, h⟩ : ∃ body q, s.fault code info
      = faultEvents code (faultClass code) (faultRecords b run.1.seq (faultClass code) body q s) := by
    subst hrun hb
    exact ⟨_, _, rfl⟩
  have hlist : b.list.isEmpty = false := by
    rw [hb, List.isEmpty_eq_false_iff]
    exact placeFault_ne_nil _ _
  have hclass : faultClass code - 1 < 65536 := by
    have := faultClass_lt code
    omega
  have hslots : (s.faultSlots b).faultB = b := if_neg (by rw [hlist]; decide)
  have heq {α : Type} {f : State → α} (hdial : ∀ k (z : State), f (z.dial k 0) = f z)
      (hlate : ∀ (z : State) l, f { z with late := l } = f z) :
      f (s.fault code info) = f (faultRecords b run.1.seq (faultClass code) body q s) := by
    rw [h]
    exact faultEvents_keeps hdial hlate _ _ _
  have hput {α : Type} {f : State → α} (hput : ∀ (z : State), f (z.chrPut 2 none body) = f z)
      (hqueue : ∀ (z : State) q, f { z with chr := { z.chr with queue := q } } = f z) :
      f (faultRecords b run.1.seq (faultClass code) body q s)
        = f (((s.faultSlots b).setO 0x1602 0 run.1.seq).bump 0x1603 (faultClass code - 1) 1) := by
    unfold faultRecords
    rw [hqueue, hput]
  have hB : (s.fault code info).faultB = b := by
    rw [heq (f := State.faultB) (fun k z => State.dial_faultB k 0 z) (fun _ _ => rfl),
      hput (f := State.faultB) (State.chrPut_faultB 2 none body) (fun _ _ => rfl)]
    exact hslots
  refine ⟨hB.trans hb, ?_, ?_, ?_, ?_, ?_, ?_⟩
  · rw [hB, ← hrun, heq (f := State.first) (fun k z => State.dial_first k 0 z) (fun _ _ => rfl),
      hput (f := State.first) (State.chrPut_first 2 none body) (fun _ _ => rfl), hrun]
    rfl
  · rw [hB, ← hrun, heq (f := State.multi) (fun k z => State.dial_multi k 0 z) (fun _ _ => rfl),
      hput (f := State.multi) (State.chrPut_multi 2 none body) (fun _ _ => rfl), hrun]
    rfl
  · rw [hB, ← hrun, heq (f := State.worst) (fun k z => State.dial_worst k 0 z) (fun _ _ => rfl),
      hput (f := State.worst) (State.chrPut_worst 2 none body) (fun _ _ => rfl), hrun]
    rfl
  · rw [hB, ← hrun, heq (f := fun z => z.o 0x1602 0) (fun k z => State.o_dial k 0 _ _ z) (fun _ _ => rfl),
      hput (f := fun z => z.o 0x1602 0) (fun z => State.o_chrPut 2 none body z (by decide)) (fun _ _ => rfl)]
    exact (State.o_bump_ne _ _ _ _ (pkey_ne (by decide) (by decide) hclass)).trans (State.o_setO _ _ _ _)
  · rw [heq (f := fun z => z.o 0x1603 (faultClass code - 1)) (fun k z => State.o_dial k 0 _ _ z) (fun _ _ => rfl),
      hput (f := fun z => z.o 0x1603 (faultClass code - 1))
        (fun z => State.o_chrPut 2 none body z (pkey_ne (by decide) hclass (by decide))) (fun _ _ => rfl),
      State.o_bump, State.o_setO_ne _ _ _ _ (pkey_ne (by decide) hclass (by decide))]
    rfl
  · rw [heq (f := State.cnt) (fun k z => congrArg Time.counter (State.dial_time k 0 z)) (fun _ _ => rfl),
      hput (f := State.cnt) (fun z => congrArg Time.counter (State.chrPut_time 2 none body z)) (fun _ _ => rfl)]
    rfl

theorem nextSeq_toNat (q : Nat) : (BitVec.ofNat 32 (nextSeq q)).toNat = nextSeq q := by
  rw [BitVec.toNat_ofNat]
  refine Nat.mod_eq_of_lt ?_
  unfold nextSeq
  split <;> omega

/-- The record of a fault numbered after `q`. -/
def faultRec (q code info : Nat) (cnt : Beat) : FaultRec := ⟨BitVec.ofNat 32 (nextSeq q), code, faultClass code, info, cnt⟩

theorem FaultBeat.take_seq (q code info : Nat) (cnt : Beat) (b : FaultBeat) : (b.take (faultRec q code info cnt)).seq = nextSeq q :=
  nextSeq_toNat q

theorem FaultBeat.take_first (r : FaultRec) (b : FaultBeat) : (b.take r).first = if b.first = none then some r else b.first := by
  unfold FaultBeat.take
  cases b.first <;> rfl

/-- Two faults numbered one after the other. -/
theorem faultRun_pair (cnt : Beat) (c i d j : Nat) (b : FaultBeat) : (faultRun cnt [(c, i), (d, j)] b).1
    = (b.take (faultRec b.seq c i cnt)).take (faultRec (nextSeq b.seq) d j cnt) := by
  have h : (faultRun cnt [(c, i), (d, j)] b).1
      = (b.take (faultRec b.seq c i cnt)).take (faultRec (b.take (faultRec b.seq c i cnt)).seq d j cnt) := rfl
  rw [h, FaultBeat.take_seq]

/-- The slots before a beat's first fault. -/
theorem State.faultBase_empty {s : State} (h : s.faultB.list = []) : s.faultBase = ⟨[], s.o 0x1602 0, s.first, s.multi, s.worst⟩ :=
  if_pos (List.isEmpty_iff.mpr h)

theorem State.faultBase_of_list {s : State} (h : s.faultB.list ≠ []) : s.faultBase = s.faultB :=
  if_neg (fun he => h (List.isEmpty_iff.mp he))

section
variable {u : State} (hnone : u.faultB.list = [])
include hnone

/-- A beat's only fault. -/
theorem State.fault_alone (c i : Nat) : let t := u.faultBase.take (faultRec (u.o 0x1602 0) c i u.cnt)
    (u.fault c i).first = t.first ∧ (u.fault c i).multi = t.multi ∧ (u.fault c i).worst = t.worst ∧ (u.fault c i).o 0x1602 0 = t.seq := by
  have h := State.fault_left c i u
  have hB : (u.fault c i).faultB = ⟨[(c, i)], u.o 0x1602 0, u.first, u.multi, u.worst⟩ := by
    rw [h.faultB, State.faultBase_empty hnone]
    rfl
  have hfirst := h.first
  have hmulti := h.multi
  have hworst := h.worst
  have hseq := h.seq
  rw [hB] at hfirst hmulti hworst hseq
  rw [State.faultBase_empty hnone]
  exact ⟨hfirst, hmulti, hworst, hseq⟩

/-- Two faults of a beat, by the order in which their list holds them. -/
theorem State.fault_fault {c i d j c1 i1 c2 i2 : Nat} (hl : placeFault (d, j) [(c, i)] = [(c1, i1), (c2, i2)]) :
    let t := (u.faultBase.take (faultRec (u.o 0x1602 0) c1 i1 u.cnt)).take (faultRec (nextSeq (u.o 0x1602 0)) c2 i2 u.cnt)
    let z := (u.fault c i).fault d j
    z.first = t.first ∧ z.multi = t.multi ∧ z.worst = t.worst ∧ z.o 0x1602 0 = t.seq := by
  intro t z
  have h1 := State.fault_left c i u
  have h2 := State.fault_left d j (u.fault c i)
  have hB1 : (u.fault c i).faultB = ⟨[(c, i)], u.o 0x1602 0, u.first, u.multi, u.worst⟩ := by
    rw [h1.faultB, State.faultBase_empty hnone]
    rfl
  have hB2 : z.faultB = ⟨[(c1, i1), (c2, i2)], u.o 0x1602 0, u.first, u.multi, u.worst⟩ := by
    rw [h2.faultB, State.faultBase_of_list (by rw [hB1]; exact List.cons_ne_nil _ _), hB1, hl]
  have ht : t = ((⟨[], u.o 0x1602 0, u.first, u.multi, u.worst⟩ : FaultBeat).take (faultRec (u.o 0x1602 0) c1 i1 u.cnt)).take
      (faultRec (nextSeq (u.o 0x1602 0)) c2 i2 u.cnt) := by
    rw [← State.faultBase_empty hnone]
  have hfirst := h2.first
  have hmulti := h2.multi
  have hworst := h2.worst
  have hseq := h2.seq
  rw [h1.cnt, hB2, faultRun_pair] at hfirst hmulti hworst hseq
  rw [ht]
  exact ⟨hfirst, hmulti, hworst, hseq⟩

end

theorem FaultBeat.take_take (r r' : FaultRec) (b : FaultBeat) :
    ((b.take r).take r').first = (if b.first = none then some r else b.first) ∧ ((b.take r).take r').multi = true := by
  have hsome : (b.take r).first ≠ none := by
    rw [FaultBeat.take_first]
    split
    · exact Option.some_ne_none _
    next h => exact h
  refine ⟨(FaultBeat.take_first r' _).trans ((if_neg hsome).trans (FaultBeat.take_first r b)), ?_⟩
  show ((b.take r).multi || (b.take r).first.isSome) = true
  rw [Option.isSome_iff_ne_none.mpr hsome, Bool.or_true]

/-! ## FAULT_CLEAR -/

/-- The slot holds the record a FAULT_CLEAR names. -/
def faultHit (v : Nat) (y : Option FaultRec) : Bool := match y with | some r => v != 0 && r.seq.toNat == v | none => false

theorem faultHit_iff (v : Nat) (y : Option FaultRec) : faultHit v y = true ↔ v ≠ 0 ∧ ∃ f, y = some f ∧ f.seq.toNat = v := by
  cases y with
  | none => simp [faultHit]
  | some r => simp [faultHit]

/-- The slots with the records a FAULT_CLEAR names emptied. -/
def FaultBeat.cleared (v : Nat) (f : FaultBeat) : FaultBeat :=
  { f with
    first := if faultHit v f.first then none else f.first, multi := f.multi && !faultHit v f.first
    worst := if faultHit v f.worst then none else f.worst }

theorem State.faultClear_misses {q : State} {v : Nat} (hfirst : faultHit v q.faultBase.first = false)
    (hworst : faultHit v q.faultBase.worst = false) : q.faultClear v = (6, q) := by
  refine if_pos (show (!faultHit v q.faultBase.first && !faultHit v q.faultBase.worst) = true from ?_)
  rw [hfirst, hworst]
  rfl

theorem State.faultClear_hits {q : State} {v : Nat} (h : faultHit v q.faultBase.first = true ∨ faultHit v q.faultBase.worst = true) :
    q.faultClear v = (0, q.faultSlots (q.faultBase.cleared v)) := by
  refine if_neg (show ¬ (!faultHit v q.faultBase.first && !faultHit v q.faultBase.worst) = true from ?_)
  rcases h with h | h <;> simp [h]

/-- What the faults of a beat leave in FIRST is kept, or is the first of them. -/
theorem faultRun_first (cnt : Beat) (l : List (Nat × Nat)) (b : FaultBeat) :
    (faultRun cnt l b).1.first = if b.first = none then (faultRun cnt l b).2.head? else b.first := by
  have hkept (l : List (Nat × Nat)) (b : FaultBeat) (h : b.first ≠ none) : (faultRun cnt l b).1.first = b.first := by
    induction l generalizing b with
    | nil => rfl
    | cons f t ih =>
      have htake (r : FaultRec) : (b.take r).first = b.first := (FaultBeat.take_first r b).trans (if_neg h)
      exact (ih (b.take _) (by rw [htake]; exact h)).trans (htake _)
  by_cases hb : b.first = none
  · rw [if_pos hb]
    cases l with
    | nil => exact hb
    | cons f t =>
      have htake (r : FaultRec) : (b.take r).first = some r := (FaultBeat.take_first r b).trans (if_pos hb)
      exact (hkept t _ (by rw [htake]; exact Option.some_ne_none _)).trans (htake _)
  · rw [if_neg hb]
    exact hkept l b hb

/-- The records of a beat's faults follow from FAULT_SEQ alone. -/
theorem faultRun_records (cnt : Beat) (l : List (Nat × Nat)) (b c : FaultBeat) (h : b.seq = c.seq) :
    (faultRun cnt l b).2 = (faultRun cnt l c).2 := by
  induction l generalizing b c with
  | nil => rfl
  | cons f t ih =>
    show (faultRec b.seq f.1 f.2 cnt) :: (faultRun cnt t (b.take (faultRec b.seq f.1 f.2 cnt))).2
      = (faultRec c.seq f.1 f.2 cnt) :: (faultRun cnt t (c.take (faultRec c.seq f.1 f.2 cnt))).2
    rw [h, ih (b.take (faultRec c.seq f.1 f.2 cnt)) (c.take (faultRec c.seq f.1 f.2 cnt)) rfl]

/-! ## The writer (R407, R412) -/

/-- The writer has nothing to write, or may not. -/
def State.writerIdle (u : State) : Prop :=
  u.chr.queue = [] ∨ u.chrAvail = false ∨ u.chr.selfRefresh = true ∨ (u.start.level = .l2w ∧ u.start.step < 8)

/-- The record in its slot, and the positions moved on. -/
def State.recordPut (r : ChrRec) (rest : List ChrRec) (u : State) : State :=
  let c := u.chr
  let lap := u.chrFill == u.slots
  { u with
    dram := memSetAll 0 u.dram (u.slotAddr (c.nextSeq.toNat % u.slots)) (recordBytes c.ringId c.nextSeq r)
    chr := { c with
      queue := rest, nextSeq := c.nextSeq + 1, readSeq := if lap then c.readSeq + 1 else c.readSeq
      wrapped := c.wrapped || c.nextSeq.toNat % u.slots + 1 == u.slots, flushOwes := c.flushOwes - 1, lapArmed := !lap } }

/-- CHR_WRITTEN counted, and the record lost by a lap. -/
def State.recordCounted (lap armed : Bool) (u : State) : State :=
  let s := u.bump 0x1720 0 1
  if lap then
    let s := s.bump 0x1722 0 1
    if armed then s.dial 17 0 else s
  else s

theorem State.recordCounted_same (lap armed : Bool) (u : State) : (u.recordCounted lap armed).dram = u.dram
    ∧ (u.recordCounted lap armed).chr = u.chr ∧ (u.recordCounted lap armed).src = u.src
    ∧ (u.recordCounted lap armed).chrWin = u.chrWin := by
  unfold State.recordCounted
  cases lap <;> cases armed <;> simp

theorem State.recordCounted_o (lap armed : Bool) (u : State) : (u.recordCounted lap armed).o 0x1720 0 = satAdd 32 (u.o 0x1720 0) 1
    ∧ (lap = true → (u.recordCounted lap armed).o 0x1722 0 = satAdd 32 (u.o 0x1722 0) 1) := by
  have hfirst (z : State) : (z.bump 0x1722 0 1).o 0x1720 0 = z.o 0x1720 0 := State.o_bump_ne _ _ _ _ (by decide)
  have hother : (u.bump 0x1720 0 1).o 0x1722 0 = u.o 0x1722 0 := State.o_bump_ne _ _ _ _ (by decide)
  unfold State.recordCounted
  cases lap
  · exact ⟨State.o_bump _ _ _ _, fun h => absurd h (by decide)⟩
  · cases armed <;> simp [hfirst, hother]

theorem State.recordCounted_o_other (lap armed : Bool) (u : State) {i : Nat} (h : i ≠ 0x1720 ∧ i ≠ 0x1722) :
    (u.recordCounted lap armed).o i 0 = u.o i 0 := by
  have hfirst (z : State) : (z.bump 0x1720 0 1).o i 0 = z.o i 0 := State.o_bump_ne _ _ _ _ (pkey_ne h.1 (by decide) (by decide))
  have hsecond (z : State) : (z.bump 0x1722 0 1).o i 0 = z.o i 0 := State.o_bump_ne _ _ _ _ (pkey_ne h.2 (by decide) (by decide))
  unfold State.recordCounted
  cases lap <;> cases armed <;> simp [hfirst, hsecond]

/-- A scope that sees the record has its window staged anew. -/
def ChrRec.staleFor (r : ChrRec) (scope : Nat) (s : State) : State :=
  if visibleTo scope r.attr then
    let w := smGet (fun _ => ChrWin.init) s.chrWin scope
    { s with chrWin := smSet (fun _ => ChrWin.init) s.chrWin scope { w with stale := true } }
  else s

theorem State.chrWrite_idle {u : State} (h : u.writerIdle) : u.chrWrite = u := by
  unfold State.chrWrite
  split
  · rfl
  next r rest hqueue =>
    refine if_pos ?_
    rcases h with h | h | h | h
    · exact absurd (hqueue.symm.trans h) (List.cons_ne_nil _ _)
    · simp [h]
    · simp [h]
    · simp [h]

theorem State.chrWrite_writes {u : State} {r : ChrRec} {rest : List ChrRec} (hqueue : u.chr.queue = r :: rest) (h : ¬ u.writerIdle) :
    u.chrWrite = let w := (u.recordPut r rest).recordCounted (u.chrFill == u.slots) u.chr.lapArmed
      loop r.staleFor 0 32 (if u.o 0x1702 0 ≠ 0 ∧ u.chrFill < u.o 0x1702 0 ∧ u.o 0x1702 0 ≤ w.chrFill then w.raiseInt 13 else w).chrLost := by
  have hgo : ¬ (!u.chrAvail || u.chr.selfRefresh || u.start.level == .l2w && Decidable.decide (u.start.step < 8)) = true := by
    intro hk
    refine h (Or.inr ?_)
    simpa [or_assoc] using hk
  have hfill : ((u.recordPut r rest).recordCounted (u.chrFill == u.slots) u.chr.lapArmed).o 0x1702 0 = u.o 0x1702 0 :=
    State.recordCounted_o_other _ _ _ (by decide)
  have hraise (w : State) (t : Nat) : (if (t != 0 && Decidable.decide (u.chrFill < t) && Decidable.decide (t ≤ w.chrFill)) = true then w.raiseInt 13 else w)
      = if t ≠ 0 ∧ u.chrFill < t ∧ t ≤ w.chrFill then w.raiseInt 13 else w := by
    refine if_congr ?_ rfl rfl
    simp only [Bool.and_eq_true, bne_iff_ne, decide_eq_true_eq, and_assoc]
  have hwrite : u.chrWrite = let w := (u.recordPut r rest).recordCounted (u.chrFill == u.slots) u.chr.lapArmed
      loop r.staleFor 0 32 (if (w.o 0x1702 0 != 0 && Decidable.decide (u.chrFill < w.o 0x1702 0) && Decidable.decide (w.o 0x1702 0 ≤ w.chrFill)) = true
        then w.raiseInt 13 else w).chrLost := by
    unfold State.chrWrite
    rw [hqueue]
    exact if_neg hgo
  rw [hwrite]
  dsimp only
  rw [hfill, hraise]

/-- The slot written holds the record, and every byte outside it is kept. -/
theorem State.recordPut_dram (r : ChrRec) (rest : List ChrRec) (u : State) :
    memGetAll 0 (u.recordPut r rest).dram (u.slotAddr (u.chr.nextSeq.toNat % u.slots)) 32 = recordBytes u.chr.ringId u.chr.nextSeq r
    ∧ ∀ x, x < u.slotAddr (u.chr.nextSeq.toNat % u.slots) ∨ u.slotAddr (u.chr.nextSeq.toNat % u.slots) + 32 ≤ x →
      memGet 0 (u.recordPut r rest).dram x = memGet 0 u.dram x := by
  have hlen := recordBytes_length u.chr.ringId u.chr.nextSeq r
  have hdram : (u.recordPut r rest).dram
      = memSetAll 0 u.dram (u.slotAddr (u.chr.nextSeq.toNat % u.slots)) (recordBytes u.chr.ringId u.chr.nextSeq r) := rfl
  rw [hdram]
  generalize recordBytes u.chr.ringId u.chr.nextSeq r = bs at hlen ⊢
  refine ⟨?_, fun x hx => memGet_set_out 0 u.dram _ bs x (by rw [hlen]; exact hx)⟩
  unfold memGetAll
  refine List.ext_getElem (by simp [hlen]) (fun i _ hi => ?_)
  rw [List.getElem_map, List.getElem_range]
  exact memGet_set_in 0 u.dram _ bs i hi

/-! ## Windows (R415, R416) -/

theorem State.refill_fresh {u : State} {scope : Nat} (h : (smGet (fun _ => ChrWin.init) u.chrWin scope).stale = false) :
    u.refill scope = u := if_neg (by rw [h]; decide)

theorem State.refill_stale {u : State} {scope : Nat} (h : (smGet (fun _ => ChrWin.init) u.chrWin scope).stale = true) :
    u.refill scope = let cur : Dw := BitVec.ofNat 32 (u.o 0x1710 scope)
      let from_ := if (cur - u.oldest).toInt < 0 then u.oldest else cur
      let got := if u.chrAvail then u.scan scope (u.chr.nextSeq - from_).toInt.toNat 7 from_ else (from_, [])
      { u with chrWin := smSet (fun _ => ChrWin.init) u.chrWin scope ⟨leBytes 4 got.1.toNat ++ leBytes 1 (got.2.length / 32)
        ++ leBytes 1 (b2n (Decidable.decide ((cur - u.oldest).toInt < 0))) ++ [0, 0] ++ got.2, false⟩ } := if_pos h

/-- A new ring of the chronograph. -/
theorem State.ringAnew_leaves (reason : Nat) (q : State) : (q.ringAnew reason).chr.nextSeq = 0 ∧ (q.ringAnew reason).chr.readSeq = 0
    ∧ (q.ringAnew reason).chr.wrapped = false ∧ (q.ringAnew reason).chr.rings = q.chr.rings + 1 ∧ (q.ringAnew reason).dram = q.dram
    ∧ (q.ringAnew reason).chr.ringId = field q.backup.resetCount.toNat 0 12 * 16 + q.chr.rings % 16 := by
  have hnew : (q.newRing reason).chr.nextSeq = 0 ∧ (q.newRing reason).chr.readSeq = 0 ∧ (q.newRing reason).chr.wrapped = false
      ∧ (q.newRing reason).chr.rings = q.chr.rings + 1 ∧ (q.newRing reason).dram = q.dram
      ∧ (q.newRing reason).chr.ringId = field q.backup.resetCount.toNat 0 12 * 16 + q.chr.rings % 16 := by
    unfold State.newRing
    dsimp only
    split
    · simp only [State.dial_chr, State.dial_dram, and_self]
    · exact ⟨rfl, rfl, rfl, rfl, rfl, rfl⟩
  unfold State.ringAnew
  split
  · exact hnew
  · dsimp only
    rw [State.dial_chr, State.dial_dram]
    exact hnew

theorem State.setReadSeq_leaves (v : Dw) (q : State) : (q.setReadSeq v).chr.readSeq = v ∧ (q.setReadSeq v).chr.nextSeq = q.chr.nextSeq
    ∧ (q.setReadSeq v).dram = q.dram ∧ (q.setReadSeq v).obj = q.obj := by
  unfold State.setReadSeq
  dsimp only
  split <;> exact ⟨rfl, rfl, rfl, rfl⟩

end Sys2Proof.Machine

open Sys2Proof Sys2Proof.Machine

/-- Settles O60: the faults of a beat through the run of their list, the writer through the record it puts. -/
theorem faultsAndChronograph : Obligations.FaultsAndChronograph := by
  intro s b array a k v pr el e code info scope tgt err r rest x u q chr after seq cls rec_ outranked base ue hit gone c blocked slot
    addr lap stale win cur lapped from_ got
  have hscrub (h : scrubOk array err a k = true) : exec (.scrub b array err a k) s = .next (u.scrub array err a k) := at_runs h
  have hrebuild (h : tgt < 1024) : exec (.rankRebuildEnd b tgt) s = .next (u.rebuildEnd tgt) := at_runs (decide_eq_true h)
  have hwriter : exec (.chrWrite b) s = .next u.chrWrite ∧ exec (.chrFlushDone b) s = .next u.chrFlushDone := ⟨at_runs rfl, at_runs rfl⟩
  have hrefill (h : scope < 32) : exec (.chrWindowRefill b scope) s = .next (u.refill scope) := at_runs (decide_eq_true h)
  have hlow {idx w st : Nat} {t : State} (h : q.takes 0 idx 0 w 0) (hidx : idx < 0x2000) (hw : w < 256 ^ typeSize (typeOf idx))
      (hact : q.actLow idx 0 w false = (st, t)) : dict_ b 0 idx 0 w false s = .next (t.answer st) :=
    dict_next_low (by decide) (by decide) hw h hidx hact
  have hcursor {st : Nat} {t : State} (hpr : pr < 32) (hel : el < 65536) (hv : v < 2 ^ 32) (h : q.takes pr 0x1710 el v e)
      (hact : q.actLow 0x1710 e v false = (st, t)) : exec (.chrCursorWrite b pr el v) s = .next (t.answer st) :=
    dict_next_low hpr hel hv h (by decide) hact
  obtain ⟨hwrite, hflushed⟩ := hwriter
  clear_value u q
  have hhit (y : Option FaultRec) : faultHit v y = true ↔ hit y := faultHit_iff v y
  have hgone (y : Option FaultRec) : gone y = if faultHit v y = true then none else y := by
    cases y with
    | none => exact (ite_self _).symm
    | some f =>
      refine if_congr ?_ rfl rfl
      simp [faultHit]
  have hpair (hnone : u.faultB.list = []) {z : State} {c i d j : Nat} (horder : code < a ∨ code = a ∧ info < k)
      (hl : placeFault (d, j) [(c, i)] = [(code, info), (a, k)]) (hz : z = (u.fault c i).fault d j) :
      z.first = (if u.first = none then some (rec_ seq code info) else u.first) ∧ z.multi = true
        ∧ z.worst = outranked (rec_ (after seq) a k) (outranked (rec_ seq code info) u.worst) ∧ z.o 0x1602 0 = after seq := by
    obtain ⟨hfirst, hmulti, hworst, hseq⟩ := State.fault_fault hnone hl
    obtain ⟨htfirst, htmulti⟩ := FaultBeat.take_take (faultRec (u.o 0x1602 0) code info u.cnt)
      (faultRec (nextSeq (u.o 0x1602 0)) a k u.cnt) u.faultBase
    rw [FaultBeat.take_seq] at hseq
    rw [htfirst] at hfirst
    rw [State.faultBase_empty hnone] at hfirst hworst
    subst hz
    exact ⟨hfirst, hmulti.trans htmulti, hworst, hseq⟩
  refine ⟨fun h => ⟨?_, ?_, ?_, ?_⟩, fun hnone => ⟨?_, ?_, ?_, ?_, fun horder z hz => ?_⟩, (State.fault_left code info u).count,
    fun ht => ?_, fun hv h => ⟨fun hmiss => ?_, fun hnone => ?_, fun hhits => ?_⟩, fun h => ?_, fun hqueue hgo => ?_,
    fun hv h => ?_, ?_, fun hv h => ?_, fun hv h => ?_, fun hv h => ⟨fun hno => ?_, fun hin => ?_⟩, fun hpr hel hv h => ?_,
    fun hs hw => ?_, fun hs hw => ?_⟩
  · rintro rfl
    exact hscrub h
  · rintro rfl
    exact hscrub h
  · rintro rfl
    exact hscrub h
  · rintro rfl
    have hword := hscrub h
    refine ⟨?_, ?_, ?_, ?_, ?_, ?_, ?_, ?_, ?_, ?_, ?_⟩
    all_goals rintro rfl
    iterate 10 exact hword
    exact ⟨_, hword, rfl, rfl, rfl, fun n => mem_insertNat _ _ n⟩
  · obtain ⟨hfirst, -, -, -⟩ := State.fault_alone hnone code info
    rw [hfirst, FaultBeat.take_first, State.faultBase_empty hnone]
    rfl
  · obtain ⟨-, hmulti, -, -⟩ := State.fault_alone hnone code info
    rw [hmulti, State.faultBase_empty hnone]
    rfl
  · obtain ⟨-, -, hworst, -⟩ := State.fault_alone hnone code info
    rw [hworst, State.faultBase_empty hnone]
    rfl
  · obtain ⟨-, -, -, hseq⟩ := State.fault_alone hnone code info
    rw [hseq, FaultBeat.take_seq]
    rfl
  · rcases hz with hz | hz
    · exact hpair hnone horder (placeFault_pair horder).2 hz
    · exact hpair hnone horder (placeFault_pair horder).1 hz
  · exact hrebuild ht
  · obtain ⟨hf, hw⟩ := hmiss
    exact hlow h (by decide) hv (State.faultClear_misses (Bool.eq_false_iff.mpr (fun hk => hf ((hhit _).mp hk)))
      (Bool.eq_false_iff.mpr (fun hk => hw ((hhit _).mp hk))))
  · have hbase : base = _ := State.faultBase_empty hnone
    rw [hbase]
    exact ⟨rfl, rfl, rfl⟩
  · have hact := State.faultClear_hits (hhits.imp (hhit _).mpr (hhit _).mpr)
    refine ⟨_, hlow h (by decide) hv hact, rfl, rfl, fun hnone => ?_, fun hsome => ?_⟩
    · have hcleared : q.faultBase.cleared v = ⟨[], q.o 0x1602 0, if faultHit v q.first then none else q.first,
          q.multi && !faultHit v q.first, if faultHit v q.worst then none else q.worst⟩ := by
        rw [State.faultBase_empty hnone]
        rfl
      rw [hcleared]
      refine ⟨(hgone q.first).symm, (hgone q.worst).symm, fun hf => ?_, fun hf => ?_⟩
      · show (q.multi && !faultHit v q.first) = false
        rw [(hhit _).mpr hf, Bool.not_true, Bool.and_false]
      · show (q.multi && !faultHit v q.first) = q.multi
        rw [Bool.eq_false_iff.mpr (fun hk => hf ((hhit _).mp hk)), Bool.not_false, Bool.and_true]
    · have hfirst := faultRun_first q.cnt base.list (q.faultBase.cleared v)
      rw [faultRun_records q.cnt base.list (q.faultBase.cleared v) base rfl] at hfirst
      have hcleared : (q.faultBase.cleared v).first = gone base.first := (hgone base.first).symm
      have hkept (h : ¬ gone base.first = none) : gone base.first = base.first := by
        rw [hgone] at h ⊢
        split
        next hk => exact absurd (if_pos hk) h
        · rfl
      refine hfirst.trans ?_
      rw [hcleared]
      by_cases hg : gone base.first = none
      · rw [if_pos hg, if_pos hg]
      · rw [if_neg hg, if_neg hg, hkept hg]
  · rw [hwrite, State.chrWrite_idle h]
  · obtain ⟨hdram, hchr, hsrc, hwin⟩ := State.recordCounted_same (u.chrFill == u.slots) c.lapArmed (u.recordPut r rest)
    obtain ⟨hcount, hlost⟩ := State.recordCounted_o (u.chrFill == u.slots) c.lapArmed (u.recordPut r rest)
    obtain ⟨hin, hout⟩ := State.recordPut_dram r rest u
    have haddr : ((u.recordPut r rest).recordCounted (u.chrFill == u.slots) c.lapArmed).slotAddr slot = u.slotAddr slot := by
      unfold State.slotAddr
      rw [State.recordCounted_o_other _ _ _ (by decide)]
      rfl
    refine ⟨(u.recordPut r rest).recordCounted (u.chrFill == u.slots) c.lapArmed, ?_, fun hx => ?_, ?_, ?_, fun hl => ?_, fun hl => ?_,
      hsrc, hwin, hcount, fun hl => hlost (beq_iff_eq.mpr hl), hwrite.trans (congrArg _ (State.chrWrite_writes hqueue hgo))⟩
    · unfold State.slotBytes
      rw [haddr, hdram]
      exact hin
    · rw [hdram]
      exact hout x hx
    · rw [hchr]
      rfl
    · rw [hchr]
      rfl
    · rw [hchr]
      exact if_pos (beq_iff_eq.mpr hl)
    · rw [hchr]
      exact if_neg (fun hk => hl (beq_iff_eq.mp hk))
  · exact hlow h (by decide) (by subst hv; decide) rfl
  · refine hflushed.trans (congrArg _ (if_congr ?_ rfl rfl))
    simp only [Bool.and_eq_true, Bool.or_eq_true, beq_iff_eq, Bool.not_eq_true']
    rfl
  · exact ⟨_, hlow h (by decide) (by subst hv; decide) rfl, rfl, State.ringAnew_leaves 3 q⟩
  · exact hlow h (by decide) hv rfl
  · exact hlow h (by decide) hv (if_neg (fun hk => hno (of_decide_eq_true hk)))
  · have hact : q.actLow 0x1706 0 v false = (0, q.setReadSeq (BitVec.ofNat 32 v)) := if_pos (decide_eq_true hin)
    obtain ⟨hread, hnext, hdram, hobj⟩ := State.setReadSeq_leaves (BitVec.ofNat 32 v) q
    refine ⟨_, hlow h (by decide) hv hact, rfl, ?_, hnext, hdram, hobj⟩
    exact (congrArg BitVec.toNat hread).trans ((BitVec.toNat_ofNat _ _).trans (Nat.mod_eq_of_lt hv))
  · refine ⟨_, hcursor hpr hel hv h rfl, rfl, State.o_setO _ _ _ _, smGet_set_same _ _ _ _, fun hx => smGet_set_other _ _ _ hx⟩
  · rw [hrefill hs, State.refill_fresh hw]
  · refine ⟨_, (hrefill hs).trans (congrArg _ (State.refill_stale hw)), smGet_set_same _ _ _ _, fun hx => smGet_set_other _ _ _ hx,
      rfl, rfl⟩
end

section
/-! The Dial blocks and the MSI-X vectors (11, 17). -/

namespace Sys2Proof.Machine

open Sys2Proof

theorem bitCount_zero : bitCount 0 = 0 := by
  unfold bitCount
  rw [List.length_eq_zero_iff, List.filter_eq_nil_iff]
  intro k _
  simp

theorem Func.pendClr_getLsbD (v : BitVec 64) (f : Func) (k : Nat) (hk : k < 64) : (f.pendClr v).dialPend.getLsbD k
    = (f.dialPend.getLsbD k && !(v.getLsbD k && !f.dialB.events.getLsbD k && !f.dialB.named.getLsbD k)) := by
  unfold Func.pendClr
  simp only [BitVec.getLsbD_and, BitVec.getLsbD_not, BitVec.getLsbD_or, hk, decide_true, Bool.true_and, Bool.not_or, Bool.and_assoc]

theorem Func.pendClr_kept (v : BitVec 64) (f : Func) (h : v &&& f.dialB.lost = 0) : (f.pendClr v).dialLost = f.dialLost := by
  show f.dialLost - bitCount (v &&& f.dialB.lost) = f.dialLost
  rw [h, bitCount_zero, Nat.sub_zero]

theorem Func.summary_iff (f : Func) : f.summary = true ↔ f.dialPend &&& f.dialEn ≠ 0 := bne_iff_ne

theorem State.dialTurn_eq (fn : Nat) (z : State) : z.dialTurn fn
    = let ended := z.setFn fn { z.fn fn with dialB := { DialBeat.init with was := (z.fn fn).summary } }
      if (z.fn fn).summary = true ∧ ((z.fn fn).dialB.was = false ∨ (z.fn fn).dialB.again = true) then ended.raiseVec fn 1 else ended := by
  unfold State.dialTurn
  refine if_congr ?_ rfl rfl
  simp only [Bool.and_eq_true, Bool.or_eq_true, Bool.not_eq_true']

/-- Vector `k` of the function may be sent, MSI-X Enable apart (R279). -/
def State.vecMay (z : State) (fn k : Nat) : Prop :=
  (z.fn fn).fmask = false ∧ ((z.fn fn).vec k).masked = false ∧ (z.fn fn).bme = true ∧ z.quiet.d3Bar = false

theorem State.vecGo_iff (z : State) (fn k : Nat) : z.vecGo fn k = true ↔ (z.fn fn).msixEn = true ∧ z.vecMay fn k := by
  unfold State.vecGo Func.vecReady State.vecMay
  simp only [Bool.and_eq_true, Bool.not_eq_true', and_assoc]

theorem State.resetting_eq_false_iff (z : State) (fn : Nat) : z.resetting fn = false ↔ (z.fn fn).rst ≠ .resetting := by
  unfold State.resetting
  rw [beq_eq_false_iff_ne]

section
variable {z : State} {fn k : Nat}

theorem State.raiseVec_discarded (h : (z.fn fn).rst = .resetting ∨ (z.fn fn).msixEn = false) : z.raiseVec fn k = z := by
  refine if_pos ?_
  rw [Bool.or_eq_true, Bool.not_eq_true']
  exact h.imp beq_iff_eq.mpr id

variable (hrst : (z.fn fn).rst ≠ .resetting) (hen : (z.fn fn).msixEn = true)
include hrst hen

theorem State.raiseVec_passes : ¬ (z.resetting fn || !(z.fn fn).msixEn) = true := by
  rw [(State.resetting_eq_false_iff z fn).mpr hrst, hen]
  decide

theorem State.raiseVec_sends (hmay : z.vecMay fn k) (hpba : ((z.fn fn).vec k).pba = false) :
    z.raiseVec fn k = z.post (.posted (.msix k) fn ((z.fn fn).vec k).addr [((z.fn fn).vec k).data]) := by
  refine (if_neg (State.raiseVec_passes hrst hen)).trans (if_pos ?_)
  rw [(State.vecGo_iff z fn k).mpr ⟨hen, hmay⟩, hpba]
  rfl

theorem State.raiseVec_pends (h : ¬ z.vecMay fn k ∨ ((z.fn fn).vec k).pba = true) :
    z.raiseVec fn k = z.setFn fn ((z.fn fn).setVec k { (z.fn fn).vec k with pba := true }) := by
  refine (if_neg (State.raiseVec_passes hrst hen)).trans (if_neg (fun hk => ?_))
  obtain ⟨hgo, hpba⟩ := (Bool.and_eq_true _ _ ▸ hk : z.vecGo fn k = true ∧ (!((z.fn fn).vec k).pba) = true)
  rcases h with h | h
  · exact h ((State.vecGo_iff z fn k).mp hgo).2
  · rw [h] at hpba
    exact absurd hpba (by decide)

end

theorem State.msixSend_sends {u : State} {fn k : Nat} (hpba : ((u.fn fn).vec k).pba = true) (hgo : u.vecGo fn k = true) :
    u.msixSend fn k = (u.setFn fn ((u.fn fn).setVec k { (u.fn fn).vec k with pba := false })).post
      (.posted (.msix k) fn ((u.fn fn).vec k).addr [((u.fn fn).vec k).data]) := by
  refine if_pos ?_
  rw [hpba, hgo]
  rfl

theorem State.msixSend_kept {u : State} {fn k : Nat} (h : ((u.fn fn).vec k).pba = false ∨ u.vecGo fn k ≠ true) : u.msixSend fn k = u := by
  refine if_neg (fun hk => ?_)
  obtain ⟨hpba, hgo⟩ := (Bool.and_eq_true _ _ ▸ hk : ((u.fn fn).vec k).pba = true ∧ u.vecGo fn k = true)
  rcases h with h | h
  · rw [h] at hpba
    exact absurd hpba (by decide)
  · exact h hgo

section
variable {z : State} (hstep : z.start.step = 12)
include hstep

theorem State.alertLow_iff (hporst : z.start.holdPorst = false) (hrstn : z.start.holdRstn = false) :
    z.alertLow = true ↔ (z.fn 0).dialPend &&& (z.fn 0).dialEn ≠ 0 := by
  unfold State.alertLow
  rw [hporst, hrstn, hstep]
  simp [Func.summary]

theorem State.irqOut_iff (fn : Nat) : z.irqOut fn = true
    ↔ fn < 16 ∧ z.present fn = true ∧ (z.fn fn).rst ≠ .resetting ∧ (z.fn fn).dialPend &&& (z.fn fn).dialEn ≠ 0 := by
  unfold State.irqOut
  rw [hstep]
  simp only [Bool.and_eq_true, decide_eq_true_eq, Func.summary_iff, Bool.not_eq_true', State.resetting_eq_false_iff]
  have hstarted : (z.start.level == Level.l3 || Decidable.decide (11 ≤ 12)) = true := by simp
  rw [hstarted]
  tauto

end

end Sys2Proof.Machine

open Sys2Proof Sys2Proof.Machine

/-- Settles O47: the writes by the block's own operations, the vectors by whether they may be sent. -/
theorem dialAndMsix : Obligations.DialAndMsix := by
  intro s b fn hi v q f d ev hfn
  have hwrites (h : q.takesMem fn) : exec (.dialPendSet b fn hi v) s = .next (q.dialPendSet fn hi v)
      ∧ exec (.dialPendClr b fn hi v) s = .next (q.dialPendClr fn hi v) ∧ exec (.dialEnSet b fn hi v) s = .next (q.dialEnSet fn hi v)
      ∧ exec (.dialEnClr b fn hi v) s = .next (q.dialEnClr fn hi v) :=
    ⟨req_takes (by simp [hfn]) rfl rfl h, req_takes (by simp [hfn]) rfl rfl h, req_takes (by simp [hfn]) rfl rfl h,
      req_takes (by simp [hfn]) rfl rfl h⟩
  clear_value q
  refine ⟨fun h => ⟨(hwrites h).1, ⟨f.pendClr ev, (hwrites h).2.1, rfl, fun k hk => ?_, rfl, rfl, fun hnone => ?_⟩,
    (hwrites h).2.2.1, (hwrites h).2.2.2⟩, fun z => ?_, fun z k hk => ⟨fun h => ?_, fun hr he hm hp => ?_, fun hr he h => ?_⟩,
    fun k hk => ?_, fun z hstep hporst hrstn => ⟨?_, ?_⟩⟩
  · exact Func.pendClr_getLsbD ev f k hk
  · exact Func.pendClr_kept ev f hnone
  · refine (State.dialTurn_eq fn z).trans (if_congr ?_ rfl rfl)
    rw [Func.summary_iff]
  · exact State.raiseVec_discarded h
  · exact State.raiseVec_sends hr he hm hp
  · exact State.raiseVec_pends hr he h
  · intro u g x may
    have hsend : exec (.msixPendingSend b fn k) s = .next (u.msixSend fn k) := at_runs (by simp [hfn, hk])
    refine ⟨fun hp hm => ?_, fun h => ?_⟩
    · exact hsend.trans (congrArg _ (State.msixSend_sends hp ((State.vecGo_iff u fn k).mpr hm)))
    · exact hsend.trans (congrArg _ (State.msixSend_kept (h.imp id (fun hm hk => hm ((State.vecGo_iff u fn k).mp hk)))))
  · exact State.alertLow_iff hstep hporst hrstn
  · exact State.irqOut_iff hstep fn
end

section
/-! A register write is its register's command (11, Table 11-7). -/

namespace Sys2Proof.Machine

open Sys2Proof

/-! ## The areas of the offsets -/

theorem regionOf_global {off : Nat} (h : off < 0x10000) : regionOf off = .global := if_pos h

theorem regionOf_mailbox {off : Nat} (h : 0x400000 ≤ off ∧ off < 0x800000) : regionOf off = .mailbox := by
  obtain ⟨hlo, hhi⟩ := h
  unfold regionOf
  simp (disch := omega) only [if_neg, if_pos]

theorem regionOf_bounds (off : Nat) : (regionOf off = .global ↔ off < 0x10000) ∧ (regionOf off = .dict ↔ 0x10000 ≤ off ∧ off < 0x20000)
    ∧ (regionOf off = .doorbell ↔ 0x100000 ≤ off ∧ off < 0x180000) := by
  unfold regionOf
  split_ifs <;> simp <;> omega

/-- Only a write into the doorbell window leaves the doorbells before it to arrive in their own time. -/
theorem ringsOnly_registerWrite (b fn : Nat) (w : MemWrite) :
    ringsOnly (.registerWrite b fn w) = decide (regionOf w.off = .doorbell) := by
  obtain ⟨-, -, h⟩ := regionOf_bounds w.off
  rw [decide_eq_decide.mpr h, Bool.decide_and]
  rfl

/-! ## Writes of one action register -/

/-- An offset of mailbox page `k`. -/
def pageOff (k r : Nat) : Nat := 0x400000 + 4096 * k + r

/-- The write TLP of one whole DW. -/
def dwWrite (off : Nat) (d : Dw) : MemWrite := ⟨off, [d], 0xF, 0, false⟩

theorem dwWrite_fits {fn off : Nat} (d : Dw) (halign : off % 4 = 0) (hoff : off < 0x800000) : writeFits fn (dwWrite off d) = true := by
  have hbar : 0x800000 ≤ barSize fn := by
    unfold barSize
    split <;> decide
  have hfits : tlpFits fn off 1 = true := by
    unfold tlpFits
    simp only [Bool.and_eq_true, beq_iff_eq, decide_eq_true_eq]
    omega
  show (tlpFits fn off 1 && decide (1 ≤ 128) && beFits 1 0xF 0) = true
  rw [hfits]
  rfl

theorem pairWrite_fits {k : Nat} (hk : k < 1024) (fn : Nat) (d e : Dw) : writeFits fn ⟨pageOff k 8, [d, e], 0xF, 0xF, false⟩ = true := by
  have hbar : 0x800000 ≤ barSize fn := by
    unfold barSize
    split <;> decide
  have hfits : tlpFits fn (pageOff k 8) 2 = true := by
    unfold tlpFits pageOff
    simp only [Bool.and_eq_true, beq_iff_eq, decide_eq_true_eq]
    omega
  show (tlpFits fn (pageOff k 8) 2 && decide (2 ≤ 128) && beFits 2 0xF 0xF) = true
  rw [hfits]
  rfl

/-- A register area's offset of action class that allows writes. -/
structure ActsAt (off : Nat) : Prop where
  action : isAction off = true
  writes : actionWrites off = true
  apart : inDictData off 1 = false

theorem State.regWrite_acts {off : Nat} (h : ActsAt off) (b fn : Nat) (d : Dw) (u : State) (hpage : u.pageAbsent fn off = false) :
    u.regWrite b fn (dwWrite off d) = u.actWrite b fn off d := by
  have hall : ((dwOffs off 1).all fun o => !isAction o) = false := by
    show (!isAction (off + 4 * 0) && true) = false
    rw [Nat.mul_zero, Nat.add_zero, h.action]
    rfl
  unfold State.regWrite
  refine (if_neg ?_).trans ((if_neg ?_).trans ((if_neg ?_).trans ((if_neg ?_).trans (if_pos ?_))))
  · show ¬ inDictData off 1 = true
    rw [h.apart]
    decide
  · show ¬ 2 < 1
    decide
  · show ¬ u.pageAbsent fn off = true
    rw [hpage]
    decide
  · show ¬ ((dwOffs off 1).all fun o => !isAction o) = true
    rw [hall]
    decide
  · show ((1 : Nat) == 1 && (0xF : BitVec 4) == 0xF && actionWrites off) = true
    rw [h.writes]
    rfl

theorem State.memWrite_registers {w : MemWrite} (b fn : Nat) (u : State) (hok : w.poisoned = false)
    (h : regionOf w.off = .global ∨ regionOf w.off = .dict ∨ regionOf w.off = .mailbox) : u.memWrite b fn w = u.regWrite b fn w := by
  have hserve : (if w.poisoned = true then (u.aerLog fn true).offFault fn w.off else u.regWrite b fn w) = u.regWrite b fn w :=
    if_neg (by rw [hok]; decide)
  unfold State.memWrite
  rcases h with h | h | h <;> rw [h] <;> exact hserve

section
variable {off : Nat} (hoff : off < 0x10000)
include hoff

theorem actsAt_global (h : off = 0x30 ∨ off = 0x40 ∨ (0x108 ≤ off ∧ off ≤ 0x127) ∨ (0x1000 ≤ off ∧ off ≤ 0x13FF)
    ∨ (0x1600 ≤ off ∧ off ≤ 0x19FF)) : ActsAt off := by
  refine ⟨?_, ?_, ?_⟩
  · unfold isAction
    rw [regionOf_global hoff]
    simp only [between, Bool.or_eq_true, beq_iff_eq, Bool.and_eq_true, decide_eq_true_eq]
    omega
  · unfold actionWrites
    rw [regionOf_global hoff]
    simp only [between, Bool.and_eq_true, Bool.not_eq_true', Bool.and_eq_false_iff, decide_eq_false_iff_not]
    omega
  · unfold inDictData
    simp only [Bool.and_eq_false_iff, decide_eq_false_iff_not]
    omega

theorem State.pageAbsent_global (u : State) (fn : Nat) : u.pageAbsent fn off = false := by
  unfold State.pageAbsent
  rw [regionOf_global hoff]
  rfl

end

theorem actsAt_dictCmd : ActsAt 0x10008 := ⟨by decide, by decide, by decide⟩

theorem State.pageAbsent_dict (u : State) (fn : Nat) : u.pageAbsent fn 0x10008 = false := rfl

/-! ## The mailbox pages -/

section
variable {k r : Nat} (hk : k < 1024) (hr : r < 4096)
include hk hr

theorem regionOf_pageOff : regionOf (pageOff k r) = .mailbox := regionOf_mailbox (by unfold pageOff; omega)

omit hk in
theorem pageOff_mod : pageOff k r % 4096 = r := by unfold pageOff; omega

omit hk in
theorem pageOff_page : (pageOff k r - 0x400000) / 4096 = k := by unfold pageOff; omega

theorem State.pageAbsent_mailbox {u : State} {fn : Nat} (hview : u.fromView 0x3000 fn k ≠ none) : u.pageAbsent fn (pageOff k r) = false := by
  unfold State.pageAbsent
  rw [regionOf_pageOff hk hr, pageOff_page hr]
  cases h : u.fromView 0x3000 fn k with
  | none => exact absurd h hview
  | some t => rfl

theorem actsAt_mailbox (h : r = 8 ∨ r = 12) : ActsAt (pageOff k r) := by
  refine ⟨?_, ?_, ?_⟩
  · unfold isAction
    rw [regionOf_pageOff hk hr, pageOff_mod hr]
    simp only [Bool.or_eq_true, beq_iff_eq]
    omega
  · unfold actionWrites
    rw [regionOf_pageOff hk hr, pageOff_mod hr]
    simp only [bne_iff_ne]
    omega
  · unfold inDictData pageOff
    simp only [Bool.and_eq_false_iff, decide_eq_false_iff_not]
    omega

theorem State.actWrite_mailbox (b fn : Nat) (v : Dw) (u : State) : u.actWrite b fn (pageOff k r) v
    = u.pageWrite fn k (fun t s => if r = 8 then s.tgtComplete b fn v t else s.freeCore t v) := by
  unfold State.actWrite
  rw [regionOf_pageOff hk hr, pageOff_mod hr, pageOff_page hr]

end

theorem pageOff_succ (k : Nat) : pageOff k 8 + 4 * 1 = pageOff k 12 := by unfold pageOff; omega

/-- The pair of COMPLETE and FREE in one write of two DWs. -/
theorem State.regWrite_pair {k : Nat} (hk : k < 1024) (b fn : Nat) (d e : Dw) (u : State) (hview : u.fromView 0x3000 fn k ≠ none) :
    u.regWrite b fn ⟨pageOff k 8, [d, e], 0xF, 0xF, false⟩ = u.pageWrite fn k (State.tgtPair b fn d e) := by
  have hacts := actsAt_mailbox hk (by decide) (Or.inl rfl : (8 : Nat) = 8 ∨ (8 : Nat) = 12)
  have hall : ((dwOffs (pageOff k 8) 2).all fun o => !isAction o) = false := by
    show (!isAction (pageOff k 8 + 4 * 0) && (!isAction (pageOff k 8 + 4 * 1) && true)) = false
    rw [Nat.mul_zero, Nat.add_zero, hacts.action]
    rfl
  have hapart : inDictData (pageOff k 8) 2 = false := by
    unfold inDictData pageOff
    simp only [Bool.and_eq_false_iff, decide_eq_false_iff_not]
    omega
  have hpair : (((2 : Nat) == 2 && regionOf (pageOff k 8) == .mailbox && pageOff k 8 % 4096 == 8 && (0xF : BitVec 4) == 0xF
      && (0xF : BitVec 4) == 0xF)) = true := by
    rw [regionOf_pageOff hk (by decide), pageOff_mod (by decide)]
    rfl
  unfold State.regWrite
  refine (if_neg ?_).trans ((if_neg ?_).trans ((if_neg ?_).trans ((if_neg ?_).trans ((if_neg ?_).trans ((if_neg ?_).trans
    ((if_pos hpair).trans ?_))))))
  · show ¬ inDictData (pageOff k 8) 2 = true
    rw [hapart]
    decide
  · show ¬ 2 < 2
    decide
  · show ¬ u.pageAbsent fn (pageOff k 8) = true
    rw [State.pageAbsent_mailbox hk (by decide) hview]
    decide
  · show ¬ ((dwOffs (pageOff k 8) 2).all fun o => !isAction o) = true
    rw [hall]
    decide
  · exact of_decide_eq_false rfl
  · exact of_decide_eq_false rfl
  · show u.pageWrite fn ((pageOff k 8 - 0x400000) / 4096) (State.tgtPair b fn d e) = _
    rw [pageOff_page (by decide)]

/-! ## What the action registers do -/

theorem State.actWrite_arrays {k : Nat} (hk : k < 128) (b fn : Nat) (v : Dw) (u : State) :
    u.actWrite b fn (0x1000 + 4 * k) v = u.arrayBits fn k v State.setPending
    ∧ u.actWrite b fn (0x1200 + 4 * k) v = u.arrayBits fn k v State.clearPending
    ∧ u.actWrite b fn (0x1600 + 4 * k) v = u.arrayBits fn k v (State.setEnable · true)
    ∧ u.actWrite b fn (0x1800 + 4 * k) v = u.arrayBits fn k v (State.setEnable · false) := by
  have hdw (base : Nat) (h : base = 0x1000 ∨ base = 0x1200 ∨ base = 0x1600 ∨ base = 0x1800) : (base + 4 * k) % 512 / 4 = k := by omega
  unfold State.actWrite
  refine ⟨?_, ?_, ?_, ?_⟩
  all_goals rw [regionOf_global (by omega)]
  all_goals dsimp only
  all_goals rw [hdw _ (by decide)]
  all_goals simp (disch := omega) only [if_neg, if_pos]

theorem State.actWrite_dial {k : Nat} (hk : k < 2) (b fn : Nat) (v : Dw) (u : State) :
    u.actWrite b fn (0x108 + 4 * k) v = u.dialPendSet fn (k == 1) v ∧ u.actWrite b fn (0x110 + 4 * k) v = u.dialPendClr fn (k == 1) v
    ∧ u.actWrite b fn (0x118 + 4 * k) v = u.dialEnSet fn (k == 1) v ∧ u.actWrite b fn (0x120 + 4 * k) v = u.dialEnClr fn (k == 1) v := by
  have hhi (base : Nat) (h : base % 8 = 0) : ((base + 4 * k) % 8 == 4) = (k == 1) := by
    rw [Bool.eq_iff_iff, beq_iff_eq, beq_iff_eq]
    omega
  unfold State.actWrite
  refine ⟨?_, ?_, ?_, ?_⟩
  all_goals rw [regionOf_global (by omega)]
  all_goals dsimp only
  all_goals rw [hhi _ (by decide)]
  all_goals simp (disch := omega) only [if_neg, if_pos]

theorem State.actWrite_features (b fn : Nat) {v : Dw} (h : v.getLsbD 0 = true) (u : State) : u.actWrite b fn 0x30 v = u.featOk fn := if_pos h

theorem State.actWrite_wind (b fn : Nat) {v : Dw} (h : v.getLsbD 0 = true) (u : State) : u.actWrite b fn 0x40 v = u.pageWind fn := if_pos h

/-- The operation that a write of DICT_CMD names. -/
theorem State.actWrite_dictCmd (b fn : Nat) (v : Dw) (u : State) : u.actWrite b fn 0x10008 v
    = let op := v.toNat % 16
      u.dictCmd (if op = 1 then some .get else if op = 2 then some .set else if op = 3 then some .draft else none) fn
        (BitVec.ofNat 8 (v.toNat / 256 % 256)) false := by
  have hop : field v.toNat 0 4 = v.toNat % 16 := by
    unfold field
    rw [Nat.pow_zero, Nat.div_one]
    rfl
  show u.dictCmd (if field v.toNat 0 4 = 1 then some .get else if field v.toNat 0 4 = 2 then some .set
    else if field v.toNat 0 4 = 3 then some .draft else none) fn (BitVec.ofNat 8 (v.toNat / 256 % 256)) false = _
  rw [hop]

theorem State.cplUr_served {u : State} {fn : Nat} (h : u.takesMem fn) : u.cplUr fn = (u.post (.cpl fn true [])).aerLog fn false := by
  obtain ⟨hserves, -⟩ := h
  unfold State.serves at hserves
  simp only [Bool.and_eq_true] at hserves
  obtain ⟨⟨hcfg, hpresent⟩, -⟩ := hserves
  have hpost : (u.post (.cpl fn true [])).cfgServed = u.cfgServed ∧ (u.post (.cpl fn true [])).present fn = u.present fn := by
    unfold State.post
    split <;> exact ⟨rfl, rfl⟩
  refine if_pos ?_
  rw [hpost.1, hpost.2, hcfg, hpresent]
  rfl

end Sys2Proof.Machine

open Sys2Proof Sys2Proof.Machine

/-- Settles O48: a write to an action register by what that register does, any other by the area it falls in. -/
theorem registerWrites : Obligations.RegisterWrites := by
  intro s b fn k d e w q one seq ur hfn htakes
  have hwrite {v : MemWrite} (hfits : writeFits fn v = true) (hring : regionOf v.off ≠ .doorbell) :
      exec (.registerWrite b fn v) s = .next (q.memWrite b fn v) :=
    req_takes (by simp [hfits, hfn]) ((ringsOnly_registerWrite b fn v).trans (decide_eq_false hring)) rfl htakes
  have hact {off : Nat} (h : ActsAt off) (hpage : q.pageAbsent fn off = false) (halign : off % 4 = 0) (hoff : off < 0x800000)
      (hreg : regionOf off = .global ∨ regionOf off = .dict ∨ regionOf off = .mailbox) :
      one off = .next (q.actWrite b fn off d) := by
    have hring : regionOf off ≠ .doorbell := by rcases hreg with h | h | h <;> rw [h] <;> decide
    exact (hwrite (dwWrite_fits d halign hoff) hring).trans
      (congrArg _ ((State.memWrite_registers b fn q rfl hreg).trans (State.regWrite_acts h b fn d q hpage)))
  have hglobal {off : Nat} (h : off = 0x30 ∨ off = 0x40 ∨ (0x108 ≤ off ∧ off ≤ 0x127) ∨ (0x1000 ≤ off ∧ off ≤ 0x13FF)
      ∨ (0x1600 ≤ off ∧ off ≤ 0x19FF)) (halign : off % 4 = 0) : one off = .next (q.actWrite b fn off d) := by
    have hoff : off < 0x10000 := by omega
    exact hact (actsAt_global hoff h) (State.pageAbsent_global hoff q fn) halign (by omega) (Or.inl (regionOf_global hoff))
  have hdict : one 0x10008 = .next (q.actWrite b fn 0x10008 d) :=
    hact actsAt_dictCmd (State.pageAbsent_dict q fn) (by decide) (by decide) (Or.inr (Or.inl (by decide)))
  have hmailbox {r : Nat} (hk : k < 1024) (hview : q.fromView 0x3000 fn k ≠ none) (h : r = 8 ∨ r = 12) :
      one (pageOff k r) = .next (q.pageWrite fn k (fun t s => if r = 8 then s.tgtComplete b fn d t else s.freeCore t d)) := by
    have hr : r < 4096 := by omega
    rw [← State.actWrite_mailbox hk hr b fn d q]
    exact hact (actsAt_mailbox hk hr h) (State.pageAbsent_mailbox hk hr hview) (by unfold pageOff; omega) (by unfold pageOff; omega)
      (Or.inr (Or.inr (regionOf_pageOff hk hr)))
  have harrays (hk : k < 128) : exec (.pendSet b fn k d) s = .next (q.arrayBits fn k d State.setPending)
      ∧ exec (.pendClr b fn k d) s = .next (q.arrayBits fn k d State.clearPending)
      ∧ exec (.enableSet b fn k d) s = .next (q.arrayBits fn k d (State.setEnable · true))
      ∧ exec (.enableClr b fn k d) s = .next (q.arrayBits fn k d (State.setEnable · false)) := by
    have hok : (decide (k < 128) && decide (fn < 32)) = true := by simp [hk, hfn]
    exact ⟨req_takes hok rfl rfl htakes, req_takes hok rfl rfl htakes, req_takes hok rfl rfl htakes, req_takes hok rfl rfl htakes⟩
  have hok : (true && decide (fn < 32)) = true := by simp [hfn]
  have hdial (hi : Bool) : exec (.dialPendSet b fn hi d) s = .next (q.dialPendSet fn hi d)
      ∧ exec (.dialPendClr b fn hi d) s = .next (q.dialPendClr fn hi d) ∧ exec (.dialEnSet b fn hi d) s = .next (q.dialEnSet fn hi d)
      ∧ exec (.dialEnClr b fn hi d) s = .next (q.dialEnClr fn hi d) :=
    ⟨req_takes hok rfl rfl htakes, req_takes hok rfl rfl htakes, req_takes hok rfl rfl htakes, req_takes hok rfl rfl htakes⟩
  have hcommands : exec (.featuresOkRequest b fn) s = .next (q.featOk fn) ∧ exec (.wind b fn true) s = .next (q.pageWind fn)
      ∧ exec (.atomicopRequest b fn) s = .next (q.cplUr fn) ∧ exec (.lockedRead b fn) s = .next (q.cplUr fn) :=
    ⟨req_takes hok rfl rfl htakes, mem_takes hok rfl htakes, req_takes hok rfl rfl htakes, req_takes hok rfl rfl htakes⟩
  have hops : exec (.dictGet b fn seq) s = .next (q.dictCmd (some .get) fn seq false)
      ∧ exec (.dictSet b fn seq false) s = .next (q.dictCmd (some .set) fn seq false)
      ∧ exec (.dictGetDraft b fn seq) s = .next (q.dictCmd (some .draft) fn seq false) :=
    ⟨mem_takes hok rfl htakes, mem_takes hok rfl htakes, mem_takes hok rfl htakes⟩
  have hpages (hk : k < 1024) : exec (.complete b fn k d) s = .next (q.pageWrite fn k (State.tgtComplete b fn d))
      ∧ exec (.free b fn k d) s = .next (q.pageWrite fn k (fun t => State.freeCore t d))
      ∧ exec (.completeFreePair b fn k d e) s = .next (q.pageWrite fn k (State.tgtPair b fn d e)) :=
    ⟨exec_page_next hk hfn htakes rfl rfl, exec_page_next hk hfn htakes rfl rfl, exec_page_next hk hfn htakes rfl rfl⟩
  have hpair (hk : k < 1024) : exec (.registerWrite b fn ⟨pageOff k 8, [d, e], 0xF, 0xF, false⟩) s
      = .next (q.memWrite b fn ⟨pageOff k 8, [d, e], 0xF, 0xF, false⟩) := by
    refine hwrite (pairWrite_fits hk fn d e) ?_
    show regionOf (pageOff k 8) ≠ .doorbell
    rw [regionOf_pageOff hk (by decide)]
    decide
  have hbell (hwf : (Instr.doorbellWrite b fn w).wf = true) (h : (s.atBell b).takesMem fn) :
      exec (.registerWrite b fn w) s = exec (.doorbellWrite b fn w) s := by
    have hok : (writeFits fn w && decide (regionOf w.off = .doorbell) && decide (fn < 32)) = true := hwf
    obtain ⟨⟨hfits, hregion⟩, -⟩ := (by simpa only [Bool.and_eq_true, decide_eq_true_eq] using hok :
      (writeFits fn w = true ∧ regionOf w.off = .doorbell) ∧ fn < 32)
    have hserve : (s.atBell b).memWrite b fn w = (s.atBell b).doorbell fn w := by
      unfold State.memWrite
      rw [hregion]
    have hregister : exec (.registerWrite b fn w) s = .next ((s.atBell b).memWrite b fn w) :=
      req_rings (by simp [hfits, hfn]) ((ringsOnly_registerWrite b fn w).trans (decide_eq_true hregion)) rfl h
    have hdoorbell : exec (.doorbellWrite b fn w) s = .next ((s.atBell b).doorbell fn w) := req_rings hok rfl rfl h
    rw [hregister, hdoorbell, hserve]
  obtain ⟨hfeatures, hwind, hatomic, hlocked⟩ := hcommands
  obtain ⟨hget, hset, hdraft⟩ := hops
  clear_value q
  refine ⟨fun hk => ?_, fun hk => ?_, fun h => ⟨?_, ?_⟩, fun h => ?_, fun h => ?_, fun h => ?_, fun hk hview => ⟨?_, ?_, ?_⟩, hbell,
    fun hfits => ⟨fun hr hp => ?_, fun hr hp => ?_, fun hr hp hin hlen => ?_, fun hr hp => ?_⟩, ?_, ?_⟩
  · obtain ⟨h1, h2, h3, h4⟩ := harrays hk
    obtain ⟨a1, a2, a3, a4⟩ := State.actWrite_arrays hk b fn d q
    rw [h1, h2, h3, h4, ← a1, ← a2, ← a3, ← a4]
    exact ⟨hglobal (by omega) (by omega), hglobal (by omega) (by omega), hglobal (by omega) (by omega), hglobal (by omega) (by omega)⟩
  · obtain ⟨h1, h2, h3, h4⟩ := hdial (k == 1)
    obtain ⟨a1, a2, a3, a4⟩ := State.actWrite_dial hk b fn d q
    rw [h1, h2, h3, h4, ← a1, ← a2, ← a3, ← a4]
    exact ⟨hglobal (by omega) (by omega), hglobal (by omega) (by omega), hglobal (by omega) (by omega), hglobal (by omega) (by omega)⟩
  · rw [hfeatures, ← State.actWrite_features b fn h q]
    exact hglobal (by omega) (by omega)
  · rw [hwind, ← State.actWrite_wind b fn h q]
    exact hglobal (by omega) (by omega)
  · rw [hdict, State.actWrite_dictCmd, h, hget]
    rfl
  · rw [hdict, State.actWrite_dictCmd, h, hset]
    rfl
  · rw [hdict, State.actWrite_dictCmd, h, hdraft]
    rfl
  · exact (hmailbox hk hview (Or.inl rfl)).trans (hpages hk).1.symm
  · exact (hmailbox hk hview (Or.inr rfl)).trans (hpages hk).2.1.symm
  · refine (hpair hk).trans (((congrArg _ ?_)).trans (hpages hk).2.2.symm)
    exact (State.memWrite_registers b fn q rfl (Or.inr (Or.inr (regionOf_pageOff hk (by decide))))).trans
      (State.regWrite_pair hk b fn d e q hview)
  · rw [hwrite hfits (by rw [hr]; decide)]
    unfold State.memWrite
    rw [hr, hp] <;> rfl
  · rw [hwrite hfits (by rcases hr with hr | hr <;> rw [hr] <;> decide)]
    unfold State.memWrite
    rcases hr with hr | hr <;> rw [hr, hp] <;> rfl
  · have hregister : q.memWrite b fn w = q.regWrite b fn w :=
      State.memWrite_registers b fn q hp (hr.imp id Or.inl)
    have hfault : q.regWrite b fn w = q.offFault fn w.off := (if_neg (by rw [hin]; decide)).trans (if_pos hlen)
    rw [hwrite hfits (by rcases hr with hr | hr <;> rw [hr] <;> decide), hregister, hfault]
    unfold State.offFault
    rcases hr with hr | hr <;> rw [hr]
  · rw [hwrite hfits (by rcases hr with hr | hr | hr | hr <;> rw [hr] <;> decide)]
    unfold State.memWrite State.offFault
    rcases hr with hr | hr | hr | hr <;> rw [hr, hp] <;> rfl
  · rw [hatomic, State.cplUr_served htakes]
  · rw [hlocked, State.cplUr_served htakes]
end

section
/-! Configuration requests and the link (11, 12). -/

namespace Sys2Proof.Machine

open Sys2Proof

/-! ## Configuration requests -/

section
variable {u : State} (fn : Nat)

theorem State.cfgRequest_unlinked (op : CfgOp) (h : u.linkCan = false) : u.cfgRequest fn op = u := if_pos (by rw [h]; rfl)

theorem State.cfgRequest_retry (op : CfgOp) (h : u.linkCan = true) (hserved : u.cfgServed = false) :
    u.cfgRequest fn op = { u.linkUp with sent := .cfgCpl fn true 0 :: u.linkUp.sent } := by
  unfold State.cfgRequest
  rw [if_neg (by rw [h]; decide)]
  dsimp only
  rw [if_pos (by rw [State.linkUp_cfgServed, hserved]; rfl)]
  exact State.post_of_linkL0 _ (State.linkUp_linkL0 h)

variable {fn} (hserved : u.cfgServed = true)
include hserved

theorem State.cfgRequest_absent (op : CfgOp) (h : u.present fn = false) :
    u.cfgRequest fn op = { u.linkUp with sent := .cpl fn true [] :: u.linkUp.sent } := by
  have hlink := State.cfgServed_linkCan hserved
  unfold State.cfgRequest
  rw [if_neg (by rw [hlink]; decide)]
  dsimp only
  rw [if_neg (by rw [State.linkUp_cfgServed, hserved]; decide), if_pos (by rw [State.linkUp_present hlink, h]; rfl)]
  exact State.post_of_linkL0 _ (State.linkUp_linkL0 hlink)

variable (h : u.present fn = true)
include h

theorem State.cfgRequest_read (r : CfgField) : u.cfgRequest fn (.read r)
    = { u.linkUp with sent := .cfgCpl fn false (u.linkUp.cfgRead fn r) :: u.linkUp.sent } := by
  have hlink := State.cfgServed_linkCan hserved
  unfold State.cfgRequest
  rw [if_neg (by rw [hlink]; decide)]
  dsimp only
  rw [if_neg (by rw [State.linkUp_cfgServed, hserved]; decide), if_neg (by rw [State.linkUp_present hlink, h]; decide)]
  exact State.post_of_linkL0 _ (State.linkUp_linkL0 hlink)

/-- Any other operation is a write. -/
theorem State.cfgRequest_write {op : CfgOp} (hread : ∀ r, op ≠ .read r) (hid : op ≠ .readId) (hlinked : (u.linkUp.cfgPut fn op).linkL0 = true) :
    u.cfgRequest fn op = { u.linkUp.cfgPut fn op with sent := .cfgCpl fn false 0 :: (u.linkUp.cfgPut fn op).sent } := by
  have hlink := State.cfgServed_linkCan hserved
  unfold State.cfgRequest
  rw [if_neg (by rw [hlink]; decide)]
  dsimp only
  rw [if_neg (by rw [State.linkUp_cfgServed, hserved]; decide), if_neg (by rw [State.linkUp_present hlink, h]; decide)]
  refine Eq.trans ?_ (State.post_of_linkL0 (.cfgCpl fn false 0) hlinked)
  split
  next r => exact absurd rfl (hread r)
  next => exact absurd rfl hid
  next => rfl

end

/-! ## A BAR of 64 MiB (R259) -/

/-- The low 26 bits of an address masked away. -/
theorem and_address (v : Dw) : (v &&& 0xFC000000#32).toNat = v.toNat / 2 ^ 26 * 2 ^ 26 := by
  have hmask : ∀ i : Fin 32, (0xFC000000#32).getLsbD i.val = decide (26 ≤ i.val) := by decide
  have hshift : v &&& 0xFC000000#32 = v >>> 26 <<< 26 := by
    refine BitVec.eq_of_getLsbD_eq (fun i hi => ?_)
    rw [BitVec.getLsbD_and, hmask ⟨i, hi⟩, BitVec.getLsbD_shiftLeft, BitVec.getLsbD_ushiftRight]
    by_cases h : 26 ≤ i
    · have hlt : ¬ i < 26 := by omega
      have hsub : 26 + (i - 26) = i := by omega
      simp [h, hi, hlt, hsub]
    · have hlt : i < 26 := by omega
      simp [h, hlt]
  have hlt : v.toNat / 2 ^ 26 * 2 ^ 26 < 2 ^ 32 := Nat.lt_of_le_of_lt (Nat.div_mul_le_self _ _) v.isLt
  rw [hshift, BitVec.toNat_shiftLeft, BitVec.toNat_ushiftRight, Nat.shiftLeft_eq, Nat.shiftRight_eq_div_pow, Nat.mod_eq_of_lt hlt]

theorem append_low (x y : Dw) : (x ++ y : BitVec (32 + 32)).setWidth 32 = y := by
  refine BitVec.eq_of_getLsbD_eq (fun i hi => ?_)
  rw [BitVec.getLsbD_setWidth, BitVec.getLsbD_append, if_pos hi, decide_eq_true hi, Bool.true_and]

theorem half_append (x y : Dw) : half false (x ++ y : BitVec (32 + 32)).toNat = y.toNat
    ∧ half true (x ++ y : BitVec (32 + 32)).toNat = x.toNat := by
  have hx := x.isLt
  have hy := y.isLt
  have happend : (x ++ y : BitVec (32 + 32)).toNat = 2 ^ 32 * x.toNat + y.toNat := by
    rw [BitVec.toNat_append, Nat.shiftLeft_eq, Nat.mul_comm, Nat.two_pow_add_eq_or_of_lt hy]
  refine ⟨?_, ?_⟩
  · show (x ++ y : BitVec (32 + 32)).toNat % 2 ^ 32 = y.toNat
    omega
  · show (x ++ y : BitVec (32 + 32)).toNat / 2 ^ 32 % 2 ^ 32 = x.toNat
    omega

/-- Both DWs of the BAR written: its low 26 bits are no address. -/
theorem barPut_both (v w : Dw) (base : BitVec 64) : barPut 26 1 w (barPut 26 0 v base) = (w ++ (v &&& 0xFC000000#32) : BitVec (32 + 32)) :=
  congrArg (fun low : Dw => (w ++ low : BitVec (32 + 32))) (append_low _ _)

theorem barDw_both (v w : Dw) (base : BitVec 64) : barDw (barPut 26 1 w (barPut 26 0 v base)) 0 = v.toNat / 2 ^ 26 * 2 ^ 26 + 4
    ∧ barDw (barPut 26 1 w (barPut 26 0 v base)) 1 = w.toNat := by
  obtain ⟨hlow, hhigh⟩ := half_append w (v &&& 0xFC000000#32)
  rw [barPut_both]
  refine ⟨?_, hhigh⟩
  rw [← and_address, ← hlow]
  rfl

theorem State.wake_perst (cause src : Nat) (s : State) : (s.wake cause src).perst = s.perst ∧ (s.wake cause src).pfD3 = s.pfD3 := by
  by_cases h2 : s.quiet.code = 2
  · have hwake : s.wake cause src = if (s.pfD3 && cause != 3 && s.pmeEn) = true then (s.wakingUp (wakeBits cause src)).post .pme
        else s.wakingUp (wakeBits cause src) := if_pos h2
    rw [hwake]
    exact ⟨ite_keeps_fn State.perst (State.post_perst _ _) rfl, ite_keeps_fn State.pfD3 (State.post_pfD3 _ _) rfl⟩
  · by_cases h3 : s.quiet.code = 3
    · rw [State.wake_later cause src h3]
      exact ⟨ite_keeps_fn State.perst rfl rfl, ite_keeps_fn State.pfD3 rfl rfl⟩
    · by_cases h1 : s.quiet.code = 1
      · rw [State.wake_entering cause src h1]
        exact ⟨rfl, rfl⟩
      · rw [State.wake_awake cause src ⟨h1, h2, h3⟩]
        exact ⟨rfl, rfl⟩

/-! ## D3hot (R283, R354, R363) -/

theorem State.d3Entry_unserved {u : State} (hserved : u.cfgServed = true) (h : u.o 0x1404 0 = 0) :
    u.d3Entry = { u with pfD3 := true } := by
  have hoff : ¬ ({ u with pfD3 := true } : State).o 0x1404 0 = 1 := by
    rw [show ({ u with pfD3 := true } : State).o 0x1404 0 = u.o 0x1404 0 from rfl, h]
    decide
  exact (if_pos hserved).trans (if_neg hoff)

theorem State.d3Entry_schedules {u : State} (hserved : u.cfgServed = true) (h : u.o 0x1404 0 = 1) (hcode : u.quiet.code = 0)
    (hnone : u.quiet.beginAt = none) : u.d3Entry
      = { u with pfD3 := true, quiet := { u.quiet with beginAt := some (u.now + 8000), d3Waits := true } } := by
  have hon : ({ u with pfD3 := true } : State).o 0x1404 0 = 1 := (State.o_of_obj (s := u) rfl _ _).trans h
  refine (if_pos hserved).trans ((if_pos hon).trans (if_pos ?_))
  show (Decidable.decide (u.quiet.code = 0) && u.quiet.beginAt.isNone) = true
  rw [hcode, hnone]
  rfl

theorem State.d3Exit_leaves {u : State} (h : u.pfD3 = true) : u.d3Exit.pfD3 = false ∧ u.d3Exit.quiet.d3Bar = false := by
  unfold State.d3Exit
  rw [if_pos h]
  dsimp only
  refine ⟨?_, rfl⟩
  rw [(State.wake_perst 3 0 _).2]
  exact ite_keeps_fn State.pfD3 rfl rfl

theorem State.perstUp_leaves {u : State} (h : u.perst = true) : u.perstUp.perst = false ∧ u.perstUp.wakeLow = false := by
  unfold State.perstUp
  rw [if_pos h]
  exact ⟨(State.wake_perst 3 0 _).1, rfl⟩

end Sys2Proof.Machine

open Sys2Proof Sys2Proof.Machine

/-- Settles O49: a configuration request by the link and the function's presence, each change of the link by its operation. -/
theorem pcieLink : Obligations.PcieLink := by
  intro s b fn k op r en mask v w u up tells based z down reset hfn
  have hconfig (op : CfgOp) : exec (.configurationRequest b fn op) s = .next (u.cfgRequest fn op) :=
    execConfigurationRequest_next b op s hfn
  have hassert : exec (.perstAssert b) s = .next { u.pcieInterfaceReset with perst := true } :=
    at_runs (f := fun s => { s.pcieInterfaceReset with perst := true }) rfl
  have hlinks : exec (.pcieLinkUp b) s = .next u.linkUp ∧ exec (.hotReset b) s = .next u.linkReset
      ∧ exec (.linkDown b) s = .next u.linkReset
      ∧ exec (.d3hotEntry b) s = .next u.d3Entry ∧ exec (.d3hotExit b) s = .next u.d3Exit ∧ exec (.perstDeassert b) s = .next u.perstUp :=
    ⟨at_runs rfl, at_runs rfl, at_runs rfl, at_runs rfl, at_runs rfl, at_runs rfl⟩
  obtain ⟨hup, hhot, hdown, hentry, hexit, hdeassert⟩ := hlinks
  clear_value u
  have hlinkUp (h : u.linkCan = true) : u.linkUp = up := State.linkUp_of_linkCan h
  have hwrite (hserved : u.cfgServed = true) (hpresent : u.present fn = true) {op : CfgOp} (hread : ∀ r, op ≠ .read r) (hid : op ≠ .readId)
      (hlinked : (up.cfgPut fn op).linkL0 = true) :
      exec (.configurationRequest b fn op) s = .next (tells (.cfgCpl fn false 0) (up.cfgPut fn op)) := by
    have hup := hlinkUp (State.cfgServed_linkCan hserved)
    rw [← hup] at hlinked ⊢
    rw [hconfig, State.cfgRequest_write hserved hpresent hread hid hlinked]
  have hbar : based.cfgRead 0 (.bar 0) = v.toNat / 2 ^ 26 * 2 ^ 26 + 4 ∧ based.cfgRead 0 (.bar 1) = w.toNat := by
    have hbar : (based.fn 0).bar = barPut 26 1 w (barPut 26 0 v (up.fn 0).bar) := by
      have hfirst : (up.cfgPut 0 (.barWrite 0 v)).fn 0 = { up.fn 0 with bar := barPut 26 0 v (up.fn 0).bar } := smGet_set_same _ _ _ _
      have hsecond : based.fn 0 = { (up.cfgPut 0 (.barWrite 0 v)).fn 0 with
          bar := barPut 26 1 w ((up.cfgPut 0 (.barWrite 0 v)).fn 0).bar } := smGet_set_same _ _ _ _
      rw [hsecond, hfirst]
    show barDw (based.fn 0).bar 0 = _ ∧ barDw (based.fn 0).bar 1 = _
    rw [hbar]
    exact barDw_both v w _
  refine ⟨fun h => ⟨?_, ?_⟩, fun h => ?_, fun h hserved => ?_, fun hserved h => ?_, fun hserved h => ⟨?_, ?_, ?_, ?_⟩, fun hserved h => ?_,
    ?_, ?_, hhot, hdown, hassert, fun hserved h => ?_, fun hserved h hc hn => ?_, fun h => ?_, fun h => ?_⟩
  · rw [hconfig, State.cfgRequest_unlinked fn op h]
  · exact hup.trans (congrArg _ (if_neg (by rw [h]; decide)))
  · rw [hup, hlinkUp h]
  · rw [hconfig, State.cfgRequest_retry fn op h hserved, hlinkUp h]
  · rw [hconfig, State.cfgRequest_absent hserved op h, hlinkUp (State.cfgServed_linkCan hserved)]
  · rw [hconfig, State.cfgRequest_read hserved h r, hlinkUp (State.cfgServed_linkCan hserved)]
  · exact hwrite hserved h nofun nofun rfl
  · refine (hwrite hserved h (op := .pmeEnable en) nofun nofun (ite_keeps_fn State.linkL0 rfl rfl)).trans ?_
    by_cases hzero : fn = 0
    · have hput : up.cfgPut fn (.pmeEnable en) = { up with pmeEn := en } := if_pos hzero
      rw [hput, if_pos hzero]
    · have hput : up.cfgPut fn (.pmeEnable en) = up := if_neg hzero
      rw [hput, if_neg hzero]
  · exact hwrite hserved h (op := .msixControl en mask) nofun nofun rfl
  · exact hwrite hserved h (op := .barWrite k v) nofun nofun (ite_keeps_fn State.linkL0 rfl rfl)
  · exact hbar.1
  · exact hbar.2
  · rw [hentry, State.d3Entry_unserved hserved h]
  · rw [hentry, State.d3Entry_schedules hserved h hc hn]
  · exact ⟨_, hexit, State.d3Exit_leaves h⟩
  · exact ⟨_, hdeassert, State.perstUp_leaves h⟩
end

section
/-! Lane frames received, and the partner's mirror (16). -/

namespace Sys2Proof.Machine

open Sys2Proof

/-! ## A received frame -/

/-- The lanes' receiver has no footing. -/
def State.laneDeaf (u : State) : Prop := u.tdm.lanes = 0 ∨ u.tdm.blockLock = false ∨ u.linkOn = false

/-- The frame is one of Table 16-4 with its length and its CRC. -/
def laneHolds (kind : Byte) (body : List Byte) (h : LaneHdr) : Prop :=
  h.kind = kind ∧ h.len ≤ 80 ∧ h.len = body.length ∧ crc32 (laneHead h.kind h.flags h.len h.lseq h.credit ++ body) = h.crc

theorem laneValid_iff (kind : Byte) (body : List Byte) (h : LaneHdr) : laneValid kind body h = true ↔ laneHolds kind body h := by
  unfold laneValid laneHolds
  simp only [Bool.and_eq_true, beq_iff_eq, decide_eq_true_eq, and_assoc]

theorem laneFits_iff (kind : Byte) (h : LaneHdr) : laneFits kind h = true ↔ h.kind = kind ∨ laneKinds.contains h.kind = false := by
  unfold laneFits
  rw [Bool.or_eq_true, beq_iff_eq, Bool.not_eq_true']

/-- The partner is heard on the lanes, its credit taken while they are UP. -/
def State.laneMet (u : State) (credit : BitVec 16) : State :=
  let z := ({ u with tdm := { u.tdm with laneHeardAt := u.now } } : State).heard
  if z.tdm.lanes = 2 then z.takeCredit credit else z

theorem State.heard_lanes (u : State) : u.heard.tdm.lanes = u.tdm.lanes := by
  have htold (z : State) : ((z.chrTandem 4 0).tandemChanged).tdm = z.tdm := by
    rw [(State.tandemChanged_same _).2]
    exact State.chrPut_tdm _ _ _ _
  unfold State.heard
  dsimp only
  split
  · rfl
  · rw [htold]

theorem State.laneMet_eq (u : State) (credit : BitVec 16) : u.laneMet credit
    = let seen : State := { u with tdm := { u.tdm with laneHeardAt := u.now, heardAt := u.now, present := true } }
      let here := if u.tdm.present = true then seen else (seen.chrTandem 4 0).tandemChanged
      if u.tdm.lanes = 2 then here.takeCredit credit else here := by
  unfold State.laneMet
  exact if_congr (by rw [State.heard_lanes]) rfl rfl

section
variable {u : State} {kind : Byte} {body : List Byte} {h : LaneHdr} (f : State → State)

theorem State.laneRx_deaf (hdeaf : u.laneDeaf) : u.laneRx kind body h f = u := by
  refine if_pos ?_
  simp only [Bool.or_eq_true, beq_iff_eq, Bool.not_eq_true', decide_eq_true_eq, or_assoc]
  exact hdeaf

variable (hfooting : ¬ u.laneDeaf)
include hfooting

theorem State.laneRx_footing : ¬ (u.tdm.lanes == 0 || !u.tdm.blockLock || u.linkOn = false) = true := by
  simp only [Bool.or_eq_true, beq_iff_eq, Bool.not_eq_true', decide_eq_true_eq, or_assoc]
  exact hfooting

theorem State.laneRx_invalid (hvalid : ¬ laneHolds kind body h) : u.laneRx kind body h f = u.bump 0x1940 0 1 := by
  refine (if_neg (State.laneRx_footing hfooting)).trans (if_pos ?_)
  rw [Bool.not_eq_true', Bool.eq_false_iff]
  exact fun hk => hvalid ((laneValid_iff kind body h).mp hk)

theorem State.laneRx_valid (hvalid : laneHolds kind body h) : u.laneRx kind body h f = (f (u.laneMet h.credit)).pump := by
  refine (if_neg (State.laneRx_footing hfooting)).trans (if_neg ?_)
  rw [(laneValid_iff kind body h).mpr hvalid]
  decide

end

/-! ## A request by its LSEQ (R371) -/

/-- The request is executed: the numbers move on. -/
def State.requestDone (z : State) : State :=
  { z with tdm := { z.tdm with expected := nextLseq z.tdm.expected, executed := z.tdm.executed + 1 } }

section
variable {u : State} {kind : Byte} {body : List Byte} {h : LaneHdr} (f : State → State) (hfooting : ¬ u.laneDeaf)
    (hvalid : laneHolds kind body h)
include hfooting hvalid

theorem State.laneReq_down (hlanes : (u.laneMet h.credit).tdm.lanes ≠ 2) : u.laneReq kind body h f = (u.laneMet h.credit).pump :=
  (State.laneRx_valid _ hfooting hvalid).trans (congrArg State.pump (if_neg hlanes))

variable (hlanes : (u.laneMet h.credit).tdm.lanes = 2)
include hlanes

theorem State.laneReq_expected (hseq : h.lseq = (u.laneMet h.credit).tdm.expected) :
    u.laneReq kind body h f = ((f (u.laneMet h.credit)).requestDone.laneAck h.lseq).pump :=
  (State.laneRx_valid _ hfooting hvalid).trans (congrArg State.pump ((if_pos hlanes).trans (if_pos (beq_iff_eq.mpr hseq))))

variable (hseq : h.lseq ≠ (u.laneMet h.credit).tdm.expected)
include hseq

theorem State.laneReq_earlier (hbefore : lseqBefore h.lseq (u.laneMet h.credit).tdm.expected = true) :
    u.laneReq kind body h f = (((u.laneMet h.credit).laneAck h.lseq).bump 0x1942 0 1).pump :=
  (State.laneRx_valid _ hfooting hvalid).trans
    (congrArg State.pump ((if_pos hlanes).trans ((if_neg (fun hk => hseq (beq_iff_eq.mp hk))).trans (if_pos hbefore))))

theorem State.laneReq_later (hbefore : lseqBefore h.lseq (u.laneMet h.credit).tdm.expected = false) :
    u.laneReq kind body h f = ((u.laneMet h.credit).laneNak.bump 0x1943 0 1).pump :=
  (State.laneRx_valid _ hfooting hvalid).trans (congrArg State.pump ((if_pos hlanes).trans
    ((if_neg (fun hk => hseq (beq_iff_eq.mp hk))).trans (if_neg (by rw [hbefore]; decide)))))

end

/-! ## The inbound table (R387, R389) -/

theorem State.setIn_inAt {u : State} (h : u.tdm.frozenIn = false) (e : MirrorEntry) (j : Nat) :
    (u.setIn e).inAt j = if j = e.src then ⟨true, e.code, e.repend⟩ else u.inAt j := by
  unfold State.setIn
  rw [if_neg (by rw [h]; decide)]
  by_cases hj : j = e.src
  · rw [if_pos hj, hj]
    exact smGet_set_same _ _ _ _
  · rw [if_neg hj]
    exact smGet_set_other _ _ _ hj

theorem State.setIn_frozen {u : State} (h : u.tdm.frozenIn = true) (e : MirrorEntry) : u.setIn e = u := if_pos h

theorem State.syncEnd_leaves (u : State) : u.syncEnd.tdm.allIn = true ∧ u.syncEnd.tdm.syncingIn = false
    ∧ u.syncEnd.tdm.mirrorInValid = true ∧ u.syncEnd.tdm.promoted = false := by
  unfold State.syncEnd
  dsimp only
  split
  · rw [(State.tandemChanged_same _).2]
    exact ⟨rfl, rfl, rfl, rfl⟩
  · exact ⟨rfl, rfl, rfl, rfl⟩

end Sys2Proof.Machine

open Sys2Proof Sys2Proof.Machine

/-- Settles O58: every frame through its receiver, a request by where its LSEQ stands. -/
theorem tandemFrames : Obligations.TandemFrames := by
  intro s b src len j h sess tx rx rxs fl kind tag ho keep bs body e es i f u tdm seen here met up request control fits valid deaf answers
    done hfits
  have hmet : u.laneMet h.credit = met := State.laneMet_eq u h.credit
  have hkind {k : Byte} (hk : kind = k) : laneFits k h = true := (laneFits_iff k h).mpr (hk ▸ hfits)
  have hrequest (hr : request) : exec i s = .next (u.laneReq kind body h f) := by
    rcases hr with ⟨hsrc, hlow, hlen, hbs, rfl, hk, rfl, rfl⟩ | ⟨hsrc, hcode, rfl, hk, rfl, rfl⟩ | ⟨rfl, hk, rfl, rfl⟩
      | ⟨hcount, hall, rfl, hk, rfl, rfl⟩ | ⟨rfl, hk, rfl, rfl⟩ | ⟨rfl, hk, rfl, rfl⟩
    · have hok : (laneFits 0x10 h && decide (1152 ≤ src ∧ src < 4096 ∧ len < 256 ∧ bs.length ≤ 64)) = true := by
        rw [hkind hk, decide_eq_true ⟨hlow, hsrc, hlen, hbs⟩]
        rfl
      subst hk
      exact at_runs hok
    · have hok : (laneFits 0x11 h && decide (e.src < 4096 ∧ e.code < 8)) = true := by
        rw [hkind hk, decide_eq_true ⟨hsrc, hcode⟩]
        rfl
      subst hk
      exact at_runs hok
    · subst hk
      exact at_runs (hkind rfl)
    · have hok : (laneFits 0x13 h && decide (es.length ≤ 19) && es.all (fun e => e.src < 4096 && e.code < 8)) = true := by
        rw [hkind hk, decide_eq_true hcount, Bool.true_and, Bool.true_and, List.all_eq_true]
        intro e he
        rw [decide_eq_true (hall e he).1, decide_eq_true (hall e he).2]
        rfl
      subst hk
      exact at_runs hok
    · subst hk
      exact at_runs (hkind rfl)
    · subst hk
      exact at_runs (hkind rfl)
  have hcontrol (hc : control) : exec i s = .next (u.laneRx kind body h f) := by
    rcases hc with ⟨rfl, hk, rfl, rfl⟩ | ⟨rfl, hk, rfl, rfl⟩ | ⟨rfl, hk, rfl, rfl⟩ | ⟨rfl, hk, rfl, rfl⟩
    all_goals subst hk
    · exact at_runs (hkind rfl)
    · exact at_runs (hkind rfl)
    · exact at_runs (hkind rfl)
    · exact at_runs (hkind rfl)
  clear_value u
  refine ⟨fun hr hd => ?_, fun hr hd hv => ?_, fun hc hd hv => ?_, fun hr hd hv hl => ?_,
    fun hr hd hv hl => ⟨fun hs => ?_, fun hb hs => ?_, fun hb hs => ?_⟩, fun hf => State.setIn_inAt hf e j, fun hf => State.setIn_frozen hf e,
    ⟨rfl, rfl, rfl⟩, State.syncEnd_leaves u⟩
  · rcases hr with hr | hc
    · exact (hrequest hr).trans (congrArg _ (State.laneRx_deaf _ hd))
    · exact (hcontrol hc).trans (congrArg _ (State.laneRx_deaf _ hd))
  · rcases hr with hr | hc
    · exact (hrequest hr).trans (congrArg _ (State.laneRx_invalid _ hd hv))
    · exact (hcontrol hc).trans (congrArg _ (State.laneRx_invalid _ hd hv))
  · rw [hcontrol hc, State.laneRx_valid f hd hv, hmet]
  all_goals rw [← hmet] at hl
  · rw [hrequest hr, State.laneReq_down f hd hv hl, hmet]
  all_goals rw [← hmet] at hs
  · rw [hrequest hr, State.laneReq_expected f hd hv hl hs, hmet]
    rfl
  all_goals rw [← hmet] at hb
  · rw [hrequest hr, State.laneReq_earlier f hd hv hl hs hb, hmet]
    rfl
  · rw [hrequest hr, State.laneReq_later f hd hv hl hs hb, hmet]
    rfl
end

section
/-! The tandem link's timers, the pair and promotion (16). -/

namespace Sys2Proof.Machine

open Sys2Proof

variable {u : State}

/-! ## The lanes' timers -/

theorem State.laneRetrain_eq (u : State) : u.laneRetrain
    = if u.linkOn = true ∧ u.tdm.lanes = 0 ∧ u.o 0x1900 0 = 1 ∧ u.quiet.code = 0 ∧ u.tdm.downAt + 80000 ≤ u.now
      then { u with tdm := { u.tdm with lanes := 1, blockLock := false, seen := false, helloAt := none, executed := 0 } } else u := by
  unfold State.laneRetrain
  refine if_congr ?_ rfl rfl
  simp only [Bool.and_eq_true, beq_iff_eq, decide_eq_true_eq, and_assoc]

/-- The lanes lost, by the state they were in (R138, R367). -/
theorem State.lanesDown_eq (mm : Bool) (u : State) : u.lanesDown mm
    = let down : State := { u with tdm := { u.tdm with
        lanes := 0, downAt := u.now, blockLock := false, seen := false, unacked := [], queue := [], dirty := [], overflow := false,
        syncing := false } }
      if u.tdm.lanes = 0 then u
      else if u.tdm.lanes = 2 then (((each (State.forwardsDown mm) (List.range 8) down).chrTandem 2 0).dial 24 0).tandemChanged
      else down := rfl

theorem State.laneLost_eq (silent mm : Bool) (u : State) : u.laneLost silent mm
    = if silent = true ∧ ¬ (u.tdm.blockLock = true ∧ u.tdm.laneHeardAt + 4 * u.o 0x1902 0 ≤ u.now) then u else u.lanesDown mm := by
  unfold State.laneLost
  refine if_congr ?_ rfl rfl
  rw [Bool.and_eq_true, Bool.not_eq_true', Bool.eq_false_iff, ne_eq, Bool.and_eq_true, decide_eq_true_eq]

theorem State.laneLock_eq (u : State) : u.laneLock
    = if u.tdm.lanes = 1 then { u with tdm := { u.tdm with blockLock := true, laneHeardAt := u.now } } else u :=
  if_congr beq_iff_eq rfl rfl

/-- A period has passed since the last time something was sent, or nothing was. -/
def State.overdue (u : State) (last : Option Nat) (idx : Nat) : Prop := ∀ l, last = some l → l + u.o idx 0 ≤ u.now

theorem State.overdue_iff (u : State) (last : Option Nat) (idx : Nat) :
    (match last with | none => true | some l => Decidable.decide (l + u.o idx 0 ≤ u.now)) = true ↔ u.overdue last idx := by
  unfold State.overdue
  cases last with
  | none => simp
  | some l => simp

theorem State.helloSend_sends (hlanes : u.tdm.lanes = 1) (hlock : u.tdm.blockLock = true) (hdue : u.overdue u.tdm.helloAt 0x1902) :
    u.helloSend = { u.emit (.lane (laneFrame 0x01 0 0 u.tdm.executed (helloBody u.tdm.session u.tdm.txNext (prevLseq u.tdm.expected)
        u.tdm.pSession (BitVec.ofNat 8 (b2n u.tdm.seen + 2 * b2n (u.straps.getLsbD 0) + 4 * b2n u.tdm.promoted))))) with
      tdm := { u.tdm with helloAt := some u.now } } := by
  refine if_pos ?_
  rw [hlanes, hlock]
  exact (State.overdue_iff u u.tdm.helloAt 0x1902).mpr hdue

theorem State.helloSend_waits (h : ¬ (u.tdm.lanes = 1 ∧ u.tdm.blockLock = true ∧ u.overdue u.tdm.helloAt 0x1902)) :
    u.helloSend = u := by
  refine if_neg (fun hk => h ?_)
  rw [Bool.and_eq_true, Bool.and_eq_true, beq_iff_eq, and_assoc] at hk
  obtain ⟨hlanes, hlock, hdue⟩ := hk
  exact ⟨hlanes, hlock, (State.overdue_iff u u.tdm.helloAt 0x1902).mp hdue⟩

theorem State.heartbeatSend_eq (u : State) : u.heartbeatSend
    = if u.tdm.lanes = 2 ∧ u.o 0x1900 0 = 1 ∧ u.tdm.hbAt + u.o 0x1902 0 ≤ u.now then
        { u.emit (.lane (laneFrame 0x02 0 0 u.tdm.executed (heartbeatBody u.tdm.session (BitVec.ofNat 8 u.hbFlags)))) with
          tdm := { u.tdm with hbAt := u.now } }
      else u := by
  unfold State.heartbeatSend
  refine if_congr ?_ rfl rfl
  simp only [Bool.and_eq_true, beq_iff_eq, decide_eq_true_eq, and_assoc]

theorem State.retransmitTimeout_idle (mm : Bool) (h : u.tdm.unacked = [] ∨ u.tdm.lanes ≠ 2) : u.retransmitTimeout mm = u := by
  unfold State.retransmitTimeout
  split
  · rfl
  next r rs hun =>
    rcases h with h | h
    · exact absurd (hun.symm.trans h) (List.cons_ne_nil _ _)
    · refine if_neg (fun hk => h ?_)
      rw [Bool.and_eq_true, beq_iff_eq] at hk
      exact hk.1

theorem State.retransmitTimeout_oldest (mm : Bool) {r : Sent} {rs : List Sent} (hun : u.tdm.unacked = r :: rs) (hlanes : u.tdm.lanes = 2) :
    u.retransmitTimeout mm = if u.now < r.lastAt + 16000 then u else if 8 ≤ r.tries then u.lanesDown mm else u.retransmit := by
  unfold State.retransmitTimeout
  rw [hun]
  dsimp only
  by_cases hdue : u.now < r.lastAt + 16000
  · have hnot : ¬ r.lastAt + 16000 ≤ u.now := by omega
    rw [if_pos hdue]
    exact if_neg (by simp [hnot])
  · have hgo : r.lastAt + 16000 ≤ u.now := by omega
    rw [if_neg hdue]
    exact if_pos (by simp [hgo, hlanes])

theorem State.mirrorResync_eq (u : State) : u.mirrorResync
    = if u.tdm.overflow = true ∧ u.tdm.syncing = false ∧ u.tdm.mirrorWaits = 0 ∧ u.tdm.lanes = 2
      then u.startSync.bump 0x194B 0 1 else u := by
  unfold State.mirrorResync
  refine if_congr ?_ rfl rfl
  simp only [Bool.and_eq_true, beq_iff_eq, Bool.not_eq_true', and_assoc]

/-! ## The pair (R377 to R379) -/

theorem State.pairOn_iff (u : State) : u.pairOn = true ↔ u.linkOn = true ∧ u.o 0x1900 0 = 1 := by
  unfold State.pairOn
  rw [Bool.and_eq_true, beq_iff_eq]

theorem State.pairSend_sends (collide : Bool) (hon : u.pairOn = true) (hdue : u.overdue u.tdm.pairAt 0x1903) :
    u.pairSend collide = ({ u with tdm := { u.tdm with pairAt := some u.now } } : State).pairPut 1 0 collide := by
  refine if_pos ?_
  rw [hon]
  exact (State.overdue_iff u u.tdm.pairAt 0x1903).mpr hdue

theorem State.pairSend_waits (collide : Bool) (h : ¬ (u.pairOn = true ∧ u.overdue u.tdm.pairAt 0x1903)) : u.pairSend collide = u := by
  refine if_neg (fun hk => h ?_)
  rw [Bool.and_eq_true] at hk
  obtain ⟨hon, hdue⟩ := hk
  exact ⟨hon, (State.overdue_iff u u.tdm.pairAt 0x1903).mp hdue⟩

theorem State.pairBackoffEnd_eq (collide : Bool) (u : State) : u.pairBackoffEnd collide
    = if u.linkOn = true ∧ u.o 0x1900 0 = 1 ∧ u.tdm.backoff ≠ none then u.pairGo collide else u := by
  unfold State.pairBackoffEnd
  refine if_congr ?_ rfl rfl
  rw [Bool.and_eq_true, State.pairOn_iff, Option.isSome_iff_ne_none, and_assoc]

theorem State.pairGaspCopy_eq (collide : Bool) (u : State) : u.pairGaspCopy collide
    = if 0 < u.gasp.pairLeft ∧ u.linkOn = true ∧ u.o 0x1900 0 = 1 ∧ (∀ w ∈ u.tdm.pairWait, w.1 ≠ 3)
        ∧ max (u.tdm.pairFrom + 25600) (u.tdm.backoff.getD 0) ≤ u.now then
      ({ u with gasp := { u.gasp with pairLeft := u.gasp.pairLeft - 1 } } : State).pairPut 3 u.backup.resetCount collide else u := by
  unfold State.pairGaspCopy
  refine if_congr ?_ rfl rfl
  simp only [Bool.and_eq_true, decide_eq_true_eq, State.pairOn_iff, Bool.not_eq_true', List.any_eq_false, beq_iff_eq, and_assoc]
  exact Iff.rfl

/-- A junior, or a device in a clash, gives way to a collision (R378). -/
def State.pairYields (z : State) (collide : Bool) : Prop := collide = true ∧ (z.straps.getLsbD 0 = false ∨ z.tdm.clash = true)

theorem State.pairYields_iff (z : State) (collide : Bool) :
    (collide && (!z.straps.getLsbD 0 || z.tdm.clash)) = true ↔ z.pairYields collide := by
  unfold State.pairYields
  rw [Bool.and_eq_true, Bool.or_eq_true, Bool.not_eq_true']

section
variable {z : State} {collide : Bool}

theorem State.pairGo_waits (h : z.tdm.pairWait = [] ∨ z.now < z.pairDue) : z.pairGo collide = z := by
  unfold State.pairGo
  split
  · rfl
  next k a rest hwait =>
    rcases h with h | h
    · exact absurd (hwait.symm.trans h) (List.cons_ne_nil _ _)
    · exact if_pos h

variable {k : Nat} {a : Dw} {ws : List (Nat × Dw)} (hwait : z.tdm.pairWait = (k, a) :: ws) (hidle : z.pairDue ≤ z.now)
include hwait hidle

theorem State.pairGo_sends (h : ¬ z.pairYields collide) :
    z.pairGo collide = { z.emit (.pair (pairFrame k (BitVec.ofNat 8 z.hbFlags) z.tdm.session a)) with
      tdm := { z.tdm with backoff := none, pairWait := ws, pairFrom := z.now + 102400 } } := by
  unfold State.pairGo
  rw [hwait]
  dsimp only
  rw [if_neg (Nat.not_lt.mpr hidle)]
  exact if_neg (fun hk => h ((State.pairYields_iff z collide).mp hk))

theorem State.pairGo_yields (h : z.pairYields collide) : ∃ n, 1 ≤ n ∧ n ≤ 8
    ∧ (z.pairGo collide).tdm = { z.tdm with backoff := some (z.now + n * 128000), pairFrom := z.now + 1600 }
    ∧ (z.pairGo collide).sent = z.sent ∧ (z.pairGo collide).o 0x1945 0 = satAdd 32 (z.o 0x1945 0) 1 := by
  have hgo : z.pairGo collide = { z.draw.2.bump 0x1945 0 1 with tdm := { z.tdm with
      backoff := some (z.now + (1 + Config.freeDraw z.draw.1 % 8) * 128000), pairFrom := z.now + 1600 } } := by
    unfold State.pairGo
    rw [hwait]
    dsimp only
    rw [if_neg (Nat.not_lt.mpr hidle)]
    exact if_pos ((State.pairYields_iff z collide).mpr h)
  rw [hgo]
  exact ⟨1 + Config.freeDraw z.draw.1 % 8, by omega, by omega, rfl, rfl, State.o_bump _ _ _ _⟩

end

/-- The pair frame's SFD and CRC hold. -/
def pairHolds (k : Nat) (p : PairFrame) : Prop := p.sfd = 0xD5 ∧ crc16Bytes (pairMid k p.flags p.session p.arg) = p.crc

theorem pairValid_iff (k : Nat) (p : PairFrame) : pairValid k p = true ↔ pairHolds k p := by
  unfold pairValid pairHolds
  rw [Bool.and_eq_true, beq_iff_eq, beq_iff_eq]

section
variable {k : Nat} {p : PairFrame} (f : State → State)

theorem State.pairRx_off (h : u.linkOn = false) : u.pairRx k p f = u := if_pos h

variable (hon : u.linkOn = true)
include hon

theorem State.pairRx_invalid (h : ¬ pairHolds k p) : u.pairRx k p f
    = ({ u with tdm := { u.tdm with pairFrom := max u.tdm.pairFrom u.now } } : State).bump 0x1940 0 1 :=
  (if_neg (by rw [hon]; decide)).trans (if_neg (fun hk => h ((pairValid_iff k p).mp hk)))

theorem State.pairRx_valid (h : pairHolds k p) : u.pairRx k p f
    = f { u with tdm := { u.tdm with pairFrom := max u.tdm.pairFrom u.now } } :=
  (if_neg (by rw [hon]; decide)).trans (if_pos ((pairValid_iff k p).mpr h))

end

/-! ## Promotion (R380, R388, R391) -/

/-- A promotion of a device that is not promoted. -/
def State.promoteNow (z : State) : State :=
  let w := (((({ z with tdm := { z.tdm with promoted := true, frozenIn := true } } : State).setO 0x190B 0 z.cnt.toNat).bump 0x1946 0 1).dial
    28 0).tandemChanged
  if w.asleep = true then { w with quiet := { w.quiet with promote := true } } else w.replay

theorem State.promote_eq (z : State) : z.promote = if z.tdm.promoted = true then z else z.promoteNow := rfl

/-- The partner lost. -/
def State.partnerGone (u : State) : State :=
  (((({ u with tdm := { u.tdm with present := false, pairOk := false } } : State).bump 0x1944 0 1).dial 26 0).chrTandem 3 0).tandemChanged

theorem State.partnerLoss_heard (h : ¬ (u.tdm.present = true ∧ u.tdm.heardAt + u.o 0x1904 0 * u.o 0x1903 0 ≤ u.now)) :
    u.partnerLoss = u := by
  refine if_neg (fun hk => h ?_)
  rwa [Bool.and_eq_true, decide_eq_true_eq] at hk

theorem State.partnerLoss_missed (h : u.tdm.present = true ∧ u.tdm.heardAt + u.o 0x1904 0 * u.o 0x1903 0 ≤ u.now) :
    u.partnerLoss = if 1 ≤ u.partnerGone.o 0x1901 0 ∧ u.partnerGone.tdm.promoted = false then u.partnerGone.promoteNow
      else u.partnerGone := by
  have hgo : (u.tdm.present && Decidable.decide (u.tdm.heardAt + u.o 0x1904 0 * u.o 0x1903 0 ≤ u.now)) = true := by
    rwa [Bool.and_eq_true, decide_eq_true_eq]
  have hloss : u.partnerLoss = if 1 ≤ u.partnerGone.o 0x1901 0 then u.partnerGone.promote else u.partnerGone := if_pos hgo
  rw [hloss, State.promote_eq]
  generalize u.partnerGone = gone
  by_cases hmode : 1 ≤ gone.o 0x1901 0
  · by_cases hpromoted : gone.tdm.promoted = true
    · rw [if_pos hmode, if_pos hpromoted, if_neg (fun hk => absurd (hpromoted.symm.trans hk.2) (by decide))]
    · rw [if_pos hmode, if_neg hpromoted, if_pos ⟨hmode, Bool.eq_false_iff.mpr hpromoted⟩]
  · rw [if_neg hmode, if_neg (fun hk => hmode hk.1)]

end Sys2Proof.Machine

open Sys2Proof Sys2Proof.Machine

/-- Settles O59: each timer by its condition, a pair frame by whether it holds. -/
theorem tandemTimersAndPair : Obligations.TandemTimersAndPair := by
  intro s b v k a collide silent mm p r rs ws i u q t tdm on sends overdue ask down lost missed gone promoted pairRow holds used
  have htimers : exec (.laneRetrain b) s = .next u.laneRetrain ∧ exec (.laneLoss b silent mm) s = .next (u.laneLost silent mm)
      ∧ exec (.laneBlockLock b) s = .next u.laneLock ∧ exec (.helloSend b) s = .next u.helloSend
      ∧ exec (.heartbeatSend b) s = .next u.heartbeatSend ∧ exec (.retransmitTimeout b mm) s = .next (u.retransmitTimeout mm)
      ∧ exec (.mirrorResync b) s = .next u.mirrorResync ∧ exec (.partnerLoss b) s = .next u.partnerLoss :=
    ⟨at_runs rfl, at_runs rfl, at_runs rfl, at_runs rfl, at_runs rfl, at_runs rfl, at_runs rfl, at_runs rfl⟩
  have hpair : exec (.pairHeartbeatSend b collide) s = .next (u.pairSend collide)
      ∧ exec (.pairBackoffEnd b collide) s = .next (u.pairBackoffEnd collide)
      ∧ exec (.pairGaspCopy b collide) s = .next (u.pairGaspCopy collide) := ⟨at_runs rfl, at_runs rfl, at_runs rfl⟩
  have hrows : exec (.pairHeartbeat b p.sfd p.session p.flags p.arg p.crc) s = .next (u.pairHeartbeat p)
      ∧ exec (.pairWake b p.sfd p.session p.flags p.arg p.crc) s = .next (u.pairWake p)
      ∧ exec (.pairGasp b p.sfd p.session p.flags p.arg p.crc) s = .next (u.pairGasp p) := ⟨at_runs rfl, at_runs rfl, at_runs rfl⟩
  have hpromote {st : Nat} {z : State} (h : q.takes 0 0x1906 0 1 0) (hact : q.actLow 0x1906 0 1 false = (st, z)) :
      exec (.tandemPromote b 1) s = .next (z.answer st) := dict_next_low (by decide) (by decide) (by decide) h (by decide) hact
  have hwake {st : Nat} {z : State} (h : q.takes 0 0x1907 0 1 0) (hact : q.actLow 0x1907 0 1 collide = (st, z)) :
      exec (.tandemWake b 1 collide) s = .next (z.answer st) := dict_next_low (by decide) (by decide) (by decide) h (by decide) hact
  obtain ⟨hretrain, hloss, hlock, hhello, hheartbeat, htimeout, hresync, hpartner⟩ := htimers
  obtain ⟨hsend, hbackoff, hgasp⟩ := hpair
  obtain ⟨hrow1, hrow2, hrow3⟩ := hrows
  clear_value u q
  have hrx (hrow : pairRow) : ∃ f, exec i s = .next (u.pairRx k p f) := by
    rcases hrow with ⟨rfl, rfl⟩ | ⟨rfl, rfl⟩ | ⟨rfl, rfl⟩
    · exact ⟨_, hrow1⟩
    · exact ⟨_, hrow2⟩
    · exact ⟨_, hrow3⟩
  have hlost : u.lanesDown mm = lost := State.lanesDown_eq mm u
  refine ⟨?_, ?_, ?_, fun hl hb hd => ?_, fun h => ?_, ?_, fun h => ?_, fun hun hl => ?_, ?_, fun hon hd => ?_, fun h => ?_, ?_, ?_,
    fun z => ⟨fun h => ?_, fun hw hi => ⟨fun h => ?_, fun h => ?_⟩⟩, fun hrow hoff => ?_, fun hrow hon h => ?_,
    fun hon => ⟨fun h => ?_, fun h => ?_, fun h => ?_⟩, fun h => ?_, fun h => ?_, fun hv h => ?_, fun hv h => ⟨fun hon => ?_, fun hoff => ?_⟩⟩
  · exact hretrain.trans (congrArg _ (State.laneRetrain_eq u))
  · rw [hloss, State.laneLost_eq, hlost]
  · exact hlock.trans (congrArg _ (State.laneLock_eq u))
  · exact hhello.trans (congrArg _ (State.helloSend_sends hl hb hd))
  · rw [hhello, State.helloSend_waits h]
  · exact hheartbeat.trans (congrArg _ (State.heartbeatSend_eq u))
  · rw [htimeout, State.retransmitTimeout_idle mm h]
  · rw [htimeout, State.retransmitTimeout_oldest mm hun hl, hlost]
  · exact hresync.trans (congrArg _ (State.mirrorResync_eq u))
  · exact hsend.trans (congrArg _ (State.pairSend_sends collide ((State.pairOn_iff u).mpr hon) hd))
  · rw [hsend, State.pairSend_waits collide (fun hk => h ⟨(State.pairOn_iff u).mp hk.1, hk.2⟩)]
  · exact hbackoff.trans (congrArg _ (State.pairBackoffEnd_eq collide u))
  · exact hgasp.trans (congrArg _ (State.pairGaspCopy_eq collide u))
  · exact State.pairGo_waits h
  · exact State.pairGo_sends hw hi h
  · exact State.pairGo_yields hw hi h
  · obtain ⟨f, hf⟩ := hrx hrow
    exact hf.trans (congrArg _ (State.pairRx_off f hoff))
  · obtain ⟨f, hf⟩ := hrx hrow
    exact hf.trans (congrArg _ (State.pairRx_invalid f hon h))
  · exact hrow1.trans (congrArg _ (State.pairRx_valid _ hon h))
  · exact hrow2.trans (congrArg _ (State.pairRx_valid _ hon h))
  · exact hrow3.trans (congrArg _ (State.pairRx_valid _ hon h))
  · rw [hpartner, State.partnerLoss_heard h]
  · exact hpartner.trans (congrArg _ (State.partnerLoss_missed h))
  · subst hv
    by_cases hp : q.tdm.promoted = true
    · rw [if_pos hp]
      exact hpromote h (if_pos hp)
    · have hact : q.actLow 0x1906 0 1 false = (0, q.promote) := if_neg hp
      rw [if_neg hp, hpromote h hact, State.promote_eq, if_neg hp]
      rfl
  · subst hv
    have hact : q.tandemWake collide = ask q 2 0 := if_pos ((State.pairOn_iff q).mpr hon)
    rw [hwake h rfl, hact]
  · subst hv
    have hact : q.tandemWake collide = q := if_neg (fun hk => hoff ((State.pairOn_iff q).mp hk))
    rw [hwake h rfl, hact]
end

section
/-! The other frames of the management port (10). -/

namespace Sys2Proof.Machine

open Sys2Proof

variable {u : State}

/-- The port is in service and the device awake: it serves ARP, NDP and echo (R252). -/
abbrev State.portServes (u : State) : Prop := u.portLive = true ∧ u.asleep = false

theorem State.portServes_iff (u : State) : (u.portLive && !u.asleep) = true ↔ u.portServes := by
  unfold State.portServes
  rw [Bool.and_eq_true, Bool.not_eq_true']

/-- The MAC address of the device. -/
abbrev State.ownMac (u : State) : Nat := (u.shadow.extractLsb' 16 48).toNat

theorem State.arpAsked_eq (ip mac : Nat) (u : State) : u.arpAsked ip mac
    = if u.portServes ∧ ip ≠ 0 ∧ ip = u.o 0x1802 0 then u.emit (.arpReply ip u.ownMac mac) else u := by
  unfold State.arpAsked
  refine if_congr ?_ rfl rfl
  rw [Bool.and_eq_true, Bool.and_eq_true, State.portServes_iff, bne_iff_ne, beq_iff_eq, and_assoc]

theorem State.resolved_eq (v6 : Bool) (ip mac : Nat) (u : State) : u.resolved v6 ip mac
    = if u.nextHop v6 ip = true then
        { u with port := { u.port with arp := smSet (fun _ => none) u.port.arp (hopKey v6 ip) (some mac) } } else u := rfl

theorem State.arpAnswered_eq (ip mac : Nat) (u : State) : u.arpAnswered ip mac
    = if u.portServes ∧ u.nextHop false ip = true then
        { u with port := { u.port with arp := smSet (fun _ => none) u.port.arp ip (some mac) } } else u := by
  unfold State.arpAnswered
  by_cases hlive : u.portServes
  · rw [if_pos ((State.portServes_iff u).mpr hlive), State.resolved_eq]
    exact if_congr (and_iff_right hlive).symm rfl rfl
  · rw [if_neg (fun hk => hlive ((State.portServes_iff u).mp hk)), if_neg (fun hk => hlive hk.1)]

/-- An IPv6 address of the port that is in use (R235). -/
theorem State.ownIps_v6 (u : State) (v6 : Nat) : (u.ownIps true).contains v6 = true
    ↔ v6 = u.linkLocal ∧ u.port.llConflict = false ∨ u.globalV6 0x1805 = some v6 ∧ u.port.glConflict = false := by
  unfold State.ownIps
  rw [if_pos rfl, List.contains_iff_mem, List.mem_append]
  refine or_congr ?_ ?_
  · cases u.port.llConflict <;> simp
  · cases u.port.glConflict <;> simp

theorem State.ndAsked_eq (v6 mac : Nat) (u : State) : u.ndAsked v6 mac
    = if u.portServes ∧ (v6 = u.linkLocal ∧ u.port.llConflict = false ∨ u.globalV6 0x1805 = some v6 ∧ u.port.glConflict = false)
      then u.emit (.ndAdvert v6 u.ownMac mac) else u := by
  unfold State.ndAsked
  refine if_congr ?_ rfl rfl
  rw [Bool.and_eq_true, State.portServes_iff, State.ownIps_v6]

theorem State.ndAnswered_kept {v6 mac : Nat} (h : ¬ u.portServes ∨ mac = u.ownMac) : u.ndAnswered v6 mac = u := by
  unfold State.ndAnswered
  by_cases hlive : u.portServes
  · have hmac : mac = u.ownMac := h.resolve_left (fun hk => hk hlive)
    rw [if_neg (by simp [hlive.1, hlive.2])]
    exact if_pos (beq_iff_eq.mpr hmac)
  · refine if_pos ?_
    unfold State.portServes at hlive
    rw [Bool.or_eq_true, Bool.not_eq_true']
    cases hport : u.portLive
    · exact Or.inl rfl
    · cases hasleep : u.asleep
      · exact absurd ⟨hport, hasleep⟩ hlive
      · exact Or.inr rfl

theorem State.ndAnswered_eq {v6 mac : Nat} (hlive : u.portServes) (hmac : mac ≠ u.ownMac) : u.ndAnswered v6 mac
    = if v6 = u.linkLocal then { u with port := { u.port with llConflict := true } }
      else if u.globalV6 0x1805 = some v6 then { u with port := { u.port with glConflict := true } }
      else u.resolved true v6 mac := by
  unfold State.ndAnswered
  rw [if_neg (by simp [hlive.1, hlive.2]), if_neg (fun hk => hmac (beq_iff_eq.mp hk))]
  exact if_congr beq_iff_eq rfl (if_congr beq_iff_eq rfl rfl)

/-! ## Echo requests (R234) -/

/-- An echo request that the port may answer. -/
def State.echoAsked (u : State) (a dst : Nat) (data : List Byte) : Prop :=
  u.nrOn a dst = true ∧ u.asleep = false ∧ data.length ≤ 1472

/-- A second has passed since the first echo request counted, or none is. -/
def State.echoFresh (u : State) : Prop := u.port.echoFrom + 800000000 ≤ u.now ∨ u.port.echoCount = 0

theorem State.echoFresh_iff (u : State) :
    (Decidable.decide (u.port.echoFrom + 800000000 ≤ u.now) || u.port.echoCount == 0) = true ↔ u.echoFresh := by
  unfold State.echoFresh
  rw [Bool.or_eq_true, decide_eq_true_eq, beq_iff_eq]

theorem State.echo_kept {a dst : Nat} {data : List Byte} (h : ¬ u.echoAsked a dst data) : u.echo a dst data = u := by
  refine if_pos ?_
  by_contra hk
  simp only [Bool.or_eq_true, Bool.not_eq_true', decide_eq_true_eq, not_or, Bool.not_eq_false, Nat.not_lt, Bool.not_eq_true] at hk
  obtain ⟨⟨hon, hasleep⟩, hlen⟩ := hk
  exact h ⟨hon, hasleep, hlen⟩

section
variable {a dst : Nat} {data : List Byte} (h : u.echoAsked a dst data)
include h

theorem State.echo_served : ¬ (!u.nrOn a dst || u.asleep || Decidable.decide (1472 < data.length)) = true := by
  obtain ⟨hon, hasleep, hlen⟩ := h
  simp only [hon, hasleep, Bool.not_true, Bool.false_or, decide_eq_true_eq]
  omega

theorem State.echo_counted (hfresh : ¬ u.echoFresh) : u.echo a dst data = if 100 ≤ u.port.echoCount then u
    else ({ u with port := { u.port with echoCount := u.port.echoCount + 1 } } : State).viaHop a (fun h => .echoReply dst a h data) := by
  refine (if_neg (State.echo_served h)).trans ?_
  dsimp only
  rw [if_neg (fun hk => hfresh ((State.echoFresh_iff u).mp hk)), if_neg (fun hk => hfresh ((State.echoFresh_iff u).mp hk))]

theorem State.echo_first (hfresh : u.echoFresh) : u.echo a dst data
    = ({ u with port := { u.port with echoFrom := u.now, echoCount := 1 } } : State).viaHop a (fun h => .echoReply dst a h data) := by
  refine (if_neg (State.echo_served h)).trans ?_
  dsimp only
  rw [if_pos ((State.echoFresh_iff u).mpr hfresh), if_pos ((State.echoFresh_iff u).mpr hfresh)]
  exact if_neg (by decide)

end

/-! ## The next hop and the link -/

theorem State.viaHop_none {a : Nat} (mk : Nat → Out) (h : u.hopOf a = none) : u.viaHop a mk = u := by
  unfold State.viaHop
  rw [h]

theorem State.viaHop_some {a hop : Nat} (mk : Nat → Out) (h : u.hopOf a = some hop) : u.viaHop a mk
    = if (smGet (fun _ => none) u.port.arp (hopKey (addrV6 a) hop)).isSome then u.emit (mk hop)
      else (u.emit (if addrV6 a then .ndSolicit hop else .arpRequest hop)).emit (mk hop) := by
  unfold State.viaHop
  rw [h]
  dsimp only
  split <;> rfl

theorem State.mgmtLink_down (up : Bool) (speed : Nat) (h : u.port.up = false) : u.mgmtLink up speed = u := if_neg (by rw [h]; decide)

/-- The link and the speed after a change. -/
def State.linkSet (up : Bool) (speed : Nat) (u : State) : State :=
  { u with port := { u.port with link := up, speed := if up then (if u.o 0x1800 0 = 1 then 2 else speed) else u.port.speed } }

theorem State.mgmtLink_up (up : Bool) (speed : Nat) (h : u.port.up = true) : u.mgmtLink up speed
    = if up = true ∧ u.port.link = false
      then each (fun a (z : State) => z.emit (.dadProbe a)) ((u.linkSet up speed).ownIps true) (u.linkSet up speed)
      else u.linkSet up speed := by
  have hset : ({ u with port := { u.port with
      link := up, speed := if (!up) = true then u.port.speed else if u.o 0x1800 0 = 1 then 2 else speed } } : State) = u.linkSet up speed := by
    cases up <;> rfl
  unfold State.mgmtLink
  rw [if_pos h]
  dsimp only
  rw [hset]
  exact if_congr (by rw [Bool.and_eq_true, Bool.not_eq_true']) rfl rfl

end Sys2Proof.Machine

open Sys2Proof Sys2Proof.Machine

/-- Settles O46: each frame of the port by the lemma of its case. -/
theorem portFrames : Obligations.PortFrames := by
  intro s b ip mac v6 a dst sp data up u own live heard fresh counted asked linked hip hmac hv6 ha hdst hsp
  have hframes : exec (.arpRequest b ip mac) s = .next (u.arpAsked ip mac) ∧ exec (.arpReply b ip mac) s = .next (u.arpAnswered ip mac)
      ∧ exec (.neighbourSolicitation b v6 mac) s = .next (u.ndAsked v6 mac)
      ∧ exec (.neighbourAdvertisement b v6 mac) s = .next (u.ndAnswered v6 mac)
      ∧ exec (.echoRequest b a data dst) s = .next (u.echo a dst data) ∧ exec (.unhandledFrame b) s = .next u
      ∧ exec (.mgmtLinkChange b up sp) s = .next (u.mgmtLink up sp) := by
    have hpair {x y m n : Nat} (hx : x < m) (hy : y < n) : (decide (x < m) && decide (y < n)) = true := by simp [hx, hy]
    exact ⟨at_runs (hpair hip hmac), at_runs (hpair hip hmac), at_runs (hpair hv6 hmac), at_runs (hpair hv6 hmac),
      at_runs (by rw [ha, hdst]; rfl), at_runs rfl, at_runs (decide_eq_true hsp)⟩
  obtain ⟨harp, hreply, hsolicit, hadvert, hecho, hother, hlink⟩ := hframes
  clear_value u
  refine ⟨?_, ?_, ?_, fun h => ?_, fun hl hm => ?_, fun h => ?_, fun h hf => ?_, fun h hf => ?_,
    fun z mk h => ⟨State.viaHop_none mk, State.viaHop_some mk⟩, hother, fun h => ?_, fun h => ?_⟩
  · exact harp.trans (congrArg _ (State.arpAsked_eq ip mac u))
  · exact hreply.trans (congrArg _ (State.arpAnswered_eq ip mac u))
  · exact hsolicit.trans (congrArg _ (State.ndAsked_eq v6 mac u))
  · exact hadvert.trans (congrArg _ (State.ndAnswered_kept h))
  · exact hadvert.trans (congrArg _ (State.ndAnswered_eq hl hm))
  · exact hecho.trans (congrArg _ (State.echo_kept h))
  · exact hecho.trans (congrArg _ (State.echo_counted h hf))
  · exact hecho.trans (congrArg _ (State.echo_first h hf))
  · exact hlink.trans (congrArg _ (State.mgmtLink_down up sp h))
  · exact hlink.trans (congrArg _ (State.mgmtLink_up up sp h))
end

section
/-! Reports and the rounds of the last gasp (10, 15). -/

namespace Sys2Proof.Machine

open Sys2Proof

variable {u : State}

/-- The 10 ms ticks since the last one taken. -/
def State.ticksDue (u : State) : Nat := (u.now - u.port.tickAt) / 8000000

/-- The beat of the last tick taken is `n`. -/
def State.tickedAt (n : Nat) (u : State) : State := { u with port := { u.port with tickAt := n } }

theorem State.tickedAt_serves (n : Nat) (u : State) : (u.tickedAt n).portLive = u.portLive ∧ (u.tickedAt n).asleep = u.asleep :=
  ⟨rfl, rfl⟩

/-- The port reports: in service, the Regulator RUNNING, the device awake (R250, R252). -/
abbrev State.reports (u : State) : Prop := u.portLive = true ∧ u.fw.regState = 1 ∧ u.asleep = false

theorem State.reports_iff (u : State) : (u.portLive && u.fw.regState == 1 && !u.asleep) = true ↔ u.reports := by
  rw [Bool.and_eq_true, Bool.and_eq_true, beq_iff_eq, Bool.not_eq_true', and_assoc]

theorem State.reportTick_early (h : u.ticksDue = 0) : u.reportTick = u := by
  unfold State.ticksDue at h
  unfold State.reportTick
  dsimp only
  rw [if_pos h]

section
variable (h : u.ticksDue ≠ 0)
include h

/-- The ticks are taken. -/
theorem State.reportTick_eq : u.reportTick
    = each (if u.portLive && u.fw.regState == 1 && !u.asleep then State.nrReports u.ticksDue else State.ticksPass u.ticksDue)
      (List.range 16) (u.tickedAt (u.port.tickAt + u.ticksDue * 8000000)) := by
  obtain ⟨hlive, hasleep⟩ := State.tickedAt_serves (u.port.tickAt + u.ticksDue * 8000000) u
  rw [← hlive, ← hasleep]
  unfold State.ticksDue at h ⊢
  unfold State.reportTick
  dsimp only
  rw [if_neg h]
  rfl

theorem State.reportTick_reports (hlive : u.reports) : u.reportTick
    = each (State.nrReports u.ticksDue) (List.range 16) (u.tickedAt (u.port.tickAt + u.ticksDue * 8000000)) := by
  rw [State.reportTick_eq h, if_pos ((State.reports_iff u).mpr hlive)]

theorem State.reportTick_passes (hlive : ¬ u.reports) : u.reportTick
    = each (State.ticksPass u.ticksDue) (List.range 16) (u.tickedAt (u.port.tickAt + u.ticksDue * 8000000)) := by
  rw [State.reportTick_eq h, if_neg (fun hk => hlive ((State.reports_iff u).mp hk))]

end

theorem State.client_setClient (c : Nat) (x : Client) (u : State) : (u.setClient c x).client c = x := smGet_set_same _ _ _ _

theorem State.client_setClient_ne {c d : Nat} (x : Client) (u : State) (h : d ≠ c) : (u.setClient c x).client d = u.client d :=
  smGet_set_other _ _ _ h

theorem State.mem_ticksPass (z : State) (c m : Nat) (x : Sub) : x ∈ ((z.ticksPass m c).client c).subs
    ↔ ∃ y ∈ (z.client c).subs, x = { y with since := y.since + m } := by
  unfold State.ticksPass
  rw [State.client_setClient]
  show x ∈ (z.client c).subs.map _ ↔ _
  rw [List.mem_map]
  exact exists_congr (fun y => and_congr_right (fun _ => eq_comm))

/-- A round of the last gasp is due (R351). -/
abbrev State.gaspDue (u : State) : Prop :=
  u.gasp.sending = true ∧ u.gasp.rounds < 3 ∧ u.gasp.commitAt + 80000 * u.gasp.rounds ≤ u.now ∧ u.portLive = true

theorem State.gaspDue_iff (u : State) : (u.gasp.sending && Decidable.decide (u.gasp.rounds < 3)
    && Decidable.decide (u.gasp.commitAt + 80000 * u.gasp.rounds ≤ u.now) && u.portLive) = true ↔ u.gaspDue := by
  rw [Bool.and_eq_true, Bool.and_eq_true, Bool.and_eq_true, decide_eq_true_eq, decide_eq_true_eq, and_assoc, and_assoc]

theorem State.gaspRound_sends (h : u.gaspDue) : u.gaspRound = { each State.gaspCopy u.gasp.dests u with
    gasp := { u.gasp with rounds := u.gasp.rounds + 1, sending := Decidable.decide (u.gasp.rounds < 2) } } :=
  if_pos ((State.gaspDue_iff u).mpr h)

theorem State.gaspRound_waits (h : ¬ u.gaspDue) : u.gaspRound = u := if_neg (fun hk => h ((State.gaspDue_iff u).mp hk))

/-- A copy to a resolved destination is one frame of OP 0x41. -/
theorem State.gaspCopy_sends {z : State} {d : Nat × Nat} {a src hop : Nat} (hlive : z.portLive = true) (haddr : (z.client d.1).addr = some a)
    (hsrc : z.srcFor a = some src) (hhop : z.hopOf a = some hop)
    (hknown : (smGet (fun _ => none) z.port.arp (hopKey (addrV6 a) hop)).isSome = true) : z.gaspCopy d
      = z.emit (.udp src a hop (nrFrame (z.nrKey d.1) (z.o 0x1810 d.1) 0x41 1 d.2 z.port.session.toNat 0 z.gaspRecord)) := by
  unfold State.gaspCopy
  rw [haddr]
  dsimp only
  unfold State.nrTell
  rw [hsrc]
  dsimp only
  unfold State.nrSend State.sendUdp
  rw [if_pos hlive, State.viaHop_some _ hhop]
  exact if_pos hknown

end Sys2Proof.Machine

open Sys2Proof Sys2Proof.Machine

/-- Settles O45: a report tick by the ticks due, a round of the last gasp by whether it is due. -/
theorem reportsAndGasp : Obligations.ReportsAndGasp := by
  intro s b q k p live u g due
  have htick : exec (.reportTick b) s = .next q.reportTick := nr_runs rfl
  have hround : exec (.gaspRound b) s = .next u.gaspRound := at_runs rfl
  clear_value q u
  refine ⟨fun h => ?_, fun h hl => ?_, fun h hl => ?_, State.mem_ticksPass, fun h => ?_, fun h => ?_,
    fun z d a src hop hlive haddr hsrc hhop hknown => State.gaspCopy_sends hlive haddr hsrc hhop hknown⟩
  · exact htick.trans (congrArg _ (State.reportTick_early h))
  · exact htick.trans (congrArg _ (State.reportTick_reports h hl))
  · exact htick.trans (congrArg _ (State.reportTick_passes h hl))
  · exact hround.trans (congrArg _ (State.gaspRound_sends h))
  · exact hround.trans (congrArg _ (State.gaspRound_waits h))
end

section
/-! One operation of a Narind client (10, 245 to 249): its turn, its result and its record. -/

namespace Sys2Proof.Machine

open Sys2Proof

/-! ## Numbers in a record -/

theorem leVal_leBytes {n v : Nat} (h : v < 256 ^ n) : leVal (leBytes n v) = v := by
  induction n generalizing v with
  | zero =>
    have hv : v = 0 := by simpa using h
    rw [hv]
    rfl
  | succ n ih =>
    have hhigh : v / 256 < 256 ^ n := Nat.div_lt_of_lt_mul (by rwa [Nat.pow_succ, Nat.mul_comm] at h)
    show (BitVec.ofNat 8 v).toNat + 256 * leVal (leBytes n (v / 256)) = v
    rw [ih hhigh, BitVec.toNat_ofNat]
    omega

theorem beVal_beBytes {n v : Nat} (h : v < 256 ^ n) : beVal (beBytes n v) = v := by
  unfold beVal beBytes
  rw [List.reverse_reverse, leVal_leBytes h]

/-- The bytes of a record after its two leading ones. -/
def recTail (idx el : Nat) (v : List Byte) : List Byte :=
  beBytes 2 v.length ++ (beBytes 2 idx ++ (beBytes 2 el ++ (v ++ List.replicate (padded v.length - v.length) 0)))

theorem nrRec_eq (op st idx el : Nat) (v : List Byte) :
    nrRec op st idx el v = BitVec.ofNat 8 op :: BitVec.ofNat 8 st :: recTail idx el v := by
  unfold nrRec recTail
  simp only [List.append_assoc, List.cons_append, List.nil_append]

theorem le_padded (n : Nat) : n ≤ padded n := by
  unfold padded
  omega

/-- A record is parsed back as the operation it names. -/
theorem nrParse_nrRec {op idx el : Nat} {v : List Byte} (hop : op < 256) (hidx : idx < 65536) (hel : el < 65536) (hlen : v.length < 65536) :
    nrParse 1 (nrRec op 0 idx el v) = some ([⟨op, idx, el, v, true⟩], []) := by
  obtain ⟨l, hl⟩ : ∃ l, l = nrRec op 0 idx el v := ⟨_, rfl⟩
  obtain ⟨pad, hpad⟩ : ∃ pad : List Byte, pad = List.replicate (padded v.length - v.length) 0 := ⟨_, rfl⟩
  have hcons : l = BitVec.ofNat 8 op :: BitVec.ofNat 8 0 :: (beBytes 2 v.length ++ (beBytes 2 idx ++ (beBytes 2 el ++ (v ++ pad)))) := by
    rw [hl, nrRec_eq, hpad]
    rfl
  have hpadlen : pad.length = padded v.length - v.length := by rw [hpad, List.length_replicate]
  have hbody : l.drop 8 = v ++ pad := by
    rw [hcons]
    rfl
  have hnum {k n : Nat} (hn : n < 65536) (h : (l.drop k).take 2 = beBytes 2 n) : beAt k 2 l = n := by
    unfold beAt
    rw [h, beVal_beBytes hn]
  have hfields : beAt 0 1 l = op ∧ beAt 2 2 l = v.length ∧ beAt 4 2 l = idx ∧ beAt 6 2 l = el := by
    refine ⟨?_, hnum hlen ?_, hnum hidx ?_, hnum hel ?_⟩
    · rw [hcons]
      exact beVal_beBytes (n := 1) hop
    all_goals
      rw [hcons]
      rfl
  have hwhole : l.length = 8 + padded v.length := by
    have hle := le_padded v.length
    have hdrop := congrArg List.length hbody
    have hshort : 8 ≤ l.length := by
      rw [hcons]
      show 8 ≤ (v ++ pad).length + 8
      omega
    rw [List.length_drop, List.length_append, hpadlen] at hdrop
    omega
  obtain ⟨hop', hlen', hidx', hel'⟩ := hfields
  have hval : (l.drop 8).take v.length = v := by rw [hbody, List.take_left]
  have hzero : ((l.drop (8 + v.length)).take (padded v.length - v.length)).all (· == 0) = true := by
    rw [← List.drop_drop, hbody, List.drop_left, ← hpadlen, List.take_length, hpad, List.all_eq_true]
    intro x hx
    rw [List.eq_of_mem_replicate hx]
    rfl
  have hend : l.drop (8 + padded v.length) = [] := by
    rw [← hwhole, List.drop_length]
  have hclean : ((l.drop 1).head? == some 0) = true := by
    rw [hcons]
    rfl
  rw [← hl]
  unfold nrParse
  dsimp only
  rw [hlen', if_neg (by omega), hend, hop', hidx', hel', hval, hzero, hclean]
  rfl

/-! ## The turn of a row -/

/-- What a row of client entry `c` takes in. -/
def rowIn (c addr op idx el : Nat) (v : List Byte) : NrIn := ⟨c, addr, 0, true, nrRec op 0 idx el v⟩

/-- The job of a row. -/
def State.rowJob (q : State) (c addr op idx el : Nat) (v : List Byte) : NrJob :=
  ⟨rowIn c addr op idx el v, q.o 0x1811 c, [⟨op, idx, el, v, true⟩], false, [], none, q.now, []⟩

/-- The port is in service and idle, and its operations run. -/
structure State.RowsRun (q : State) : Prop where
  live : q.portLive = true
  bar : q.start.dictBarUntil ≤ q.now
  queue : q.port.queue = []
  job : q.port.job = none

/-- A job's operation meets the port as it was, and the 1,600 beats of R289 are still over. -/
theorem State.setJob_meets {q : State} (j : NrJob) (hbar : q.start.dictBarUntil ≤ q.now) :
    ((q.setJob (some j)).upToReq q.now).port = { q.port with job := some j }
    ∧ ((q.setJob (some j)).upToReq q.now).start.dictBarUntil ≤ ((q.setJob (some j)).upToReq q.now).now := by
  have hstill := State.upTo_still (max q.now q.nextSw) (q.setJob (some j)) (Still.refl _)
  have hstart : ((q.setJob (some j)).upToReq q.now).start = q.start := hstill.start
  have hnow : max q.now q.nextSw ≤ ((q.setJob (some j)).upToReq q.now).now := State.now_upTo _ _
  refine ⟨hstill.port, ?_⟩
  rw [hstart]
  exact hbar.trans ((Nat.le_max_left _ _).trans hnow)

/-- The state a row's operation meets. -/
def State.rowMeets (q : State) (c addr op idx el : Nat) (v : List Byte) : State :=
  (q.setJob (some (q.rowJob c addr op idx el v))).upToReq q.now

section
variable {q : State} (hrun : q.RowsRun) {c addr op idx el : Nat} {v : List Byte}
include hrun

theorem State.rowMeets_same : (q.rowMeets c addr op idx el v).port = { q.port with job := some (q.rowJob c addr op idx el v) }
    ∧ (q.rowMeets c addr op idx el v).start.dictBarUntil ≤ (q.rowMeets c addr op idx el v).now :=
  State.setJob_meets (q.rowJob c addr op idx el v) hrun.bar

/-- A row's operation has its turn at once. -/
theorem State.nrRow_starts (hop : op < 256) (hidx : idx < 65536) (hel : el < 65536) (hlen : v.length < 65536) :
    q.nrRow c addr op idx el v
      = nrRun 8702 ((q.setJob (some (q.rowJob c addr op idx el v))).nrStart (q.rowJob c addr op idx el v) ⟨op, idx, el, v, true⟩) := by
  have hserved : ¬ (!q.portLive || Decidable.decide (q.now < q.start.dictBarUntil)) = true := by
    rw [hrun.live, decide_eq_false (Nat.not_lt.mpr hrun.bar)]
    decide
  have htake : q.nrTake (rowIn c addr op idx el v) = q.setJob (some (q.rowJob c addr op idx el v)) := by
    refine (if_pos rfl).trans ?_
    show q.nrBegin (rowIn c addr op idx el v) ((nrParse 1 (nrRec op 0 idx el v)).elim [] (·.1)) = _
    rw [nrParse_nrRec hop hidx hel hlen]
    rfl
  have hready : (q.setJob (some (q.rowJob c addr op idx el v))).nrReady = true := by
    show (Decidable.decide (q.start.dictBarUntil ≤ q.now) && true) = true
    rw [decide_eq_true hrun.bar]
    rfl
  refine (if_neg hserved).trans ((State.nrDrain_takes _ q hrun.job hrun.queue hrun.bar).trans ?_)
  show nrRun 8703 (q.nrTake (rowIn c addr op idx el v)) = _
  rw [htake, nrRun_go (f := 8702) hready]
  rfl

end

/-! ## What an operation completes with -/

section
variable {j : NrJob} {o : NrOp} {z : State} {r : WinResult}

/-- An operation applied at once. -/
theorem State.nrStart_now {t : State} (hop : (z.upToReq z.now).nrOp j.src.client j.src.addr o = (r, t)) (hreg : r.reg = false)
    (hjob : t.port.job ≠ none) : z.nrStart j o = t.setJob (some { j with pend := some r, due := t.now }) := by
  have hsome : t.port.job.isNone = false := by
    rw [Option.isNone_eq_false_iff, Option.isSome_iff_ne_none]
    exact hjob
  unfold State.nrStart
  dsimp only
  rw [hop]
  dsimp only
  rw [hreg]
  simp [hsome]

/-- An operation that the Regulator serves: it completes within R226's bound. -/
theorem State.nrStart_served {t : State} (hop : (z.upToReq z.now).nrOp j.src.client j.src.addr o = (r, t)) (hreg : r.reg = true)
    (hjob : t.port.job ≠ none) : z.nrStart j o = t.draw.2.setJob (some { j with
      pend := some r, due := t.draw.2.now + Config.freeServe t.draw.1 % 800000 }) := by
  have hsome : t.draw.2.port.job.isNone = false := by
    rw [Option.isNone_eq_false_iff, Option.isSome_iff_ne_none]
    exact hjob
  unfold State.nrStart
  dsimp only
  rw [hop]
  dsimp only
  rw [hreg, if_pos rfl]
  rw [if_neg (by rw [hsome]; decide)]
  rfl

end

/-- A job whose operation may complete goes on. -/
theorem State.nrReady_due {z : State} {j : NrJob} (hjob : z.port.job = some j) (hbar : z.start.dictBarUntil ≤ z.now)
    (h : j.pend = none ∨ ∃ r, j.pend = some r ∧ r.wind = false ∧ j.due ≤ z.now) : z.nrReady = true := by
  unfold State.nrReady
  rw [hjob]
  dsimp only
  rw [decide_eq_true hbar, Bool.true_and]
  rcases h with h | ⟨r, h, hwind, hdue⟩
  · rw [h]
  · rw [h]
    dsimp only
    rw [hwind]
    exact decide_eq_true hdue

/-- A job that waits for its wind does not go on. -/
theorem State.nrReady_winding {z : State} {j : NrJob} {r : WinResult} (hjob : z.port.job = some j) (hpend : j.pend = some r)
    (hwind : r.wind = true) (h : z.winding j.pr = true) : z.nrReady = false := by
  unfold State.nrReady
  rw [hjob]
  dsimp only
  rw [hpend]
  dsimp only
  rw [hwind, if_pos rfl, h]
  exact Bool.and_false _

theorem State.nrStep_job {z : State} {j : NrJob} (hjob : z.port.job = some j) : z.nrStep = z.nrWork j := by
  unfold State.nrStep
  rw [hjob]

section
variable {j : NrJob} {o : NrOp} {r : WinResult}

/-- A row's job once its only operation has completed. -/
def NrJob.rowEnded (j : NrJob) (o : NrOp) (r : WinResult) : NrJob :=
  { j with
    ops := [], recs := [nrRec o.op r.status o.idx o.el (r.value.getD [])], halted := j.halted || (j.src.stops && r.status != 0)
    pend := none, later := [] }

theorem State.nrWork_completes {z : State} (hpend : j.pend = some r) (hops : j.ops = [o]) (hrow : j.src.row = true) (hrecs : j.recs = [])
    (hlater : j.later = []) (hwind : r.wind = false) (hdelays : r.delays = 0) :
    z.nrWork j = (z.setJob (some (j.rowEnded o r))).answer r.status := by
  unfold State.nrWork
  rw [hpend]
  dsimp only
  rw [hwind, if_neg (by decide)]
  unfold State.nrFinish NrJob.rowEnded
  rw [hops]
  dsimp only
  rw [hrow, if_pos rfl, hdelays, hrecs, hlater]
  rfl

theorem State.nrWork_replies {z : State} (hpend : j.pend = none) (hops : j.ops = []) (hrow : j.src.row = true) (hlater : j.later = []) :
    z.nrWork j = (z.setJob none).emit (.nrRecord j.src.client j.recs.flatten) := by
  unfold State.nrWork
  rw [hpend, hops]
  dsimp only
  unfold State.nrReply
  rw [hlater]
  exact if_pos hrow

variable {t : State} (hrow : j.src.row = true) (hops : j.ops = [o]) (hrecs : j.recs = []) (hlater : j.later = [])
    (hbar : t.start.dictBarUntil ≤ t.now) (hqueue : t.port.queue = [])
include hrow hops hrecs hlater hbar hqueue

/-- A row's only operation completes: its status is answered and its record sent. -/
theorem nrRun_row (hwind : r.wind = false) (hdelays : r.delays = 0) :
    nrRun 8702 (t.setJob (some { j with pend := some r, due := t.now }))
      = ((t.setJob none).answer r.status).emit (.nrRecord j.src.client (nrRec o.op r.status o.idx o.el (r.value.getD []))) := by
  obtain ⟨w, hw⟩ : ∃ w : NrJob, w = { j with pend := some r, due := t.now } := ⟨_, rfl⟩
  have hdue : (t.setJob (some w)).nrReady = true := State.nrReady_due rfl hbar (Or.inr ⟨r, by rw [hw], hwind, by rw [hw]; exact Nat.le_refl _⟩)
  have hfirst : (t.setJob (some w)).nrStep = ((t.setJob (some w)).setJob (some (w.rowEnded o r))).answer r.status := by
    rw [State.nrStep_job (j := w) rfl]
    subst hw
    exact State.nrWork_completes rfl hops hrow hrecs hlater hwind hdelays
  obtain ⟨e, he⟩ : ∃ e : NrJob, e = w.rowEnded o r := ⟨_, rfl⟩
  have hended : (((t.setJob (some w)).setJob (some e)).answer r.status).nrReady = true :=
    State.nrReady_due rfl hbar (Or.inl (by rw [he]; rfl))
  have hsecond : (((t.setJob (some w)).setJob (some e)).answer r.status).nrStep
      = ((t.setJob none).answer r.status).emit (.nrRecord j.src.client (nrRec o.op r.status o.idx o.el (r.value.getD []))) := by
    have hrecord : e.recs.flatten = nrRec o.op r.status o.idx o.el (r.value.getD []) := by
      rw [he]
      exact List.append_nil _
    rw [State.nrStep_job (j := e) rfl, State.nrWork_replies (by rw [he]; rfl) (by rw [he]; rfl) (by rw [he, hw]; exact hrow) (by rw [he]; rfl),
      hrecord, he, hw]
    rfl
  rw [← hw, nrRun_go (f := 8701) hdue, hfirst, ← he, nrRun_go (f := 8700) hended, hsecond]
  exact nrRun_stop (State.nrReady_idle _ rfl hqueue)

end

/-! ## What the operations of a row do -/

section
variable {u : State} {c addr idx el : Nat} (hawake : u.asleep = false)
include hawake

/-- An awake device executes every operation. -/
theorem State.nrOp_awake (o : NrOp) : ¬ (u.asleep && !quietServed o.op o.idx) = true := by
  rw [hawake, Bool.false_and]
  decide

theorem State.nrOp_get : u.nrOp c addr ⟨1, idx, el, [], true⟩
    = (nrNow (u.nrRead c idx el .get).1 (some (u.nrRead c idx el .get).2) (regServed idx), u) := if_neg (State.nrOp_awake hawake _)

theorem State.nrOp_getDraft : u.nrOp c addr ⟨6, idx, el, [], true⟩
    = (nrNow (u.nrRead c idx el .draft).1 (some (u.nrRead c idx el .draft).2) (regServed idx), u) := if_neg (State.nrOp_awake hawake _)

/-- The access of a SET or an ACTION (R211). -/
def State.rowPut (u : State) (c idx el : Nat) (d : DOp) (v : List Byte) : Ans × State :=
  u.access (u.o 0x1811 c) idx el d v.length (if typeOf idx = 11 ∨ typeOf idx = 12 then blobEnc v else beVal v) false

/-- What a SET or an ACTION completes with. -/
def State.rowResult (u : State) (c idx el : Nat) (d : DOp) (v : List Byte) : WinResult :=
  ⟨(u.rowPut c idx el d v).1.status, none, false, 0, (u.rowPut c idx el d v).1.wind, regServed idx, u.delayBegun (u.rowPut c idx el d v).2 idx⟩

theorem State.nrOp_set (v : List Byte) : u.nrOp c addr ⟨2, idx, el, v, true⟩
    = (u.rowResult c idx el .nrSet v, (u.rowPut c idx el .nrSet v).2) := if_neg (State.nrOp_awake hawake _)

theorem State.nrOp_action (v : List Byte) : u.nrOp c addr ⟨3, idx, el, v, true⟩
    = (u.rowResult c idx el .action v, (u.rowPut c idx el .action v).2) := if_neg (State.nrOp_awake hawake _)

theorem State.nrOp_unsubscribe : u.nrOp c addr ⟨5, idx, el, [], true⟩
    = (nrNow 0 none false, u.setClient c { u.client c with subs := otherSubs idx el (u.client c).subs }) :=
  if_neg (State.nrOp_awake hawake _)

theorem State.nrOp_subscribe {v : List Byte} {st : Nat} {t : State} (h : u.nrSubscribe c addr idx el v = (st, t)) :
    u.nrOp c addr ⟨4, idx, el, v, true⟩ = (nrNow st none false, t) :=
  (if_neg (State.nrOp_awake hawake _)).trans (congrArg (fun p : Nat × State => (nrNow p.1 none false, p.2)) h)

end

/-- A SUBSCRIBE of a readable parameter with a valid value and room. -/
theorem State.nrSubscribe_subscribes {w : State} {c addr idx el : Nat} {v : List Byte} {o : Nat × Obj}
    (hgate : w.gate (w.o 0x1811 c) idx el .get = .ok o) (hfree : w.engRefused idx o.1 = false) (hlen : v.length = 4)
    (hiv : field (beVal v) 0 16 ≤ 6000) (hvalue : field (beVal v) 0 16 ≠ 0 ∨ bitOf (beVal v) 16 = true)
    (hroom : (otherSubs idx el (w.client c).subs).length < 16)
    (hall : ((List.range 16).map (fun k => if k = c then (otherSubs idx el (w.client c).subs).length else (w.client k).subs.length)).sum < 64) :
    w.nrSubscribe c addr idx el v = (0, w.setClient c { w.client c with
      subAddr := addr, subs := otherSubs idx el (w.client c).subs ++ [⟨idx, el, field (beVal v) 0 16, bitOf (beVal v) 16, 0, none⟩] }) := by
  have hstatus : (w.access (w.o 0x1811 c) idx el .get 0 0 false).1.status = 0 := by
    unfold State.access
    rw [hgate]
    dsimp only
    rw [if_pos (show DOp.reads .get = true from rfl), hfree]
    rfl
  have hgood : ¬ (Decidable.decide (6000 < field (beVal v) 0 16) || (field (beVal v) 0 16 == 0 && !bitOf (beVal v) 16)) = true := by
    simp only [Bool.or_eq_true, decide_eq_true_eq, Bool.and_eq_true, beq_iff_eq, Bool.not_eq_true', not_or, not_and, Bool.not_eq_false]
    exact ⟨Nat.not_lt.mpr hiv, fun hzero => hvalue.resolve_left (fun hne => hne hzero)⟩
  have hfits : ¬ (Decidable.decide (16 ≤ (otherSubs idx el (w.client c).subs).length)
      || Decidable.decide (64 ≤ ((List.range 16).map (fun k => if k = c then (otherSubs idx el (w.client c).subs).length
        else (w.client k).subs.length)).sum)) = true := by
    rw [decide_eq_false (Nat.not_le.mpr hroom), decide_eq_false (Nat.not_le.mpr hall)]
    decide
  unfold State.nrSubscribe
  dsimp only
  rw [hstatus, if_neg (by decide), if_neg (by rw [hlen]; decide), if_neg hgood]
  exact if_neg hfits

section
variable {q t : State} {c addr op idx el : Nat} {v : List Byte} {r : WinResult}
    (hop : (q.rowMeets c addr op idx el v).nrOp c addr ⟨op, idx, el, v, true⟩ = (r, t))
    (hport : t.port.job ≠ none)
include hop hport

/-- A row whose operation ends at once. -/
theorem State.nrStart_rowEnds (hreg : r.reg = false) (hwind : r.wind = false) (hdelays : r.delays = 0)
    (hbar : t.start.dictBarUntil ≤ t.now) (hqueue : t.port.queue = []) :
    nrRun 8702 ((q.setJob (some (q.rowJob c addr op idx el v))).nrStart (q.rowJob c addr op idx el v) ⟨op, idx, el, v, true⟩)
      = ((t.setJob none).answer r.status).emit (.nrRecord c (nrRec op r.status idx el (r.value.getD []))) := by
  rw [State.nrStart_now (j := q.rowJob c addr op idx el v) hop hreg hport]
  exact nrRun_row (j := q.rowJob c addr op idx el v) (o := ⟨op, idx, el, v, true⟩) rfl rfl rfl rfl hbar hqueue hwind hdelays

/-- A row whose operation waits for its wind. -/
theorem State.nrStart_rowWinds (hreg : r.reg = false) (hwind : r.wind = true) (hwinding : t.winding (q.o 0x1811 c) = true) :
    nrRun 8702 ((q.setJob (some (q.rowJob c addr op idx el v))).nrStart (q.rowJob c addr op idx el v) ⟨op, idx, el, v, true⟩)
      = t.setJob (some { q.rowJob c addr op idx el v with pend := some r, due := t.now }) := by
  rw [State.nrStart_now (j := q.rowJob c addr op idx el v) hop hreg hport]
  exact nrRun_stop (State.nrReady_winding rfl rfl hwind hwinding)

end

section
variable {q : State} (hrun : q.RowsRun) {c addr op idx el : Nat} {v : List Byte}
include hrun

theorem State.rowMeets_ready : (q.rowMeets c addr op idx el v).port.job ≠ none ∧ (q.rowMeets c addr op idx el v).port.queue = []
    ∧ (q.rowMeets c addr op idx el v).start.dictBarUntil ≤ (q.rowMeets c addr op idx el v).now := by
  obtain ⟨hport, hbar⟩ := State.rowMeets_same hrun (c := c) (addr := addr) (op := op) (idx := idx) (el := el) (v := v)
  rw [hport]
  exact ⟨Option.some_ne_none _, hrun.queue, hbar⟩

/-- A row that reads: its value is sent. -/
theorem State.nrStart_rowReads {st : Nat} {x : List Byte}
    (hop : (q.rowMeets c addr op idx el v).nrOp c addr ⟨op, idx, el, v, true⟩ = (nrNow st (some x) false, q.rowMeets c addr op idx el v)) :
    nrRun 8702 ((q.setJob (some (q.rowJob c addr op idx el v))).nrStart (q.rowJob c addr op idx el v) ⟨op, idx, el, v, true⟩)
      = (((q.rowMeets c addr op idx el v).setJob none).answer st).emit (.nrRecord c (nrRec op st idx el x)) := by
  obtain ⟨hjob, hqueue, hbar⟩ := State.rowMeets_ready hrun (c := c) (addr := addr) (op := op) (idx := idx) (el := el) (v := v)
  exact State.nrStart_rowEnds hop hjob rfl rfl rfl hbar hqueue

/-- A row that changes its client alone. -/
theorem State.nrStart_rowClient {st : Nat} {x : Client}
    (hop : (q.rowMeets c addr op idx el v).nrOp c addr ⟨op, idx, el, v, true⟩
      = (nrNow st none false, (q.rowMeets c addr op idx el v).setClient c x)) :
    nrRun 8702 ((q.setJob (some (q.rowJob c addr op idx el v))).nrStart (q.rowJob c addr op idx el v) ⟨op, idx, el, v, true⟩)
      = ((((q.rowMeets c addr op idx el v).setClient c x).setJob none).answer st).emit (.nrRecord c (nrRec op st idx el [])) := by
  obtain ⟨hjob, hqueue, hbar⟩ := State.rowMeets_ready hrun (c := c) (addr := addr) (op := op) (idx := idx) (el := el) (v := v)
  exact State.nrStart_rowEnds hop hjob rfl rfl rfl hbar hqueue

/-- A row that reads what the Regulator serves. -/
theorem State.nrStart_rowServed {st : Nat} {x : List Byte}
    (hop : (q.rowMeets c addr op idx el v).nrOp c addr ⟨op, idx, el, v, true⟩ = (nrNow st (some x) true, q.rowMeets c addr op idx el v)) :
    (q.setJob (some (q.rowJob c addr op idx el v))).nrStart (q.rowJob c addr op idx el v) ⟨op, idx, el, v, true⟩
      = (q.rowMeets c addr op idx el v).draw.2.setJob (some { q.rowJob c addr op idx el v with
        pend := some ⟨st, some x, false, 0, false, true, 0⟩
        due := (q.rowMeets c addr op idx el v).draw.2.now + Config.freeServe (q.rowMeets c addr op idx el v).draw.1 % 800000 }) := by
  obtain ⟨hjob, -, -⟩ := State.rowMeets_ready hrun (c := c) (addr := addr) (op := op) (idx := idx) (el := el) (v := v)
  exact State.nrStart_served (j := q.rowJob c addr op idx el v) hop rfl hjob

variable {d : DOp} (hop : (q.rowMeets c addr op idx el v).nrOp c addr ⟨op, idx, el, v, true⟩
      = ((q.rowMeets c addr op idx el v).rowResult c idx el d v, ((q.rowMeets c addr op idx el v).rowPut c idx el d v).2))
    (hport : ((q.rowMeets c addr op idx el v).rowPut c idx el d v).2.port = (q.rowMeets c addr op idx el v).port)
    (hdelay : (q.rowMeets c addr op idx el v).delayBegun ((q.rowMeets c addr op idx el v).rowPut c idx el d v).2 idx = 0)
include hop hport hdelay

/-- A SET or an ACTION that ends at once. -/
theorem State.nrStart_rowPut (hreg : regServed idx = false) (hwind : ((q.rowMeets c addr op idx el v).rowPut c idx el d v).1.wind = false)
    (hbar : ((q.rowMeets c addr op idx el v).rowPut c idx el d v).2.start.dictBarUntil
      ≤ ((q.rowMeets c addr op idx el v).rowPut c idx el d v).2.now) :
    nrRun 8702 ((q.setJob (some (q.rowJob c addr op idx el v))).nrStart (q.rowJob c addr op idx el v) ⟨op, idx, el, v, true⟩)
      = ((((q.rowMeets c addr op idx el v).rowPut c idx el d v).2.setJob none).answer
        ((q.rowMeets c addr op idx el v).rowPut c idx el d v).1.status).emit
        (.nrRecord c (nrRec op ((q.rowMeets c addr op idx el v).rowPut c idx el d v).1.status idx el [])) := by
  obtain ⟨hjob, hqueue, -⟩ := State.rowMeets_ready hrun (c := c) (addr := addr) (op := op) (idx := idx) (el := el) (v := v)
  rw [← hport] at hjob hqueue
  have hresult : (q.rowMeets c addr op idx el v).rowResult c idx el d v
      = nrNow ((q.rowMeets c addr op idx el v).rowPut c idx el d v).1.status none false := by
    unfold State.rowResult nrNow
    rw [hwind, hreg, hdelay]
  rw [hresult] at hop
  generalize (q.rowMeets c addr op idx el v).rowPut c idx el d v = p at *
  exact State.nrStart_rowEnds hop hjob rfl rfl rfl hbar hqueue

/-- A SET or an ACTION that the Regulator serves. -/
theorem State.nrStart_rowPutServed (hreg : regServed idx = true)
    (hwind : ((q.rowMeets c addr op idx el v).rowPut c idx el d v).1.wind = false) :
    (q.setJob (some (q.rowJob c addr op idx el v))).nrStart (q.rowJob c addr op idx el v) ⟨op, idx, el, v, true⟩
      = ((q.rowMeets c addr op idx el v).rowPut c idx el d v).2.draw.2.setJob (some { q.rowJob c addr op idx el v with
        pend := some ⟨((q.rowMeets c addr op idx el v).rowPut c idx el d v).1.status, none, false, 0, false, true, 0⟩
        due := ((q.rowMeets c addr op idx el v).rowPut c idx el d v).2.draw.2.now
          + Config.freeServe ((q.rowMeets c addr op idx el v).rowPut c idx el d v).2.draw.1 % 800000 }) := by
  obtain ⟨hjob, -, -⟩ := State.rowMeets_ready hrun (c := c) (addr := addr) (op := op) (idx := idx) (el := el) (v := v)
  rw [← hport] at hjob
  have hresult : (q.rowMeets c addr op idx el v).rowResult c idx el d v
      = ⟨((q.rowMeets c addr op idx el v).rowPut c idx el d v).1.status, none, false, 0, false, true, 0⟩ := by
    unfold State.rowResult
    rw [hwind, hreg, hdelay]
  rw [hresult] at hop
  exact State.nrStart_served (j := q.rowJob c addr op idx el v) hop rfl hjob

/-- An ACTION that waits for its wind. -/
theorem State.nrStart_rowPutWinds (hreg : regServed idx = false)
    (hwind : ((q.rowMeets c addr op idx el v).rowPut c idx el d v).1.wind = true)
    (hwinding : ((q.rowMeets c addr op idx el v).rowPut c idx el d v).2.winding (q.o 0x1811 c) = true) :
    nrRun 8702 ((q.setJob (some (q.rowJob c addr op idx el v))).nrStart (q.rowJob c addr op idx el v) ⟨op, idx, el, v, true⟩)
      = ((q.rowMeets c addr op idx el v).rowPut c idx el d v).2.setJob (some { q.rowJob c addr op idx el v with
        pend := some ⟨((q.rowMeets c addr op idx el v).rowPut c idx el d v).1.status, none, false, 0, true, false, 0⟩
        due := ((q.rowMeets c addr op idx el v).rowPut c idx el d v).2.now }) := by
  obtain ⟨hjob, -, -⟩ := State.rowMeets_ready hrun (c := c) (addr := addr) (op := op) (idx := idx) (el := el) (v := v)
  rw [← hport] at hjob
  have hresult : (q.rowMeets c addr op idx el v).rowResult c idx el d v
      = ⟨((q.rowMeets c addr op idx el v).rowPut c idx el d v).1.status, none, false, 0, true, false, 0⟩ := by
    unfold State.rowResult
    rw [hwind, hreg, hdelay]
  rw [hresult] at hop
  exact State.nrStart_rowWinds hop hjob rfl rfl hwinding

end

end Sys2Proof.Machine

open Sys2Proof Sys2Proof.Machine

/-- Settles O44: a row's turn comes at once; what its operation completes with ends it, or waits for the Regulator or the wind. -/
theorem narindOperations : Obligations.NarindOperations := by
  intro s b c a idx el v o q i job u last done num put quietly ends waits w y rest hc hidx hel hlen hlive hbar hqueue hjob
  have hrow {ok : Bool} (addr op : Nat) (v : List Byte) (hok : ok = true) :
      nr_ b ok (State.nrRow c addr op idx el v) s = .next (q.nrRow c addr op idx el v) := nr_runs hok
  have hok {v : List Byte} (h : v.length ≤ 1424) :
      (decide (c < 16) && decide (idx < 65536) && decide (el < 65536) && decide (v.length ≤ 1424)) = true := by
    simp [hc, hidx, hel, h]
  have hnil : ([] : List Byte).length ≤ 1424 := by decide
  have hcommands : exec (.nrGet b c idx el) s = .next (q.nrRow c last 1 idx el [])
      ∧ exec (.nrSet b c idx el v) s = .next (q.nrRow c last 2 idx el v)
      ∧ exec (.nrAction b c idx el v) s = .next (q.nrRow c last 3 idx el v)
      ∧ exec (.unsubscribe b c idx el) s = .next (q.nrRow c last 5 idx el [])
      ∧ exec (.nrGetDraft b c idx el) s = .next (q.nrRow c last 6 idx el []) :=
    ⟨hrow last 1 [] (hok hnil), hrow last 2 v (hok hlen), hrow last 3 v (hok hlen), hrow last 5 [] (hok hnil), hrow last 6 [] (hok hnil)⟩
  have hsubscribe (ha : addrOk a = true) : exec (.subscribe b c a idx el v) s = .next (q.nrRow c a 4 idx el v) :=
    hrow a 4 v (by simp [hc, ha, hidx, hel, hlen])
  obtain ⟨hget, hset, haction, hunsubscribe, hdraft⟩ := hcommands
  clear_value q last
  have hrun : q.RowsRun := ⟨hlive, hbar, hqueue, hjob⟩
  have hstarts (addr op : Nat) {v : List Byte} (hop : op < 256) (hlen : v.length ≤ 1424) : q.nrRow c addr op idx el v
      = nrRun 8702 ((q.setJob (some (job op addr v))).nrStart (job op addr v) ⟨op, idx, el, v, true⟩) :=
    State.nrRow_starts hrun hop hidx hel (by omega)
  refine ⟨fun hr hq => ?_, fun hr hq => ?_, fun hr hq => ?_, fun hr hq hend hd => ?_, fun hq hw hp hr hwinding hd => ?_, fun hr hq => ?_,
    fun hr hq hend hd => ?_, fun hr hq hend hd => ?_, fun hr hq hend hd => ?_,
    fun ha hq hgate hfree hl hiv hvalue hroom hall => ?_, fun hq => ?_⟩
  · have hop := State.nrOp_get hq (c := c) (addr := last) (idx := idx) (el := el)
    rw [hr] at hop
    exact hget.trans (congrArg _ ((hstarts last 1 (by decide) hnil).trans (State.nrStart_rowReads hrun hop)))
  · have hop := State.nrOp_get hq (c := c) (addr := last) (idx := idx) (el := el)
    rw [hr] at hop
    exact hget.trans (congrArg _ ((hstarts last 1 (by decide) hnil).trans (congrArg _ (State.nrStart_rowServed hrun hop))))
  · have hop := State.nrOp_getDraft hq (c := c) (addr := last) (idx := idx) (el := el)
    rw [hr] at hop
    exact hdraft.trans (congrArg _ ((hstarts last 6 (by decide) hnil).trans (congrArg _ (State.nrStart_rowServed hrun hop))))
  · obtain ⟨hwind, hport, -⟩ := hend
    have hop := State.nrOp_set hq (c := c) (addr := last) (idx := idx) (el := el) v
    exact hset.trans (congrArg _ ((hstarts last 2 (by decide) hlen).trans
      (congrArg _ (State.nrStart_rowPutServed hrun hop hport hd hr hwind))))
  · have hop := State.nrOp_action hq (c := c) (addr := last) (idx := idx) (el := el) v
    exact haction.trans (congrArg _ ((hstarts last 3 (by decide) hlen).trans
      (State.nrStart_rowPutWinds hrun hop hp hd hr hw hwinding)))
  · have hop := State.nrOp_getDraft hq (c := c) (addr := last) (idx := idx) (el := el)
    rw [hr] at hop
    exact hdraft.trans (congrArg _ ((hstarts last 6 (by decide) hnil).trans (State.nrStart_rowReads hrun hop)))
  · obtain ⟨hwind, hport, hend⟩ := hend
    have hop := State.nrOp_set hq (c := c) (addr := last) (idx := idx) (el := el) v
    exact hset.trans (congrArg _ ((hstarts last 2 (by decide) hlen).trans
      (State.nrStart_rowPut hrun hop hport hd hr hwind hend)))
  · obtain ⟨hwind, hport, hend⟩ := hend
    have hop := State.nrOp_action hq (c := c) (addr := last) (idx := idx) (el := el) v
    exact haction.trans (congrArg _ ((hstarts last 3 (by decide) hlen).trans
      (State.nrStart_rowPut hrun hop hport hd hr hwind hend)))
  · obtain ⟨hwind, hport, -⟩ := hend
    have hop := State.nrOp_action hq (c := c) (addr := last) (idx := idx) (el := el) v
    exact haction.trans (congrArg _ ((hstarts last 3 (by decide) hlen).trans
      (congrArg _ (State.nrStart_rowPutServed hrun hop hport hd hr hwind))))
  · have hop := State.nrOp_subscribe hq (c := c) (addr := a) (idx := idx) (el := el)
      (State.nrSubscribe_subscribes hgate hfree hl hiv hvalue hroom hall)
    exact (hsubscribe ha).trans (congrArg _ ((hstarts a 4 (by decide) hlen).trans (State.nrStart_rowClient hrun hop)))
  · have hop := State.nrOp_unsubscribe hq (c := c) (addr := last) (idx := idx) (el := el)
    exact hunsubscribe.trans (congrArg _ ((hstarts last 5 (by decide) hnil).trans (State.nrStart_rowClient hrun hop)))
end

section
/-! Frames of the Narind clients (10, 237 to 245): what the port takes in, what each frame does and what leaves. -/

namespace Sys2Proof.Machine

open Sys2Proof

/-! ## What leaves by the next hop -/

/-- A datagram to `a`, and the question for its next hop while that is not resolved; nothing without a next hop. -/
def State.leaving (u : State) (dst a : Nat) (r : List Byte) : List Out :=
  (u.hopOf a).elim [] (fun h => .udp dst a h r :: if (smGet (fun _ => none) u.port.arp (hopKey (addrV6 a) h)).isSome then []
    else [if addrV6 a then .ndSolicit h else .arpRequest h])

section
variable {u : State} {dst a : Nat} {r : List Byte}

theorem State.sendUdp_live (hlive : u.portLive = true) : u.sendUdp dst a r = { u with sent := u.leaving dst a r ++ u.sent } := by
  refine (if_pos hlive).trans ?_
  unfold State.leaving
  cases hhop : u.hopOf a with
  | none => exact State.viaHop_none _ hhop
  | some h =>
    refine (State.viaHop_some _ hhop).trans ?_
    dsimp only [Option.elim_some]
    split <;> rfl

theorem State.leaving_head {h : Nat} (hhop : u.hopOf a = some h) (l : List Out) :
    (u.leaving dst a r ++ l).head? = some (.udp dst a h r) := by
  unfold State.leaving
  rw [hhop]
  rfl

theorem State.nrOn_live (h : u.nrOn a dst = true) : u.portLive = true := by
  unfold State.nrOn at h
  simp only [Bool.and_eq_true] at h
  obtain ⟨⟨hlive, -⟩, -⟩ := h
  exact hlive

end

/-! ## The client of a frame -/

theorem leVal_lt (l : List Byte) : leVal l < 256 ^ l.length := by
  induction l with
  | nil => exact Nat.one_pos
  | cons b t ih =>
    have hb : b.toNat < 256 := b.isLt
    show b.toNat + 256 * leVal t < 256 ^ (t.length + 1)
    rw [Nat.pow_succ]
    omega

/-- A sequence number fits its 32 bits. -/
theorem seq_toNat (f : List Byte) : (BitVec.ofNat 32 (beAt 8 4 f)).toNat = beAt 8 4 f := by
  have hlen : ((f.drop 8).take 4).reverse.length ≤ 4 := by
    rw [List.length_reverse]
    exact List.length_take_le 4 _
  have hlt : beAt 8 4 f < 256 ^ 4 := (leVal_lt _).trans_le (Nat.pow_le_pow_right (by decide) hlen)
  rw [BitVec.toNat_ofNat]
  exact Nat.mod_eq_of_lt hlt

theorem State.nrEntry_lt {q : State} {id c : Nat} (h : q.nrEntry id = some c) : c < 16 := by
  unfold State.nrEntry at h
  split at h
  · cases h
  · exact List.mem_range.mp (List.mem_of_find?_eq_some h)

/-- The state once an authentic frame of client `c` has been counted (step 4). -/
def State.frameTaken (q : State) (c a : Nat) : State :=
  (q.setClient c { q.client c with addr := some a, seen := true }).bump 0x1820 0 1

theorem State.frameTaken_o {q : State} {c a i e : Nat} (hi : i ≠ 0x1820) (he : e < 65536) : (q.frameTaken c a).o i e = q.o i e :=
  State.o_bump_ne _ _ _ _ (pkey_ne hi he (by decide))

theorem State.frameTaken_client (q : State) (c a : Nat) :
    (q.frameTaken c a).client c = { q.client c with addr := some a, seen := true } := State.client_setClient _ _ q

theorem State.frameTaken_key {q : State} {c a : Nat} (hc : c < 16) : (q.frameTaken c a).nrKey c = q.nrKey c :=
  congrArg (blobDec 32) (State.frameTaken_o (by decide) (by omega))

theorem State.frameTaken_hop (q : State) (c a d : Nat) : (q.frameTaken c a).hopOf d = q.hopOf d := by
  have hglobal (k : Nat) (hk : k ≠ 0x1820) : (q.frameTaken c a).globalV6 k = q.globalV6 k := by
    unfold State.globalV6
    rw [State.frameTaken_o hk (by decide)]
  have hport : (q.frameTaken c a).port.glConflict = q.port.glConflict := rfl
  unfold State.hopOf
  rw [hglobal _ (by decide), hglobal _ (by decide), State.frameTaken_o (i := 0x1806) (by decide) (by decide),
    State.frameTaken_o (i := 0x1802) (by decide) (by decide), State.frameTaken_o (i := 0x1803) (by decide) (by decide),
    State.frameTaken_o (i := 0x1804) (by decide) (by decide), hport]

theorem State.frameTaken_leaving (q : State) (c dst a : Nat) (r : List Byte) :
    (q.frameTaken c a).leaving dst a r = q.leaving dst a r := by
  have harp : (q.frameTaken c a).port.arp = q.port.arp := rfl
  unfold State.leaving
  rw [State.frameTaken_hop, harp]

/-! ## What the port takes in (steps 1 to 4) -/

/-- The frame's destination is the port's address and UDP port. -/
abbrev State.nrHere (q : State) (a dst : Nat) : Prop := q.nrOn a dst = true ∧ addrPort dst = q.o 0x1808 0

/-- The frame's trailer is that of client entry `k`. -/
abbrev State.nrSigned (q : State) (k : Nat) (f : List Byte) : Prop :=
  nrTag (q.nrKey k) (f.take (f.length - 16)) = f.drop (f.length - 16)

/-- The frame is one of client entry `c` to the port. -/
abbrev State.authentic (q : State) (a dst c : Nat) (f : List Byte) : Prop :=
  q.nrHere a dst ∧ 40 ≤ f.length ∧ beAt 0 2 f = 0x4E52 ∧ q.nrEntry (beAt 4 2 f) = some c ∧ q.nrSigned c f

/-- The port has nothing in progress, and the device is not in Quiet mode. -/
abbrev State.nrIdle (q : State) : Prop :=
  q.port.queue = [] ∧ q.port.job = none ∧ q.start.dictBarUntil ≤ q.now ∧ q.quiet.code ≠ 2 ∧ q.quiet.code ≠ 3

section
variable {q : State} {a dst c : Nat} {f : List Byte}

theorem State.nrArrive_elsewhere (h : ¬ q.nrHere a dst) : q.nrArrive a dst f = q := by
  refine if_pos ?_
  by_cases hon : q.nrOn a dst = true
  · have hport : addrPort dst ≠ q.o 0x1808 0 := fun hk => h ⟨hon, hk⟩
    rw [bne_iff_ne.mpr hport, Bool.or_true]
  · rw [Bool.not_eq_true] at hon
    rw [hon]
    rfl

/-- A frame to the port is looked at from its length on. -/
theorem State.nrHere_passes (h : q.nrHere a dst) : ¬ (!q.nrOn a dst || addrPort dst != q.o 0x1808 0) = true := by
  obtain ⟨hon, hport⟩ := h
  rw [hon, hport, bne_self_eq_false]
  decide

theorem State.nrArrive_counted (hhere : q.nrHere a dst) (h : f.length < 40 ∨ beAt 0 2 f ≠ 0x4E52 ∨ q.nrEntry (beAt 4 2 f) = none
    ∨ ∃ k, q.nrEntry (beAt 4 2 f) = some k ∧ ¬ q.nrSigned k f) : q.nrArrive a dst f = q.bump 0x1821 0 1 := by
  refine (if_neg (State.nrHere_passes hhere)).trans ?_
  by_cases hform : f.length < 40 ∨ beAt 0 2 f ≠ 0x4E52
  · exact if_pos hform
  · rw [if_neg hform]
    rw [← or_assoc] at h
    rcases h.resolve_left hform with hnone | ⟨k, hsome, htag⟩
    · rw [hnone]
    · rw [hsome]
      exact if_pos htag

/-- An authentic frame to an idle port has its turn at once. -/
theorem State.nrArrive_taken (h : q.authentic a dst c f) (hidle : q.nrIdle) :
    q.nrArrive a dst f = nrRun 8703 ((q.frameTaken c a).nrHandle ⟨c, a, dst, false, f⟩) := by
  obtain ⟨hhere, hlen, hmagic, hentry, htag⟩ := h
  obtain ⟨hqueue, hjob, hbar, -, -⟩ := hidle
  have hroom : ¬ 16 ≤ (q.setClient c { q.client c with addr := some a, seen := true }).port.queue.length := by
    show ¬ 16 ≤ q.port.queue.length
    rw [hqueue]
    decide
  refine (if_neg (State.nrHere_passes hhere)).trans ((if_neg (by omega)).trans ?_)
  rw [hentry]
  refine (if_neg (not_not.mpr htag)).trans ((if_neg hroom).trans ?_)
  exact State.nrDrain_takes ⟨c, a, dst, false, f⟩ (q.frameTaken c a) hjob hqueue hbar

theorem State.nrIdle_awake (h : q.nrIdle) : (q.frameTaken c a).asleep = false := by
  obtain ⟨-, -, -, hquiet, hleaving⟩ := h
  show (q.quiet.stepsDone && (q.quiet.code == 2 || q.quiet.code == 3)) = false
  rw [beq_false_of_ne hquiet, beq_false_of_ne hleaving]
  exact Bool.and_false _

end

/-! ## An executed request -/

/-- The reply to what was taken in. -/
def State.replyTo (z : State) (i : NrIn) (op n : Nat) (body : List Byte) : List Byte :=
  nrFrame (z.nrKey i.client) (z.o 0x1810 i.client) op n (BitVec.ofNat 32 (beAt 8 4 i.bytes)).toNat z.port.session.toNat 0 body

/-- The client once a request is executed: its H and its cached reply (R242, R243). -/
def Client.executed (x : Client) (f r : List Byte) : Client :=
  { x with high := some (BitVec.ofNat 32 (beAt 8 4 f)), cache := ((BitVec.ofNat 32 (beAt 8 4 f), r) :: x.cache).take 8 }

section
variable {z : State} {i : NrIn} {op n : Nat} {body : List Byte}

theorem State.nrDone_live (hlive : z.portLive = true) : z.nrDone i op n body
    = { z.setClient i.client ((z.client i.client).executed i.bytes (z.replyTo i op n body)) with
        sent := z.leaving i.dst i.addr (z.replyTo i op n body) ++ z.sent } :=
  State.sendUdp_live (u := z.setClient i.client ((z.client i.client).executed i.bytes (z.replyTo i op n body))) hlive

theorem State.sendUdp_port (src a : Nat) (r : List Byte) (u : State) : (u.sendUdp src a r).port = u.port := by
  rw [State.sendUdp_eq]

theorem State.nrDone_port : (z.nrDone i op n body).port.job = z.port.job ∧ (z.nrDone i op n body).port.queue = z.port.queue := by
  have hport : (z.nrDone i op n body).port
      = (z.setClient i.client ((z.client i.client).executed i.bytes (z.replyTo i op n body))).port := State.sendUdp_port _ _ _ _
  rw [hport]
  exact ⟨rfl, rfl⟩

end

/-- An executed request is its client's H and its latest cached reply, and the reply is what leaves last. -/
theorem State.nrDone_cached {z : State} (i : NrIn) (op n : Nat) (body : List Byte) (hlive : z.portLive = true) :
    ∃ r, ((z.nrDone i op n body).client i.client).high = some (BitVec.ofNat 32 (beAt 8 4 i.bytes))
      ∧ ((z.nrDone i op n body).client i.client).cache
          = ((BitVec.ofNat 32 (beAt 8 4 i.bytes), r) :: (z.client i.client).cache).take 8
      ∧ (∀ h, z.hopOf i.addr = some h → (z.nrDone i op n body).sent.head? = some (.udp i.dst i.addr h r)) := by
  have hclient : (z.nrDone i op n body).client i.client = (z.client i.client).executed i.bytes (z.replyTo i op n body) := by
    rw [State.nrDone_live hlive]
    exact State.client_setClient _ _ z
  refine ⟨z.replyTo i op n body, ?_, ?_, fun h hhop => ?_⟩
  · rw [hclient]
    rfl
  · rw [hclient]
    rfl
  · rw [State.nrDone_live hlive]
    exact State.leaving_head hhop _

/-! ## What each frame does -/

section
variable {u : State} {i : NrIn} (hlen : beAt 16 2 i.bytes + 40 = i.bytes.length) (hmax : i.bytes.length ≤ bodyMax i.addr + 40)
  (hcount : beAt 7 1 i.bytes = 0) (hlive : u.portLive = true)
include hlen hmax

theorem State.nrExecute_request (hop : beAt 6 1 i.bytes = 1) : u.nrExecute i = u.nrRequest i := by
  rw [State.nrExecute_runs i u hlen hmax, hop]
  rfl

theorem State.nrExecute_reset (hop : beAt 6 1 i.bytes = 4) : u.nrExecute i = u.nrReset i := by
  rw [State.nrExecute_runs i u hlen hmax, hop]
  rfl

theorem State.nrExecute_ping (hop : beAt 6 1 i.bytes = 2 ∨ beAt 6 1 i.bytes = 3) : u.nrExecute i = u.nrPing i := by
  rw [State.nrExecute_runs i u hlen hmax]
  rcases hop with hop | hop
  · rw [hop]
    rfl
  · rw [hop]
    rfl

include hcount hlive

/-- A PING is answered with the session. -/
theorem State.ping_answered (hop : beAt 6 1 i.bytes = 2) (hsize : i.bytes.length = 40) : u.nrExecute i
    = { u with sent := u.leaving i.dst i.addr (u.replyTo i 0x82 0 (beBytes 4 u.port.session.toNat)) ++ u.sent } := by
  rw [State.nrExecute_ping hlen hmax (Or.inl hop), State.nrPing_ping i u hcount hsize hop]
  unfold State.replyTo
  rw [seq_toNat]
  exact State.sendUdp_live hlive

/-- A WAKE of a device that is not quiet is an executed request. -/
theorem State.wake_answered (hop : beAt 6 1 i.bytes = 3) (hsize : i.bytes.length = 40) (hquiet : u.quiet.code ≠ 2) :
    (u.nrExecute i).port = (u.nrDone i 0x83 0 (beBytes 4 u.port.session.toNat)).port
    ∧ (u.nrExecute i).sent = (u.nrDone i 0x83 0 (beBytes 4 u.port.session.toNat)).sent := by
  obtain ⟨t, ht, hping⟩ := State.nrPing_wake i u hcount hsize hop
  have hcode : t.quiet.code ≠ 2 := by
    rw [ht, State.nrDone_live hlive]
    exact hquiet
  rw [State.nrExecute_ping hlen hmax (Or.inr hop), hping, ← ht]
  split
  · exact State.wake_not_quiet t 1 0 hcode
  · exact ⟨rfl, rfl⟩

/-- An Owner's RESET is an executed request, and its level reset is asked for. -/
theorem State.reset_answered (hop : beAt 6 1 i.bytes = 4) (hsize : i.bytes.length = 44) (hlow : 1 ≤ beAt 24 4 i.bytes)
    (hhigh : beAt 24 4 i.bytes ≤ 3) (hfirst : u.o 0x1811 i.client = 0) (hgrant : bitOf (u.o 0x1813 i.client) 1 = true)
    (hstarted : u.started = true) (hreq : u.resetReq = none) : u.nrExecute i
    = { u.nrDone i 0x84 0 [] with resetReq := some ⟨reqLevel (beAt 24 4 i.bytes), 8, false, u.now + 8000, false⟩ } := by
  have hfree : (u.nrDone i 0x84 0 []).started = true ∧ (u.nrDone i 0x84 0 []).resetReq = none
      ∧ (u.nrDone i 0x84 0 []).now = u.now := by
    rw [State.nrDone_live hlive]
    exact ⟨hstarted, hreq, rfl⟩
  obtain ⟨hs, hr, hnow⟩ := hfree
  rw [State.nrExecute_reset hlen hmax hop, State.nrReset_resets i u hcount hsize hlow hhigh hfirst hgrant,
    State.requestReset_free _ _ _ hs hr]
  generalize u.nrDone i 0x84 0 [] = t at hnow
  exact congrArg (fun k => { t with resetReq := some ⟨reqLevel (beAt 24 4 i.bytes), 8, false, k + 8000, false⟩ }) hnow

end

/-! ## One GET -/

section
variable {j : NrJob} {o : NrOp} {r : WinResult}

theorem State.nrWork_ended {z : State} (hpend : j.pend = some r) (hops : j.ops = [o]) (hrow : j.src.row = false) (hrecs : j.recs = [])
    (hlater : j.later = []) (hwind : r.wind = false) (hdelays : r.delays = 0) : z.nrWork j = z.setJob (some (j.rowEnded o r)) := by
  unfold State.nrWork
  rw [hpend]
  dsimp only
  rw [hwind, if_neg (by decide)]
  unfold State.nrFinish NrJob.rowEnded
  rw [hops]
  dsimp only
  rw [hrow, if_neg (by decide), hdelays, hrecs, hlater]
  rfl

theorem State.nrWork_answers {z : State} (hpend : j.pend = none) (hops : j.ops = []) (hrow : j.src.row = false) (hlater : j.later = []) :
    z.nrWork j = (z.setJob none).nrDone j.src 0x81 j.recs.length j.recs.flatten := by
  unfold State.nrWork
  rw [hpend, hops]
  dsimp only
  unfold State.nrReply
  rw [hlater]
  exact if_neg (by rw [hrow]; decide)

variable {t : State} (hrow : j.src.row = false) (hops : j.ops = [o]) (hrecs : j.recs = []) (hlater : j.later = [])
    (hbar : t.start.dictBarUntil ≤ t.now) (hqueue : t.port.queue = [])
include hrow hops hrecs hlater hbar hqueue

/-- A REQUEST's only operation completes: its record is the reply. -/
theorem nrRun_request (hwind : r.wind = false) (hdelays : r.delays = 0) :
    nrRun 8702 (t.setJob (some { j with pend := some r, due := t.now }))
      = (t.setJob none).nrDone j.src 0x81 1 (nrRec o.op r.status o.idx o.el (r.value.getD [])) := by
  obtain ⟨w, hw⟩ : ∃ w : NrJob, w = { j with pend := some r, due := t.now } := ⟨_, rfl⟩
  have hdue : (t.setJob (some w)).nrReady = true := State.nrReady_due rfl hbar (Or.inr ⟨r, by rw [hw], hwind, by rw [hw]; exact Nat.le_refl _⟩)
  have hfirst : (t.setJob (some w)).nrStep = t.setJob (some (w.rowEnded o r)) := by
    rw [State.nrStep_job (j := w) rfl]
    subst hw
    exact State.nrWork_ended rfl hops hrow hrecs hlater hwind hdelays
  obtain ⟨e, he⟩ : ∃ e : NrJob, e = w.rowEnded o r := ⟨_, rfl⟩
  have hended : (t.setJob (some e)).nrReady = true := State.nrReady_due rfl hbar (Or.inl (by rw [he]; rfl))
  have hsecond : (t.setJob (some e)).nrStep
      = (t.setJob none).nrDone j.src 0x81 1 (nrRec o.op r.status o.idx o.el (r.value.getD [])) := by
    have hone : e.recs = [nrRec o.op r.status o.idx o.el (r.value.getD [])] ∧ e.src = j.src := by
      rw [he, hw]
      exact ⟨rfl, rfl⟩
    obtain ⟨hrec, hsrc⟩ := hone
    rw [State.nrStep_job (j := e) rfl, State.nrWork_answers (by rw [he]; rfl) (by rw [he]; rfl) (by rw [hsrc]; exact hrow) (by rw [he]; rfl),
      hrec, hsrc, List.flatten_singleton]
    rfl
  have hidle : ((t.setJob none).nrDone j.src 0x81 1 (nrRec o.op r.status o.idx o.el (r.value.getD []))).nrReady = false := by
    obtain ⟨hjob, hrest⟩ := State.nrDone_port (z := t.setJob none) (i := j.src) (op := 0x81) (n := 1)
      (body := nrRec o.op r.status o.idx o.el (r.value.getD []))
    exact State.nrReady_idle _ hjob (hrest.trans hqueue)
  rw [← hw, nrRun_go (f := 8701) hdue, hfirst, ← he, nrRun_go (f := 8700) hended, hsecond]
  exact nrRun_stop hidle

end

/-- One GET of an object that the Regulator does not serve is read and answered. -/
theorem nrRun_get {z : State} {i : NrIn} {idx el : Nat} (hqueue : z.port.queue = []) (hbar : z.start.dictBarUntil ≤ z.now)
    (hrow : i.row = false) (hreg : regServed idx = false)
    (hawake : ((z.nrBegin i [⟨1, idx, el, [], true⟩]).upToReq z.now).asleep = false) :
    nrRun 8703 (z.nrBegin i [⟨1, idx, el, [], true⟩])
      = (((z.nrBegin i [⟨1, idx, el, [], true⟩]).upToReq z.now).setJob none).nrDone i 0x81 1
          (nrRec 1 (((z.nrBegin i [⟨1, idx, el, [], true⟩]).upToReq z.now).nrRead i.client idx el .get).1 idx el
            (((z.nrBegin i [⟨1, idx, el, [], true⟩]).upToReq z.now).nrRead i.client idx el .get).2) := by
  obtain ⟨j, hj⟩ : ∃ j : NrJob, j = ⟨i, z.o 0x1811 i.client, [⟨1, idx, el, [], true⟩], false, [], none, z.now, []⟩ := ⟨_, rfl⟩
  have hbegin : z.nrBegin i [⟨1, idx, el, [], true⟩] = z.setJob (some j) := by
    rw [hj]
    rfl
  have hsrc : j.src = i ∧ j.ops = [⟨1, idx, el, [], true⟩] ∧ j.recs = [] ∧ j.later = [] ∧ j.pend = none ∧ j.halted = false := by
    rw [hj]
    exact ⟨rfl, rfl, rfl, rfl, rfl, rfl⟩
  obtain ⟨hsrc, hops, hrecs, hlater, hpend, hhalted⟩ := hsrc
  obtain ⟨hport, hbar'⟩ := State.setJob_meets j hbar
  have hstart : (z.setJob (some j)).nrStep = (z.setJob (some j)).nrStart j ⟨1, idx, el, [], true⟩ := by
    rw [State.nrStep_job (j := j) rfl]
    unfold State.nrWork
    rw [hpend, hops]
    exact if_neg (by rw [hhalted]; decide)
  rw [hbegin] at hawake ⊢
  have hop := State.nrOp_get (c := j.src.client) (addr := j.src.addr) (idx := idx) (el := el) hawake
  have hready : (z.setJob (some j)).nrReady = true := State.nrReady_due (j := j) rfl hbar (Or.inl hpend)
  rw [nrRun_go (f := 8702) hready, hstart]
  clear hj hbegin hstart
  have hjob : ((z.setJob (some j)).upToReq z.now).port.job ≠ none := by
    rw [hport]
    exact Option.some_ne_none _
  have hrest : ((z.setJob (some j)).upToReq z.now).port.queue = [] := by
    rw [hport]
    exact hqueue
  have hnow := State.nrStart_now (j := j) (z := z.setJob (some j)) hop hreg hjob
  rw [hnow]
  clear hnow hop
  generalize (z.setJob (some j)).upToReq z.now = u at *
  have hended := nrRun_request (j := j) (t := u) (r := nrNow (u.nrRead j.src.client idx el .get).1 (some (u.nrRead j.src.client idx el .get).2) (regServed idx))
    (by rw [hsrc]; exact hrow) hops hrecs hlater hbar' hrest rfl rfl
  rw [hsrc] at hended
  rw [hsrc]
  exact hended

/-! ## An authentic frame, from its arrival to what leaves -/

/-- What the port takes in of a frame. -/
abbrev frameIn (a dst c : Nat) (f : List Byte) : NrIn := ⟨c, a, dst, false, f⟩

/-- The header is of version 1 and its length that of the frame (steps 5 and 10). -/
abbrev frameFormed (a : Nat) (f : List Byte) : Prop :=
  beAt 2 1 f = 1 ∧ beAt 16 2 f + 40 = f.length ∧ f.length ≤ bodyMax a + 40

/-- The frame names the session and is newer than the client's H (steps 8 and 9). -/
abbrev State.frameNewer (q : State) (c : Nat) (f : List Byte) : Prop :=
  beAt 12 4 f = q.port.session.toNat ∧ (q.client c).newer (BitVec.ofNat 32 (beAt 8 4 f)) = true

/-- The reply to a frame of client entry `c`. -/
def State.frameReply (q : State) (c : Nat) (f : List Byte) (op n : Nat) (body : List Byte) : List Byte :=
  nrFrame (q.nrKey c) (q.o 0x1810 c) op n (BitVec.ofNat 32 (beAt 8 4 f)).toNat q.port.session.toNat 0 body

section
variable {q : State} {a dst c : Nat} {f : List Byte} (hauth : q.authentic a dst c f)
include hauth

theorem State.authentic_client : c < 16 ∧ q.portLive = true := by
  obtain ⟨⟨hon, -⟩, -, -, hentry, -⟩ := hauth
  exact ⟨State.nrEntry_lt hentry, State.nrOn_live hon⟩

theorem State.frameTaken_replyTo (op n : Nat) (body : List Byte) :
    (q.frameTaken c a).replyTo (frameIn a dst c f) op n body = q.frameReply c f op n body := by
  obtain ⟨hc, -⟩ := State.authentic_client hauth
  have hsession : (q.frameTaken c a).port.session = q.port.session := rfl
  unfold State.replyTo State.frameReply
  rw [State.frameTaken_key hc, State.frameTaken_o (by decide) (hc.trans (by decide)), hsession]

/-- The state after an executed request. -/
theorem State.frameTaken_done (op n : Nat) (body : List Byte) : (q.frameTaken c a).nrDone (frameIn a dst c f) op n body
    = { (q.frameTaken c a).setClient c (((q.frameTaken c a).client c).executed f (q.frameReply c f op n body)) with
        sent := q.leaving dst a (q.frameReply c f op n body) ++ q.sent } := by
  obtain ⟨-, hlive⟩ := State.authentic_client hauth
  rw [State.nrDone_live (z := q.frameTaken c a) hlive, State.frameTaken_replyTo hauth, State.frameTaken_leaving]
  rfl

variable (hidle : q.nrIdle)
include hidle

/-- A frame whose work ends at once leaves an idle port. -/
theorem State.nrArrive_ends {t : State} (hhandle : (q.frameTaken c a).nrHandle (frameIn a dst c f) = t)
    (hjob : t.port.job = none) (hqueue : t.port.queue = []) : q.nrArrive a dst f = t := by
  rw [State.nrArrive_taken hauth hidle, hhandle]
  exact nrRun_stop (State.nrReady_idle _ hjob hqueue)

section
variable (hformed : frameFormed a f)
include hformed

omit hauth in
theorem State.frame_executes (hop : 1 ≤ beAt 6 1 f ∧ beAt 6 1 f ≤ 4) (hnew : beAt 6 1 f = 2 ∨ q.frameNewer c f) :
    (q.frameTaken c a).nrHandle (frameIn a dst c f) = (q.frameTaken c a).nrExecute (frameIn a dst c f) := by
  obtain ⟨hversion, -, -⟩ := hformed
  obtain ⟨hlow, hhigh⟩ := hop
  have hnewer : ((q.frameTaken c a).client c).newer (BitVec.ofNat 32 (beAt 8 4 f)) = (q.client c).newer (BitVec.ofNat 32 (beAt 8 4 f)) := by
    rw [State.frameTaken_client]
    rfl
  refine State.nrHandle_executes _ _ hversion hlow hhigh (State.nrIdle_awake hidle) (hnew.imp_right (fun h => ?_))
  exact ⟨h.1, hnewer.trans h.2⟩

theorem State.nrArrive_ping (hop : beAt 6 1 f = 2) (hsize : f.length = 40) (hcount : beAt 7 1 f = 0) : q.nrArrive a dst f
    = { q.frameTaken c a with sent := q.leaving dst a (q.frameReply c f 0x82 0 (beBytes 4 q.port.session.toNat)) ++ q.sent } := by
  obtain ⟨-, hlive⟩ := State.authentic_client hauth
  obtain ⟨-, hlen, hmax⟩ := id hformed
  obtain ⟨hqueue, hjob, -⟩ := id hidle
  have hsent := State.ping_answered (u := q.frameTaken c a) (i := frameIn a dst c f) hlen hmax hcount hlive hop hsize
  rw [State.frameTaken_replyTo hauth, State.frameTaken_leaving] at hsent
  exact State.nrArrive_ends hauth hidle ((State.frame_executes hidle hformed (by omega) (Or.inl hop)).trans hsent) hjob hqueue

theorem State.nrArrive_wake (hop : beAt 6 1 f = 3) (hsize : f.length = 40) (hcount : beAt 7 1 f = 0) (hnew : q.frameNewer c f) :
    (q.nrArrive a dst f).client c
      = ((q.frameTaken c a).client c).executed f (q.frameReply c f 0x83 0 (beBytes 4 q.port.session.toNat))
    ∧ (q.nrArrive a dst f).sent = q.leaving dst a (q.frameReply c f 0x83 0 (beBytes 4 q.port.session.toNat)) ++ q.sent := by
  obtain ⟨-, hlive⟩ := State.authentic_client hauth
  obtain ⟨-, hlen, hmax⟩ := id hformed
  obtain ⟨hqueue, hjob, -, hquiet, -⟩ := id hidle
  obtain ⟨hport, hsent⟩ := State.wake_answered (u := q.frameTaken c a) (i := frameIn a dst c f) hlen hmax hcount hlive hop hsize hquiet
  have hdone := State.frameTaken_done hauth 0x83 0 (beBytes 4 q.port.session.toNat)
  have hport' := hport.trans (congrArg State.port hdone)
  have hends := State.nrArrive_ends hauth hidle (State.frame_executes hidle hformed (by omega) (Or.inr hnew))
    ((congrArg Port.job hport').trans hjob) ((congrArg Port.queue hport').trans hqueue)
  rw [hends]
  refine ⟨?_, hsent.trans (congrArg State.sent hdone)⟩
  show smGet (fun _ => Client.init) ((q.frameTaken c a).nrExecute (frameIn a dst c f)).port.clients c = _
  rw [hport']
  exact State.client_setClient _ _ _

theorem State.nrArrive_reset (hop : beAt 6 1 f = 4) (hsize : f.length = 44) (hcount : beAt 7 1 f = 0) (hnew : q.frameNewer c f)
    (hlow : 1 ≤ beAt 24 4 f) (hhigh : beAt 24 4 f ≤ 3) (hfirst : q.o 0x1811 c = 0) (hgrant : bitOf (q.o 0x1813 c) 1 = true)
    (hstarted : q.started = true) (hreq : q.resetReq = none) : q.nrArrive a dst f
    = { (q.frameTaken c a).setClient c (((q.frameTaken c a).client c).executed f (q.frameReply c f 0x84 0 [])) with
        sent := q.leaving dst a (q.frameReply c f 0x84 0 []) ++ q.sent
        resetReq := some ⟨reqLevel (beAt 24 4 f), 8, false, q.now + 8000, false⟩ } := by
  obtain ⟨hc, hlive⟩ := State.authentic_client hauth
  obtain ⟨-, hlen, hmax⟩ := id hformed
  obtain ⟨hqueue, hjob, -⟩ := id hidle
  have hreset := State.reset_answered (u := q.frameTaken c a) (i := frameIn a dst c f) hlen hmax hcount hlive hop hsize hlow hhigh
    ((State.frameTaken_o (by decide) (hc.trans (by decide))).trans hfirst)
    ((congrArg (bitOf · 1) (State.frameTaken_o (by decide) (hc.trans (by decide)))).trans hgrant) hstarted hreq
  rw [State.frameTaken_done hauth] at hreset
  exact State.nrArrive_ends hauth hidle ((State.frame_executes hidle hformed (by omega) (Or.inr hnew)).trans hreset) hjob hqueue

theorem State.nrArrive_request {ops : List NrOp} (hop : beAt 6 1 f = 1) (hnew : q.frameNewer c f)
    (hparse : nrParse (beAt 7 1 f) ((f.drop 24).take (f.length - 40)) = some (ops, [])) (hclean : requestClean f ops [] = true)
    (hfits : replyBound ops ≤ bodyMax a) :
    q.nrArrive a dst f = nrRun 8703 ((q.frameTaken c a).nrBegin (frameIn a dst c f) ops) := by
  obtain ⟨-, hlen, hmax⟩ := id hformed
  rw [State.nrArrive_taken hauth hidle, State.frame_executes hidle hformed (by omega) (Or.inr hnew),
    State.nrExecute_request (i := frameIn a dst c f) hlen hmax hop,
    State.nrRequest_runs (frameIn a dst c f) ops _ hparse hclean hfits]

end

/-- A request already cached is answered with the cached reply. -/
theorem State.nrArrive_cached {e : Dw × List Byte} (hop : beAt 6 1 f = 1) (hversion : beAt 2 1 f = 1)
    (hsession : beAt 12 4 f = q.port.session.toNat) (hold : (q.client c).newer (BitVec.ofNat 32 (beAt 8 4 f)) = false)
    (hcache : (q.client c).cache.find? (fun y => y.1 == BitVec.ofNat 32 (beAt 8 4 f)) = some e) :
    q.nrArrive a dst f = ({ q.frameTaken c a with sent := q.leaving dst a e.2 ++ q.sent } : State).bump 0x1822 0 1 := by
  obtain ⟨-, hlive⟩ := State.authentic_client hauth
  obtain ⟨hqueue, hjob, -⟩ := id hidle
  have hclient := State.frameTaken_client q c a
  have hhandle := State.nrHandle_cached (frameIn a dst c f) e (q.frameTaken c a) hversion (by show 1 ≤ beAt 6 1 f; omega)
    (by show beAt 6 1 f ≤ 4; omega) (by show beAt 6 1 f ≠ 2; omega) (State.nrIdle_awake hidle) hsession (by rw [hclient]; exact hold)
    (by rw [hclient]; exact hcache)
  rw [State.sendUdp_live (u := q.frameTaken c a) hlive, State.frameTaken_leaving] at hhandle
  exact State.nrArrive_ends hauth hidle hhandle hjob hqueue

end

end Sys2Proof.Machine

open Sys2Proof Sys2Proof.Machine

/-- Settles O43: the arrival of each frame by the lemma of its case. -/
theorem narindFrames : Obligations.NarindFrames := by
  intro s b a dst c f q op row seq here signed authentic formed idle x taken reply leaves mine ha hdst
  have hexec : exec row s = .next (q.nrArrive a dst f) := by
    have hok {ok : Bool} (h : ok = true) : (addrOk a && addrOk dst && ok) = true := by rw [ha, hdst, h]; rfl
    by_cases h2 : op = 2
    · rw [show row = .ping b a f dst from if_pos h2]
      exact nr_runs (hok (beq_iff_eq.mpr h2))
    by_cases h3 : op = 3
    · rw [show row = .wake b a f dst from (if_neg h2).trans (if_pos h3)]
      exact nr_runs (hok (beq_iff_eq.mpr h3))
    by_cases h4 : op = 4
    · rw [show row = .reset b a f dst from (if_neg h2).trans ((if_neg h3).trans (if_pos h4))]
      exact nr_runs (hok (beq_iff_eq.mpr h4))
    · rw [show row = .request b a f dst from (if_neg h2).trans ((if_neg h3).trans (if_neg h4))]
      have hother : (!(beAt 6 1 f == 2 || beAt 6 1 f == 3 || beAt 6 1 f == 4)) = true := by
        rw [beq_false_of_ne h2, beq_false_of_ne h3, beq_false_of_ne h4]
        rfl
      exact nr_runs (hok hother)
  have hleaves (r : List Byte) : leaves r = q.leaving dst a r := by
    unfold State.leaving
    show (match q.hopOf a with | none => [] | some h => _) = _
    cases q.hopOf a <;> rfl
  rw [hexec]
  clear_value q row
  refine ⟨fun h => ?_, fun h hbad => ?_, fun hop hauth hformed hidle hsize hcount => ?_,
    fun hop hauth hformed hidle hsize hcount hmine hnew => ?_,
    fun hop hauth hformed hidle hsize hcount hmine hnew hlow hhigh hfirst hgrant hstarted hreq => ?_,
    fun ops hop hauth hformed hidle hmine hnew hparse hclean hfits => ?_,
    fun z i op' n body hlive => ⟨_, rfl, State.nrDone_cached i op' n body hlive⟩,
    fun e hop hauth hversion hidle hmine hold hcache => ?_⟩
  · exact congrArg _ (State.nrArrive_elsewhere h)
  · exact congrArg _ (State.nrArrive_counted h hbad)
  · refine ⟨_, congrArg _ (State.nrArrive_ping hauth hidle hformed hop hsize hcount), State.frameTaken_client q c a, State.o_bump _ _ _ _, ?_⟩
    rw [hleaves]
    rfl
  · obtain ⟨hclient, hsent⟩ := State.nrArrive_wake hauth hidle hformed hop hsize hcount ⟨hmine, hnew⟩
    rw [State.frameTaken_client] at hclient
    refine ⟨_, rfl, ?_, ?_, ?_⟩
    · rw [hclient]
      rfl
    · rw [hclient]
      rfl
    · rw [hsent, hleaves]
      rfl
  · refine ⟨_, congrArg _ (State.nrArrive_reset hauth hidle hformed hop hsize hcount ⟨hmine, hnew⟩ hlow hhigh hfirst hgrant hstarted hreq),
      ?_, ?_, rfl⟩
    · exact congrArg Client.high (State.client_setClient c _ (q.frameTaken c a))
    · rw [hleaves]
      rfl
  · intro i u
    have hbegins := State.nrArrive_request hauth hidle hformed hop ⟨hmine, hnew⟩ hparse hclean hfits
    refine ⟨congrArg _ hbegins, fun idx el hget hreg hawake => congrArg _ (hbegins.trans ?_)⟩
    obtain ⟨hqueue, -, hbar, -⟩ := hidle
    subst hget
    exact nrRun_get (z := q.frameTaken c a) hqueue hbar rfl hreg hawake
  · refine ⟨_, congrArg _ (State.nrArrive_cached hauth hidle hop hversion hmine hold hcache), ?_, ?_, ?_⟩
    · rw [hleaves]
      rfl
    · have hhigh := congrArg Client.high (State.frameTaken_client q c a)
      exact hhigh
    · refine (State.o_bump _ _ _ _).trans (congrArg (satAdd 32 · 1) ?_)
      exact State.frameTaken_o (q := q) (c := c) (a := a) (by decide) (by decide)
end
